-- ==== Sys2Proof/Word.lean ====
section
/-!
DEFINITION. Sys2Proof/Word.lean: the word types of the module and the shapes of a register field and of a register.
-/
namespace Sys2Proof

/-- One byte of memory or payload. -/
abbrev Byte := BitVec 8

/-- The longest register access (R582) and the data of one 8 B atomic (R72). -/
abbrev Word := BitVec 64

/-- A register field: where it lies (control-space offset × 512 + lowest bit), how wide it is, and its Reset column (R590). -/
structure Fld where
  key   : Nat
  width : Nat
  reset : Nat
deriving DecidableEq, Repr

/-- The access codes of the register maps (R7): read-only, read-write, read-write until locked, write-1-to-pulse. -/
inductive Access where
  | ro | rw | rwl | w1p
deriving DecidableEq, Repr

/-- A field inside a register: lowest bit, width, access code and Reset column. -/
structure FieldDef where
  lo     : Nat
  width  : Nat
  access : Access
  reset  : Nat
deriving DecidableEq, Repr

/-- A register of the control space: offset of its first instance, the strides and counts of its instances (widest stride
first), its width in bits, and its fields (R584). -/
structure RegDef where
  off    : Nat
  dims   : List (Nat × Nat)
  width  : Nat
  fields : List FieldDef
deriving DecidableEq, Repr

end Sys2Proof
end

