-- ==== Sys2Proof/Syntax.lean ====
section
/-!
DEFINITION. Sys2Proof/Syntax.lean: the commands of the block, one constructor per row of spec/opcode_table.json.
Operands are what the row takes from outside: numbers, addresses, data, and the facts only the environment can settle
(verdicts of signatures and media, measured values, the twin's answers); notes/assumptions/2.md says which are which.
-/
namespace Sys2Proof

/-- What the parts of the module find when a bring-up step ends (R529, R530, R533); a step reads its own fields.  Step 0: `slot` 0 the active slot's image verifies, 1
the other's alone, 2 neither; `rom` and `digest` the measurements of indices 1 and 2.  Step 1: `digest` the configuration record's, `pos` the pair position
of the cable ID.  Steps 3, 4, 6: `fails` the joiners (8 × bay + joiner), cores or bench banks that fail.  Step 5: the loft stacks, floor channels and sluice
decoders that fail, `cistern` and `ondie` the CHECK and SEC-DED checkers' failures, `untrained` the sluices whose training fails, `mismatch` those of R222,
`dimms` GIB, RANKS and VENDOR by 2 × channel + slot, `boards` the media boards present, `dies` the dies that answer by sluice.  Step 8: `readable` whether the
slot that is taken can be read whole.  Step 10: `bad` the ring positions of records whose CHECK fails in both copies. -/
structure BringupFacts where
  slot      : Nat
  rom       : Nat
  digest    : Nat
  pos       : Nat
  fails     : List Nat
  lofts     : List Nat
  floors    : List Nat
  refused   : List Nat
  decoders  : List Nat
  cistern   : Bool
  ondie     : Bool
  untrained : List Nat
  mismatch  : List Nat
  dimms     : List (Nat × Nat × Nat)
  boards    : Nat
  dies      : List Nat
  readable  : Bool
  bad       : List Nat
deriving DecidableEq, Repr

/-- A cistern record as a frame or a primitive carries it (R85): TYPE code, header fields, payload bytes. -/
structure WireRec where
  kind    : Nat
  reach   : Nat
  seq     : Nat
  line    : Nat
  mask    : Nat
  poison  : Nat
  window  : Nat
  ticket  : Nat
  port    : Nat
  part    : Nat
  origin  : Nat
  isLocal : Bool
  mirror  : Bool
  last    : Bool
  data    : List Nat
deriving DecidableEq, Repr

/-- The header of a Rilram frame as it arrives (R120), with the port (0: Ethernet port 4, 1: port 5) and the verdicts on its tag and on the credit granted. -/
structure FrameHdr where
  port     : Nat
  version  : Nat
  length   : Nat
  instance32 : Nat
  counter  : Nat
  frameSeq : Nat
  ackSeq   : Nat
  credits  : Nat
  genLow   : Nat
  tagOk    : Bool
  overCredit : Bool
deriving DecidableEq, Repr

/-- What a module tells its twin of one persistent reach: LAST_SEQ, ADOPT_SEQ, whether the reach is ADOPTED, and its owner (R134, R136). -/
structure TwinReach where
  reach   : Nat
  last    : Nat
  adopt   : Nat
  adopted : Bool
  owner   : Nat
deriving DecidableEq, Repr

/-- The history a module tells its twin in JOINING (R134): identity, generation, pair state at the last stop, restore outcome, whether it has served
since that restore, and per reach LAST_SEQ and ADOPT_SEQ. -/
structure TwinHist where
  identity : Nat
  gen      : Nat
  stop     : Nat
  restore  : Nat
  served   : Bool
  twinOf   : Nat
  reaches  : List TwinReach
deriving DecidableEq, Repr

/-- The payload of a Rilram frame by its type (R121).  `flags` of a STATE frame: bit 0 FENCED, bit 1 PF, bit 2 the module asked to depart, bit 3 it departs,
bit 4 it has departed (R140, R150). -/
inductive FrameBody where
  | keepalive
  | setup (last : Bool) (inst : Nat) (ok : Bool)
  | records (recs : List WireRec)
  | forward (ticket window cls : Nat) (recs : List WireRec) (atomic : List Nat)
  | ret (ticket reach newOwner : Nat) (recs : List WireRec) (value : Nat) (refused : Bool)
  | ack (entries : List (Nat × Nat))
  | resend (fromSeq : Nat)
  | status (adm degraded portsOk flags : Nat) (locals : List (Nat × Bool)) (asks : List Nat) (copies : List (Nat × Nat × Nat × List Nat))
  | handover (reach step seq : Nat)
  | reachCtl (reach action kind owner : Nat)
  | history (h : TwinHist)
  | resolve (authPos : Nat)
  | catchupMap (grans regions : List Nat)
  | voidList (entries : List (Nat × Nat)) (whole : List Nat)
  | granule (gran half snap poison : Nat) (data : List Nat)
  | granuleAck (grans : List Nat)
  | rekey (newInstance : Nat)
deriving DecidableEq, Repr

/-- What a decoder or a parity check finds while a step reads (R211, R265, R276, R277): nothing; a bench parity error in a data sector or in a tag; one in
a victim entry; a corrected or uncorrectable loft or floor line (`other`: some other copy of a volatile line decodes); an uncorrectable metadata
line with what its checkpoint gives; a cistern word corrected, bad in one copy, bad in both; an on-die word corrected; bad in a ditch cell with data of `lines`, in the bank that
stages a row group, in a cached QP context, or where it is fatal. -/
inductive MemFault where
  | none
  | bench (isMeta : Bool) (ba sector : Nat) (tag : Bool)
  | victim (ba : Nat)
  | corrected (inLoft : Bool) (device : Nat)
  | uncorrectable (inLoft other : Bool)
  | metaLine (ckptReadable : Bool)
  | cisternCorrected
  | cisternOne
  | cisternBoth (gran : Nat)
  | ondieCorrected (island : Nat)
  | ondieCell (lines : List Nat)
  | ondieGroup (lane unit group : Nat)
  | ondieQp (qp : Nat) (dirty : Bool)
  | ondieFatal (island : Nat)
deriving DecidableEq, Repr

/-- What the foreman finds in a joinery image that JOINERY_LOAD names (R421, R422): whether it is at most 4 MiB and its signature verifies, its header fields,
the eligible bay masks of its QUEUE_MAP, and its digest. -/
structure JoinImage where
  fits    : Bool
  sigOk   : Bool
  version : Nat
  compat  : Nat
  recVersion : Nat
  masks   : List Nat
  digest  : Nat
deriving DecidableEq, Repr

/-- One command or event of the module (opcode_table.json); the number in parentheses is the governing rule. -/
inductive Instr where
  /-- POWER_ON (R495). -/
  | powerOn
  /-- INPUT_FALLS_BELOW_34V (R28). -/
  | inputFallsBelow34v
  /-- POWER_FAIL_DECLARED (R509). -/
  | powerFailDeclared
  /-- INPUT_DIP_CARRIED (R497). -/
  | inputDipCarried
  /-- OVERVOLTAGE_DETECTED (R496). -/
  | overvoltageDetected
  /-- INPUT_GOOD_AFTER_OV (R496). -/
  | inputGoodAfterOv
  /-- RAIL_TRIP (R498). -/
  | railTrip (rail : Nat)
  /-- UVLO_SHUTDOWN (R508). -/
  | uvloShutdown
  /-- SPILL_STREAM_START (R509). -/
  | spillStreamStart
  /-- SPILL_COMMIT_MARKER (R511). -/
  | spillCommitMarker (durationUs energy vbank : Nat) (inputGood : Bool)
  /-- BANK_AT_30V (R512). -/
  | bankAt30v (inputGood : Bool)
  /-- BANK_CHARGED (R495). -/
  | bankCharged
  /-- BANK_RECHARGE_START (R495). -/
  | bankRechargeStart
  /-- BANK_FAULT (R505). -/
  | bankFault (charger : Bool)
  /-- BANK_FAULT_END (R505). -/
  | bankFaultEnd
  /-- DISCHARGE_TEST_DUE (R506). -/
  | dischargeTestDue
  /-- DISCHARGE_TEST_END (R507). -/
  | dischargeTestEnd (c esr : Nat)
  /-- HEADGATE_REQ (R502). -/
  | headgateReq (kind arg : Nat) (h0 : Bool) (tokens : Nat)
  /-- HEADGATE_RETURN (R500). -/
  | headgateReturn (kind arg : Nat)
  /-- HEADGATE_GRANT (R502). -/
  | headgateGrant
  /-- INPUT_POWER_OVER_LIMIT (R502). -/
  | inputPowerOverLimit (pin : Nat)
  /-- TEMPERATURE_SAMPLE (R513). -/
  | temperatureSample (temps : List Nat) (bad : List Nat)
  /-- THERMAL_SHUTDOWN (R514). -/
  | thermalShutdown
  /-- THERMAL_SHUTDOWN_EXIT (R528). -/
  | thermalShutdownExit
  /-- EPOCH_TICK (R12). -/
  | epochTick
  /-- MOD_RESET_N_ASSERT (R524). -/
  | modResetNAssert
  /-- MODULE_RESET_RELEASE (R525). -/
  | moduleResetRelease
  /-- RESET_APPLY (R460). -/
  | resetApply
  /-- PRE_RESET_SPILL_LIMIT (R526). -/
  | preResetSpillLimit
  /-- MOD_CTL_START (R528). -/
  | modCtlStart (acc : Nat)
  /-- BRINGUP_STEP_END (R533). -/
  | bringupStepEnd (step : Nat) (facts : BringupFacts) (image : JoinImage)
  /-- FLOOR_CHANNEL_SWEPT (R287). -/
  | floorChannelSwept (channel : Nat)
  /-- LOFT_STACK_SWEPT (R285). -/
  | loftStackSwept (stack : Nat)
  /-- SERVE_ENTRY_UNBLOCKED (R521). -/
  | serveEntryUnblocked
  /-- SPDM_GET_VERSION (R531). -/
  | spdmGetVersion (path : Nat)
  /-- SPDM_GET_CAPABILITIES (R531). -/
  | spdmGetCapabilities (path : Nat)
  /-- SPDM_NEGOTIATE_ALGORITHMS (R531). -/
  | spdmNegotiateAlgorithms (path : Nat)
  /-- SPDM_GET_DIGESTS (R531). -/
  | spdmGetDigests (path : Nat)
  /-- SPDM_GET_CERTIFICATE (R531). -/
  | spdmGetCertificate (path slot : Nat)
  /-- SPDM_CHALLENGE (R531). -/
  | spdmChallenge (path nonce : Nat)
  /-- SPDM_GET_MEASUREMENTS (R531). -/
  | spdmGetMeasurements (path index : Nat)
  /-- SPDM_KEY_EXCHANGE (R532). -/
  | spdmKeyExchange (path cert : Nat)
  /-- SPDM_FINISH (R531). -/
  | spdmFinish (path sess : Nat) (ok : Bool)
  /-- SPDM_KEY_UPDATE (R531). -/
  | spdmKeyUpdate (path sess : Nat)
  /-- SPDM_HEARTBEAT (R531). -/
  | spdmHeartbeat (path sess : Nat)
  /-- SPDM_END_SESSION (R531). -/
  | spdmEndSession (path sess : Nat)
  /-- SPDM_UNSUPPORTED_REQUEST (R532). -/
  | spdmUnsupportedRequest (path : Nat)
  /-- MBX_RING (R443). -/
  | mbxRing (m sess meanUs : Nat)
  /-- MBX_CANCEL (R443). -/
  | mbxCancel (m : Nat)
  /-- MBX_ACK (R443). -/
  | mbxAck (m : Nat)
  /-- MBX_COMMAND_START (R443). -/
  | mbxCommandStart (m : Nat)
  /-- IDENTIFY (R458). -/
  | identify (m : Nat)
  /-- HEALTH (R458). -/
  | health (m : Nat)
  /-- STATS_READ (R459). -/
  | statsRead (m : Nat)
  /-- MODE_REQUEST (R523). -/
  | modeRequest (m : Nat)
  /-- RESET (R524). -/
  | reset (m : Nat)
  /-- FRAME_OPEN (R461). -/
  | frameOpen (m : Nat)
  /-- FRAME_STAGE (R461). -/
  | frameStage (m : Nat)
  /-- FRAME_DRYFIT (R473). -/
  | frameDryfit (m : Nat)
  /-- FRAME_PEG (R475). -/
  | framePeg (m : Nat)
  /-- FRAME_DISCARD (R461). -/
  | frameDiscard (m : Nat)
  /-- FRAME_STATUS (R471). -/
  | frameStatus (m : Nat)
  /-- PEG_RECHECK (R479). -/
  | pegRecheck (f : Nat)
  /-- PEG_TAKES_EFFECT (R476). -/
  | pegTakesEffect (f : Nat) (recordOk : Bool)
  /-- UNIT_RECAL (R486). -/
  | unitRecal (u : Nat)
  /-- UNIT_OUT (R487). -/
  | unitOut (u : Nat)
  /-- UNIT_SERVE (R488). -/
  | unitServe (u : Nat) (passes : Bool)
  /-- UNIT_ACTION_DONE (R484). -/
  | unitActionDone (u : Nat) (ok : Bool)
  /-- CXL_WINDOW_OPEN (R306). -/
  | cxlWindowOpen (m : Nat)
  /-- CXL_WINDOW_CLOSE (R311). -/
  | cxlWindowClose (m : Nat)
  /-- DCD_EXTENT_ADD (R309). -/
  | dcdExtentAdd (m : Nat)
  /-- DCD_EXTENT_RELEASE (R310). -/
  | dcdExtentRelease (m : Nat)
  /-- CXL_GAP_ACK (R463). -/
  | cxlGapAck (m : Nat)
  /-- DC_REGION_SET (R304). -/
  | dcRegionSet (m : Nat)
  /-- STATIC_CAPACITY_SET (R614). -/
  | staticCapacitySet (m : Nat)
  /-- HOST_LINK_UNFENCE (R321). -/
  | hostLinkUnfence (m : Nat)
  /-- WINDOW_LIST (R457). -/
  | windowList (m : Nat)
  /-- WINDOW_STATUS (R463). -/
  | windowStatus (m : Nat)
  /-- PD_CREATE (R328). -/
  | pdCreate (m : Nat)
  /-- PD_DESTROY (R328). -/
  | pdDestroy (m : Nat)
  /-- QP_CREATE (R333). -/
  | qpCreate (m : Nat)
  /-- QP_MODIFY (R362). -/
  | qpModify (m : Nat)
  /-- QP_ERROR (R335). -/
  | qpError (m : Nat)
  /-- QP_DESTROY (R334). -/
  | qpDestroy (m : Nat)
  /-- RDMA_GAP_ACK (R463). -/
  | rdmaGapAck (m : Nat)
  /-- COUNTER_SET (R346). -/
  | counterSet (m : Nat)
  /-- RDMA_PORT_UNFENCE (R363). -/
  | rdmaPortUnfence (m : Nat)
  /-- RDMA_WINDOW_OPEN (R329). -/
  | rdmaWindowOpen (m : Nat)
  /-- RDMA_WINDOW_CLOSE (R349). -/
  | rdmaWindowClose (m : Nat)
  /-- QP_STATUS (R337). -/
  | qpStatus (m : Nat)
  /-- COUNTER_READ (R346). -/
  | counterRead (m : Nat)
  /-- REACH_PROVISION (R466). -/
  | reachProvision (m : Nat)
  /-- REACH_RELEASE (R466). -/
  | reachRelease (m : Nat) (twinWindows : Bool)
  /-- REACH_HANDOVER (R43). -/
  | reachHandover (m : Nat)
  /-- PAIR_STATUS (R457). -/
  | pairStatus (m : Nat)
  /-- PAIR_JOIN_ACCEPT (R133). -/
  | pairJoinAccept (m : Nat)
  /-- PAIR_SPLIT (R150). -/
  | pairSplit (m : Nat)
  /-- PAIR_RESOLVE (R137). -/
  | pairResolve (m : Nat)
  /-- SOLO_START (R138). -/
  | soloStart (m : Nat)
  /-- LINK_UNFENCE (R157). -/
  | linkUnfence (m : Nat)
  /-- DIR_READ (R467). -/
  | dirRead (m : Nat)
  /-- CISTERN_STATUS (R457). -/
  | cisternStatus (m : Nat)
  /-- REACH_READ (R457). -/
  | reachRead (m : Nat)
  /-- BOARD_RELEASE (R256). -/
  | boardRelease (m : Nat)
  /-- BOARD_ADMIT (R259). -/
  | boardAdmit (m fault place : Nat) (dies bad : List Nat)
  /-- FOOTING_FORMAT (R261). -/
  | footingFormat (m : Nat) (bad : List Nat)
  /-- FOOTING_STATUS (R457). -/
  | footingStatus (m : Nat)
  /-- KEY_LOAD (R468). -/
  | keyLoad (m : Nat) (unwraps : Bool) (keyId : Nat)
  /-- KEY_CLEAR (R371). -/
  | keyClear (m : Nat)
  /-- KEY_FORGET (R378). -/
  | keyForget (m : Nat)
  /-- CIPHER_SUBMIT (R373). -/
  | cipherSubmit (m : Nat)
  /-- SLOT_STATUS (R457). -/
  | slotStatus (m : Nat)
  /-- STORE_STATUS (R558). -/
  | storeStatus (m : Nat)
  /-- IMAGE_WRITE (R555). -/
  | imageWrite (m : Nat) (failWord : Option Nat)
  /-- IMAGE_COMMIT (R556). -/
  | imageCommit (m : Nat) (sigOk markerOk : Bool)
  /-- HOT_RESTART (R557). -/
  | hotRestart (m : Nat) (verifies : Bool)
  /-- REGION_UNLOCK (R552). -/
  | regionUnlock (m : Nat) (digestMatches : Bool)
  /-- LOG_READ (R569). -/
  | logRead (m : Nat)
  /-- LOG_STATUS (R570). -/
  | logStatus (m : Nat)
  /-- LOG_NOTE (R570). -/
  | logNote (m : Nat)
  /-- POWER_STATUS (R518). -/
  | powerStatus (m : Nat)
  /-- DISCHARGE_TEST (R518). -/
  | dischargeTest (m : Nat)
  /-- HEADGATE_STATUS (R518). -/
  | headgateStatus (m : Nat)
  /-- FREEZE (R573). -/
  | freeze (m : Nat)
  /-- SELFTEST_REPORT (R457). -/
  | selftestReport (m : Nat)
  /-- SURVEY_INFO (R457). -/
  | surveyInfo (m : Nat)
  /-- JOINERY_LOAD (R469). -/
  | joineryLoad (m : Nat) (image : JoinImage)
  /-- BAY_DRAIN (R469). -/
  | bayDrain (m : Nat)
  /-- BAY_STATUS (R457). -/
  | bayStatus (m : Nat)
  /-- RECLAIM (R392). -/
  | reclaim (m : Nat)
  /-- YARD_INSPECT (R457). -/
  | yardInspect (m : Nat)
  /-- DITCH_INSPECT (R411). -/
  | ditchInspect (m : Nat)
  /-- PAIR_MAILBOX_COMMAND (R440). -/
  | pairMailboxCommand (m op : Nat) (payload : List Nat)
  /-- MGMT_RAISE_LEVEL (R589). -/
  | mgmtRaiseLevel (sess : Nat) (digestMatches : Bool)
  /-- REGISTER_WRITE (R586). -/
  | registerWrite (acc off width value : Nat)
  /-- ECC_INJECT_ARM (R585). -/
  | eccInjectArm (acc domain unit kind : Nat)
  /-- BCH_BANK_INVALIDATE (R214). -/
  | bchBankInvalidate (acc b : Nat)
  /-- BANK_INVALIDATE_DONE (R214). -/
  | bankInvalidateDone (b : Nat)
  /-- BANK_WRITEBACK_DONE (R214). -/
  | bankWritebackDone (b : Nat)
  /-- BENCH_INVALIDATE (R207). -/
  | benchInvalidate (acc : Nat)
  /-- BENCH_CLEAN (R207). -/
  | benchClean (acc : Nat)
  /-- BENCH_FLUSH (R207). -/
  | benchFlush (acc : Nat)
  /-- BENCH_FILL_LANDED (R208). -/
  | benchFillLanded (isMeta : Bool) (ba : Nat)
  /-- VICTIM_WRITEBACK_ACK (R204). -/
  | victimWritebackAck (ba : Nat)
  /-- PARITY_LIMIT_REACHED (R217). -/
  | parityLimitReached (b : Nat)
  /-- FMN_WDT_KICK (R431). -/
  | fmnWdtKick
  /-- WATCHDOG_EXPIRY (R431). -/
  | watchdogExpiry
  /-- GRACE_END (R431). -/
  | graceEnd
  /-- LOCKSTEP_MISMATCH (R427). -/
  | lockstepMismatch
  /-- STORE_OP_TIMEOUT (R433). -/
  | storeOpTimeout
  /-- EXCEPTION_POST (R430). -/
  | exceptionPost (bay subject : Nat)
  /-- EXCEPTION_HANDLE (R430). -/
  | exceptionHandle
  /-- STEP_RUN (R413). -/
  | stepRun (op entry mask : Nat) (more : Bool) (stores : List (Nat × Nat × List Nat))
  /-- STEP_BUDGET_EXCEEDED (R415). -/
  | stepBudgetExceeded (bay op entry : Nat)
  /-- JOINER_FAULT (R425). -/
  | joinerFault (joiner cause abandoned : Nat)
  /-- JOINER_TEST_DUE (R425). -/
  | joinerTestDue (joiner : Nat) (passes : Bool)
  /-- BAY_LOAD_DONE (R422). -/
  | bayLoadDone (bay : Nat) (tested ok : Bool)
  /-- BAY_EMPTY (R419). -/
  | bayEmpty (bay : Nat)
  /-- TICKET_GET (R313). -/
  | ticketGet (holder : Nat)
  /-- TICKET_PUT (R313). -/
  | ticketPut (n : Nat)
  /-- SLOT_GET (R177). -/
  | slotGet (user : Nat)
  /-- SLOT_PUT (R177). -/
  | slotPut (n : Nat)
  /-- WINDOW_CHECK (R331). -/
  | windowCheck (id addr len right : Nat)
  /-- HDM_DECODE (R305). -/
  | hdmDecode (port ld dpa : Nat)
  /-- DIR_LOOKUP (R161). -/
  | dirLookup (g mline : Nat) (fault : MemFault)
  /-- DIR_LOCK (R181). -/
  | dirLock (g kind holder mline : Nat)
  /-- DIR_UNLOCK (R181). -/
  | dirUnlock (g mline : Nat)
  /-- MOVE_LOCK_GRANTED (R181). -/
  | moveLockGranted (g lane : Nat)
  /-- XLT_LOOKUP (R104). -/
  | xltLookup (g mline : Nat) (fault : MemFault)
  /-- CISTERN_APPEND (R89). -/
  | cisternAppend (rec : WireRec)
  /-- RECORD_HELD (R20). -/
  | recordHeld (pos : Nat) (fault : MemFault)
  /-- WRITE_ADMITTED (R96). -/
  | writeAdmitted
  /-- APPEND_RESUME (R98). -/
  | appendResume
  /-- TWIN_SEND (R123). -/
  | twinSend (w : WireRec)
  /-- CIPHER_SUBMISSION (R373). -/
  | cipherSubmission (caller : Nat) (desc : List Nat)
  /-- CIPHER_JOB_DONE (R383). -/
  | cipherJobDone (job : Nat) (tagOk : Bool) (coreFault : Option Nat)
  /-- KAT_DUE (R384). -/
  | katDue (core : Nat) (pass : Bool)
  /-- ENTROPY_HEALTH_FAIL (R375). -/
  | entropyHealthFail
  /-- COUNTER_BLOCK_RECORDED (R376). -/
  | counterBlockRecorded (slot : Nat)
  /-- TIER_READ (R168). -/
  | tierRead (n ticket line tenant : Nat) (noPromote : Bool) (fault : MemFault)
  /-- TIER_WRITE (R171). -/
  | tierWrite (pos : Nat) (fault : MemFault)
  /-- QUARTER_ARRIVED (R168). -/
  | quarterArrived (g q : Nat)
  /-- MOVE_DONE (R176). -/
  | moveDone (g : Nat)
  /-- SWEEP_PASS_START (R165). -/
  | sweepPassStart
  /-- SWEEP_PASS_END (R166). -/
  | sweepPassEnd
  /-- AGE_EVICTION (R178). -/
  | ageEviction
  /-- PRESSURE_EVICTION (R179). -/
  | pressureEviction (pool : Nat)
  /-- FRAME_WAIT_RESUME (R180). -/
  | frameWaitResume (p : Nat)
  /-- COPY_REBUILD_DONE (R184). -/
  | copyRebuildDone (g : Nat)
  /-- FLOOR_CHANNEL_LOST (R184). -/
  | floorChannelLost (c : Nat)
  /-- LOFT_STACK_FENCED (R81). -/
  | loftStackFenced (n : Nat)
  /-- CISTERN_ROOM_MADE (R81). -/
  | cisternRoomMade
  /-- CISTERN_COPY_DONE (R81). -/
  | cisternCopyDone
  /-- DRAIN_PACK_START (R25). -/
  | drainPackStart (lane : Nat)
  /-- PACK_CONFIRMED (R104). -/
  | packConfirmed (g : Nat)
  /-- CHECKPOINT_CONFIRMED (R106). -/
  | checkpointConfirmed (page : Nat)
  /-- PACK_PROGRAM_FAILED (R107). -/
  | packProgramFailed (g lane : Nat)
  /-- RESAW_START (R188). -/
  | resawStart
  /-- RESAW_RELOCATE (R190). -/
  | resawRelocate (g lane poisoned : Nat)
  /-- RESAW_ERASE (R190). -/
  | resawErase (key : Nat)
  /-- WEAR_RELOCATION (R249). -/
  | wearRelocation
  /-- ROW_GROUP_PAD_TIMEOUT (R230). -/
  | rowGroupPadTimeout (lane unit group : Nat)
  /-- PROGRAM_STATUS (R230). -/
  | programStatus (lane unit group result board : Nat)
  /-- ERASE_STATUS (R245). -/
  | eraseStatus (key : Nat) (bad : Option Nat) (nearEnd : Bool)
  /-- SUSPEND_DONE (R237). -/
  | suspendDone (sluice die : Nat)
  /-- QUARTER_READ_DONE (R242). -/
  | quarterReadDone (g q : Nat) (ok : Bool)
  /-- LADDER_DEADLINE (R278). -/
  | ladderDeadline (g q : Nat)
  /-- DIE_TIMEOUT (R247). -/
  | dieTimeout (sluice die : Nat)
  /-- CHANNEL_TRAINING_FAIL (R255). -/
  | channelTrainingFail (sluice : Nat)
  /-- BOARD_SURPRISE_ABSENT (R256). -/
  | boardSurpriseAbsent (b : Nat)
  /-- BOARD_REBUILD_DONE (R260). -/
  | boardRebuildDone (b : Nat)
  /-- LOCK_PAIR_FILL_DONE (R408). -/
  | lockPairFillDone (n : Nat) (more : Bool)
  /-- LOCK_PAIR_DRAIN_DONE (R408). -/
  | lockPairDrainDone (n : Nat) (more : Bool)
  /-- SCRUB_READ (R290). -/
  | scrubRead (domain unit target region result amount progress : Nat)
  /-- SCRUB_PASS_LATE (R293). -/
  | scrubPassLate (domain : Nat)
  /-- ECC_THRESHOLD_REACHED (R294). -/
  | eccThresholdReached (kind unit device : Nat)
  /-- MEM_RD (R302). -/
  | memRd (port ld tag hpa : Nat)
  /-- MEM_SPEC_RD (R302). -/
  | memSpecRd (port ld hpa : Nat)
  /-- MEM_INV (R302). -/
  | memInv (port ld tag : Nat)
  /-- MEM_WR (R302). -/
  | memWr (port ld tag hpa : Nat) (poison : Bool) (data : List Nat)
  /-- MEM_WR_PTL (R302). -/
  | memWrPtl (port ld tag hpa mask : Nat) (poison : Bool) (data : List Nat)
  /-- CXL_VIOLATION (R321). -/
  | cxlViolation (port ld tag : Nat) (read ur : Bool)
  /-- CXL_VIOLATION_LIMIT (R321). -/
  | cxlViolationLimit (port : Nat)
  /-- GPF_PHASE1 (R62). -/
  | gpfPhase1 (port : Nat)
  /-- GPF_PHASE2 (R315). -/
  | gpfPhase2 (port : Nat)
  /-- HDM_DECODER_COMMIT (R303). -/
  | hdmDecoderCommit (port ld i base size ways gran skip : Nat)
  /-- HOST_LINK_DOWN (R320). -/
  | hostLinkDown (port : Nat)
  /-- HPN_PERST_ASSERT (R320). -/
  | hpnPerstAssert (port : Nat)
  /-- HPN_PERST_RELEASE (R606). -/
  | hpnPerstRelease (port : Nat)
  /-- HOST_LINK_UP (R322). -/
  | hostLinkUp (port rate width ltssm : Nat)
  /-- CDAT_READ (R307). -/
  | cdatRead (port ld : Nat)
  /-- IDENTIFY_MEMORY_DEVICE (R300). -/
  | identifyMemoryDevice (port ld : Nat)
  /-- GET_SUPPORTED_LOGS (R300). -/
  | getSupportedLogs (port ld : Nat)
  /-- GET_LOG (R300). -/
  | getLog (port ld : Nat)
  /-- GET_EVENT_RECORDS (R300). -/
  | getEventRecords (port ld : Nat)
  /-- CLEAR_EVENT_RECORDS (R300). -/
  | clearEventRecords (port ld : Nat) (all : Bool) (handles : List Nat)
  /-- GET_EVENT_INTERRUPT_POLICY (R300). -/
  | getEventInterruptPolicy (port ld : Nat)
  /-- SET_EVENT_INTERRUPT_POLICY (R300). -/
  | setEventInterruptPolicy (port ld policy : Nat)
  /-- GET_TIMESTAMP (R300). -/
  | getTimestamp (port ld : Nat)
  /-- SET_TIMESTAMP (R300). -/
  | setTimestamp (port ld value : Nat)
  /-- GET_HEALTH_INFO (R300). -/
  | getHealthInfo (port ld life : Nat)
  /-- GET_POISON_LIST (R300). -/
  | getPoisonList (port ld : Nat)
  /-- CLEAR_POISON (R300). -/
  | clearPoison (port ld dpa : Nat) (data : List Nat)
  /-- GET_DC_CONFIGURATION (R300). -/
  | getDcConfiguration (port ld : Nat)
  /-- GET_DC_EXTENT_LIST (R300). -/
  | getDcExtentList (port ld : Nat)
  /-- ADD_DC_RESPONSE (R309). -/
  | addDcResponse (port ld : Nat) (extents : List (Nat × Nat))
  /-- RELEASE_DYNAMIC_CAPACITY (R310). -/
  | releaseDynamicCapacity (port ld : Nat) (extents : List (Nat × Nat))
  /-- CXL_UNSUPPORTED_OPCODE (R300). -/
  | cxlUnsupportedOpcode (port ld : Nat)
  /-- GET_LD_INFO (R301). -/
  | getLdInfo (port : Nat)
  /-- GET_LD_ALLOCATIONS (R301). -/
  | getLdAllocations (port : Nat)
  /-- SET_LD_ALLOCATIONS (R301). -/
  | setLdAllocations (port count : Nat)
  /-- GET_QOS_CONTROL (R301). -/
  | getQosControl (port : Nat)
  /-- SET_QOS_CONTROL (R301). -/
  | setQosControl (port value : Nat)
  /-- GET_QOS_STATUS (R301). -/
  | getQosStatus (port : Nat)
  /-- OFFER_TIMEOUT (R309). -/
  | offerTimeout (id : Nat)
  /-- RELEASE_TIMEOUT (R310). -/
  | releaseTimeout (id : Nat)
  /-- RDMA_SEND (R344). -/
  | rdmaSend (port qp psn place : Nat) (imm : Option Nat) (ce : Bool) (data : List Nat)
  /-- RDMA_WRITE (R338). -/
  | rdmaWrite (port qp psn place key off len : Nat) (ce : Bool) (data : List Nat)
  /-- RDMA_WRITE_WITH_IMMEDIATE (R344). -/
  | rdmaWriteWithImmediate (port qp psn place key off len imm : Nat) (ce : Bool) (data : List Nat)
  /-- RDMA_READ (R343). -/
  | rdmaRead (port qp psn key off len : Nat) (ce : Bool)
  /-- COMPARE_SWAP (R72). -/
  | compareSwap (port qp psn key off cmp swap : Nat) (ce : Bool)
  /-- FETCH_ADD (R72). -/
  | fetchAdd (port qp psn key off value : Nat) (ce : Bool)
  /-- ATOMIC_WRITE (R338). -/
  | atomicWrite (port qp psn key off value : Nat) (ce : Bool)
  /-- RDMA_FLUSH (R64). -/
  | rdmaFlush (port qp psn key off len : Nat) (persist whole ce : Bool)
  /-- WAIT (R347). -/
  | rdmaWait (port qp psn counter threshold : Nat) (ce : Bool)
  /-- WAIT_TIMEOUT (R348). -/
  | waitTimeout (qp psn : Nat)
  /-- ADMISSION_WAIT_EXPIRY (R355). -/
  | admissionWaitExpiry (qp : Nat)
  /-- ACK_COALESCE_EXPIRY (R340). -/
  | ackCoalesceExpiry (qp : Nat)
  /-- MESSAGE_ABANDON (R350). -/
  | messageAbandon (qp : Nat)
  /-- CONTEXT_FETCHED (R352). -/
  | contextFetched (qp verdict : Nat)
  /-- CNP_RECEIVED (R359). -/
  | cnpReceived (port qp : Nat)
  /-- RATE_RECOVER (R359). -/
  | rateRecover (qp : Nat)
  /-- PFC_PAUSE_RECEIVED (R357). -/
  | pfcPauseReceived (port prio : Nat) (on : Bool)
  /-- PFC_STORM (R363). -/
  | pfcStorm (port prio : Nat)
  /-- ARP_REQUEST (R323). -/
  | arpRequest (port : Nat) (v6 : Bool) (addr : Nat)
  /-- RDMA_VIOLATION (R363). -/
  | rdmaViolation (port qp psn : Nat) (nak : Bool)
  /-- RDMA_VIOLATION_LIMIT (R363). -/
  | rdmaViolationLimit (port : Nat)
  /-- RDMA_PORT_LINK_DOWN (R362). -/
  | rdmaPortLinkDown (port : Nat)
  /-- RDMA_PORT_LINK_UP (R362). -/
  | rdmaPortLinkUp (port rate : Nat)
  /-- ALLOC (R393). -/
  | yardAlloc (size caller group : Nat)
  /-- FREE (R395). -/
  | yardFree (handle caller : Nat)
  /-- HANDOVER (R395). -/
  | yardHandover (handle caller owner : Nat)
  /-- ENQ (R400). -/
  | ditchEnq (q caller : Nat) (data : List Nat) (sop eop : Bool)
  /-- DEQ (R402). -/
  | ditchDeq (q caller bad : Nat)
  /-- DROP_REMAINDER (R403). -/
  | dropRemainder (q caller : Nat)
  /-- QOPEN (R399). -/
  | qopen (consumer notice maxCells : Nat)
  /-- QCLOSE (R404). -/
  | qclose (q caller : Nat)
  /-- HEARTBEAT_WORD_RECEIVED (R115). -/
  | heartbeatWordReceived (ok : Bool) (mode pos : Nat) (fenced degraded pf cableFault : Bool) (slot held : Nat)
  /-- PAIR_FENCE_IN_ASSERT (R117). -/
  | pairFenceInAssert
  /-- PAIR_FENCE_IN_DEASSERT (R146). -/
  | pairFenceInDeassert
  /-- PAIR_PF_IN_ASSERT (R139). -/
  | pairPfInAssert
  /-- PAIR_INPUT_PULSE (R116). -/
  | pairInputPulse (pf : Bool)
  /-- HB_TIMEOUT (R139). -/
  | hbTimeout
  /-- STALL (R139). -/
  | stall
  /-- CABLE_FAULT_SET (R140). -/
  | cableFaultSet
  /-- CABLE_FAULT_CLEAR (R140). -/
  | cableFaultClear
  /-- MIRROR_PATH_ARBITRATION (R141). -/
  | mirrorPathArbitration
  /-- LINK_AND_CABLE (R142). -/
  | linkAndCable
  /-- FENCE_MARGIN_END (R144). -/
  | fenceMarginEnd
  /-- JOIN_START (R133). -/
  | joinStart (identity : Nat)
  /-- JOIN_ABANDON (R615). -/
  | joinAbandon
  /-- JOIN_SETTLE (R134). -/
  | joinSettle (lacks retired : List (Nat × Nat)) (grans : List Nat)
  /-- RESYNC_STREAM (R153). -/
  | resyncStream
  /-- RESYNC_END (R155). -/
  | resyncEnd
  /-- KEEPALIVE_SEND (R122). -/
  | keepaliveSend (p : Nat)
  /-- PARITY_FRAME_SEND (R125). -/
  | parityFrameSend (p : Nat)
  /-- ACK_FRAME_SEND (R124). -/
  | ackFrameSend
  /-- KEEPALIVE_FRAME (R122). -/
  | keepaliveFrame (h : FrameHdr)
  /-- SETUP_FRAME (R128). -/
  | setupFrame (h : FrameHdr) (last : Bool) (inst : Nat) (ok : Bool)
  /-- RECORDS_FRAME (R90). -/
  | recordsFrame (h : FrameHdr) (recs : List WireRec)
  /-- FORWARD_FRAME (R21). -/
  | forwardFrame (h : FrameHdr) (ticket window cls : Nat) (recs : List WireRec) (atomic : List Nat)
  /-- RETURN_FRAME (R92). -/
  | returnFrame (h : FrameHdr) (ticket reach newOwner : Nat) (recs : List WireRec) (value : Nat) (refused : Bool)
  /-- ACK_FRAME (R124). -/
  | ackFrame (h : FrameHdr) (entries : List (Nat × Nat))
  /-- PARITY_FRAME (R125). -/
  | parityFrame (h : FrameHdr) (rebuilt : Option (FrameHdr × FrameBody))
  /-- RESEND_FRAME (R126). -/
  | resendFrame (h : FrameHdr) (fromSeq : Nat)
  /-- STATE_FRAME (R97). -/
  | stateFrame (h : FrameHdr) (adm degraded portsOk flags : Nat) (locals : List (Nat × Bool)) (asks : List Nat) (copies : List (Nat × Nat × Nat × List Nat))
  /-- HANDOVER_FRAME (R43). -/
  | handoverFrame (h : FrameHdr) (reach step seq : Nat)
  /-- REACH_CTL_FRAME (R37). -/
  | reachCtlFrame (h : FrameHdr) (reach action kind owner : Nat)
  /-- CATCHUP_MAP_FRAME (R151). -/
  | catchupMapFrame (h : FrameHdr) (body : FrameBody)
  /-- GRANULE_FRAME (R153). -/
  | granuleFrame (h : FrameHdr) (gran half snap poison : Nat) (data : List Nat)
  /-- GRANULE_ACK_FRAME (R153). -/
  | granuleAckFrame (h : FrameHdr) (grans : List Nat)
  /-- REKEY_FRAME (R130). -/
  | rekeyFrame (h : FrameHdr) (newInstance : Nat)
  /-- REKEY_DUE (R130). -/
  | rekeyDue (p : Nat)
  /-- REKEY_RETRY (R131). -/
  | rekeyRetry (p : Nat)
  /-- OLD_KEY_DROP (R130). -/
  | oldKeyDrop (p : Nat)
  /-- KEY_USE_LIMIT (R131). -/
  | keyUseLimit (p : Nat)
  /-- RILRAM_PORT_DOWN (R127). -/
  | rilramPortDown (p : Nat)
  /-- RILRAM_PORT_UP (R119). -/
  | rilramPortUp (p delay : Nat) (crossed : Bool)
  /-- RILRAM_VIOLATION_LIMIT (R157). -/
  | rilramViolationLimit (k : Nat)
  /-- FREEZE_N_FALL (R573). -/
  | freezeNFall
  /-- ISLANDS_STOP (R575). -/
  | islandsStop
  /-- EXTEST (R578). -/
  | extest
  /-- SAMPLE_PRELOAD (R578). -/
  | samplePreload
  /-- IDCODE (R578). -/
  | idcode
  /-- SVY_ADDR (R578). -/
  | svyAddr (off : Nat)
  /-- SVY_DATA (R579). -/
  | svyData (tdi : Nat)
  /-- SVY_STATUS (R578). -/
  | svyStatus (tdi : Nat)
  /-- UNLOCK (R580). -/
  | unlock (tdi : Nat) (digestMatches : Bool)
  /-- THAW (R580). -/
  | thaw (tdi : Nat)
  /-- BYPASS (R578). -/
  | jtagBypass (tdi : Nat)
  /-- RECORD_PERIOD_CLOSE (R563). -/
  | recordPeriodClose (event subject : Nat)
  /-- LOG_PAGE_WRITE (R566). -/
  | logPageWrite
  /-- LOG_PAGE_CONFIRMED (R566). -/
  | logPageConfirmed
  /-- OP_TIME_BASE_UPDATE (R564). -/
  | opTimeBaseUpdate
  /-- INPUT_POWER_BELOW_LIMIT (R502). -/
  | inputPowerBelowLimit (pin : Nat)
  /-- STORE_ERASE_DONE (R545). -/
  | storeEraseDone (ok : Bool) (failWord : Option Nat)
  /-- ENTROPY_HEALTH_PASS (R375). -/
  | entropyHealthPass
  /-- FREEZE_COMMAND_TRIGGER (R573). -/
  | freezeCommandTrigger
deriving DecidableEq, Repr

end Sys2Proof
end

