-- ==== Sys2Proof/Config.lean ====
section
/-!
DEFINITION. Sys2Proof/Config.lean: the values the spec leaves open.  Each is an opaque constant: nothing can be proved about
its values, so a statement about one holds whatever it is.
-/
namespace Sys2Proof

/-- A fresh value the spec leaves open, the n-th that this module draws (notes/assumptions/4.md). -/
opaque Config.freeValue : Nat → Nat

/-- Byte i of the n-th payload whose layout the spec does not give (notes/assumptions/6.md). -/
opaque Config.freeByte : Nat → Nat → BitVec 8

/-- The output bytes of a cipher operation: mode, key instance, counter or IV, data (AES-CBC, CTR, GCM, CFB: R366, R373). -/
opaque Config.cipher : Nat → Nat → Nat → List Byte → List Byte

/-- The SHA-384 measurement a MOD_MEAS register holds after a digest is extended into it (R530). -/
opaque Config.extend : Nat → Nat → Nat

/-- The bytes of an SPDM response by request code and session (R531; the DMTF formats are not in the spec). -/
opaque Config.spdmBody : Nat → Nat → List Byte

/-- The CRC-8 of a heartbeat word's first seven bytes (R114; its initial value is not in the spec). -/
opaque Config.crc8 : List Byte → Nat

/-- The CRC-64 of a cistern record's bytes (R85). -/
opaque Config.crc64 : List Byte → Nat

/-- The CRC-32C of a record's bytes (R550, R561). -/
opaque Config.crc32c : List Byte → Nat

/-- Where the fixed floor frames of a volatile granule lie: frame index and channel of 0–7 (R161, R186; the placement is open). -/
opaque Config.pinFrame : Nat → Nat × Nat

/-- Which of the sources of R561 raises an event for a subject, by its place among islands 0–27, the foreman and the ROM: no rule says. -/
opaque Config.source : Nat → Nat → Nat

/-- The worst read-eye margin in ps that a training of a unit measures (R593), by unit and epoch. -/
opaque Config.readEye : Nat → Nat → Nat

/-- A traffic counter or a timing of R593, the lag or the clock of an island (R13, R592), as a read finds it: by offset and epoch. -/
opaque Config.measured : Nat → Nat → Nat

/-- The consumer of a fixed ditch queue and its notice target (R398, R399; the spec does not say which they are). -/
opaque Config.fixedConsumer : Nat → Nat × Nat

/-- The MAX_CELLS that the joinery image sets for a joinery work queue (R398). -/
opaque Config.imageCells : Nat → Nat

end Sys2Proof
end

