-- ==== Sys2Proof/Machine/Map.lean ====
section
/-!
DEFINITION. Sys2Proof/Machine/Map.lean: sparse tables, the one form in which the model holds registers, memories and
tables of objects.  A table is a list of (key, value) pairs with strictly rising keys and no entry equal to what an
unlisted key reads as, so that equal tables are equal data.
-/
namespace Sys2Proof.Machine

/-- The value a table holds at a key, `d` where the key is not listed. -/
def tget {α : Type} (d : α) (k : Nat) : List (Nat × α) → α
  | [] => d
  | (j, v) :: t => if j = k then v else if k < j then d else tget d k t

/-- The table without an entry at `k`. -/
def tdel {α : Type} (k : Nat) : List (Nat × α) → List (Nat × α)
  | [] => []
  | (j, v) :: t => if j = k then t else if k < j then (j, v) :: t else (j, v) :: tdel k t

/-- The table with the entry `v` at `k`. -/
def tins {α : Type} (k : Nat) (v : α) : List (Nat × α) → List (Nat × α)
  | [] => [(k, v)]
  | (j, w) :: t => if j = k then (k, v) :: t else if k < j then (k, v) :: (j, w) :: t else (j, w) :: tins k v t

/-- Writing a key: the value an unlisted key reads as removes the entry. -/
def tset {α : Type} [DecidableEq α] (d : α) (k : Nat) (v : α) (t : List (Nat × α)) : List (Nat × α) :=
  if v = d then tdel k t else tins k v t

/-- Every key of the list is above `b`, and the keys rise strictly. -/
def tabove {α : Type} (b : Nat) : List (Nat × α) → Bool
  | [] => true
  | (j, _) :: t => decide (b < j) && tabove j t

/-- The keys rise strictly. -/
def tsorted {α : Type} : List (Nat × α) → Bool
  | [] => true
  | (j, _) :: t => tabove j t

/-- No entry is equal to what an unlisted key reads as. -/
def tlean {α : Type} [DecidableEq α] (d : α) (t : List (Nat × α)) : Bool := t.all (fun e => decide (e.2 ≠ d))

/-- The canonical form of a table. -/
def twf {α : Type} [DecidableEq α] (d : α) (t : List (Nat × α)) : Bool := tsorted t && tlean d t

/-- The entry of an object table, if the object exists. -/
def tfind {α : Type} (k : Nat) : List (Nat × α) → Option α
  | [] => none
  | (j, v) :: t => if j = k then some v else if k < j then none else tfind k t

/-- Change an existing object; a key that names none changes nothing. -/
def tmod {α : Type} (k : Nat) (f : α → α) : List (Nat × α) → List (Nat × α)
  | [] => []
  | (j, v) :: t => if j = k then (j, f v) :: t else (j, v) :: tmod k f t

/-- The lowest number below `n` (counting up from `i`) that the table does not list. -/
def tfree {α : Type} (t : List (Nat × α)) : Nat → Nat → Option Nat
  | _, 0 => none
  | i, n + 1 => if (tfind i t).isNone then some i else tfree t (i + 1) n

/-- The first unlisted key at or above `i`, from a sorted table: the lowest free slot of a large table. -/
def tnext {α : Type} (i : Nat) : List (Nat × α) → Nat
  | [] => i
  | (j, _) :: t => if j < i then tnext i t else if j = i then tnext (i + 1) t else i

/-- The bytes of a byte memory from address `a` on. -/
def readBytes (m : List Host.Cell) (a : Nat) : Nat → List Byte
  | 0 => []
  | n + 1 => tget 0 a m :: readBytes m (a + 1) n

/-- Write bytes from address `a` on. -/
def writeBytes (a : Nat) : List Byte → List Host.Cell → List Host.Cell
  | [], m => m
  | b :: bs, m => writeBytes (a + 1) bs (tset 0 a b m)

/-- The number that bytes spell, least significant first (R441). -/
def leNat : List Byte → Nat
  | [] => 0
  | b :: bs => b.toNat + 256 * leNat bs

/-- `n` bytes of a number, least significant first (R441). -/
def leBytes : Nat → Nat → List Byte
  | 0, _ => []
  | n + 1, v => BitVec.ofNat 8 v :: leBytes n (v / 256)

/-- Bits [lo + w − 1 : lo] of a number. -/
def bitsOf (lo w v : Nat) : Nat := v / 2 ^ lo % 2 ^ w

/-- Bit `i` of a number. -/
def bitOf (i v : Nat) : Bool := v / 2 ^ i % 2 == 1

/-- A flag as a bit. -/
def b2n (b : Bool) : Nat := if b then 1 else 0

/-- A byte list cut or padded with zeros to `n` bytes. -/
def padTo : Nat → List Byte → List Byte
  | 0, _ => []
  | n + 1, [] => 0 :: padTo n []
  | n + 1, b :: bs => b :: padTo n bs

/-- The integer part of a square root, by bits from 2^k down. -/
def isqrtGo (n : Nat) : Nat → Nat → Nat
  | 0, r => r
  | k + 1, r => if (r + 2 ^ k) * (r + 2 ^ k) ≤ n then isqrtGo n k (r + 2 ^ k) else isqrtGo n k r

/-- The integer part of the square root of a number below 2^48. -/
def isqrt (n : Nat) : Nat := isqrtGo n 24 0

/-- The smaller of a count and a saturation limit. -/
def satAt (limit n : Nat) : Nat := if n < limit then n else limit

end Sys2Proof.Machine
end

