-- ==== Sys2Proof/Machine/Regs.lean ====
section
/-!
DEFINITION. Sys2Proof/Machine/Regs.lean: the names of the register fields of the control space (R582, R584),
written from the register maps of the chapters, of 20_register_index.md (R592, R593) and from their Reset columns (R590).
A field is (key, width, reset value); its key is its register's control-space offset times 512 plus its lowest bit, so a
field's key tells where it lies.  Reserved bits have no field: they read 0 and keep nothing (R582).
-/
namespace Sys2Proof.Machine

/-- `YRD_POOL_CFG.COUNT` of pool p with no configuration record (12_yard_and_ditches.md, R388). -/
def yardPoolCount (p : Nat) : Nat :=
  if p = 0 ∨ p = 1 then 0x80000 else if p = 4 ∨ p = 5 then 0x20000
  else if p = 8 ∨ p = 9 then 0x2000 else if p = 12 ∨ p = 13 then 0x100 else 0

/-- `YRD_POOL_CFG.STACK` of pool p with no configuration record (R388). -/
def yardPoolStack (p : Nat) : Nat := if p = 0 ∨ p = 4 ∨ p = 8 ∨ p = 12 then 1 else 3

/-! ### Block GLB -/

-- GLB_ID (20_register_index.md)
def Reg.GLB_ID_ID : Fld := ⟨0x0, 32, 0x14896C6B⟩
-- GLB_SERIAL (20_register_index.md)
def Reg.GLB_SERIAL_SERIAL : Fld := ⟨0x1000, 64, 0x0⟩
-- GLB_RELEASE (20_register_index.md)
def Reg.GLB_RELEASE_MINOR : Fld := ⟨0x2000, 8, 0x2⟩
def Reg.GLB_RELEASE_MAJOR : Fld := ⟨0x2008, 8, 0x4⟩
def Reg.GLB_RELEASE_BUILD : Fld := ⟨0x2010, 15, 0x0⟩
def Reg.GLB_RELEASE_VARIANT : Fld := ⟨0x201F, 1, 0x0⟩
-- GLB_DISCRETES (20_register_index.md): the inputs' reset levels are those of R606's bias (notes/assumptions/9.md)
def Reg.GLB_DISCRETES_PERST_N : Fld := ⟨0x3000, 8, 0x0⟩
def Reg.GLB_DISCRETES_MOD_RESET_N : Fld := ⟨0x3008, 1, 0x1⟩
def Reg.GLB_DISCRETES_FREEZE_N : Fld := ⟨0x3009, 1, 0x1⟩
def Reg.GLB_DISCRETES_ALERT_N : Fld := ⟨0x300A, 1, 0x0⟩
def Reg.GLB_DISCRETES_PRESENT_N : Fld := ⟨0x300B, 1, 0x0⟩
def Reg.GLB_DISCRETES_SLOT_ID : Fld := ⟨0x300C, 4, 0xF⟩
-- GLB_MGT_CFG (20_register_index.md)
def Reg.GLB_MGT_CFG_TCP_PORT : Fld := ⟨0x20000, 16, 0x1062⟩
def Reg.GLB_MGT_CFG_ENABLE : Fld := ⟨0x20010, 1, 0x1⟩
-- GLB_MGT_IP4 (20_register_index.md)
def Reg.GLB_MGT_IP4_ADDR : Fld := ⟨0x20800, 32, 0x0⟩
-- GLB_MGT_STATE (20_register_index.md)
def Reg.GLB_MGT_STATE_LINK : Fld := ⟨0x21000, 2, 0x0⟩
def Reg.GLB_MGT_STATE_ADDR_HELD : Fld := ⟨0x21002, 1, 0x0⟩
def Reg.GLB_MGT_STATE_SESSIONS : Fld := ⟨0x21003, 3, 0x0⟩
-- GLB_SESSION (20_register_index.md)
def Reg.GLB_SESSION_OPEN (s : Nat) : Fld := ⟨(0x200 + 0x8 * s) * 512 + 0, 1, 0x0⟩
def Reg.GLB_SESSION_LEVEL (s : Nat) : Fld := ⟨(0x200 + 0x8 * s) * 512 + 1, 2, 0x0⟩
def Reg.GLB_SESSION_MGMT (s : Nat) : Fld := ⟨(0x200 + 0x8 * s) * 512 + 3, 1, 0x0⟩
def Reg.GLB_SESSION_KEY_PAIR (s : Nat) : Fld := ⟨(0x200 + 0x8 * s) * 512 + 8, 4, 0x0⟩
def Reg.GLB_SESSION_EPOCH (s : Nat) : Fld := ⟨(0x200 + 0x8 * s) * 512 + 16, 48, 0x0⟩
-- GLB_ACCESS (20_register_index.md)
def Reg.GLB_ACCESS_OFFSET : Fld := ⟨0x60000, 26, 0x0⟩
def Reg.GLB_ACCESS_ACCESSOR : Fld := ⟨0x6001A, 6, 0x0⟩
def Reg.GLB_ACCESS_COUNT : Fld := ⟨0x60020, 32, 0x0⟩
-- GLB_SCRATCH (20_register_index.md)
def Reg.GLB_SCRATCH_VALUE (i : Nat) : Fld := ⟨(0x400 + 0x8 * i) * 512 + 0, 64, 0x0⟩

/-- The register map of block GLB (R584). -/
def regTableGlb : List RegDef := [
  ⟨0x0, [], 32, [⟨0, 32, .ro, 0x14896C6B⟩]⟩,
  ⟨0x8, [], 64, [⟨0, 64, .ro, 0x0⟩]⟩,
  ⟨0x10, [], 32, [⟨0, 8, .ro, 0x2⟩, ⟨8, 8, .ro, 0x4⟩, ⟨16, 15, .ro, 0x0⟩, ⟨31, 1, .ro, 0x0⟩]⟩,
  ⟨0x18, [], 32, [⟨0, 8, .ro, 0x0⟩, ⟨8, 1, .ro, 0x1⟩, ⟨9, 1, .ro, 0x1⟩, ⟨10, 1, .ro, 0x0⟩, ⟨11, 1, .ro, 0x0⟩, ⟨12, 4, .ro, 0xF⟩]⟩,
  ⟨0x100, [], 32, [⟨0, 16, .rw, 0x1062⟩, ⟨16, 1, .rwl, 0x1⟩]⟩,
  ⟨0x104, [], 32, [⟨0, 32, .rw, 0x0⟩]⟩,
  ⟨0x108, [], 32, [⟨0, 2, .ro, 0x0⟩, ⟨2, 1, .ro, 0x0⟩, ⟨3, 3, .ro, 0x0⟩]⟩,
  ⟨0x200, [(0x8, 4)], 64, [⟨0, 1, .ro, 0x0⟩, ⟨1, 2, .ro, 0x0⟩, ⟨3, 1, .ro, 0x0⟩, ⟨8, 4, .ro, 0x0⟩, ⟨16, 48, .ro, 0x0⟩]⟩,
  ⟨0x300, [], 64, [⟨0, 26, .ro, 0x0⟩, ⟨26, 6, .ro, 0x0⟩, ⟨32, 32, .ro, 0x0⟩]⟩,
  ⟨0x400, [(0x8, 4)], 64, [⟨0, 64, .rw, 0x0⟩]⟩]


/-! ### Block MOD -/

-- MOD_STATE (17_modes_and_bringup.md)
def Reg.MOD_STATE_MODE : Fld := ⟨0x2000000, 4, 0x1⟩
def Reg.MOD_STATE_PREV_MODE : Fld := ⟨0x2000004, 4, 0x0⟩
def Reg.MOD_STATE_RESTORE : Fld := ⟨0x2000008, 2, 0x0⟩
def Reg.MOD_STATE_BOOT_SLOT : Fld := ⟨0x200000A, 1, 0x0⟩
def Reg.MOD_STATE_FALLBACK : Fld := ⟨0x200000B, 1, 0x0⟩
def Reg.MOD_STATE_SERVE_BLOCK : Fld := ⟨0x2000010, 7, 0x7F⟩
-- MOD_CFG (17_modes_and_bringup.md)
def Reg.MOD_CFG_AUTO_START : Fld := ⟨0x2000800, 1, 0x1⟩
-- MOD_CTL (17_modes_and_bringup.md)
def Reg.MOD_CTL_START : Fld := ⟨0x2001000, 1, 0x0⟩
-- MOD_RESET_LOG (17_modes_and_bringup.md)
def Reg.MOD_RESET_LOG_CAUSE : Fld := ⟨0x2002000, 4, 0x1⟩
def Reg.MOD_RESET_LOG_SCOPE : Fld := ⟨0x2002004, 2, 0x0⟩
def Reg.MOD_RESET_LOG_MODE_AT : Fld := ⟨0x2002006, 4, 0x0⟩
def Reg.MOD_RESET_LOG_SPILLED : Fld := ⟨0x200200A, 1, 0x0⟩
def Reg.MOD_RESET_LOG_EPOCH : Fld := ⟨0x2002010, 48, 0x0⟩
-- MOD_BRINGUP (17_modes_and_bringup.md)
def Reg.MOD_BRINGUP_STEPS : Fld := ⟨0x2003000, 12, 0x0⟩
def Reg.MOD_BRINGUP_RUNNING : Fld := ⟨0x200300C, 1, 0x0⟩
def Reg.MOD_BRINGUP_ELAPSED_MS : Fld := ⟨0x2003020, 32, 0x0⟩
-- MOD_MEAS (17_modes_and_bringup.md)
def Reg.MOD_MEAS_DIGEST (i : Nat) : Fld := ⟨(0x10100 + 0x40 * i) * 512 + 0, 384, 0x0⟩
-- MOD_STAT (17_modes_and_bringup.md)
def Reg.MOD_STAT_COUNT (k : Nat) : Fld := ⟨(0x10400 + 0x8 * k) * 512 + 0, 64, 0x0⟩

/-- The register map of block MOD (R584). -/
def regTableMod : List RegDef := [
  ⟨0x10000, [], 32, [⟨0, 4, .ro, 0x1⟩, ⟨4, 4, .ro, 0x0⟩, ⟨8, 2, .ro, 0x0⟩, ⟨10, 1, .ro, 0x0⟩, ⟨11, 1, .ro, 0x0⟩, ⟨16, 7, .ro, 0x7F⟩]⟩,
  ⟨0x10004, [], 32, [⟨0, 1, .rw, 0x1⟩]⟩,
  ⟨0x10008, [], 32, [⟨0, 1, .w1p, 0x0⟩]⟩,
  ⟨0x10010, [], 64, [⟨0, 4, .ro, 0x1⟩, ⟨4, 2, .ro, 0x0⟩, ⟨6, 4, .ro, 0x0⟩, ⟨10, 1, .ro, 0x0⟩, ⟨16, 48, .ro, 0x0⟩]⟩,
  ⟨0x10018, [], 64, [⟨0, 12, .ro, 0x0⟩, ⟨12, 1, .ro, 0x0⟩, ⟨32, 32, .ro, 0x0⟩]⟩,
  ⟨0x10100, [(0x40, 5)], 384, [⟨0, 384, .ro, 0x0⟩]⟩,
  ⟨0x10400, [(0x8, 8)], 64, [⟨0, 64, .ro, 0x0⟩]⟩]


/-! ### Block MBX -/

-- MBX_STATE (14_mailbox_interface.md)
def Reg.MBX_STATE_STATE (m : Nat) : Fld := ⟨(0x20000 + 0x8 * m) * 512 + 0, 2, 0x0⟩
def Reg.MBX_STATE_PRIORITY (m : Nat) : Fld := ⟨(0x20000 + 0x8 * m) * 512 + 2, 2, 0x0⟩
def Reg.MBX_STATE_FAST (m : Nat) : Fld := ⟨(0x20000 + 0x8 * m) * 512 + 4, 1, 0x0⟩
def Reg.MBX_STATE_RESPONDER (m : Nat) : Fld := ⟨(0x20000 + 0x8 * m) * 512 + 5, 1, 0x0⟩
def Reg.MBX_STATE_NOTIFY_PENDING (m : Nat) : Fld := ⟨(0x20000 + 0x8 * m) * 512 + 6, 1, 0x0⟩
def Reg.MBX_STATE_OPCODE (m : Nat) : Fld := ⟨(0x20000 + 0x8 * m) * 512 + 16, 16, 0x0⟩
def Reg.MBX_STATE_STATUS (m : Nat) : Fld := ⟨(0x20000 + 0x8 * m) * 512 + 32, 16, 0x0⟩
-- MBX_ENABLE (14_mailbox_interface.md)
def Reg.MBX_ENABLE_ENABLE : Fld := ⟨0x4040000, 36, 0xFFFFFFFFF⟩
def Reg.MBX_ENABLE_PAIR : Fld := ⟨0x4040024, 4, 0xF⟩
-- MBX_QUEUE (14_mailbox_interface.md)
def Reg.MBX_QUEUE_Q0 : Fld := ⟨0x4041000, 5, 0x0⟩
def Reg.MBX_QUEUE_Q1 : Fld := ⟨0x4041008, 5, 0x0⟩
def Reg.MBX_QUEUE_Q2 : Fld := ⟨0x4041010, 5, 0x0⟩
def Reg.MBX_QUEUE_Q3 : Fld := ⟨0x4041018, 5, 0x0⟩
-- MBX_STAT (14_mailbox_interface.md)
def Reg.MBX_STAT_COUNT (k : Nat) : Fld := ⟨(0x20300 + 0x8 * k) * 512 + 0, 64, 0x0⟩
-- MBX_HDR (14_mailbox_interface.md)
def Reg.MBX_HDR_OPCODE (k : Nat) : Fld := ⟨(0x30000 + 0x4000 * k) * 512 + 0, 16, 0x0⟩
def Reg.MBX_HDR_PRIORITY (k : Nat) : Fld := ⟨(0x30000 + 0x4000 * k) * 512 + 16, 2, 0x0⟩
def Reg.MBX_HDR_NOTIFY (k : Nat) : Fld := ⟨(0x30000 + 0x4000 * k) * 512 + 18, 1, 0x0⟩
def Reg.MBX_HDR_TAG (k : Nat) : Fld := ⟨(0x30000 + 0x4000 * k) * 512 + 32, 32, 0x0⟩
def Reg.MBX_HDR_LENGTH (k : Nat) : Fld := ⟨(0x30000 + 0x4000 * k) * 512 + 64, 16, 0x0⟩
def Reg.MBX_HDR_STATUS (k : Nat) : Fld := ⟨(0x30000 + 0x4000 * k) * 512 + 256, 16, 0x0⟩
def Reg.MBX_HDR_RETRY_US (k : Nat) : Fld := ⟨(0x30000 + 0x4000 * k) * 512 + 272, 16, 0x0⟩
def Reg.MBX_HDR_RETURN_LENGTH (k : Nat) : Fld := ⟨(0x30000 + 0x4000 * k) * 512 + 288, 16, 0x0⟩
def Reg.MBX_HDR_DETAIL (k : Nat) : Fld := ⟨(0x30000 + 0x4000 * k) * 512 + 320, 32, 0x0⟩
def Reg.MBX_HDR_TAG_ECHO (k : Nat) : Fld := ⟨(0x30000 + 0x4000 * k) * 512 + 352, 32, 0x0⟩
def Reg.MBX_HDR_SEQ (k : Nat) : Fld := ⟨(0x30000 + 0x4000 * k) * 512 + 384, 64, 0x0⟩
def Reg.MBX_HDR_EPOCH (k : Nat) : Fld := ⟨(0x30000 + 0x4000 * k) * 512 + 448, 64, 0x0⟩
-- MBX_DOORBELL (14_mailbox_interface.md)
def Reg.MBX_DOORBELL_RING (k : Nat) : Fld := ⟨(0x30040 + 0x4000 * k) * 512 + 0, 1, 0x0⟩
def Reg.MBX_DOORBELL_CANCEL (k : Nat) : Fld := ⟨(0x30040 + 0x4000 * k) * 512 + 1, 1, 0x0⟩
def Reg.MBX_DOORBELL_ACK (k : Nat) : Fld := ⟨(0x30040 + 0x4000 * k) * 512 + 2, 1, 0x0⟩
def Reg.MBX_DOORBELL_STATE (k : Nat) : Fld := ⟨(0x30040 + 0x4000 * k) * 512 + 4, 2, 0x0⟩
-- MBX_PAYLOAD (14_mailbox_interface.md)
def Reg.MBX_PAYLOAD_DATA (k i : Nat) : Fld := ⟨(0x31000 + 0x4000 * k + 0x4 * i) * 512 + 0, 32, 0x0⟩

/-- The register map of block MBX (R584). -/
def regTableMbx : List RegDef := [
  ⟨0x20000, [(0x8, 40)], 64, [⟨0, 2, .ro, 0x0⟩, ⟨2, 2, .ro, 0x0⟩, ⟨4, 1, .ro, 0x0⟩, ⟨5, 1, .ro, 0x0⟩, ⟨6, 1, .ro, 0x0⟩, ⟨16, 16, .ro, 0x0⟩, ⟨32, 16, .ro, 0x0⟩]⟩,
  ⟨0x20200, [], 64, [⟨0, 36, .rw, 0xFFFFFFFFF⟩, ⟨36, 4, .ro, 0xF⟩]⟩,
  ⟨0x20208, [], 32, [⟨0, 5, .ro, 0x0⟩, ⟨8, 5, .ro, 0x0⟩, ⟨16, 5, .ro, 0x0⟩, ⟨24, 5, .ro, 0x0⟩]⟩,
  ⟨0x20300, [(0x8, 8)], 64, [⟨0, 64, .ro, 0x0⟩]⟩,
  ⟨0x30000, [(0x4000, 4)], 512, [⟨0, 16, .rw, 0x0⟩, ⟨16, 2, .rw, 0x0⟩, ⟨18, 1, .rw, 0x0⟩, ⟨32, 32, .rw, 0x0⟩, ⟨64, 16, .rw, 0x0⟩, ⟨256, 16, .ro, 0x0⟩, ⟨272, 16, .ro, 0x0⟩, ⟨288, 16, .ro, 0x0⟩, ⟨320, 32, .ro, 0x0⟩, ⟨352, 32, .ro, 0x0⟩, ⟨384, 64, .ro, 0x0⟩, ⟨448, 64, .ro, 0x0⟩]⟩,
  ⟨0x30040, [(0x4000, 4)], 32, [⟨0, 1, .w1p, 0x0⟩, ⟨1, 1, .w1p, 0x0⟩, ⟨2, 1, .w1p, 0x0⟩, ⟨4, 2, .ro, 0x0⟩]⟩,
  ⟨0x31000, [(0x4000, 4), (0x4, 1024)], 32, [⟨0, 32, .rw, 0x0⟩]⟩]


/-! ### Block FRM -/

-- FRM_CFG (15_frames_and_live_change.md)
def Reg.FRM_CFG_LEAD_US : Fld := ⟨0x8000000, 10, 0x014⟩
def Reg.FRM_CFG_EVAC_GBPS : Fld := ⟨0x800000A, 6, 0x28⟩
-- FRM_POLICY (15_frames_and_live_change.md)
def Reg.FRM_POLICY_ALLOW_OUT : Fld := ⟨0x8000800, 1, 0x1⟩
def Reg.FRM_POLICY_ALLOW_ROLLBACK : Fld := ⟨0x8000801, 1, 0x1⟩
def Reg.FRM_POLICY_LOCKED : Fld := ⟨0x8000802, 1, 0x0⟩
-- FRM_STATE (15_frames_and_live_change.md)
def Reg.FRM_STATE_IN_USE : Fld := ⟨0x8001000, 8, 0x0⟩
def Reg.FRM_STATE_SCHEDULED : Fld := ⟨0x8001008, 8, 0x0⟩
def Reg.FRM_STATE_GENERATIONS : Fld := ⟨0x8001010, 4, 0x0⟩
-- FRM_FRAME (15_frames_and_live_change.md)
def Reg.FRM_FRAME_STATE (f : Nat) : Fld := ⟨(0x40100 + 0x10 * f) * 512 + 0, 3, 0x0⟩
def Reg.FRM_FRAME_MAILBOX (f : Nat) : Fld := ⟨(0x40100 + 0x10 * f) * 512 + 8, 6, 0x0⟩
def Reg.FRM_FRAME_ENTRIES (f : Nat) : Fld := ⟨(0x40100 + 0x10 * f) * 512 + 16, 11, 0x0⟩
def Reg.FRM_FRAME_CHECK (f : Nat) : Fld := ⟨(0x40100 + 0x10 * f) * 512 + 32, 16, 0x0⟩
-- FRM_FRAME_EPOCH (15_frames_and_live_change.md)
def Reg.FRM_FRAME_EPOCH_EPOCH (f : Nat) : Fld := ⟨(0x40108 + 0x10 * f) * 512 + 0, 64, 0x0⟩
-- FRM_LAST_PEG (15_frames_and_live_change.md)
def Reg.FRM_LAST_PEG_EPOCH : Fld := ⟨0x8040000, 64, 0x0⟩
-- FRM_UNIT_CTL (15_frames_and_live_change.md)
def Reg.FRM_UNIT_CTL_ACTION (u : Nat) : Fld := ⟨(0x41000 + 0x4 * u) * 512 + 0, 2, 0x0⟩
-- FRM_UNIT_STATE (15_frames_and_live_change.md)
def Reg.FRM_UNIT_STATE_STATE (u : Nat) : Fld := ⟨(0x41200 + 0x4 * u) * 512 + 0, 3, 0x0⟩
def Reg.FRM_UNIT_STATE_CAUSE (u : Nat) : Fld := ⟨(0x41200 + 0x4 * u) * 512 + 3, 2, 0x0⟩
def Reg.FRM_UNIT_STATE_PROGRESS (u : Nat) : Fld := ⟨(0x41200 + 0x4 * u) * 512 + 8, 10, 0x0⟩
-- FRM_STAT (15_frames_and_live_change.md)
def Reg.FRM_STAT_COUNT (k : Nat) : Fld := ⟨(0x42000 + 0x8 * k) * 512 + 0, 64, 0x0⟩

/-- The register map of block FRM (R584). -/
def regTableFrm : List RegDef := [
  ⟨0x40000, [], 32, [⟨0, 10, .rw, 0x014⟩, ⟨10, 6, .rw, 0x28⟩]⟩,
  ⟨0x40004, [], 32, [⟨0, 1, .rwl, 0x1⟩, ⟨1, 1, .rwl, 0x1⟩, ⟨2, 1, .ro, 0x0⟩]⟩,
  ⟨0x40008, [], 32, [⟨0, 8, .ro, 0x0⟩, ⟨8, 8, .ro, 0x0⟩, ⟨16, 4, .ro, 0x0⟩]⟩,
  ⟨0x40100, [(0x10, 8)], 64, [⟨0, 3, .ro, 0x0⟩, ⟨8, 6, .ro, 0x0⟩, ⟨16, 11, .ro, 0x0⟩, ⟨32, 16, .ro, 0x0⟩]⟩,
  ⟨0x40108, [(0x10, 8)], 64, [⟨0, 64, .ro, 0x0⟩]⟩,
  ⟨0x40200, [], 64, [⟨0, 64, .ro, 0x0⟩]⟩,
  ⟨0x41000, [(0x4, 66)], 32, [⟨0, 2, .rw, 0x0⟩]⟩,
  ⟨0x41200, [(0x4, 66)], 32, [⟨0, 3, .ro, 0x0⟩, ⟨3, 2, .ro, 0x0⟩, ⟨8, 10, .ro, 0x0⟩]⟩,
  ⟨0x42000, [(0x8, 8)], 64, [⟨0, 64, .ro, 0x0⟩]⟩]


/-! ### Block PWR -/

-- PWR_IN_STATE (16_power_headgate_spill.md)
def Reg.PWR_IN_STATE_VIN : Fld := ⟨0x10000000, 16, 0x0⟩
def Reg.PWR_IN_STATE_IIN : Fld := ⟨0x10000010, 16, 0x0⟩
def Reg.PWR_IN_STATE_PIN : Fld := ⟨0x10000020, 16, 0x0⟩
def Reg.PWR_IN_STATE_IN_OK : Fld := ⟨0x10000030, 1, 0x0⟩
def Reg.PWR_IN_STATE_OV : Fld := ⟨0x10000031, 1, 0x0⟩
def Reg.PWR_IN_STATE_ISOLATED : Fld := ⟨0x10000032, 1, 0x0⟩
-- PWR_BANK_STATE (16_power_headgate_spill.md)
def Reg.PWR_BANK_STATE_VBANK : Fld := ⟨0x10001000, 16, 0x0⟩
def Reg.PWR_BANK_STATE_STATE : Fld := ⟨0x10001010, 2, 0x0⟩
def Reg.PWR_BANK_STATE_BELOW_VREQ : Fld := ⟨0x10001012, 1, 0x0⟩
def Reg.PWR_BANK_STATE_VREQ : Fld := ⟨0x10001020, 16, 0x0⟩
-- PWR_BANK_MEAS (16_power_headgate_spill.md)
def Reg.PWR_BANK_MEAS_C : Fld := ⟨0x10002000, 16, 0x0⟩
def Reg.PWR_BANK_MEAS_ESR : Fld := ⟨0x10002010, 16, 0x0⟩
def Reg.PWR_BANK_MEAS_E : Fld := ⟨0x10002020, 16, 0x0⟩
def Reg.PWR_BANK_MEAS_AGE_DAYS : Fld := ⟨0x10002030, 16, 0x0⟩
-- PWR_BANK_CFG (16_power_headgate_spill.md)
def Reg.PWR_BANK_CFG_TEST_DAYS : Fld := ⟨0x10003000, 5, 0x1E⟩
-- PWR_HG_CFG (16_power_headgate_spill.md)
def Reg.PWR_HG_CFG_HEAVY_W : Fld := ⟨0x10020000, 9, 0x078⟩
def Reg.PWR_HG_CFG_LIMIT_W : Fld := ⟨0x10020009, 9, 0x15E⟩
def Reg.PWR_HG_CFG_RESERVE : Fld := ⟨0x10020012, 12, 0x190⟩
-- PWR_HG_STATE (16_power_headgate_spill.md)
def Reg.PWR_HG_STATE_ALLOWANCE : Fld := ⟨0x10021000, 13, 0x0⟩
def Reg.PWR_HG_STATE_GRANTED : Fld := ⟨0x1002100D, 13, 0x0⟩
def Reg.PWR_HG_STATE_STOPPED : Fld := ⟨0x1002101A, 1, 0x0⟩
def Reg.PWR_HG_STATE_WITHDRAWN : Fld := ⟨0x1002101B, 1, 0x0⟩
def Reg.PWR_HG_STATE_H0_WAITING : Fld := ⟨0x10021020, 8, 0x0⟩
def Reg.PWR_HG_STATE_H1_WAITING : Fld := ⟨0x10021028, 8, 0x0⟩
-- PWR_HG_STAT (16_power_headgate_spill.md)
def Reg.PWR_HG_STAT_COUNT (k : Nat) : Fld := ⟨(0x80140 + 0x8 * k) * 512 + 0, 64, 0x0⟩
-- PWR_THERM_CFG (16_power_headgate_spill.md)
def Reg.PWR_THERM_CFG_LEVEL1_C : Fld := ⟨0x10040000, 7, 0x5F⟩
-- PWR_THERM_STATE (16_power_headgate_spill.md)
def Reg.PWR_THERM_STATE_MAX_C : Fld := ⟨0x10041000, 8, 0x0⟩
def Reg.PWR_THERM_STATE_LID_C : Fld := ⟨0x10041008, 8, 0x0⟩
def Reg.PWR_THERM_STATE_LEVEL : Fld := ⟨0x10041010, 2, 0x0⟩
def Reg.PWR_THERM_STATE_INVALID : Fld := ⟨0x10041012, 6, 0x0⟩
-- PWR_TEMP (16_power_headgate_spill.md)
def Reg.PWR_TEMP_TEMP_C (s : Nat) : Fld := ⟨(0x80300 + 0x4 * s) * 512 + 0, 8, 0x0⟩
def Reg.PWR_TEMP_VALID (s : Nat) : Fld := ⟨(0x80300 + 0x4 * s) * 512 + 8, 1, 0x0⟩
-- PWR_STAT (16_power_headgate_spill.md)
def Reg.PWR_STAT_COUNT (k : Nat) : Fld := ⟨(0x80400 + 0x8 * k) * 512 + 0, 64, 0x0⟩
-- PWR_SPILL_LOG (16_power_headgate_spill.md)
def Reg.PWR_SPILL_LOG_DURATION_US : Fld := ⟨0x10090000, 32, 0x0⟩
def Reg.PWR_SPILL_LOG_ENERGY : Fld := ⟨0x10090020, 16, 0x0⟩
def Reg.PWR_SPILL_LOG_VBANK_END : Fld := ⟨0x10090030, 16, 0x0⟩

/-- The register map of block PWR (R584). -/
def regTablePwr : List RegDef := [
  ⟨0x80000, [], 64, [⟨0, 16, .ro, 0x0⟩, ⟨16, 16, .ro, 0x0⟩, ⟨32, 16, .ro, 0x0⟩, ⟨48, 1, .ro, 0x0⟩, ⟨49, 1, .ro, 0x0⟩, ⟨50, 1, .ro, 0x0⟩]⟩,
  ⟨0x80008, [], 64, [⟨0, 16, .ro, 0x0⟩, ⟨16, 2, .ro, 0x0⟩, ⟨18, 1, .ro, 0x0⟩, ⟨32, 16, .ro, 0x0⟩]⟩,
  ⟨0x80010, [], 64, [⟨0, 16, .ro, 0x0⟩, ⟨16, 16, .ro, 0x0⟩, ⟨32, 16, .ro, 0x0⟩, ⟨48, 16, .ro, 0x0⟩]⟩,
  ⟨0x80018, [], 32, [⟨0, 5, .rw, 0x1E⟩]⟩,
  ⟨0x80100, [], 32, [⟨0, 9, .rw, 0x078⟩, ⟨9, 9, .rw, 0x15E⟩, ⟨18, 12, .rw, 0x190⟩]⟩,
  ⟨0x80108, [], 64, [⟨0, 13, .ro, 0x0⟩, ⟨13, 13, .ro, 0x0⟩, ⟨26, 1, .ro, 0x0⟩, ⟨27, 1, .ro, 0x0⟩, ⟨32, 8, .ro, 0x0⟩, ⟨40, 8, .ro, 0x0⟩]⟩,
  ⟨0x80140, [(0x8, 6)], 64, [⟨0, 64, .ro, 0x0⟩]⟩,
  ⟨0x80200, [], 32, [⟨0, 7, .rw, 0x5F⟩]⟩,
  ⟨0x80208, [], 32, [⟨0, 8, .ro, 0x0⟩, ⟨8, 8, .ro, 0x0⟩, ⟨16, 2, .ro, 0x0⟩, ⟨18, 6, .ro, 0x0⟩]⟩,
  ⟨0x80300, [(0x4, 35)], 32, [⟨0, 8, .ro, 0x0⟩, ⟨8, 1, .ro, 0x0⟩]⟩,
  ⟨0x80400, [(0x8, 8)], 64, [⟨0, 64, .ro, 0x0⟩]⟩,
  ⟨0x80480, [], 64, [⟨0, 32, .ro, 0x0⟩, ⟨32, 16, .ro, 0x0⟩, ⟨48, 16, .ro, 0x0⟩]⟩]


/-! ### Block CLK -/

-- CLK_EPOCH (20_register_index.md)
def Reg.CLK_EPOCH_EPOCH : Fld := ⟨0x14000000, 64, 0x0⟩
-- CLK_STATE (20_register_index.md)
def Reg.CLK_STATE_RUNNING : Fld := ⟨0x14001000, 5, 0x0⟩
def Reg.CLK_STATE_FREEZE : Fld := ⟨0x14001005, 1, 0x0⟩
-- CLK_ISLAND (20_register_index.md)
def Reg.CLK_ISLAND_RUNNING (i : Nat) : Fld := ⟨(0xA0100 + 0x8 * i) * 512 + 0, 1, 0x0⟩
def Reg.CLK_ISLAND_LAG (i : Nat) : Fld := ⟨(0xA0100 + 0x8 * i) * 512 + 16, 16, 0x0⟩
def Reg.CLK_ISLAND_MHZ (i : Nat) : Fld := ⟨(0xA0100 + 0x8 * i) * 512 + 32, 16, 0x0⟩

/-- The register map of block CLK (R584). -/
def regTableClk : List RegDef := [
  ⟨0xA0000, [], 64, [⟨0, 64, .ro, 0x0⟩]⟩,
  ⟨0xA0008, [], 32, [⟨0, 5, .ro, 0x0⟩, ⟨5, 1, .ro, 0x0⟩]⟩,
  ⟨0xA0100, [(0x8, 28)], 64, [⟨0, 1, .ro, 0x0⟩, ⟨16, 16, .ro, 0x0⟩, ⟨32, 16, .ro, 0x0⟩]⟩]


/-! ### Block EVR -/

-- EVR_CFG (19_event_recorder_and_freeze.md)
def Reg.EVR_CFG_FLUSH_S : Fld := ⟨0x18000000, 6, 0x0A⟩
-- EVR_STATE (19_event_recorder_and_freeze.md)
def Reg.EVR_STATE_BUFFERED : Fld := ⟨0x18001000, 13, 0x0⟩
def Reg.EVR_STATE_OPEN : Fld := ⟨0x1800100D, 13, 0x0⟩
def Reg.EVR_STATE_STOPPED : Fld := ⟨0x1800101A, 1, 0x0⟩
def Reg.EVR_STATE_STORE_ONLINE : Fld := ⟨0x1800101B, 1, 0x0⟩
def Reg.EVR_STATE_WRAPPED : Fld := ⟨0x1800101C, 1, 0x0⟩
-- EVR_SEQ (19_event_recorder_and_freeze.md)
def Reg.EVR_SEQ_SEQ (k : Nat) : Fld := ⟨(0xC0010 + 0x8 * k) * 512 + 0, 64, 0x0⟩
-- EVR_TIME (19_event_recorder_and_freeze.md)
def Reg.EVR_TIME_OP_TIME_MS : Fld := ⟨0x18004000, 64, 0x0⟩
-- EVR_STAT (19_event_recorder_and_freeze.md)
def Reg.EVR_STAT_COUNT (k : Nat) : Fld := ⟨(0xC0100 + 0x8 * k) * 512 + 0, 64, 0x0⟩

/-- The register map of block EVR (R584). -/
def regTableEvr : List RegDef := [
  ⟨0xC0000, [], 32, [⟨0, 6, .rw, 0x0A⟩]⟩,
  ⟨0xC0008, [], 32, [⟨0, 13, .ro, 0x0⟩, ⟨13, 13, .ro, 0x0⟩, ⟨26, 1, .ro, 0x0⟩, ⟨27, 1, .ro, 0x0⟩, ⟨28, 1, .ro, 0x0⟩]⟩,
  ⟨0xC0010, [(0x8, 2)], 64, [⟨0, 64, .ro, 0x0⟩]⟩,
  ⟨0xC0020, [], 64, [⟨0, 64, .ro, 0x0⟩]⟩,
  ⟨0xC0100, [(0x8, 6)], 64, [⟨0, 64, .ro, 0x0⟩]⟩]


/-! ### Block YRD -/

-- YRD_POOL_CFG (12_yard_and_ditches.md)
def Reg.YRD_POOL_CFG_COUNT (p : Nat) : Fld := ⟨(0x100000 + 0x10 * p) * 512 + 0, 28, yardPoolCount p⟩
def Reg.YRD_POOL_CFG_STACK (p : Nat) : Fld := ⟨(0x100000 + 0x10 * p) * 512 + 28, 2, yardPoolStack p⟩
-- YRD_POOL_CTL (12_yard_and_ditches.md)
def Reg.YRD_POOL_CTL_USERS (p : Nat) : Fld := ⟨(0x100004 + 0x10 * p) * 512 + 0, 8, 0x7F⟩
-- YRD_POOL_STATE (12_yard_and_ditches.md)
def Reg.YRD_POOL_STATE_FREE (p : Nat) : Fld := ⟨(0x100008 + 0x10 * p) * 512 + 0, 28, 0x0⟩
def Reg.YRD_POOL_STATE_LOST (p : Nat) : Fld := ⟨(0x100008 + 0x10 * p) * 512 + 28, 1, 0x0⟩
def Reg.YRD_POOL_STATE_LOW_FREE (p : Nat) : Fld := ⟨(0x100008 + 0x10 * p) * 512 + 32, 28, 0x0⟩
-- YRD_STAT (12_yard_and_ditches.md)
def Reg.YRD_STAT_COUNT (p k : Nat) : Fld := ⟨(0x101000 + 0x40 * p + 0x8 * k) * 512 + 0, 64, 0x0⟩
-- YRD_FAULT_LOG (12_yard_and_ditches.md)
def Reg.YRD_FAULT_LOG_HANDLE : Fld := ⟨0x20400000, 32, 0x0⟩
def Reg.YRD_FAULT_LOG_CALLER : Fld := ⟨0x20400020, 16, 0x0⟩
def Reg.YRD_FAULT_LOG_STATUS : Fld := ⟨0x20400030, 16, 0x0⟩

/-- The register map of block YRD (R584). -/
def regTableYrd : List RegDef := [
  ⟨0x100000, [], 32, [⟨0, 28, .rw, 0x80000⟩, ⟨28, 2, .rw, 0x1⟩]⟩,
  ⟨0x100010, [], 32, [⟨0, 28, .rw, 0x80000⟩, ⟨28, 2, .rw, 0x3⟩]⟩,
  ⟨0x100020, [], 32, [⟨0, 28, .rw, 0x0⟩, ⟨28, 2, .rw, 0x3⟩]⟩,
  ⟨0x100030, [], 32, [⟨0, 28, .rw, 0x0⟩, ⟨28, 2, .rw, 0x3⟩]⟩,
  ⟨0x100040, [], 32, [⟨0, 28, .rw, 0x20000⟩, ⟨28, 2, .rw, 0x1⟩]⟩,
  ⟨0x100050, [], 32, [⟨0, 28, .rw, 0x20000⟩, ⟨28, 2, .rw, 0x3⟩]⟩,
  ⟨0x100060, [], 32, [⟨0, 28, .rw, 0x0⟩, ⟨28, 2, .rw, 0x3⟩]⟩,
  ⟨0x100070, [], 32, [⟨0, 28, .rw, 0x0⟩, ⟨28, 2, .rw, 0x3⟩]⟩,
  ⟨0x100080, [], 32, [⟨0, 28, .rw, 0x2000⟩, ⟨28, 2, .rw, 0x1⟩]⟩,
  ⟨0x100090, [], 32, [⟨0, 28, .rw, 0x2000⟩, ⟨28, 2, .rw, 0x3⟩]⟩,
  ⟨0x1000A0, [], 32, [⟨0, 28, .rw, 0x0⟩, ⟨28, 2, .rw, 0x3⟩]⟩,
  ⟨0x1000B0, [], 32, [⟨0, 28, .rw, 0x0⟩, ⟨28, 2, .rw, 0x3⟩]⟩,
  ⟨0x1000C0, [], 32, [⟨0, 28, .rw, 0x100⟩, ⟨28, 2, .rw, 0x1⟩]⟩,
  ⟨0x1000D0, [], 32, [⟨0, 28, .rw, 0x100⟩, ⟨28, 2, .rw, 0x3⟩]⟩,
  ⟨0x1000E0, [], 32, [⟨0, 28, .rw, 0x0⟩, ⟨28, 2, .rw, 0x3⟩]⟩,
  ⟨0x1000F0, [], 32, [⟨0, 28, .rw, 0x0⟩, ⟨28, 2, .rw, 0x3⟩]⟩,
  ⟨0x100004, [(0x10, 16)], 32, [⟨0, 8, .rw, 0x7F⟩]⟩,
  ⟨0x100008, [(0x10, 16)], 64, [⟨0, 28, .ro, 0x0⟩, ⟨28, 1, .ro, 0x0⟩, ⟨32, 28, .ro, 0x0⟩]⟩,
  ⟨0x101000, [(0x40, 16), (0x8, 6)], 64, [⟨0, 64, .ro, 0x0⟩]⟩,
  ⟨0x102000, [], 64, [⟨0, 32, .ro, 0x0⟩, ⟨32, 16, .ro, 0x0⟩, ⟨48, 16, .ro, 0x0⟩]⟩]


/-! ### Block DQM -/

-- DQM_CFG (12_yard_and_ditches.md)
def Reg.DQM_CFG_LOW_CELLS : Fld := ⟨0x28000000, 23, 0x010000⟩
-- DQM_STATE (12_yard_and_ditches.md)
def Reg.DQM_STATE_ONDIE_FREE : Fld := ⟨0x28001000, 17, 0x0⟩
def Reg.DQM_STATE_LOFT_FREE : Fld := ⟨0x28001020, 23, 0x0⟩
def Reg.DQM_STATE_LOW : Fld := ⟨0x28001037, 1, 0x0⟩
-- DQM_STATE2 (12_yard_and_ditches.md)
def Reg.DQM_STATE2_QUEUES_OPEN : Fld := ⟨0x28002000, 17, 0x0⟩
def Reg.DQM_STATE2_OPEN_PACKETS : Fld := ⟨0x28002020, 15, 0x0⟩
-- DQM_STAT (12_yard_and_ditches.md)
def Reg.DQM_STAT_COUNT (k : Nat) : Fld := ⟨(0x140100 + 0x8 * k) * 512 + 0, 64, 0x0⟩
-- DQM_LP_STATE (12_yard_and_ditches.md)
def Reg.DQM_LP_STATE_BANK0 (n : Nat) : Fld := ⟨(0x141000 + 0x10 * n) * 512 + 0, 2, 0x0⟩
def Reg.DQM_LP_STATE_BANK1 (n : Nat) : Fld := ⟨(0x141000 + 0x10 * n) * 512 + 2, 2, 0x0⟩
def Reg.DQM_LP_STATE_FILL_WAIT (n : Nat) : Fld := ⟨(0x141000 + 0x10 * n) * 512 + 4, 1, 0x0⟩
def Reg.DQM_LP_STATE_DRAIN_WAIT (n : Nat) : Fld := ⟨(0x141000 + 0x10 * n) * 512 + 5, 1, 0x0⟩
-- DQM_LP_STAT (12_yard_and_ditches.md)
def Reg.DQM_LP_STAT_SWAPS (n : Nat) : Fld := ⟨(0x141008 + 0x10 * n) * 512 + 0, 64, 0x0⟩

/-- The register map of block DQM (R584). -/
def regTableDqm : List RegDef := [
  ⟨0x140000, [], 32, [⟨0, 23, .rw, 0x010000⟩]⟩,
  ⟨0x140008, [], 64, [⟨0, 17, .ro, 0x0⟩, ⟨32, 23, .ro, 0x0⟩, ⟨55, 1, .ro, 0x0⟩]⟩,
  ⟨0x140010, [], 64, [⟨0, 17, .ro, 0x0⟩, ⟨32, 15, .ro, 0x0⟩]⟩,
  ⟨0x140100, [(0x8, 8)], 64, [⟨0, 64, .ro, 0x0⟩]⟩,
  ⟨0x141000, [(0x10, 38)], 32, [⟨0, 2, .ro, 0x0⟩, ⟨2, 2, .ro, 0x0⟩, ⟨4, 1, .ro, 0x0⟩, ⟨5, 1, .ro, 0x0⟩]⟩,
  ⟨0x141008, [(0x10, 38)], 64, [⟨0, 64, .ro, 0x0⟩]⟩]


/-! ### Block BCH -/

-- BCH_CFG (06_bench_cache.md)
def Reg.BCH_CFG_META_WAYS : Fld := ⟨0x30000000, 4, 0x6⟩
def Reg.BCH_CFG_FILL_BLOCK : Fld := ⟨0x30000004, 1, 0x1⟩
def Reg.BCH_CFG_STREAM_OLD : Fld := ⟨0x30000005, 1, 0x1⟩
def Reg.BCH_CFG_PARITY_LIMIT : Fld := ⟨0x30000008, 8, 0x40⟩
-- BCH_BANK_CTL (06_bench_cache.md)
def Reg.BCH_BANK_CTL_ENABLE (b : Nat) : Fld := ⟨(0x181000 + 0x40 * b) * 512 + 0, 1, 0x0⟩
def Reg.BCH_BANK_CTL_INVALIDATE (b : Nat) : Fld := ⟨(0x181000 + 0x40 * b) * 512 + 1, 1, 0x0⟩
-- BCH_BANK_STATE (06_bench_cache.md)
def Reg.BCH_BANK_STATE_STATE (b : Nat) : Fld := ⟨(0x181004 + 0x40 * b) * 512 + 0, 2, 0x0⟩
def Reg.BCH_BANK_STATE_INVALIDATED (b : Nat) : Fld := ⟨(0x181004 + 0x40 * b) * 512 + 2, 1, 0x0⟩
def Reg.BCH_BANK_STATE_AUTO_DISABLED (b : Nat) : Fld := ⟨(0x181004 + 0x40 * b) * 512 + 3, 1, 0x0⟩
def Reg.BCH_BANK_STATE_DIRTY_BLOCKS (b : Nat) : Fld := ⟨(0x181004 + 0x40 * b) * 512 + 16, 14, 0x0⟩
-- BCH_MAINT_OP (06_bench_cache.md)
def Reg.BCH_MAINT_OP_OP : Fld := ⟨0x30400000, 2, 0x0⟩
def Reg.BCH_MAINT_OP_SCOPE : Fld := ⟨0x30400002, 1, 0x0⟩
def Reg.BCH_MAINT_OP_SPACE : Fld := ⟨0x30400003, 1, 0x0⟩
def Reg.BCH_MAINT_OP_GO : Fld := ⟨0x30400004, 1, 0x0⟩
def Reg.BCH_MAINT_OP_BUSY : Fld := ⟨0x30400005, 1, 0x0⟩
def Reg.BCH_MAINT_OP_STATUS : Fld := ⟨0x30400010, 16, 0x0⟩
-- BCH_MAINT_ADDR (06_bench_cache.md)
def Reg.BCH_MAINT_ADDR_LINE : Fld := ⟨0x30401006, 42, 0x0⟩
-- BCH_MAINT_LEN (06_bench_cache.md)
def Reg.BCH_MAINT_LEN_LENGTH : Fld := ⟨0x30402000, 49, 0x0⟩
-- BCH_VB_STATE (06_bench_cache.md)
def Reg.BCH_VB_STATE_IN_USE : Fld := ⟨0x30600000, 7, 0x0⟩
def Reg.BCH_VB_STATE_FULL_WAIT : Fld := ⟨0x30600007, 1, 0x0⟩
-- BCH_PAR_LOG (06_bench_cache.md)
def Reg.BCH_PAR_LOG_BANK : Fld := ⟨0x30601000, 4, 0x0⟩
def Reg.BCH_PAR_LOG_SET : Fld := ⟨0x30601004, 10, 0x0⟩
def Reg.BCH_PAR_LOG_WAY : Fld := ⟨0x3060100E, 4, 0x0⟩
def Reg.BCH_PAR_LOG_SECTOR : Fld := ⟨0x30601012, 2, 0x0⟩
def Reg.BCH_PAR_LOG_TAG : Fld := ⟨0x30601014, 1, 0x0⟩
def Reg.BCH_PAR_LOG_DIRTY : Fld := ⟨0x30601015, 1, 0x0⟩
def Reg.BCH_PAR_LOG_VICTIM : Fld := ⟨0x30601016, 1, 0x0⟩
def Reg.BCH_PAR_LOG_EPOCH_LOW : Fld := ⟨0x30601020, 32, 0x0⟩
-- BCH_STAT (06_bench_cache.md)
def Reg.BCH_STAT_COUNT (b k : Nat) : Fld := ⟨(0x184000 + 0x100 * b + 0x8 * k) * 512 + 0, 64, 0x0⟩

/-- The register map of block BCH (R584). -/
def regTableBch : List RegDef := [
  ⟨0x180000, [], 32, [⟨0, 4, .rw, 0x6⟩, ⟨4, 1, .rw, 0x1⟩, ⟨5, 1, .rw, 0x1⟩, ⟨8, 8, .rw, 0x40⟩]⟩,
  ⟨0x181000, [(0x40, 16)], 32, [⟨0, 1, .rw, 0x0⟩, ⟨1, 1, .w1p, 0x0⟩]⟩,
  ⟨0x181004, [(0x40, 16)], 32, [⟨0, 2, .ro, 0x0⟩, ⟨2, 1, .ro, 0x0⟩, ⟨3, 1, .ro, 0x0⟩, ⟨16, 14, .ro, 0x0⟩]⟩,
  ⟨0x182000, [], 32, [⟨0, 2, .rw, 0x0⟩, ⟨2, 1, .rw, 0x0⟩, ⟨3, 1, .rw, 0x0⟩, ⟨4, 1, .w1p, 0x0⟩, ⟨5, 1, .ro, 0x0⟩, ⟨16, 16, .ro, 0x0⟩]⟩,
  ⟨0x182008, [], 64, [⟨6, 42, .rw, 0x0⟩]⟩,
  ⟨0x182010, [], 64, [⟨0, 49, .rw, 0x0⟩]⟩,
  ⟨0x183000, [], 32, [⟨0, 7, .ro, 0x0⟩, ⟨7, 1, .ro, 0x0⟩]⟩,
  ⟨0x183008, [], 64, [⟨0, 4, .ro, 0x0⟩, ⟨4, 10, .ro, 0x0⟩, ⟨14, 4, .ro, 0x0⟩, ⟨18, 2, .ro, 0x0⟩, ⟨20, 1, .ro, 0x0⟩, ⟨21, 1, .ro, 0x0⟩, ⟨22, 1, .ro, 0x0⟩, ⟨32, 32, .ro, 0x0⟩]⟩,
  ⟨0x184000, [(0x100, 16), (0x8, 10)], 64, [⟨0, 64, .ro, 0x0⟩]⟩]


/-! ### Block TIR -/

-- TIR_CST_CFG (03_cistern.md)
def Reg.TIR_CST_CFG_SIZE_GIB : Fld := ⟨0x38000000, 6, 0x18⟩
def Reg.TIR_CST_CFG_STACKS : Fld := ⟨0x38000006, 2, 0x0⟩
def Reg.TIR_CST_CFG_PACE : Fld := ⟨0x38000008, 4, 0xE⟩
-- TIR_CST_LIMIT (03_cistern.md)
def Reg.TIR_CST_LIMIT_LIMIT_GIB : Fld := ⟨0x38000800, 6, 0x0⟩
def Reg.TIR_CST_LIMIT_EFFECTIVE_GIB : Fld := ⟨0x38000808, 6, 0x0⟩
def Reg.TIR_CST_LIMIT_E_MEASURED : Fld := ⟨0x38000810, 16, 0x0⟩
-- TIR_CST_STATE (03_cistern.md)
def Reg.TIR_CST_STATE_ADMIT : Fld := ⟨0x38001000, 2, 0x3⟩
def Reg.TIR_CST_STATE_TWIN_ADMIT : Fld := ⟨0x38001002, 2, 0x3⟩
def Reg.TIR_CST_STATE_PAIR_ADMIT : Fld := ⟨0x38001004, 2, 0x3⟩
def Reg.TIR_CST_STATE_COPIES : Fld := ⟨0x38001006, 2, 0x0⟩
def Reg.TIR_CST_STATE_FILL : Fld := ⟨0x38001008, 10, 0x0⟩
def Reg.TIR_CST_STATE_GPF_ACTIVE : Fld := ⟨0x38001014, 1, 0x0⟩
-- TIR_CST_HEAD (03_cistern.md)
def Reg.TIR_CST_HEAD_POS : Fld := ⟨0x38002000, 64, 0x0⟩
-- TIR_CST_TAIL (03_cistern.md)
def Reg.TIR_CST_TAIL_POS : Fld := ⟨0x38003000, 64, 0x0⟩
-- TIR_CST_OCC (03_cistern.md)
def Reg.TIR_CST_OCC_BYTES : Fld := ⟨0x38004000, 36, 0x0⟩
-- TIR_CST_STAT (03_cistern.md)
def Reg.TIR_CST_STAT_COUNT (k : Nat) : Fld := ⟨(0x1C0040 + 0x8 * k) * 512 + 0, 64, 0x0⟩
-- TIR_DRN_CFG (03_cistern.md)
def Reg.TIR_DRN_CFG_FLOOR : Fld := ⟨0x38080000, 7, 0x05⟩
def Reg.TIR_DRN_CFG_MAX_PACKS : Fld := ⟨0x38080008, 12, 0x400⟩
-- TIR_DRN_STATE (03_cistern.md)
def Reg.TIR_DRN_STATE_PACKS : Fld := ⟨0x38080800, 12, 0x0⟩
def Reg.TIR_DRN_STATE_HG_WAIT : Fld := ⟨0x3808080C, 1, 0x0⟩
def Reg.TIR_DRN_STATE_STOPPED : Fld := ⟨0x3808080D, 1, 0x1⟩
def Reg.TIR_DRN_STATE_RATE : Fld := ⟨0x38080810, 16, 0x0⟩
-- TIR_DRN_STAT (03_cistern.md)
def Reg.TIR_DRN_STAT_COUNT (k : Nat) : Fld := ⟨(0x1C0440 + 0x8 * k) * 512 + 0, 64, 0x0⟩
-- TIR_XLT_TAIL (03_cistern.md)
def Reg.TIR_XLT_TAIL_RECORDS : Fld := ⟨0x38090000, 32, 0x0⟩
def Reg.TIR_XLT_TAIL_DIRTY_PAGES : Fld := ⟨0x38090020, 32, 0x0⟩
-- TIR_HAS_CFG (02_memory_model.md)
def Reg.TIR_HAS_CFG_REACH_LIMIT : Fld := ⟨0x38FE0000, 13, 0x0⟩
def Reg.TIR_HAS_CFG_PAIR_POS : Fld := ⟨0x38FE000D, 1, 0x0⟩
def Reg.TIR_HAS_CFG_VOL_LIMIT : Fld := ⟨0x38FE0010, 13, 0x0⟩
-- TIR_REACH (02_memory_model.md)
def Reg.TIR_REACH_STATE (n : Nat) : Fld := ⟨(0x1C8000 + 0x8 * n) * 512 + 0, 3, 0x0⟩
def Reg.TIR_REACH_KIND (n : Nat) : Fld := ⟨(0x1C8000 + 0x8 * n) * 512 + 3, 1, 0x0⟩
def Reg.TIR_REACH_OWNER (n : Nat) : Fld := ⟨(0x1C8000 + 0x8 * n) * 512 + 4, 1, 0x0⟩
def Reg.TIR_REACH_LOCAL_OWNED (n : Nat) : Fld := ⟨(0x1C8000 + 0x8 * n) * 512 + 5, 1, 0x0⟩
def Reg.TIR_REACH_TWIN_LOCAL (n : Nat) : Fld := ⟨(0x1C8000 + 0x8 * n) * 512 + 6, 1, 0x0⟩
def Reg.TIR_REACH_WINDOWS (n : Nat) : Fld := ⟨(0x1C8000 + 0x8 * n) * 512 + 16, 16, 0x0⟩
def Reg.TIR_REACH_FWD_PENDING (n : Nat) : Fld := ⟨(0x1C8000 + 0x8 * n) * 512 + 32, 16, 0x0⟩
-- TIR_REACH_SEQ (02_memory_model.md)
def Reg.TIR_REACH_SEQ_LAST_SEQ (n : Nat) : Fld := ⟨(0x1D0000 + 0x8 * n) * 512 + 0, 64, 0x0⟩
-- TIR_REACH_ADOPT_SEQ (02_memory_model.md)
def Reg.TIR_REACH_ADOPT_SEQ_SEQ (n : Nat) : Fld := ⟨(0x1D8000 + 0x8 * n) * 512 + 0, 64, 0x0⟩
-- TIR_MOVE_CFG (05_tiers.md)
def Reg.TIR_MOVE_CFG_PROMOTE_AGE : Fld := ⟨0x3C000000, 8, 0x02⟩
def Reg.TIR_MOVE_CFG_FILL_AGE : Fld := ⟨0x3C000008, 8, 0x04⟩
def Reg.TIR_MOVE_CFG_STREAM_AGE : Fld := ⟨0x3C000010, 8, 0xC0⟩
def Reg.TIR_MOVE_CFG_DEMOTE_AGE : Fld := ⟨0x3C000018, 8, 0x80⟩
-- TIR_EVICT_CFG (05_tiers.md)
def Reg.TIR_EVICT_CFG_LOFT_AGE : Fld := ⟨0x3C000800, 8, 0x3C⟩
def Reg.TIR_EVICT_CFG_FLOOR_AGE : Fld := ⟨0x3C000808, 8, 0xFF⟩
def Reg.TIR_EVICT_CFG_LOFT_START : Fld := ⟨0x3C000810, 8, 0x0A⟩
def Reg.TIR_EVICT_CFG_LOFT_STOP : Fld := ⟨0x3C000818, 8, 0x14⟩
-- TIR_EVICT_CFG2 (05_tiers.md)
def Reg.TIR_EVICT_CFG2_FLOOR_START : Fld := ⟨0x3C001000, 8, 0x05⟩
def Reg.TIR_EVICT_CFG2_FLOOR_STOP : Fld := ⟨0x3C001008, 8, 0x0A⟩
def Reg.TIR_EVICT_CFG2_EVICT_RESERVE : Fld := ⟨0x3C001010, 13, 0x400⟩
-- TIR_SWP_CFG (05_tiers.md)
def Reg.TIR_SWP_CFG_PERIOD_MS : Fld := ⟨0x3C001800, 16, 0x03E8⟩
def Reg.TIR_SWP_CFG_ENABLE : Fld := ⟨0x3C001810, 1, 0x1⟩
def Reg.TIR_SWP_CFG_STREAM_RUN : Fld := ⟨0x3C001814, 4, 0x4⟩
-- TIR_LOFT_CFG (05_tiers.md)
def Reg.TIR_LOFT_CFG_META_GIB : Fld := ⟨0x3C002000, 5, 0x08⟩
-- TIR_POOL_SIZE (05_tiers.md)
def Reg.TIR_POOL_SIZE_FRAMES (p : Nat) : Fld := ⟨(0x1E0020 + 0x8 * p) * 512 + 0, 32, 0x0⟩
def Reg.TIR_POOL_SIZE_FREE (p : Nat) : Fld := ⟨(0x1E0020 + 0x8 * p) * 512 + 32, 32, 0x0⟩
-- TIR_POOL_STATE (05_tiers.md)
def Reg.TIR_POOL_STATE_INELIGIBLE (p : Nat) : Fld := ⟨(0x1E0030 + 0x8 * p) * 512 + 0, 32, 0x0⟩
def Reg.TIR_POOL_STATE_CUT (p : Nat) : Fld := ⟨(0x1E0030 + 0x8 * p) * 512 + 32, 4, 0x0⟩
def Reg.TIR_POOL_STATE_EVICTING (p : Nat) : Fld := ⟨(0x1E0030 + 0x8 * p) * 512 + 36, 1, 0x0⟩
def Reg.TIR_POOL_STATE_FRAME_WAIT (p : Nat) : Fld := ⟨(0x1E0030 + 0x8 * p) * 512 + 37, 1, 0x0⟩
-- TIR_AGE_HIST (05_tiers.md)
def Reg.TIR_AGE_HIST_FRAMES (p b : Nat) : Fld := ⟨(0x1E0100 + 0x80 * p + 0x8 * b) * 512 + 0, 32, 0x0⟩
-- TIR_MOVE_SLOTS (05_tiers.md)
def Reg.TIR_MOVE_SLOTS_IN_USE : Fld := ⟨0x3C040000, 15, 0x0⟩
def Reg.TIR_MOVE_SLOTS_EVICT : Fld := ⟨0x3C040010, 15, 0x0⟩
def Reg.TIR_MOVE_SLOTS_RESAW : Fld := ⟨0x3C040020, 15, 0x0⟩
def Reg.TIR_MOVE_SLOTS_PROMOTE : Fld := ⟨0x3C040030, 15, 0x0⟩
-- TIR_SWP_STATE (05_tiers.md)
def Reg.TIR_SWP_STATE_RUNNING : Fld := ⟨0x3C041000, 1, 0x0⟩
def Reg.TIR_SWP_STATE_LAST_MS : Fld := ⟨0x3C041010, 16, 0x0⟩
-- TIR_TIER_STAT (05_tiers.md)
def Reg.TIR_TIER_STAT_COUNT (k : Nat) : Fld := ⟨(0x1E0400 + 0x8 * k) * 512 + 0, 64, 0x0⟩
-- TIR_RSW_CFG (05_tiers.md)
def Reg.TIR_RSW_CFG_START : Fld := ⟨0x3C100000, 7, 0x04⟩
def Reg.TIR_RSW_CFG_STOP : Fld := ⟨0x3C100008, 7, 0x06⟩
def Reg.TIR_RSW_CFG_URGENT : Fld := ⟨0x3C100010, 7, 0x02⟩
def Reg.TIR_RSW_CFG_SHARE : Fld := ⟨0x3C100018, 6, 0x19⟩
-- TIR_RSW_CFG2 (05_tiers.md)
def Reg.TIR_RSW_CFG2_MAX_SLOTS : Fld := ⟨0x3C100800, 13, 0x200⟩
-- TIR_RSW_STATE (05_tiers.md)
def Reg.TIR_RSW_STATE_STATE : Fld := ⟨0x3C101000, 2, 0x0⟩
def Reg.TIR_RSW_STATE_HG_WAIT : Fld := ⟨0x3C101002, 1, 0x0⟩
def Reg.TIR_RSW_STATE_DRAIN_WAIT : Fld := ⟨0x3C101003, 1, 0x0⟩
def Reg.TIR_RSW_STATE_FREE_PERMILLE : Fld := ⟨0x3C101010, 10, 0x0⟩
-- TIR_RSW_STAT (05_tiers.md)
def Reg.TIR_RSW_STAT_COUNT (k : Nat) : Fld := ⟨(0x1E0840 + 0x8 * k) * 512 + 0, 64, 0x0⟩
-- TIR_TEN_USE (05_tiers.md)
def Reg.TIR_TEN_USE_LOFT_FRAMES (t : Nat) : Fld := ⟨(0x1F0000 + 0x8 * t) * 512 + 0, 32, 0x0⟩
def Reg.TIR_TEN_USE_FLOOR_FRAMES (t : Nat) : Fld := ⟨(0x1F0000 + 0x8 * t) * 512 + 32, 32, 0x0⟩

/-- The register map of block TIR (R584). -/
def regTableTir : List RegDef := [
  ⟨0x1C0000, [], 32, [⟨0, 6, .rw, 0x18⟩, ⟨6, 2, .rw, 0x0⟩, ⟨8, 4, .rw, 0xE⟩]⟩,
  ⟨0x1C0004, [], 32, [⟨0, 6, .ro, 0x0⟩, ⟨8, 6, .ro, 0x0⟩, ⟨16, 16, .ro, 0x0⟩]⟩,
  ⟨0x1C0008, [], 32, [⟨0, 2, .ro, 0x3⟩, ⟨2, 2, .ro, 0x3⟩, ⟨4, 2, .ro, 0x3⟩, ⟨6, 2, .ro, 0x0⟩, ⟨8, 10, .ro, 0x0⟩, ⟨20, 1, .ro, 0x0⟩]⟩,
  ⟨0x1C0010, [], 64, [⟨0, 64, .ro, 0x0⟩]⟩,
  ⟨0x1C0018, [], 64, [⟨0, 64, .ro, 0x0⟩]⟩,
  ⟨0x1C0020, [], 64, [⟨0, 36, .ro, 0x0⟩]⟩,
  ⟨0x1C0040, [(0x8, 6)], 64, [⟨0, 64, .ro, 0x0⟩]⟩,
  ⟨0x1C0400, [], 32, [⟨0, 7, .rw, 0x05⟩, ⟨8, 12, .rw, 0x400⟩]⟩,
  ⟨0x1C0404, [], 32, [⟨0, 12, .ro, 0x0⟩, ⟨12, 1, .ro, 0x0⟩, ⟨13, 1, .ro, 0x1⟩, ⟨16, 16, .ro, 0x0⟩]⟩,
  ⟨0x1C0440, [(0x8, 6)], 64, [⟨0, 64, .ro, 0x0⟩]⟩,
  ⟨0x1C0480, [], 64, [⟨0, 32, .ro, 0x0⟩, ⟨32, 32, .ro, 0x0⟩]⟩,
  ⟨0x1C7F00, [], 32, [⟨0, 13, .ro, 0x0⟩, ⟨13, 1, .ro, 0x0⟩, ⟨16, 13, .ro, 0x0⟩]⟩,
  ⟨0x1C8000, [(0x8, 4096)], 64, [⟨0, 3, .ro, 0x0⟩, ⟨3, 1, .ro, 0x0⟩, ⟨4, 1, .ro, 0x0⟩, ⟨5, 1, .ro, 0x0⟩, ⟨6, 1, .ro, 0x0⟩, ⟨16, 16, .ro, 0x0⟩, ⟨32, 16, .ro, 0x0⟩]⟩,
  ⟨0x1D0000, [(0x8, 4096)], 64, [⟨0, 64, .ro, 0x0⟩]⟩,
  ⟨0x1D8000, [(0x8, 4096)], 64, [⟨0, 64, .ro, 0x0⟩]⟩,
  ⟨0x1E0000, [], 32, [⟨0, 8, .rw, 0x02⟩, ⟨8, 8, .rw, 0x04⟩, ⟨16, 8, .rw, 0xC0⟩, ⟨24, 8, .rw, 0x80⟩]⟩,
  ⟨0x1E0004, [], 32, [⟨0, 8, .rw, 0x3C⟩, ⟨8, 8, .rw, 0xFF⟩, ⟨16, 8, .rw, 0x0A⟩, ⟨24, 8, .rw, 0x14⟩]⟩,
  ⟨0x1E0008, [], 32, [⟨0, 8, .rw, 0x05⟩, ⟨8, 8, .rw, 0x0A⟩, ⟨16, 13, .rw, 0x400⟩]⟩,
  ⟨0x1E000C, [], 32, [⟨0, 16, .rw, 0x03E8⟩, ⟨16, 1, .rw, 0x1⟩, ⟨20, 4, .rw, 0x4⟩]⟩,
  ⟨0x1E0010, [], 32, [⟨0, 5, .rw, 0x08⟩]⟩,
  ⟨0x1E0020, [(0x8, 2)], 64, [⟨0, 32, .ro, 0x0⟩, ⟨32, 32, .ro, 0x0⟩]⟩,
  ⟨0x1E0030, [(0x8, 2)], 64, [⟨0, 32, .ro, 0x0⟩, ⟨32, 4, .ro, 0x0⟩, ⟨36, 1, .ro, 0x0⟩, ⟨37, 1, .ro, 0x0⟩]⟩,
  ⟨0x1E0100, [(0x80, 2), (0x8, 16)], 64, [⟨0, 32, .ro, 0x0⟩]⟩,
  ⟨0x1E0200, [], 64, [⟨0, 15, .ro, 0x0⟩, ⟨16, 15, .ro, 0x0⟩, ⟨32, 15, .ro, 0x0⟩, ⟨48, 15, .ro, 0x0⟩]⟩,
  ⟨0x1E0208, [], 32, [⟨0, 1, .ro, 0x0⟩, ⟨16, 16, .ro, 0x0⟩]⟩,
  ⟨0x1E0400, [(0x8, 16)], 64, [⟨0, 64, .ro, 0x0⟩]⟩,
  ⟨0x1E0800, [], 32, [⟨0, 7, .rw, 0x04⟩, ⟨8, 7, .rw, 0x06⟩, ⟨16, 7, .rw, 0x02⟩, ⟨24, 6, .rw, 0x19⟩]⟩,
  ⟨0x1E0804, [], 32, [⟨0, 13, .rw, 0x200⟩]⟩,
  ⟨0x1E0808, [], 32, [⟨0, 2, .ro, 0x0⟩, ⟨2, 1, .ro, 0x0⟩, ⟨3, 1, .ro, 0x0⟩, ⟨16, 10, .ro, 0x0⟩]⟩,
  ⟨0x1E0840, [(0x8, 6)], 64, [⟨0, 64, .ro, 0x0⟩]⟩,
  ⟨0x1F0000, [(0x8, 1024)], 64, [⟨0, 32, .ro, 0x0⟩, ⟨32, 32, .ro, 0x0⟩]⟩]


/-! ### Block ECC -/

-- ECC_CFG (08_data_integrity.md)
def Reg.ECC_CFG_SCRUB_LOFT : Fld := ⟨0x40000000, 1, 0x1⟩
def Reg.ECC_CFG_SCRUB_FLOOR : Fld := ⟨0x40000001, 1, 0x1⟩
def Reg.ECC_CFG_SCRUB_FOOTING : Fld := ⟨0x40000002, 1, 0x1⟩
def Reg.ECC_CFG_REFRESH_BITS : Fld := ⟨0x40000008, 8, 0x40⟩
-- ECC_SCRUB_CFG (08_data_integrity.md)
def Reg.ECC_SCRUB_CFG_LOFT_HOURS : Fld := ⟨0x40000800, 8, 0x01⟩
def Reg.ECC_SCRUB_CFG_FLOOR_HOURS : Fld := ⟨0x40000808, 8, 0x18⟩
def Reg.ECC_SCRUB_CFG_FOOTING_DAYS : Fld := ⟨0x40000810, 8, 0x07⟩
-- ECC_THRESH (08_data_integrity.md)
def Reg.ECC_THRESH_DEV_CE : Fld := ⟨0x40001000, 16, 0x0400⟩
def Reg.ECC_THRESH_CH_UE : Fld := ⟨0x40001010, 8, 0x08⟩
def Reg.ECC_THRESH_STACK_UE : Fld := ⟨0x40001018, 8, 0x10⟩
-- ECC_INIT_STATE (08_data_integrity.md)
def Reg.ECC_INIT_STATE_STATE : Fld := ⟨0x40002000, 2, 0x0⟩
def Reg.ECC_INIT_STATE_HG_WAIT : Fld := ⟨0x40002002, 1, 0x0⟩
def Reg.ECC_INIT_STATE_STACKS_DONE : Fld := ⟨0x40002008, 4, 0x0⟩
def Reg.ECC_INIT_STATE_CHANNELS_DONE : Fld := ⟨0x40002010, 16, 0x0⟩
def Reg.ECC_INIT_STATE_ELAPSED_MS : Fld := ⟨0x40002020, 32, 0x0⟩
-- ECC_SELFTEST (08_data_integrity.md)
def Reg.ECC_SELFTEST_DONE : Fld := ⟨0x40003000, 1, 0x0⟩
def Reg.ECC_SELFTEST_PASS : Fld := ⟨0x40003001, 1, 0x0⟩
def Reg.ECC_SELFTEST_ONDIE_FAIL : Fld := ⟨0x40003002, 1, 0x0⟩
def Reg.ECC_SELFTEST_CISTERN_FAIL : Fld := ⟨0x40003003, 1, 0x0⟩
def Reg.ECC_SELFTEST_LOFT_FAIL : Fld := ⟨0x40003004, 4, 0x0⟩
def Reg.ECC_SELFTEST_FLOOR_FAIL : Fld := ⟨0x40003008, 16, 0x0⟩
def Reg.ECC_SELFTEST_BENCH_FAIL : Fld := ⟨0x40003018, 16, 0x0⟩
-- ECC_SELFTEST_SLC (08_data_integrity.md)
def Reg.ECC_SELFTEST_SLC_SLUICE_FAIL : Fld := ⟨0x40004000, 32, 0x0⟩
-- ECC_SCRUB_STATE (08_data_integrity.md)
def Reg.ECC_SCRUB_STATE_PROGRESS (d : Nat) : Fld := ⟨(0x200100 + 0x8 * d) * 512 + 0, 10, 0x0⟩
def Reg.ECC_SCRUB_STATE_RUNNING (d : Nat) : Fld := ⟨(0x200100 + 0x8 * d) * 512 + 10, 1, 0x0⟩
def Reg.ECC_SCRUB_STATE_LATE (d : Nat) : Fld := ⟨(0x200100 + 0x8 * d) * 512 + 11, 1, 0x0⟩
def Reg.ECC_SCRUB_STATE_PASSES (d : Nat) : Fld := ⟨(0x200100 + 0x8 * d) * 512 + 32, 32, 0x0⟩
-- ECC_LOFT_CNT (08_data_integrity.md)
def Reg.ECC_LOFT_CNT_COUNT (n k : Nat) : Fld := ⟨(0x201000 + 0x40 * n + 0x8 * k) * 512 + 0, 64, 0x0⟩
-- ECC_FLOOR_CNT (08_data_integrity.md)
def Reg.ECC_FLOOR_CNT_COUNT (c k : Nat) : Fld := ⟨(0x202000 + 0x40 * c + 0x8 * k) * 512 + 0, 64, 0x0⟩
-- ECC_DEV_CE (08_data_integrity.md)
def Reg.ECC_DEV_CE_COUNT (c v : Nat) : Fld := ⟨(0x203000 + 0x100 * c + 0x4 * v) * 512 + 0, 32, 0x0⟩
-- ECC_LADDER_STAT (08_data_integrity.md)
def Reg.ECC_LADDER_STAT_COUNT (k : Nat) : Fld := ⟨(0x204000 + 0x8 * k) * 512 + 0, 64, 0x0⟩
-- ECC_POISON_STAT (08_data_integrity.md)
def Reg.ECC_POISON_STAT_COUNT (k : Nat) : Fld := ⟨(0x204080 + 0x8 * k) * 512 + 0, 64, 0x0⟩
-- ECC_CST_STAT (08_data_integrity.md)
def Reg.ECC_CST_STAT_COUNT (k : Nat) : Fld := ⟨(0x204100 + 0x8 * k) * 512 + 0, 64, 0x0⟩
-- ECC_ONDIE_STAT (08_data_integrity.md)
def Reg.ECC_ONDIE_STAT_COUNT (k : Nat) : Fld := ⟨(0x204180 + 0x8 * k) * 512 + 0, 64, 0x0⟩
-- ECC_UE_LOG0 (08_data_integrity.md)
def Reg.ECC_UE_LOG0_DOMAIN : Fld := ⟨0x40A00000, 2, 0x0⟩
def Reg.ECC_UE_LOG0_UNIT : Fld := ⟨0x40A00002, 5, 0x0⟩
def Reg.ECC_UE_LOG0_POISONED : Fld := ⟨0x40A00007, 1, 0x0⟩
def Reg.ECC_UE_LOG0_ADDR : Fld := ⟨0x40A00008, 56, 0x0⟩
-- ECC_UE_LOG1 (08_data_integrity.md)
def Reg.ECC_UE_LOG1_EPOCH : Fld := ⟨0x40A01000, 64, 0x0⟩
-- ECC_INJECT (08_data_integrity.md)
def Reg.ECC_INJECT_DOMAIN : Fld := ⟨0x40C00000, 2, 0x0⟩
def Reg.ECC_INJECT_UNIT : Fld := ⟨0x40C00002, 5, 0x0⟩
def Reg.ECC_INJECT_KIND : Fld := ⟨0x40C00007, 2, 0x0⟩
def Reg.ECC_INJECT_ARM : Fld := ⟨0x40C00009, 1, 0x0⟩

/-- The register map of block ECC (R584). -/
def regTableEcc : List RegDef := [
  ⟨0x200000, [], 32, [⟨0, 1, .rw, 0x1⟩, ⟨1, 1, .rw, 0x1⟩, ⟨2, 1, .rw, 0x1⟩, ⟨8, 8, .rw, 0x40⟩]⟩,
  ⟨0x200004, [], 32, [⟨0, 8, .rw, 0x01⟩, ⟨8, 8, .rw, 0x18⟩, ⟨16, 8, .rw, 0x07⟩]⟩,
  ⟨0x200008, [], 32, [⟨0, 16, .rw, 0x0400⟩, ⟨16, 8, .rw, 0x08⟩, ⟨24, 8, .rw, 0x10⟩]⟩,
  ⟨0x200010, [], 64, [⟨0, 2, .ro, 0x0⟩, ⟨2, 1, .ro, 0x0⟩, ⟨8, 4, .ro, 0x0⟩, ⟨16, 16, .ro, 0x0⟩, ⟨32, 32, .ro, 0x0⟩]⟩,
  ⟨0x200018, [], 64, [⟨0, 1, .ro, 0x0⟩, ⟨1, 1, .ro, 0x0⟩, ⟨2, 1, .ro, 0x0⟩, ⟨3, 1, .ro, 0x0⟩, ⟨4, 4, .ro, 0x0⟩, ⟨8, 16, .ro, 0x0⟩, ⟨24, 16, .ro, 0x0⟩]⟩,
  ⟨0x200020, [], 32, [⟨0, 32, .ro, 0x0⟩]⟩,
  ⟨0x200100, [(0x8, 3)], 64, [⟨0, 10, .ro, 0x0⟩, ⟨10, 1, .ro, 0x0⟩, ⟨11, 1, .ro, 0x0⟩, ⟨32, 32, .ro, 0x0⟩]⟩,
  ⟨0x201000, [(0x40, 4), (0x8, 5)], 64, [⟨0, 64, .ro, 0x0⟩]⟩,
  ⟨0x202000, [(0x40, 16), (0x8, 5)], 64, [⟨0, 64, .ro, 0x0⟩]⟩,
  ⟨0x203000, [(0x100, 16), (0x4, 40)], 32, [⟨0, 32, .ro, 0x0⟩]⟩,
  ⟨0x204000, [(0x8, 8)], 64, [⟨0, 64, .ro, 0x0⟩]⟩,
  ⟨0x204080, [(0x8, 6)], 64, [⟨0, 64, .ro, 0x0⟩]⟩,
  ⟨0x204100, [(0x8, 3)], 64, [⟨0, 64, .ro, 0x0⟩]⟩,
  ⟨0x204180, [(0x8, 2)], 64, [⟨0, 64, .ro, 0x0⟩]⟩,
  ⟨0x205000, [], 64, [⟨0, 2, .ro, 0x0⟩, ⟨2, 5, .ro, 0x0⟩, ⟨7, 1, .ro, 0x0⟩, ⟨8, 56, .ro, 0x0⟩]⟩,
  ⟨0x205008, [], 64, [⟨0, 64, .ro, 0x0⟩]⟩,
  ⟨0x206000, [], 32, [⟨0, 2, .rw, 0x0⟩, ⟨2, 5, .rw, 0x0⟩, ⟨7, 2, .rw, 0x0⟩, ⟨9, 1, .rw, 0x0⟩]⟩]


/-! ### Block CPH -/

-- CPH_CFG (11_cipher_complex.md)
def Reg.CPH_CFG_WEIGHT0 : Fld := ⟨0x48000000, 4, 0x8⟩
def Reg.CPH_CFG_WEIGHT1 : Fld := ⟨0x48000004, 4, 0x4⟩
def Reg.CPH_CFG_WEIGHT2 : Fld := ⟨0x48000008, 4, 0x3⟩
def Reg.CPH_CFG_WEIGHT3 : Fld := ⟨0x4800000C, 4, 0x1⟩
def Reg.CPH_CFG_KAT_PERIOD_MS : Fld := ⟨0x48000010, 12, 0x3E8⟩
-- CPH_STATE (11_cipher_complex.md)
def Reg.CPH_STATE_CORES : Fld := ⟨0x48000800, 5, 0x0⟩
def Reg.CPH_STATE_HOLD_KIB : Fld := ⟨0x48000808, 14, 0x0⟩
def Reg.CPH_STATE_ENTROPY_OK : Fld := ⟨0x48000818, 1, 0x0⟩
def Reg.CPH_STATE_JRNL_HALF : Fld := ⟨0x48000819, 1, 0x0⟩
def Reg.CPH_STATE_COMPACTING : Fld := ⟨0x4800081A, 1, 0x0⟩
-- CPH_CORE_CTL (11_cipher_complex.md)
def Reg.CPH_CORE_CTL_MAP_OUT (c : Nat) : Fld := ⟨(0x240100 + 0x8 * c) * 512 + 0, 1, 0x0⟩
-- CPH_CORE_STATE (11_cipher_complex.md)
def Reg.CPH_CORE_STATE_STATE (c : Nat) : Fld := ⟨(0x240104 + 0x8 * c) * 512 + 0, 2, 0x0⟩
def Reg.CPH_CORE_STATE_CAUSE (c : Nat) : Fld := ⟨(0x240104 + 0x8 * c) * 512 + 2, 3, 0x0⟩
def Reg.CPH_CORE_STATE_FAULTS (c : Nat) : Fld := ⟨(0x240104 + 0x8 * c) * 512 + 8, 8, 0x0⟩
-- CPH_JRNL_STATE (11_cipher_complex.md)
def Reg.CPH_JRNL_STATE_KEY_IDS : Fld := ⟨0x48040000, 15, 0x0⟩
def Reg.CPH_JRNL_STATE_WORDS : Fld := ⟨0x48040010, 16, 0x0⟩
def Reg.CPH_JRNL_STATE_SPENT : Fld := ⟨0x48040020, 15, 0x0⟩
-- CPH_WRAP_STATE (11_cipher_complex.md)
def Reg.CPH_WRAP_STATE_ENTRIES : Fld := ⟨0x48041000, 13, 0x0⟩
def Reg.CPH_WRAP_STATE_FULL : Fld := ⟨0x4804100D, 1, 0x0⟩
-- CPH_STAT (11_cipher_complex.md)
def Reg.CPH_STAT_COUNT (k : Nat) : Fld := ⟨(0x240400 + 0x8 * k) * 512 + 0, 64, 0x0⟩
-- CPH_CLASS_STAT (11_cipher_complex.md)
def Reg.CPH_CLASS_STAT_COUNT (k : Nat) : Fld := ⟨(0x240500 + 0x8 * k) * 512 + 0, 64, 0x0⟩

/-- The register map of block CPH (R584). -/
def regTableCph : List RegDef := [
  ⟨0x240000, [], 32, [⟨0, 4, .rw, 0x8⟩, ⟨4, 4, .rw, 0x4⟩, ⟨8, 4, .rw, 0x3⟩, ⟨12, 4, .rw, 0x1⟩, ⟨16, 12, .rw, 0x3E8⟩]⟩,
  ⟨0x240004, [], 32, [⟨0, 5, .ro, 0x0⟩, ⟨8, 14, .ro, 0x0⟩, ⟨24, 1, .ro, 0x0⟩, ⟨25, 1, .ro, 0x0⟩, ⟨26, 1, .ro, 0x0⟩]⟩,
  ⟨0x240100, [(0x8, 16)], 32, [⟨0, 1, .rw, 0x0⟩]⟩,
  ⟨0x240104, [(0x8, 16)], 32, [⟨0, 2, .ro, 0x0⟩, ⟨2, 3, .ro, 0x0⟩, ⟨8, 8, .ro, 0x0⟩]⟩,
  ⟨0x240200, [], 64, [⟨0, 15, .ro, 0x0⟩, ⟨16, 16, .ro, 0x0⟩, ⟨32, 15, .ro, 0x0⟩]⟩,
  ⟨0x240208, [], 32, [⟨0, 13, .ro, 0x0⟩, ⟨13, 1, .ro, 0x0⟩]⟩,
  ⟨0x240400, [(0x8, 12)], 64, [⟨0, 64, .ro, 0x0⟩]⟩,
  ⟨0x240500, [(0x8, 4)], 64, [⟨0, 64, .ro, 0x0⟩]⟩]


/-! ### Block RDM -/

-- RDM_CFG (10_rdma_service.md)
def Reg.RDM_CFG_ACK_COALESCE : Fld := ⟨0x50000000, 8, 0x0A⟩
def Reg.RDM_CFG_RNR_TIMER : Fld := ⟨0x50000008, 5, 0x0A⟩
def Reg.RDM_CFG_WAIT_TIMEOUT_US : Fld := ⟨0x50000010, 16, 0x03E8⟩
-- RDM_ADMIT_CFG (10_rdma_service.md)
def Reg.RDM_ADMIT_CFG_WAIT_US : Fld := ⟨0x50000800, 16, 0x0014⟩
-- RDM_TKT_CFG (10_rdma_service.md)
def Reg.RDM_TKT_CFG_RESERVE : Fld := ⟨0x50001000, 16, 0x2000⟩
def Reg.RDM_TKT_CFG_LIMIT : Fld := ⟨0x50001010, 16, 0x8000⟩
-- RDM_CC_CFG (10_rdma_service.md)
def Reg.RDM_CC_CFG_CNP_INTERVAL_US : Fld := ⟨0x50001800, 8, 0x32⟩
def Reg.RDM_CC_CFG_RECOVER_US : Fld := ⟨0x50001808, 8, 0x32⟩
def Reg.RDM_CC_CFG_RATE_MIN : Fld := ⟨0x50001810, 8, 0x01⟩
def Reg.RDM_CC_CFG_RATE_STEP : Fld := ⟨0x50001818, 8, 0x05⟩
-- RDM_STATE (10_rdma_service.md)
def Reg.RDM_STATE_CACHED : Fld := ⟨0x50020000, 15, 0x0⟩
def Reg.RDM_STATE_PARKED : Fld := ⟨0x50020010, 14, 0x0⟩
def Reg.RDM_STATE_FETCHING : Fld := ⟨0x50020020, 11, 0x0⟩
def Reg.RDM_STATE_WAITS : Fld := ⟨0x50020030, 15, 0x0⟩
-- RDM_QP_COUNT (10_rdma_service.md)
def Reg.RDM_QP_COUNT_ALLOCATED : Fld := ⟨0x50021000, 21, 0x0⟩
def Reg.RDM_QP_COUNT_ERROR : Fld := ⟨0x50021020, 21, 0x0⟩
-- RDM_STAT (10_rdma_service.md)
def Reg.RDM_STAT_COUNT (k : Nat) : Fld := ⟨(0x280400 + 0x8 * k) * 512 + 0, 64, 0x0⟩
-- RDM_NAK_STAT (10_rdma_service.md)
def Reg.RDM_NAK_STAT_COUNT (k : Nat) : Fld := ⟨(0x280500 + 0x8 * k) * 512 + 0, 64, 0x0⟩

/-- The register map of block RDM (R584). -/
def regTableRdm : List RegDef := [
  ⟨0x280000, [], 32, [⟨0, 8, .rw, 0x0A⟩, ⟨8, 5, .rw, 0x0A⟩, ⟨16, 16, .rw, 0x03E8⟩]⟩,
  ⟨0x280004, [], 32, [⟨0, 16, .rw, 0x0014⟩]⟩,
  ⟨0x280008, [], 32, [⟨0, 16, .rw, 0x2000⟩, ⟨16, 16, .rw, 0x8000⟩]⟩,
  ⟨0x28000C, [], 32, [⟨0, 8, .rw, 0x32⟩, ⟨8, 8, .rw, 0x32⟩, ⟨16, 8, .rw, 0x01⟩, ⟨24, 8, .rw, 0x05⟩]⟩,
  ⟨0x280100, [], 64, [⟨0, 15, .ro, 0x0⟩, ⟨16, 14, .ro, 0x0⟩, ⟨32, 11, .ro, 0x0⟩, ⟨48, 15, .ro, 0x0⟩]⟩,
  ⟨0x280108, [], 64, [⟨0, 21, .ro, 0x0⟩, ⟨32, 21, .ro, 0x0⟩]⟩,
  ⟨0x280400, [(0x8, 12)], 64, [⟨0, 64, .ro, 0x0⟩]⟩,
  ⟨0x280500, [(0x8, 12)], 64, [⟨0, 64, .ro, 0x0⟩]⟩]


/-! ### Block HPT -/

-- HPT_PORT_CFG (09_cxl_host_ports.md)
def Reg.HPT_PORT_CFG_LD_COUNT (b : Nat) : Fld := ⟨(0x300000 + 0x10000 * b) * 512 + 0, 5, 0x01⟩
def Reg.HPT_PORT_CFG_MGMT_LD (b : Nat) : Fld := ⟨(0x300000 + 0x10000 * b) * 512 + 5, 4, 0x0⟩
def Reg.HPT_PORT_CFG_MAX_RATE (b : Nat) : Fld := ⟨(0x300000 + 0x10000 * b) * 512 + 9, 2, 0x3⟩
def Reg.HPT_PORT_CFG_MAX_WIDTH (b : Nat) : Fld := ⟨(0x300000 + 0x10000 * b) * 512 + 11, 2, 0x2⟩
-- HPT_TKT_CFG (09_cxl_host_ports.md)
def Reg.HPT_TKT_CFG_RESERVE (b : Nat) : Fld := ⟨(0x300004 + 0x10000 * b) * 512 + 0, 16, 0x0800⟩
def Reg.HPT_TKT_CFG_LIMIT (b : Nat) : Fld := ⟨(0x300004 + 0x10000 * b) * 512 + 16, 16, 0x4000⟩
-- HPT_CRD_CFG (09_cxl_host_ports.md)
def Reg.HPT_CRD_CFG_REQ (b : Nat) : Fld := ⟨(0x300008 + 0x10000 * b) * 512 + 0, 11, 0x100⟩
def Reg.HPT_CRD_CFG_RWD (b : Nat) : Fld := ⟨(0x300008 + 0x10000 * b) * 512 + 16, 11, 0x100⟩
-- HPT_LINK_STATE (09_cxl_host_ports.md)
def Reg.HPT_LINK_STATE_RATE (b : Nat) : Fld := ⟨(0x300010 + 0x10000 * b) * 512 + 0, 2, 0x0⟩
def Reg.HPT_LINK_STATE_WIDTH (b : Nat) : Fld := ⟨(0x300010 + 0x10000 * b) * 512 + 2, 2, 0x0⟩
def Reg.HPT_LINK_STATE_FLIT (b : Nat) : Fld := ⟨(0x300010 + 0x10000 * b) * 512 + 4, 1, 0x0⟩
def Reg.HPT_LINK_STATE_FENCED (b : Nat) : Fld := ⟨(0x300010 + 0x10000 * b) * 512 + 5, 1, 0x0⟩
def Reg.HPT_LINK_STATE_PERST (b : Nat) : Fld := ⟨(0x300010 + 0x10000 * b) * 512 + 6, 1, 0x0⟩
def Reg.HPT_LINK_STATE_LTSSM (b : Nat) : Fld := ⟨(0x300010 + 0x10000 * b) * 512 + 16, 6, 0x0⟩
-- HPT_PORT_STATE (09_cxl_host_ports.md)
def Reg.HPT_PORT_STATE_TICKETS (b : Nat) : Fld := ⟨(0x300018 + 0x10000 * b) * 512 + 0, 16, 0x0⟩
def Reg.HPT_PORT_STATE_DEVLOAD (b : Nat) : Fld := ⟨(0x300018 + 0x10000 * b) * 512 + 16, 2, 0x0⟩
def Reg.HPT_PORT_STATE_WRITE_HELD (b : Nat) : Fld := ⟨(0x300018 + 0x10000 * b) * 512 + 18, 1, 0x0⟩
def Reg.HPT_PORT_STATE_GPF_P2 (b : Nat) : Fld := ⟨(0x300018 + 0x10000 * b) * 512 + 19, 1, 0x0⟩
def Reg.HPT_PORT_STATE_MEDIA (b : Nat) : Fld := ⟨(0x300018 + 0x10000 * b) * 512 + 20, 2, 0x0⟩
def Reg.HPT_PORT_STATE_REQ_QUEUED (b : Nat) : Fld := ⟨(0x300018 + 0x10000 * b) * 512 + 32, 11, 0x0⟩
def Reg.HPT_PORT_STATE_RWD_QUEUED (b : Nat) : Fld := ⟨(0x300018 + 0x10000 * b) * 512 + 48, 11, 0x0⟩
-- HPT_LD_STATE (09_cxl_host_ports.md)
def Reg.HPT_LD_STATE_DECODERS (b l : Nat) : Fld := ⟨(0x300100 + 0x10000 * b + 0x10 * l) * 512 + 0, 4, 0x0⟩
def Reg.HPT_LD_STATE_REGIONS (b l : Nat) : Fld := ⟨(0x300100 + 0x10000 * b + 0x10 * l) * 512 + 4, 8, 0x0⟩
def Reg.HPT_LD_STATE_PERSISTENT (b l : Nat) : Fld := ⟨(0x300100 + 0x10000 * b + 0x10 * l) * 512 + 12, 8, 0x0⟩
def Reg.HPT_LD_STATE_WINDOWS (b l : Nat) : Fld := ⟨(0x300100 + 0x10000 * b + 0x10 * l) * 512 + 20, 15, 0x0⟩
def Reg.HPT_LD_STATE_STATIC_GIB (b l : Nat) : Fld := ⟨(0x300100 + 0x10000 * b + 0x10 * l) * 512 + 36, 16, 0x0⟩
-- HPT_DCD_CFG (09_cxl_host_ports.md)
def Reg.HPT_DCD_CFG_OFFER_MS (b : Nat) : Fld := ⟨(0x300200 + 0x10000 * b) * 512 + 0, 16, 0x03E8⟩
def Reg.HPT_DCD_CFG_RELEASE_MS (b : Nat) : Fld := ⟨(0x300200 + 0x10000 * b) * 512 + 16, 16, 0x1388⟩
-- HPT_VIOL (09_cxl_host_ports.md)
def Reg.HPT_VIOL_CURRENT (b : Nat) : Fld := ⟨(0x300300 + 0x10000 * b) * 512 + 0, 8, 0x0⟩
def Reg.HPT_VIOL_TOTAL (b : Nat) : Fld := ⟨(0x300300 + 0x10000 * b) * 512 + 8, 24, 0x0⟩
-- HPT_STAT (09_cxl_host_ports.md)
def Reg.HPT_STAT_COUNT (b k : Nat) : Fld := ⟨(0x300400 + 0x10000 * b + 0x8 * k) * 512 + 0, 64, 0x0⟩
-- HPT_REFUSE_STAT (09_cxl_host_ports.md)
def Reg.HPT_REFUSE_STAT_COUNT (b k : Nat) : Fld := ⟨(0x300480 + 0x10000 * b + 0x8 * k) * 512 + 0, 64, 0x0⟩
-- HPT_LINK_STAT (09_cxl_host_ports.md)
def Reg.HPT_LINK_STAT_COUNT (b k : Nat) : Fld := ⟨(0x300500 + 0x10000 * b + 0x8 * k) * 512 + 0, 64, 0x0⟩

/-- The register map of block HPT (R584). -/
def regTableHpt : List RegDef := [
  ⟨0x300000, [(0x10000, 8)], 32, [⟨0, 5, .rw, 0x01⟩, ⟨5, 4, .rw, 0x0⟩, ⟨9, 2, .rw, 0x3⟩, ⟨11, 2, .rw, 0x2⟩]⟩,
  ⟨0x300004, [(0x10000, 8)], 32, [⟨0, 16, .rw, 0x0800⟩, ⟨16, 16, .rw, 0x4000⟩]⟩,
  ⟨0x300008, [(0x10000, 8)], 32, [⟨0, 11, .rw, 0x100⟩, ⟨16, 11, .rw, 0x100⟩]⟩,
  ⟨0x300010, [(0x10000, 8)], 32, [⟨0, 2, .ro, 0x0⟩, ⟨2, 2, .ro, 0x0⟩, ⟨4, 1, .ro, 0x0⟩, ⟨5, 1, .ro, 0x0⟩, ⟨6, 1, .ro, 0x0⟩, ⟨16, 6, .ro, 0x0⟩]⟩,
  ⟨0x300018, [(0x10000, 8)], 64, [⟨0, 16, .ro, 0x0⟩, ⟨16, 2, .ro, 0x0⟩, ⟨18, 1, .ro, 0x0⟩, ⟨19, 1, .ro, 0x0⟩, ⟨20, 2, .ro, 0x0⟩, ⟨32, 11, .ro, 0x0⟩, ⟨48, 11, .ro, 0x0⟩]⟩,
  ⟨0x300100, [(0x10000, 8), (0x10, 16)], 64, [⟨0, 4, .ro, 0x0⟩, ⟨4, 8, .ro, 0x0⟩, ⟨12, 8, .ro, 0x0⟩, ⟨20, 15, .ro, 0x0⟩, ⟨36, 16, .ro, 0x0⟩]⟩,
  ⟨0x300200, [(0x10000, 8)], 32, [⟨0, 16, .rw, 0x03E8⟩, ⟨16, 16, .rw, 0x1388⟩]⟩,
  ⟨0x300300, [(0x10000, 8)], 32, [⟨0, 8, .ro, 0x0⟩, ⟨8, 24, .ro, 0x0⟩]⟩,
  ⟨0x300400, [(0x10000, 8), (0x8, 8)], 64, [⟨0, 64, .ro, 0x0⟩]⟩,
  ⟨0x300480, [(0x10000, 8), (0x8, 5)], 64, [⟨0, 64, .ro, 0x0⟩]⟩,
  ⟨0x300500, [(0x10000, 8), (0x8, 4)], 64, [⟨0, 64, .ro, 0x0⟩]⟩]


/-! ### Block ETH -/

-- ETH_PORT_CFG (10_rdma_service.md)
def Reg.ETH_PORT_CFG_SPEED (b : Nat) : Fld := ⟨(0x380000 + 0x10000 * b) * 512 + 0, 2, 0x0⟩
def Reg.ETH_PORT_CFG_PFC_EN (b : Nat) : Fld := ⟨(0x380000 + 0x10000 * b) * 512 + 2, 1, 0x1⟩
def Reg.ETH_PORT_CFG_ECN_EN (b : Nat) : Fld := ⟨(0x380000 + 0x10000 * b) * 512 + 3, 1, 0x1⟩
def Reg.ETH_PORT_CFG_PFC_PRIO (b : Nat) : Fld := ⟨(0x380000 + 0x10000 * b) * 512 + 4, 3, 0x3⟩
def Reg.ETH_PORT_CFG_CNP_PRIO (b : Nat) : Fld := ⟨(0x380000 + 0x10000 * b) * 512 + 7, 3, 0x6⟩
def Reg.ETH_PORT_CFG_CNP_DSCP (b : Nat) : Fld := ⟨(0x380000 + 0x10000 * b) * 512 + 10, 6, 0x30⟩
def Reg.ETH_PORT_CFG_MAX_MTU (b : Nat) : Fld := ⟨(0x380000 + 0x10000 * b) * 512 + 16, 2, 0x2⟩
-- ETH_PORT_IP4 (10_rdma_service.md)
def Reg.ETH_PORT_IP4_ADDR (b : Nat) : Fld := ⟨(0x380008 + 0x10000 * b) * 512 + 0, 32, 0x0⟩
-- ETH_PORT_IP6 (10_rdma_service.md)
def Reg.ETH_PORT_IP6_ADDR (b i : Nat) : Fld := ⟨(0x380020 + 0x10000 * b + 0x10 * i) * 512 + 0, 128, 0x0⟩
-- ETH_PFC_CFG (10_rdma_service.md)
def Reg.ETH_PFC_CFG_XOFF_KIB (b : Nat) : Fld := ⟨(0x380060 + 0x10000 * b) * 512 + 0, 16, 0x0C00⟩
def Reg.ETH_PFC_CFG_XON_KIB (b : Nat) : Fld := ⟨(0x380060 + 0x10000 * b) * 512 + 16, 16, 0x0800⟩
-- ETH_PORT_STATE (10_rdma_service.md)
def Reg.ETH_PORT_STATE_RATE (b : Nat) : Fld := ⟨(0x380068 + 0x10000 * b) * 512 + 0, 2, 0x3⟩
def Reg.ETH_PORT_STATE_FENCED (b : Nat) : Fld := ⟨(0x380068 + 0x10000 * b) * 512 + 2, 1, 0x0⟩
def Reg.ETH_PORT_STATE_PAUSING (b : Nat) : Fld := ⟨(0x380068 + 0x10000 * b) * 512 + 3, 1, 0x0⟩
def Reg.ETH_PORT_STATE_PAUSED (b : Nat) : Fld := ⟨(0x380068 + 0x10000 * b) * 512 + 4, 1, 0x0⟩
def Reg.ETH_PORT_STATE_INGRESS_KIB (b : Nat) : Fld := ⟨(0x380068 + 0x10000 * b) * 512 + 16, 13, 0x0⟩
-- ETH_PORT_STAT (10_rdma_service.md)
def Reg.ETH_PORT_STAT_COUNT (b k : Nat) : Fld := ⟨(0x380100 + 0x10000 * b + 0x8 * k) * 512 + 0, 64, 0x0⟩
-- ETH_VIOL (10_rdma_service.md)
def Reg.ETH_VIOL_CURRENT (b : Nat) : Fld := ⟨(0x380200 + 0x10000 * b) * 512 + 0, 8, 0x0⟩
def Reg.ETH_VIOL_TOTAL (b : Nat) : Fld := ⟨(0x380200 + 0x10000 * b) * 512 + 8, 24, 0x0⟩
-- ETH_MAC_STAT (20_register_index.md)
def Reg.ETH_MAC_STAT_COUNT (m k : Nat) : Fld := ⟨(0x3C0100 + 0x10000 * m + 0x8 * k) * 512 + 0, 64, 0x0⟩

/-- The register map of block ETH (R584). -/
def regTableEth : List RegDef := [
  ⟨0x380000, [(0x10000, 4)], 32, [⟨0, 2, .rw, 0x0⟩, ⟨2, 1, .rw, 0x1⟩, ⟨3, 1, .rw, 0x1⟩, ⟨4, 3, .rw, 0x3⟩, ⟨7, 3, .rw, 0x6⟩, ⟨10, 6, .rw, 0x30⟩, ⟨16, 2, .rw, 0x2⟩]⟩,
  ⟨0x380008, [(0x10000, 4)], 32, [⟨0, 32, .rw, 0x0⟩]⟩,
  ⟨0x380020, [(0x10000, 4), (0x10, 4)], 128, [⟨0, 128, .rw, 0x0⟩]⟩,
  ⟨0x380060, [(0x10000, 4)], 32, [⟨0, 16, .rw, 0x0C00⟩, ⟨16, 16, .rw, 0x0800⟩]⟩,
  ⟨0x380068, [(0x10000, 4)], 32, [⟨0, 2, .ro, 0x3⟩, ⟨2, 1, .ro, 0x0⟩, ⟨3, 1, .ro, 0x0⟩, ⟨4, 1, .ro, 0x0⟩, ⟨16, 13, .ro, 0x0⟩]⟩,
  ⟨0x380100, [(0x10000, 4), (0x8, 8)], 64, [⟨0, 64, .ro, 0x0⟩]⟩,
  ⟨0x380200, [(0x10000, 4)], 32, [⟨0, 8, .ro, 0x0⟩, ⟨8, 24, .ro, 0x0⟩]⟩,
  ⟨0x3C0100, [(0x10000, 2), (0x8, 8)], 64, [⟨0, 64, .ro, 0x0⟩]⟩]


/-! ### Block FLC -/

-- FLC_CH_STATE (20_register_index.md)
def Reg.FLC_CH_STATE_STATE (c : Nat) : Fld := ⟨(0x400000 + 0x4000 * c) * 512 + 0, 3, 0x0⟩
def Reg.FLC_CH_STATE_DIMMS (c : Nat) : Fld := ⟨(0x400000 + 0x4000 * c) * 512 + 3, 2, 0x0⟩
def Reg.FLC_CH_STATE_REFUSED (c : Nat) : Fld := ⟨(0x400000 + 0x4000 * c) * 512 + 5, 1, 0x0⟩
-- FLC_DIMM (20_register_index.md)
def Reg.FLC_DIMM_GIB (c d : Nat) : Fld := ⟨(0x400010 + 0x4000 * c + 0x8 * d) * 512 + 0, 16, 0x0⟩
def Reg.FLC_DIMM_RANKS (c d : Nat) : Fld := ⟨(0x400010 + 0x4000 * c + 0x8 * d) * 512 + 16, 4, 0x0⟩
def Reg.FLC_DIMM_VENDOR (c d : Nat) : Fld := ⟨(0x400010 + 0x4000 * c + 0x8 * d) * 512 + 32, 16, 0x0⟩
-- FLC_TRAIN (20_register_index.md)
def Reg.FLC_TRAIN_EPOCH (c : Nat) : Fld := ⟨(0x400020 + 0x4000 * c) * 512 + 0, 32, 0x0⟩
def Reg.FLC_TRAIN_MARGIN (c : Nat) : Fld := ⟨(0x400020 + 0x4000 * c) * 512 + 32, 16, 0x0⟩
-- FLC_TIMING (20_register_index.md)
def Reg.FLC_TIMING_VALUE (c t : Nat) : Fld := ⟨(0x400040 + 0x4000 * c + 0x8 * t) * 512 + 0, 64, 0x0⟩
-- FLC_STAT (20_register_index.md)
def Reg.FLC_STAT_COUNT (c k : Nat) : Fld := ⟨(0x400100 + 0x4000 * c + 0x8 * k) * 512 + 0, 64, 0x0⟩

/-- The register map of block FLC (R584). -/
def regTableFlc : List RegDef := [
  ⟨0x400000, [(0x4000, 16)], 32, [⟨0, 3, .ro, 0x0⟩, ⟨3, 2, .ro, 0x0⟩, ⟨5, 1, .ro, 0x0⟩]⟩,
  ⟨0x400010, [(0x4000, 16), (0x8, 2)], 64, [⟨0, 16, .ro, 0x0⟩, ⟨16, 4, .ro, 0x0⟩, ⟨32, 16, .ro, 0x0⟩]⟩,
  ⟨0x400020, [(0x4000, 16)], 64, [⟨0, 32, .ro, 0x0⟩, ⟨32, 16, .ro, 0x0⟩]⟩,
  ⟨0x400040, [(0x4000, 16), (0x8, 3)], 64, [⟨0, 64, .ro, 0x0⟩]⟩,
  ⟨0x400100, [(0x4000, 16), (0x8, 8)], 64, [⟨0, 64, .ro, 0x0⟩]⟩]


/-! ### Block LFT -/

-- LFT_STATE (20_register_index.md)
def Reg.LFT_STATE_STATE (n : Nat) : Fld := ⟨(0x440000 + 0x10000 * n) * 512 + 0, 3, 0x0⟩
def Reg.LFT_STATE_CISTERN (n : Nat) : Fld := ⟨(0x440000 + 0x10000 * n) * 512 + 3, 1, 0x0⟩
def Reg.LFT_STATE_YARD (n : Nat) : Fld := ⟨(0x440000 + 0x10000 * n) * 512 + 4, 1, 0x0⟩
-- LFT_TRAIN (20_register_index.md)
def Reg.LFT_TRAIN_EPOCH (n : Nat) : Fld := ⟨(0x440008 + 0x10000 * n) * 512 + 0, 32, 0x0⟩
def Reg.LFT_TRAIN_MARGIN (n : Nat) : Fld := ⟨(0x440008 + 0x10000 * n) * 512 + 32, 16, 0x0⟩
-- LFT_STAT (20_register_index.md)
def Reg.LFT_STAT_COUNT (n k : Nat) : Fld := ⟨(0x440100 + 0x10000 * n + 0x8 * k) * 512 + 0, 64, 0x0⟩

/-- The register map of block LFT (R584). -/
def regTableLft : List RegDef := [
  ⟨0x440000, [(0x10000, 4)], 32, [⟨0, 3, .ro, 0x0⟩, ⟨3, 1, .ro, 0x0⟩, ⟨4, 1, .ro, 0x0⟩]⟩,
  ⟨0x440008, [(0x10000, 4)], 64, [⟨0, 32, .ro, 0x0⟩, ⟨32, 16, .ro, 0x0⟩]⟩,
  ⟨0x440100, [(0x10000, 4), (0x8, 8)], 64, [⟨0, 64, .ro, 0x0⟩]⟩]


/-! ### Block SLC -/

-- SLC_CH_CFG (07_footing_media.md)
def Reg.SLC_CH_CFG_PROFILE (s : Nat) : Fld := ⟨(0x480000 + 0x2000 * s) * 512 + 0, 1, 0x0⟩
def Reg.SLC_CH_CFG_SUSPEND_MAX (s : Nat) : Fld := ⟨(0x480000 + 0x2000 * s) * 512 + 1, 3, 0x4⟩
def Reg.SLC_CH_CFG_READ_BURST (s : Nat) : Fld := ⟨(0x480000 + 0x2000 * s) * 512 + 4, 5, 0x10⟩
-- SLC_CH_STATE (07_footing_media.md)
def Reg.SLC_CH_STATE_STATE (s : Nat) : Fld := ⟨(0x480008 + 0x2000 * s) * 512 + 0, 2, 0x0⟩
def Reg.SLC_CH_STATE_DIE_PROFILE (s : Nat) : Fld := ⟨(0x480008 + 0x2000 * s) * 512 + 2, 1, 0x0⟩
def Reg.SLC_CH_STATE_MISMATCH (s : Nat) : Fld := ⟨(0x480008 + 0x2000 * s) * 512 + 3, 1, 0x0⟩
def Reg.SLC_CH_STATE_DIES_PRESENT (s : Nat) : Fld := ⟨(0x480008 + 0x2000 * s) * 512 + 8, 16, 0x0⟩
def Reg.SLC_CH_STATE_DIES_FAILED (s : Nat) : Fld := ⟨(0x480008 + 0x2000 * s) * 512 + 24, 16, 0x0⟩
-- SLC_CH_STAT (07_footing_media.md)
def Reg.SLC_CH_STAT_COUNT (s k : Nat) : Fld := ⟨(0x480100 + 0x2000 * s + 0x8 * k) * 512 + 0, 64, 0x0⟩
-- SLC_FTG_CFG (07_footing_media.md)
def Reg.SLC_FTG_CFG_OP_PERMILLE : Fld := ⟨0x98000000, 10, 0x06E⟩
def Reg.SLC_FTG_CFG_MIN_OP : Fld := ⟨0x9800000A, 10, 0x028⟩
def Reg.SLC_FTG_CFG_RBLD_SHARE : Fld := ⟨0x98000014, 7, 0x32⟩
-- SLC_WEAR_CFG (07_footing_media.md)
def Reg.SLC_WEAR_CFG_SPREAD : Fld := ⟨0x98000800, 16, 0x00C8⟩
def Reg.SLC_WEAR_CFG_PERIOD_S : Fld := ⟨0x98000810, 16, 0x0E10⟩
-- SLC_FTG_SPACE (07_footing_media.md)
def Reg.SLC_FTG_SPACE_STRIPES : Fld := ⟨0x98002000, 18, 0x0⟩
def Reg.SLC_FTG_SPACE_RETIRED : Fld := ⟨0x98002012, 18, 0x0⟩
def Reg.SLC_FTG_SPACE_OP_NOW : Fld := ⟨0x98002024, 10, 0x0⟩
-- SLC_BOARD_STATE (07_footing_media.md)
def Reg.SLC_BOARD_STATE_STATE (b : Nat) : Fld := ⟨(0x4C0100 + 0x8 * b) * 512 + 0, 3, 0x2⟩
def Reg.SLC_BOARD_STATE_SURPRISE (b : Nat) : Fld := ⟨(0x4C0100 + 0x8 * b) * 512 + 3, 1, 0x0⟩
def Reg.SLC_BOARD_STATE_REBUILD_LEFT (b : Nat) : Fld := ⟨(0x4C0100 + 0x8 * b) * 512 + 8, 18, 0x0⟩
-- SLC_SPILLWAY (07_footing_media.md)
def Reg.SLC_SPILLWAY_ERASED : Fld := ⟨0x98040000, 2, 0x0⟩
def Reg.SLC_SPILLWAY_LAST_SLOT : Fld := ⟨0x98040002, 1, 0x0⟩
def Reg.SLC_SPILLWAY_NO_PARITY : Fld := ⟨0x98040003, 1, 0x0⟩
def Reg.SLC_SPILLWAY_UNITS_PER_SLOT : Fld := ⟨0x98040004, 12, 0x0⟩
def Reg.SLC_SPILLWAY_SPILL_NO : Fld := ⟨0x98040010, 48, 0x0⟩
-- SLC_WEAR_STATE (07_footing_media.md)
def Reg.SLC_WEAR_STATE_MIN_ERASES : Fld := ⟨0x98041000, 32, 0x0⟩
def Reg.SLC_WEAR_STATE_MAX_ERASES : Fld := ⟨0x98041020, 32, 0x0⟩
-- SLC_FTG_STAT (07_footing_media.md)
def Reg.SLC_FTG_STAT_COUNT (k : Nat) : Fld := ⟨(0x4C0400 + 0x8 * k) * 512 + 0, 64, 0x0⟩

/-- The register map of block SLC (R584). -/
def regTableSlc : List RegDef := [
  ⟨0x480000, [(0x2000, 32)], 32, [⟨0, 1, .rw, 0x0⟩, ⟨1, 3, .rw, 0x4⟩, ⟨4, 5, .rw, 0x10⟩]⟩,
  ⟨0x480008, [(0x2000, 32)], 64, [⟨0, 2, .ro, 0x0⟩, ⟨2, 1, .ro, 0x0⟩, ⟨3, 1, .ro, 0x0⟩, ⟨8, 16, .ro, 0x0⟩, ⟨24, 16, .ro, 0x0⟩]⟩,
  ⟨0x480100, [(0x2000, 32), (0x8, 10)], 64, [⟨0, 64, .ro, 0x0⟩]⟩,
  ⟨0x4C0000, [], 32, [⟨0, 10, .rw, 0x06E⟩, ⟨10, 10, .rw, 0x028⟩, ⟨20, 7, .rw, 0x32⟩]⟩,
  ⟨0x4C0004, [], 32, [⟨0, 16, .rw, 0x00C8⟩, ⟨16, 16, .rw, 0x0E10⟩]⟩,
  ⟨0x4C0010, [], 64, [⟨0, 18, .ro, 0x0⟩, ⟨18, 18, .ro, 0x0⟩, ⟨36, 10, .ro, 0x0⟩]⟩,
  ⟨0x4C0100, [(0x8, 8)], 64, [⟨0, 3, .ro, 0x2⟩, ⟨3, 1, .ro, 0x0⟩, ⟨8, 18, .ro, 0x0⟩]⟩,
  ⟨0x4C0200, [], 64, [⟨0, 2, .ro, 0x0⟩, ⟨2, 1, .ro, 0x0⟩, ⟨3, 1, .ro, 0x0⟩, ⟨4, 12, .ro, 0x0⟩, ⟨16, 48, .ro, 0x0⟩]⟩,
  ⟨0x4C0208, [], 64, [⟨0, 32, .ro, 0x0⟩, ⟨32, 32, .ro, 0x0⟩]⟩,
  ⟨0x4C0400, [(0x8, 8)], 64, [⟨0, 64, .ro, 0x0⟩]⟩]


/-! ### Block FST -/

-- FST_STATE (18_firmware_store.md)
def Reg.FST_STATE_OP : Fld := ⟨0xA0000000, 2, 0x0⟩
def Reg.FST_STATE_SECTOR : Fld := ⟨0xA0000002, 10, 0x0⟩
def Reg.FST_STATE_ACTIVE_SLOT : Fld := ⟨0xA000000C, 1, 0x0⟩
def Reg.FST_STATE_BOOT_JOINERY : Fld := ⟨0xA000000D, 3, 0x0⟩
def Reg.FST_STATE_UNLOCK6 : Fld := ⟨0xA0000010, 1, 0x0⟩
def Reg.FST_STATE_UNLOCK7 : Fld := ⟨0xA0000011, 1, 0x0⟩
-- FST_OP (18_firmware_store.md)
def Reg.FST_OP_ELAPSED_US : Fld := ⟨0xA0000800, 19, 0x0⟩
def Reg.FST_OP_WORDS_LEFT : Fld := ⟨0xA0000813, 7, 0x0⟩
-- FST_SECTORS (18_firmware_store.md)
def Reg.FST_SECTORS_FACTORY_BAD : Fld := ⟨0xA0001000, 8, 0x0⟩
def Reg.FST_SECTORS_GROWN_BAD : Fld := ⟨0xA0001008, 8, 0x0⟩
def Reg.FST_SECTORS_SUSPECT : Fld := ⟨0xA0001010, 8, 0x0⟩
def Reg.FST_SECTORS_SPARE_LEFT : Fld := ⟨0xA0001018, 8, 0x0⟩
def Reg.FST_SECTORS_MAX_ERASES : Fld := ⟨0xA0001020, 32, 0x0⟩
-- FST_MARKER (18_firmware_store.md)
def Reg.FST_MARKER_SEQ : Fld := ⟨0xA0002000, 32, 0x0⟩
def Reg.FST_MARKER_SUNDYTH_VERSION : Fld := ⟨0xA0002020, 32, 0x0⟩
-- FST_IMAGE (18_firmware_store.md)
def Reg.FST_IMAGE_VERSION (i : Nat) : Fld := ⟨(0x500020 + 0x8 * i) * 512 + 0, 32, 0x0⟩
def Reg.FST_IMAGE_SECVER (i : Nat) : Fld := ⟨(0x500020 + 0x8 * i) * 512 + 32, 16, 0x0⟩
def Reg.FST_IMAGE_STATE (i : Nat) : Fld := ⟨(0x500020 + 0x8 * i) * 512 + 48, 2, 0x0⟩
def Reg.FST_IMAGE_ACTIVE (i : Nat) : Fld := ⟨(0x500020 + 0x8 * i) * 512 + 50, 1, 0x0⟩
-- FST_STAT (18_firmware_store.md)
def Reg.FST_STAT_COUNT (k : Nat) : Fld := ⟨(0x500100 + 0x8 * k) * 512 + 0, 64, 0x0⟩

/-- The register map of block FST (R584). -/
def regTableFst : List RegDef := [
  ⟨0x500000, [], 32, [⟨0, 2, .ro, 0x0⟩, ⟨2, 10, .ro, 0x0⟩, ⟨12, 1, .ro, 0x0⟩, ⟨13, 3, .ro, 0x0⟩, ⟨16, 1, .ro, 0x0⟩, ⟨17, 1, .ro, 0x0⟩]⟩,
  ⟨0x500004, [], 32, [⟨0, 19, .ro, 0x0⟩, ⟨19, 7, .ro, 0x0⟩]⟩,
  ⟨0x500008, [], 64, [⟨0, 8, .ro, 0x0⟩, ⟨8, 8, .ro, 0x0⟩, ⟨16, 8, .ro, 0x0⟩, ⟨24, 8, .ro, 0x0⟩, ⟨32, 32, .ro, 0x0⟩]⟩,
  ⟨0x500010, [], 64, [⟨0, 32, .ro, 0x0⟩, ⟨32, 32, .ro, 0x0⟩]⟩,
  ⟨0x500020, [(0x8, 6)], 64, [⟨0, 32, .ro, 0x0⟩, ⟨32, 16, .ro, 0x0⟩, ⟨48, 2, .ro, 0x0⟩, ⟨50, 1, .ro, 0x0⟩]⟩,
  ⟨0x500100, [(0x8, 8)], 64, [⟨0, 64, .ro, 0x0⟩]⟩]


/-! ### Block TWN -/

-- TWN_CFG (04_twin_pairing.md)
def Reg.TWN_CFG_AUTO_REJOIN : Fld := ⟨0xA8000000, 1, 0x1⟩
def Reg.TWN_CFG_HANDBACK : Fld := ⟨0xA8000001, 1, 0x0⟩
def Reg.TWN_CFG_RSY_SHARE : Fld := ⟨0xA8000008, 7, 0x28⟩
def Reg.TWN_CFG_REKEY_HOURS : Fld := ⟨0xA8000010, 5, 0x18⟩
-- TWN_STATE (04_twin_pairing.md)
def Reg.TWN_STATE_PAIR_STATE : Fld := ⟨0xA8000800, 3, 0x0⟩
def Reg.TWN_STATE_TWIN_MODE : Fld := ⟨0xA8000803, 4, 0x0⟩
def Reg.TWN_STATE_CABLE_FAULT : Fld := ⟨0xA8000807, 1, 0x0⟩
def Reg.TWN_STATE_PORT4_UP : Fld := ⟨0xA8000808, 1, 0x0⟩
def Reg.TWN_STATE_PORT5_UP : Fld := ⟨0xA8000809, 1, 0x0⟩
def Reg.TWN_STATE_FENCE_OUT : Fld := ⟨0xA800080A, 1, 0x0⟩
def Reg.TWN_STATE_FENCE_IN : Fld := ⟨0xA800080B, 1, 0x0⟩
def Reg.TWN_STATE_PF_IN : Fld := ⟨0xA800080C, 1, 0x0⟩
def Reg.TWN_STATE_DEGRADED : Fld := ⟨0xA800080D, 1, 0x0⟩
def Reg.TWN_STATE_TWIN_DEGRADED : Fld := ⟨0xA800080E, 1, 0x0⟩
def Reg.TWN_STATE_LOSS_CAUSE : Fld := ⟨0xA800080F, 4, 0x0⟩
-- TWN_GEN (04_twin_pairing.md)
def Reg.TWN_GEN_GEN : Fld := ⟨0xA8001000, 64, 0x0⟩
-- TWN_TWIN_ID (04_twin_pairing.md)
def Reg.TWN_TWIN_ID_ID : Fld := ⟨0xA8002000, 64, 0x0⟩
-- TWN_TKO_EPOCH (04_twin_pairing.md)
def Reg.TWN_TKO_EPOCH_EPOCH : Fld := ⟨0xA8004000, 64, 0x0⟩
-- TWN_TKO_INFO (04_twin_pairing.md)
def Reg.TWN_TKO_INFO_DURATION : Fld := ⟨0xA8005000, 16, 0x0⟩
def Reg.TWN_TKO_INFO_ADOPTED : Fld := ⟨0xA8005010, 13, 0x0⟩
def Reg.TWN_TKO_INFO_LOST : Fld := ⟨0xA800501D, 13, 0x0⟩
def Reg.TWN_TKO_INFO_VOIDS : Fld := ⟨0xA800502A, 16, 0x0⟩
def Reg.TWN_TKO_INFO_CAUSE : Fld := ⟨0xA800503A, 4, 0x0⟩
-- TWN_CUB (04_twin_pairing.md)
def Reg.TWN_CUB_MARKED : Fld := ⟨0xA8006000, 36, 0x0⟩
def Reg.TWN_CUB_PAGES : Fld := ⟨0xA8006024, 17, 0x0⟩
-- TWN_CUB_COARSE (04_twin_pairing.md)
def Reg.TWN_CUB_COARSE_REGIONS : Fld := ⟨0xA8007000, 23, 0x0⟩
-- TWN_RSY_STATE (04_twin_pairing.md)
def Reg.TWN_RSY_STATE_REMAINING : Fld := ⟨0xA8008000, 36, 0x0⟩
def Reg.TWN_RSY_STATE_RATE : Fld := ⟨0xA8008024, 16, 0x0⟩
-- TWN_RSY_STAT (04_twin_pairing.md)
def Reg.TWN_RSY_STAT_COUNT (k : Nat) : Fld := ⟨(0x540048 + 0x8 * k) * 512 + 0, 64, 0x0⟩
-- TWN_HB_STAT (04_twin_pairing.md)
def Reg.TWN_HB_STAT_COUNT (k : Nat) : Fld := ⟨(0x540080 + 0x8 * k) * 512 + 0, 64, 0x0⟩
-- TWN_VIOL (04_twin_pairing.md)
def Reg.TWN_VIOL_CABLE : Fld := ⟨0xA8020000, 8, 0x0⟩
def Reg.TWN_VIOL_PORT4 : Fld := ⟨0xA8020008, 8, 0x0⟩
def Reg.TWN_VIOL_PORT5 : Fld := ⟨0xA8020010, 8, 0x0⟩
def Reg.TWN_VIOL_CABLE_FENCED : Fld := ⟨0xA8020018, 1, 0x0⟩
def Reg.TWN_VIOL_PORT4_FENCED : Fld := ⟨0xA8020019, 1, 0x0⟩
def Reg.TWN_VIOL_PORT5_FENCED : Fld := ⟨0xA802001A, 1, 0x0⟩
-- TWN_PORT_STATE (04_twin_pairing.md)
def Reg.TWN_PORT_STATE_LINK (p : Nat) : Fld := ⟨(0x541000 + 0x100 * p) * 512 + 0, 2, 0x0⟩
def Reg.TWN_PORT_STATE_CROSSED (p : Nat) : Fld := ⟨(0x541000 + 0x100 * p) * 512 + 2, 1, 0x0⟩
def Reg.TWN_PORT_STATE_BLOCK_WAIT (p : Nat) : Fld := ⟨(0x541000 + 0x100 * p) * 512 + 3, 1, 0x0⟩
-- TWN_PORT_KEY (04_twin_pairing.md)
def Reg.TWN_PORT_KEY_TX_INSTANCE (p : Nat) : Fld := ⟨(0x541008 + 0x100 * p) * 512 + 0, 32, 0x0⟩
def Reg.TWN_PORT_KEY_RX_INSTANCE (p : Nat) : Fld := ⟨(0x541008 + 0x100 * p) * 512 + 32, 32, 0x0⟩
-- TWN_PORT_REKEY (04_twin_pairing.md)
def Reg.TWN_PORT_REKEY_TX_FRAMES (p : Nat) : Fld := ⟨(0x541010 + 0x100 * p) * 512 + 0, 42, 0x0⟩
-- TWN_PORT_STAT (04_twin_pairing.md)
def Reg.TWN_PORT_STAT_COUNT (p k : Nat) : Fld := ⟨(0x541040 + 0x100 * p + 0x8 * k) * 512 + 0, 64, 0x0⟩

/-- The register map of block TWN (R584). -/
def regTableTwn : List RegDef := [
  ⟨0x540000, [], 32, [⟨0, 1, .rw, 0x1⟩, ⟨1, 1, .rw, 0x0⟩, ⟨8, 7, .rw, 0x28⟩, ⟨16, 5, .rw, 0x18⟩]⟩,
  ⟨0x540004, [], 32, [⟨0, 3, .ro, 0x0⟩, ⟨3, 4, .ro, 0x0⟩, ⟨7, 1, .ro, 0x0⟩, ⟨8, 1, .ro, 0x0⟩, ⟨9, 1, .ro, 0x0⟩, ⟨10, 1, .ro, 0x0⟩, ⟨11, 1, .ro, 0x0⟩, ⟨12, 1, .ro, 0x0⟩, ⟨13, 1, .ro, 0x0⟩, ⟨14, 1, .ro, 0x0⟩, ⟨15, 4, .ro, 0x0⟩]⟩,
  ⟨0x540008, [], 64, [⟨0, 64, .ro, 0x0⟩]⟩,
  ⟨0x540010, [], 64, [⟨0, 64, .ro, 0x0⟩]⟩,
  ⟨0x540020, [], 64, [⟨0, 64, .ro, 0x0⟩]⟩,
  ⟨0x540028, [], 64, [⟨0, 16, .ro, 0x0⟩, ⟨16, 13, .ro, 0x0⟩, ⟨29, 13, .ro, 0x0⟩, ⟨42, 16, .ro, 0x0⟩, ⟨58, 4, .ro, 0x0⟩]⟩,
  ⟨0x540030, [], 64, [⟨0, 36, .ro, 0x0⟩, ⟨36, 17, .ro, 0x0⟩]⟩,
  ⟨0x540038, [], 32, [⟨0, 23, .ro, 0x0⟩]⟩,
  ⟨0x540040, [], 64, [⟨0, 36, .ro, 0x0⟩, ⟨36, 16, .ro, 0x0⟩]⟩,
  ⟨0x540048, [(0x8, 4)], 64, [⟨0, 64, .ro, 0x0⟩]⟩,
  ⟨0x540080, [(0x8, 6)], 64, [⟨0, 64, .ro, 0x0⟩]⟩,
  ⟨0x540100, [], 32, [⟨0, 8, .ro, 0x0⟩, ⟨8, 8, .ro, 0x0⟩, ⟨16, 8, .ro, 0x0⟩, ⟨24, 1, .ro, 0x0⟩, ⟨25, 1, .ro, 0x0⟩, ⟨26, 1, .ro, 0x0⟩]⟩,
  ⟨0x541000, [(0x100, 2)], 32, [⟨0, 2, .ro, 0x0⟩, ⟨2, 1, .ro, 0x0⟩, ⟨3, 1, .ro, 0x0⟩]⟩,
  ⟨0x541008, [(0x100, 2)], 64, [⟨0, 32, .ro, 0x0⟩, ⟨32, 32, .ro, 0x0⟩]⟩,
  ⟨0x541010, [(0x100, 2)], 64, [⟨0, 42, .ro, 0x0⟩]⟩,
  ⟨0x541040, [(0x100, 2), (0x8, 8)], 64, [⟨0, 64, .ro, 0x0⟩]⟩]


/-! ### Block JNB -/

-- JNB_BAY_STATE (13_joiners_and_foreman.md)
def Reg.JNB_BAY_STATE_STATE (b : Nat) : Fld := ⟨(0x580000 + 0x10000 * b) * 512 + 0, 3, 0x0⟩
def Reg.JNB_BAY_STATE_JOINERS (b : Nat) : Fld := ⟨(0x580000 + 0x10000 * b) * 512 + 8, 8, 0x0⟩
def Reg.JNB_BAY_STATE_READY (b : Nat) : Fld := ⟨(0x580000 + 0x10000 * b) * 512 + 16, 16, 0x0⟩
-- JNB_BAY_IMAGE (13_joiners_and_foreman.md)
def Reg.JNB_BAY_IMAGE_VERSION (b : Nat) : Fld := ⟨(0x580008 + 0x10000 * b) * 512 + 0, 32, 0x0⟩
def Reg.JNB_BAY_IMAGE_DIGEST (b : Nat) : Fld := ⟨(0x580008 + 0x10000 * b) * 512 + 32, 32, 0x0⟩
-- JNB_JOINER_CTL (13_joiners_and_foreman.md)
def Reg.JNB_JOINER_CTL_MAP_OUT (b j : Nat) : Fld := ⟨(0x580100 + 0x10000 * b + 0x10 * j) * 512 + 0, 1, 0x0⟩
-- JNB_JOINER_STATE (13_joiners_and_foreman.md)
def Reg.JNB_JOINER_STATE_BUSY (b j : Nat) : Fld := ⟨(0x580104 + 0x10000 * b + 0x10 * j) * 512 + 0, 8, 0x0⟩
def Reg.JNB_JOINER_STATE_MAPPED_OUT (b j : Nat) : Fld := ⟨(0x580104 + 0x10000 * b + 0x10 * j) * 512 + 8, 1, 0x0⟩
def Reg.JNB_JOINER_STATE_CAUSE (b j : Nat) : Fld := ⟨(0x580104 + 0x10000 * b + 0x10 * j) * 512 + 9, 3, 0x0⟩
def Reg.JNB_JOINER_STATE_FAULTS (b j : Nat) : Fld := ⟨(0x580104 + 0x10000 * b + 0x10 * j) * 512 + 16, 8, 0x0⟩
-- JNB_STAT (13_joiners_and_foreman.md)
def Reg.JNB_STAT_COUNT (b k : Nat) : Fld := ⟨(0x580400 + 0x10000 * b + 0x8 * k) * 512 + 0, 64, 0x0⟩
-- JNB_CFG (13_joiners_and_foreman.md)
def Reg.JNB_CFG_STEP_BUDGET : Fld := ⟨0xB1000000, 16, 0x1000⟩
def Reg.JNB_CFG_FAULT_LIMIT : Fld := ⟨0xB1000010, 8, 0x10⟩
def Reg.JNB_CFG_TEST_PERIOD_S : Fld := ⟨0xB1000018, 8, 0x3C⟩

/-- The register map of block JNB (R584). -/
def regTableJnb : List RegDef := [
  ⟨0x580000, [(0x10000, 8)], 32, [⟨0, 3, .ro, 0x0⟩, ⟨8, 8, .ro, 0x0⟩, ⟨16, 16, .ro, 0x0⟩]⟩,
  ⟨0x580008, [(0x10000, 8)], 64, [⟨0, 32, .ro, 0x0⟩, ⟨32, 32, .ro, 0x0⟩]⟩,
  ⟨0x580100, [(0x10000, 8), (0x10, 8)], 32, [⟨0, 1, .rw, 0x0⟩]⟩,
  ⟨0x580104, [(0x10000, 8), (0x10, 8)], 32, [⟨0, 8, .ro, 0x0⟩, ⟨8, 1, .ro, 0x0⟩, ⟨9, 3, .ro, 0x0⟩, ⟨16, 8, .ro, 0x0⟩]⟩,
  ⟨0x580400, [(0x10000, 8), (0x8, 6)], 64, [⟨0, 64, .ro, 0x0⟩]⟩,
  ⟨0x588000, [], 32, [⟨0, 16, .rw, 0x1000⟩, ⟨16, 8, .rw, 0x10⟩, ⟨24, 8, .rw, 0x3C⟩]⟩]


/-! ### Block FMN -/

-- FMN_CFG (13_joiners_and_foreman.md)
def Reg.FMN_CFG_WDT_MS : Fld := ⟨0xC0000000, 10, 0x00A⟩
-- FMN_WDT (13_joiners_and_foreman.md)
def Reg.FMN_WDT_KICK : Fld := ⟨0xC0000800, 1, 0x0⟩
-- FMN_STATE (13_joiners_and_foreman.md)
def Reg.FMN_STATE_STATE : Fld := ⟨0xC0001000, 3, 0x0⟩
def Reg.FMN_STATE_GRACE : Fld := ⟨0xC0001003, 1, 0x0⟩
def Reg.FMN_STATE_RESPONDER : Fld := ⟨0xC0001004, 1, 0x0⟩
def Reg.FMN_STATE_EXPIRIES : Fld := ⟨0xC0001008, 8, 0x0⟩
def Reg.FMN_STATE_EXC_QUEUED : Fld := ⟨0xC0001010, 13, 0x0⟩
-- FMN_LOAD (13_joiners_and_foreman.md)
def Reg.FMN_LOAD_P0 : Fld := ⟨0xC0002000, 8, 0x0⟩
def Reg.FMN_LOAD_P1 : Fld := ⟨0xC0002008, 8, 0x0⟩
def Reg.FMN_LOAD_P2 : Fld := ⟨0xC0002010, 8, 0x0⟩
def Reg.FMN_LOAD_P3 : Fld := ⟨0xC0002018, 8, 0x0⟩
-- FMN_RESTART_LOG (13_joiners_and_foreman.md)
def Reg.FMN_RESTART_LOG_EPOCH : Fld := ⟨0xC0003000, 56, 0x0⟩
def Reg.FMN_RESTART_LOG_CAUSE : Fld := ⟨0xC0003038, 2, 0x0⟩
-- FMN_STAT (13_joiners_and_foreman.md)
def Reg.FMN_STAT_COUNT (k : Nat) : Fld := ⟨(0x600100 + 0x8 * k) * 512 + 0, 64, 0x0⟩

/-- The register map of block FMN (R584). -/
def regTableFmn : List RegDef := [
  ⟨0x600000, [], 32, [⟨0, 10, .rw, 0x00A⟩]⟩,
  ⟨0x600004, [], 32, [⟨0, 1, .w1p, 0x0⟩]⟩,
  ⟨0x600008, [], 32, [⟨0, 3, .ro, 0x0⟩, ⟨3, 1, .ro, 0x0⟩, ⟨4, 1, .ro, 0x0⟩, ⟨8, 8, .ro, 0x0⟩, ⟨16, 13, .ro, 0x0⟩]⟩,
  ⟨0x600010, [], 32, [⟨0, 8, .ro, 0x0⟩, ⟨8, 8, .ro, 0x0⟩, ⟨16, 8, .ro, 0x0⟩, ⟨24, 8, .ro, 0x0⟩]⟩,
  ⟨0x600018, [], 64, [⟨0, 56, .ro, 0x0⟩, ⟨56, 2, .ro, 0x0⟩]⟩,
  ⟨0x600100, [(0x8, 8)], 64, [⟨0, 64, .ro, 0x0⟩]⟩]


/-! ### Block SVY -/

-- SVY_CFG (19_event_recorder_and_freeze.md)
def Reg.SVY_CFG_TRIGGER_EN : Fld := ⟨0xE0000000, 4, 0x0⟩
-- SVY_TRIGGER (19_event_recorder_and_freeze.md)
def Reg.SVY_TRIGGER_EVENT (i : Nat) : Fld := ⟨(0x700010 + 0x4 * i) * 512 + 0, 16, 0x0⟩
-- SVY_LAST (19_event_recorder_and_freeze.md)
def Reg.SVY_LAST_CAUSE : Fld := ⟨0xE0020000, 2, 0x0⟩
def Reg.SVY_LAST_INDEX : Fld := ⟨0xE0020002, 2, 0x0⟩
def Reg.SVY_LAST_READ_OUT : Fld := ⟨0xE0020004, 1, 0x0⟩
def Reg.SVY_LAST_THAWED : Fld := ⟨0xE0020005, 1, 0x0⟩
def Reg.SVY_LAST_EPOCH : Fld := ⟨0xE0020008, 56, 0x0⟩

/-- The register map of block SVY (R584). -/
def regTableSvy : List RegDef := [
  ⟨0x700000, [], 32, [⟨0, 4, .rw, 0x0⟩]⟩,
  ⟨0x700010, [(0x4, 4)], 32, [⟨0, 16, .rw, 0x0⟩]⟩,
  ⟨0x700100, [], 64, [⟨0, 2, .ro, 0x0⟩, ⟨2, 2, .ro, 0x0⟩, ⟨4, 1, .ro, 0x0⟩, ⟨5, 1, .ro, 0x0⟩, ⟨8, 56, .ro, 0x0⟩]⟩]

/-- Every register of the control space (R582, R584). -/
def regTable : List RegDef :=
  regTableGlb ++ regTableMod ++ regTableMbx ++ regTableFrm ++ regTablePwr ++ regTableClk ++ regTableEvr ++ regTableYrd ++ regTableDqm ++ regTableBch ++ regTableTir ++ regTableEcc ++ regTableCph ++ regTableRdm ++ regTableHpt ++ regTableEth ++ regTableFlc ++ regTableLft ++ regTableSlc ++ regTableFst ++ regTableTwn ++ regTableJnb ++ regTableFmn ++ regTableSvy

end Sys2Proof.Machine
end

