-- ==== Sys2Proof/Machine/State.lean ====
section
/-!
DEFINITION. Sys2Proof/Machine/State.lean: the state of ONE module of the pair, as plain data, and its value right after
power-on.  Registers live in `regs`; what the spec keeps outside the control space (queues, records, descriptors, flash and
store contents) lives in the structures below, each docstring naming the rule that gives it.  Times are epochs in µs (R12).
-/
namespace Sys2Proof.Machine

open Sys2Proof

/-- The eight modes and their codes (17_modes_and_bringup.md, Modes and transitions). -/
inductive Mode where
  | standby | bringup | quiesced | paired | resync | solo | spill | recovery
deriving DecidableEq, Repr

/-- The pair states (R111). -/
inductive PairState where
  | unpaired | joining | paired | catchingUp | resyncing | solo | fenced | contested
deriving DecidableEq, Repr

/-! ### Power (16_power_headgate_spill.md) -/

/-- What a headgate request belongs to (R501): the operation that holds or awaits the tokens. -/
inductive HgOwner where
  | op (n : Nat)            -- an operation the environment names by a number
  | pack (granule : Nat)    -- a drain, repair or poison pack
  | resaw                   -- the resaw's relocation
  | erase (stripe : Nat)    -- an erase of a victim stripe
  | sweepLoft (stack : Nat)
  | sweepFloor (channel : Nat)
  | cisternCopy             -- the copy rebuild of R81
  | evac (channel : Nat)    -- a floor evacuation (R487)
  | format                  -- the erases of FOOTING_FORMAT (R261)
deriving DecidableEq, Repr

/-- One request for power tokens (R500, R502). -/
structure HgReq where
  owner  : HgOwner
  h0     : Bool
  tokens : Nat
deriving DecidableEq, Repr

/-- What follows a spill's commit marker (R508, R511, R526). -/
inductive AfterSpill where
  | powerOff                              -- the spill runs from the bank: R511
  | recovery                              -- R212, R258, R385, R426, R431, R505, R523
  | standby                               -- thermal shutdown (R514)
  | moduleReset (scope cause : Nat)       -- R524, R526
deriving DecidableEq, Repr

/-- A spill under way (R508, R509). -/
structure SpillRun where
  fromBank  : Bool
  mode      : Nat             -- code of the mode the reset or entry was called for in (MOD_RESET_LOG.MODE_AT)
  streaming : Bool
  started   : Nat
  after     : AfterSpill
deriving DecidableEq, Repr

/-- Power, bank and headgate state outside the registers. -/
structure PwrSt where
  powered    : Bool
  pfFilter   : Bool                -- the 20 µs filter of R28 runs
  pfOut      : Bool                -- PAIR_PF_OUT asserted (R509)
  hgHeld     : List HgReq          -- tokens granted (R500)
  hgWait     : List HgReq          -- waiting, in arrival order (R502)
  spill      : Option SpillRun
  testFloor  : Nat                 -- floor of the running discharge test, 10 mV
  testMbx    : Option Nat          -- mailbox waiting on DISCHARGE_TEST (R518)
  testAt     : Nat                 -- epoch of the last discharge test, 0 where none ran since power-on (PWR_BANK_MEAS.AGE_DAYS)
  thermHold  : Bool                -- STANDBY entered by a thermal shutdown (R514)
  justOn     : Bool                -- no restore outcome since island 0 was powered on (R564)
  inReset    : Option Nat          -- islands 1–27 held in reset: the scope (R525)
  resetPend  : Option Nat          -- a RESET command completed, to be applied in 100 µs (R460)
  modeMbx    : Option Nat          -- mailbox of a MODE_REQUEST that waits for RECOVERY (R460)
  serveStop  : Bool                -- service stopped ahead of a spill or an entry (R523, R526)
deriving DecidableEq, Repr

/-! ### Logbook, freeze and survey (19_event_recorder_and_freeze.md) -/

/-- One logbook record (R561); `seq`, `cycles` and `opTime` are none while the spec carries them as 0xFF bytes (R562, R564);
`window` is the period of a rate-limited record in µs, 0 for one that is closed from the start (R563). -/
structure LogRec where
  seq        : Option Nat
  event      : Nat
  isOpen     : Bool
  spilled    : Bool
  lostBefore : Bool
  source     : Nat
  cycles     : Option Nat
  epoch      : Nat
  tally      : Nat
  lastDelta  : Nat
  opTime     : Option Nat
  subject    : Nat
  detail     : Nat
  window     : Nat
deriving DecidableEq, Repr

/-- The logbook (R561 to R570) and the freeze (R573 to R577). -/
structure LogSt where
  buf        : List LogRec     -- the 4,096-record buffer, oldest first (R565)
  store      : List LogRec     -- records whose page program is confirmed, oldest first (R566)
  pageOut    : Nat             -- records of the buffer's front in a page being programmed (R566)
  nextSeq    : Option Nat      -- next number, none until the restore outcome is known (R562)
  lostNext   : Bool            -- the next record carries LOST_BEFORE (R568)
  missed     : Nat             -- records not made since bring-up (R570)
  cycles     : Option Nat      -- power-cycle count of this power cycle (R564)
  opBase     : Nat             -- operating-time base, ms, at `opEpoch` (R564)
  opEpoch    : Nat
  frozen     : Bool
  freezeAt   : Option (Nat × Nat)   -- freeze epoch F and cause, ordered (R575)
  freezeHeld : Option Nat      -- a freeze deferred to the commit marker, its cause (R574)
  freezeCmd  : Bool            -- a FREEZE command completed, triggers in 100 µs (R573)
  unlocked   : Bool            -- survey unlocked (R580)
  unlockFail : Nat
  svyAddr    : Nat             -- SVY_ADDR (R578)
  svyRead    : Nat             -- survey bytes read, for event 0x0E03
deriving DecidableEq, Repr

/-! ### The firmware store (18_firmware_store.md) -/

/-- A commit marker (R554). -/
structure Marker where
  seq      : Nat
  slot     : Nat
  joinery  : Nat
  sunVer   : Nat
  joinVer  : Nat
deriving DecidableEq, Repr

/-- The latest counter-journal record of a key ID (R376). -/
structure JKey where
  inst      : Nat
  next      : Nat
  spent     : Bool
  forgotten : Bool
deriving DecidableEq, Repr

/-- The firmware-store die and the records the logs hold in force (R541, R550). -/
structure StoreSt where
  bytes      : List Host.Cell       -- image and region contents: logical sector × 65,536 + byte, stored as the complement, so
                                    -- that an erased byte 0xFF is not listed (R541)
  programs   : List (Nat × Nat)     -- programs of a word since its erase (R544), by word address
  unverified : List Nat             -- sectors not verified (R545)
  suspect    : List Nat             -- suspect sectors (R546)
  badErase   : List Nat             -- sectors grown bad, remapped or out of service (R548, R549)
  dead       : List Nat             -- grown-bad sectors with no spare left (R549)
  erases     : List (Nat × Nat)     -- erase count by sector (R545)
  opSector   : Nat                  -- sector of the operation under way
  minSecVer  : Nat                  -- minimum Sundyth security version, OTP segment 1 (R529)
  spares     : Nat                  -- spares left (R548)
  opMbx      : Option Nat           -- mailbox whose command holds the foreman with a store operation (R543)
  markers    : List Marker          -- valid markers, newest first (R554)
  markerWords : Nat                 -- words used in the marker sectors
  unlockFail : Nat                  -- failed REGION_UNLOCK attempts since the last module reset (R552)
  raiseFail  : Nat                  -- failed raises of R589 since the last module reset
  cfg        : List (Nat × Nat)     -- the configuration record: field key, value (R480)
  cfgWords   : Nat                  -- words used in the active half of the configuration log (R551)
  cleanStop  : Option Nat           -- clean-stop record, with the spill number it is newer than (R535)
  gen        : Nat                  -- TWN_GEN recorded (R132)
  twinId     : Nat                  -- TWN_TWIN_ID recorded (R133)
  serials    : List (Nat × Nat)     -- reach serials (R380)
  jkeys      : List (Nat × JKey)    -- the counter journal's latest record of each key ID (R376)
  jInst      : Nat                  -- key instances given so far (R374)
  jWords     : Nat                  -- records in the journal's active half, and which half it is (R378)
  jHalf      : Nat
  wraps      : List (Nat × Nat × Bool)  -- the wrap table: granule, count, PENDING (R382)
  bankC      : Nat                  -- bank measurement recorded (R507): 10 µF, mΩ, 10 mJ, age in days
  bankEsr    : Nat
  bankE      : Nat
  bankAge    : Nat
  cycles     : Nat                  -- power cycles recorded (R564)
  opBase     : Nat                  -- operating-time base recorded, and its epoch (R564)
  opAt       : Nat
  mapOutJ    : List (Nat × Nat)     -- joiners mapped out, 8 × bay + joiner, and the cause (R425)
  mapOutC    : List (Nat × Nat)     -- cipher cores mapped out and the cause (R384)
  stopState  : Nat                  -- pair state at the stop, for R536
  reachRegs  : List (Nat × Nat)     -- the reach table as the media log, the footing and the spill restore it (R42, R60)
  variantB   : Bool                 -- CSH-4896-1B (R2), OTP segment 0
  serial     : Nat
  identity   : Nat                  -- first 64 bits of the device certificate's digest (R133, R458)
deriving DecidableEq, Repr

/-! ### SPDM (R531, R532) and the management port (R587) -/

/-- One SPDM session: level 0 OBSERVE to 3 FACTORY, on the management port or a host DOE mailbox. -/
structure Session where
  mgmt    : Bool
  port    : Nat
  ld      : Nat
  level   : Nat
  secured : Bool
  keyPair : Nat
  opened  : Nat
deriving DecidableEq, Repr

/-! ### Mailboxes (14_mailbox_interface.md) -/

/-- Mailbox queues outside MBX_STATE: the payload memories (mailbox × 4,096 + byte), the queued mailboxes in arrival order,
and the doorbell count (R444). -/
structure MbxSt where
  payload  : List Host.Cell
  queue    : List Nat
  running  : List Nat        -- mailboxes RUNNING, oldest start first
  rings    : Nat
  aborting : List Nat        -- accepted before an expiry, to be ABORTED when the restart ends (R432)
deriving DecidableEq, Repr

/-- The foreman outside its registers (R427 to R434): exception notices queued by subject, epochs of its watchdog expiries, when the
running restart began, and how many times each handler entry exceeded its budget in the running second (R415). -/
structure FmnSt where
  exc       : List Nat
  expiries  : List Nat
  restartAt : Nat
  budgets   : List (Nat × Nat)   -- handler entry and epoch of each excess
deriving DecidableEq, Repr

/-- One entry staged in a frame (R461). -/
structure FrmEntry where
  off   : Nat
  mask  : Nat
  value : Nat
deriving DecidableEq, Repr

/-- A frame that is not FREE (R471): state 1 OPEN, 2 FITTED, 3 SCHEDULED; the last dry-fit's report; the mailbox that opened it
and the one whose FRAME_PEG waits. -/
structure Frame where
  state   : Nat
  entries : List FrmEntry
  status  : Nat
  target  : Nat
  opener  : Nat
  waiter  : Option Nat
  checked : Bool               -- the re-check of R479 has passed
deriving DecidableEq, Repr

/-- A FREE frame. -/
def Frame.free : Frame := { state := 0, entries := [], status := 0, target := 0, opener := 0, waiter := none, checked := false }

/-- Frames by number; the fields of R478 that a peg has changed, with the value that acts until the next bring-up; and the settings generations
before the one in force: the islands of each and the tickets of its operations still in flight (R477). -/
structure FrmSt where
  frames   : List (Nat × Frame)
  deferred : List (Nat × Nat)
  old      : List (List Nat × List Nat)
deriving DecidableEq, Repr

/-- A ready joinery step on a bay's work list (R413, R417): the operation it belongs to (a ticket number, or 65,536 plus a move slot's), its handler entry,
the image it started under and the mask of its eligible bays. -/
structure JStep where
  op    : Nat
  entry : Nat
  image : Nat
  bay   : Nat
  mask  : Nat
deriving DecidableEq, Repr

/-- Bays outside their registers. -/
structure JnbSt where
  ready   : List JStep              -- posted steps in order, each on its bay's work list (R417)
  ops     : List (Nat × Nat)        -- operations in flight and the IMAGE_VERSION each started under (R423)
  waiters : List (Nat × Nat)        -- bay, mailbox waiting on JOINERY_LOAD or BAY_DRAIN
  compat  : List (Nat × Nat)        -- bay, COMPAT_MIN of its image (R421)
  masks   : List (Nat × List Nat)   -- bay, eligible bay masks of its image's QUEUE_MAP (R417, R421); none listed: the default
  testAt  : Nat                     -- epoch of the last periodic self-test (R425)
  retest  : List Nat                -- joiners whose MAP_OUT a frame has cleared, to be tested before they serve (R425)
deriving DecidableEq, Repr

/-- Messages the module sends on its wires and ports, newest first in `State.sent`. -/
inductive Msg where
  | msix (port vec : Nat)                                -- mailbox or device-mailbox interrupt (R444)
  | alert (mbx : Nat)                                    -- ALERT_N asserted (R444)
  | reply (path status : Nat) (data : List Byte)         -- a management-port or register access answered (R588)
  | spdm (path : Nat) (code : String) (data : List Byte) -- an SPDM response (R531)
  | cxl (port ld tag : Nat) (code : String) (data : List Byte)      -- a CXL.mem or device-mailbox response
  | rdma (port qp psn : Nat) (code : String) (data : List Byte)     -- an RDMA response
  | eth (port : Nat) (code : String) (data : Nat)        -- other Ethernet answers: ARP, CNP, PFC
  | frame (port : Nat) (code : String) (reach seq : Nat) (data : List Byte)   -- a Rilram frame (R121)
  | heartbeat (word : List Byte)                         -- a heartbeat word's eight bytes (R114)
  | line (name : String) (high : Bool)                   -- a discrete line
  | cipher (job : Nat) (status : Nat) (data : List Byte) -- a cipher report record (R373)
  | prim (name : String) (status value : Nat)            -- the return of a joinery primitive
  | jtag (data : Nat)                                    -- what a JTAG scan shifts out (R578)
deriving DecidableEq, Repr

/-! ### The cistern (03_cistern.md) -/

/-- The record types of R86. -/
inductive RecKind where
  | full | partWrite | atomic | xlate | reach | void | pad
deriving DecidableEq, Repr

/-- A translation entry as an XLATE slot carries it (R88). -/
structure XltEnt where
  granule : Nat
  locator : Nat
  gen     : Nat
deriving DecidableEq, Repr

/-- One cistern record: the header of R85, its payload, and where it stands (R61, R67, R90). -/
structure Rec where
  kind     : RecKind
  reach    : Nat
  isLocal  : Bool
  origin   : Nat
  mirror   : Bool
  window   : Nat
  seq      : Nat
  line     : Nat              -- LINE_ADDR, HA[47:6] of the first line
  mask     : Nat              -- BYTE_MASK
  poison   : Nat              -- POISON, bit per payload line
  epoch    : Nat
  ticket   : Nat
  port     : Nat
  part     : Nat
  last     : Bool
  data     : List Byte        -- payload slots, 64 B each
  xlts     : List XltEnt      -- the entries of an XLATE record
  pos      : Nat              -- ring position of its header (R84)
  held     : Bool             -- in both copies, or the surviving one (R61, R81)
  visible  : Bool             -- R67
  applied  : Bool             -- R90
  retired  : Bool             -- R26
deriving DecidableEq, Repr

/-- Who sent a request, and so where its answer goes (R302, R338): a CXL port, logical device and tag; an RDMA QP, packet number and
index; the twin's FORWARD with its ticket; a device command of a logical device; a joinery primitive. -/
inductive Src where
  | cxl (port ld tag : Nat)
  | rdma (qp psn index : Nat)
  | twin (ticket : Nat)
  | doe (port ld : Nat)
  | prim (n : Nat)
  | spec (port : Nat)       -- a speculative read, which nothing answers (R302)
  | gone (port : Nat)       -- a request whose link went down: it runs to its end and its response is discarded (R320)
deriving DecidableEq, Repr

/-- The 8 B atomics (R72): home address of the 8 bytes, which operation, and its operands. -/
inductive AtomicOp where
  | compareSwap (addr cmp swap : Nat)
  | fetchAdd (addr value : Nat)
  | write (addr value : Nat)
deriving DecidableEq, Repr

/-- One record's worth of a host write (R87): first line, FULL or PARTIAL with its mask, poison bits, data. -/
structure Piece where
  line   : Nat
  full   : Bool
  mask   : Nat
  poison : Nat
  data   : List Byte
deriving DecidableEq, Repr

/-- A host write or atomic with its ticket (R21, R72). -/
structure WriteOp where
  ticket : Nat
  src    : Src
  window : Nat
  cls    : Nat            -- 0 MIRRORED, 1 LOCAL, 2 VOLATILE
  tenant : Nat
  port   : Nat            -- origin port: 0–7 CXL host ports, 8–11 Ethernet ports 0–3 (R85)
  pieces : List Piece
  atomic : Option AtomicOp
  gpf    : Bool           -- a GPF phase 2 waits for it (R62, R63)
deriving DecidableEq, Repr

/-- A sequenced operation that waits for its records to reach their completion point (R51, R87). -/
structure WaitOp where
  op      : WriteOp
  parts   : List (Nat × Nat)   -- (reach, sequence number) it waits for
  fwd     : List Nat           -- reaches whose parts were forwarded and not yet returned (R21)
  answer  : List Byte          -- the original value of an atomic
deriving DecidableEq, Repr

/-- A read or an atomic that waits: for a record to become visible or applied (R68), for a lock (R181), or on a fill (R169). -/
structure Req where
  ticket  : Nat
  src     : Src
  line    : Nat
  window  : Nat
  tenant  : Nat
  cls     : Nat
  atomic  : Option AtomicOp
  chained : Bool
  noPromote : Bool             -- R182
deriving DecidableEq, Repr

/-- The cistern outside its registers. -/
structure CisSt where
  recs     : List Rec         -- records whose segment is not freed, in ring order
  waitApp  : List Rec         -- sequenced records whose append waits at full-stop (R98), in order
  admitQ   : List WriteOp     -- admitted operations that wait for the end of a handover (R43)
  waitOps  : List WaitOp
  heldFwd  : List WriteOp     -- FORWARDs that wait for a handover (R43)
  fwdVals  : List (Nat × Nat) -- original values of the twin's atomics, by its ticket, until their RETURN (R72)
  drained  : List (Nat × Nat) -- epoch and bytes of host data drained in the last 100 µs (TIR_DRN_STATE.RATE)
  retires  : List (Nat × Nat) -- epoch and bytes of the retirements of the last 100 µs (R96)
  admits   : List (Nat × Nat) -- epoch and bytes of the writes admitted in SLOWED in the last 100 µs (R96)
  gpf      : List (Nat × List Nat) -- ports in GPF phase 2 and the tickets they wait for (R62, R315)
  tickets  : List (Nat × Nat) -- tickets held: number, holder (0–7 host ports, 8 the RDMA service; R313)
  applied  : List (Nat × Nat) -- highest sequence number applied, by reach (R41, R90)
  assigned : List (Nat × Nat) -- last sequence number assigned by this module as owner, by reach (R41)
  acked    : List (Nat × Nat) -- highest sequence number the twin has acknowledged, by reach (R124)
  journal  : Nat              -- the journal number of the next XLATE record (R85)
  survivor : Option Nat       -- stack that holds the surviving copy, when COPIES is not 0 (R81)
  newStack : Option Nat       -- stack the copy is rebuilt on
  roomMade : Bool
deriving DecidableEq, Repr

/-! ### Windows (02_memory_model.md) -/

/-- A window (R46, R49, R75): state 0 while it is only offered, 1 OPEN, 2 CLOSING, 3 CLOSED; what it is for CXL (static, or an extent with its offer) or RDMA. -/
structure Window where
  state    : Nat
  cls      : Nat
  rights   : Nat
  rdma     : Bool
  gapU     : Bool
  gapL     : Bool
  tenant   : Nat
  binding  : Nat
  base     : Nat
  len      : Nat
  inFlight : Nat
  unmir    : Nat
  extent   : Bool         -- a dynamic capacity extent (R309)
  offered  : Bool         -- not yet accepted by the host: FREE to every command but its offer (R309)
  dpa      : Nat
  region   : Nat
  since    : Nat          -- epoch of the offer, or of the release asked of the host (R309, R310)
  asked    : Bool         -- the host has been asked to release it (R310)
  waiters  : List Nat     -- mailboxes whose offer, release or close waits on it
deriving DecidableEq, Repr

/-! ### CXL host ports (09_cxl_host_ports.md) -/

/-- An M2S message in a port's Req or RwD queue (R302, R312, R314): kind 0 a read, 1 MemWr, 2 MemWrPtl; `dpa` is none where no decoder holds
its host address. -/
structure HMsg where
  port   : Nat
  ld     : Nat
  tag    : Nat
  kind   : Nat
  dpa    : Option Nat
  mask   : Nat
  poison : Bool
  data   : List Byte
deriving DecidableEq, Repr

/-- A committed HDM decoder and the DPA its range begins at (R303). -/
structure HdmDec where
  base : Nat
  size : Nat
  ways : Nat
  gran : Nat
  dpa  : Nat
deriving DecidableEq, Repr

/-- A configured DC region (R304, R308). -/
structure DcRegion where
  base       : Nat
  len        : Nat
  persistent : Bool
  shareable  : Bool
deriving DecidableEq, Repr

/-- An event record of a logical device (R300, R309, R310, R322): its event, a detail, the epoch. -/
structure LdEvent where
  handle : Nat
  event  : Nat
  detail : Nat
  epoch  : Nat
deriving DecidableEq, Repr

/-- The host ports outside their registers; logical device l of port p is number 16 × p + l. -/
structure HptSt where
  req      : List HMsg             -- Req queues, in arrival order (R312)
  rwd      : List HMsg             -- RwD queues
  decoders : List (Nat × HdmDec)   -- by 4 × logical device + decoder
  errs     : List Nat              -- decoders with Error Not Committed (R303)
  regions  : List (Nat × DcRegion) -- by 8 × logical device + region
  events   : List (Nat × LdEvent)  -- event records of the logical devices, oldest first
  handle   : Nat                   -- last record handle given
  policy   : List (Nat × Nat)      -- event interrupt policies set
  stamps   : List (Nat × (Nat × Nat))   -- timestamps set, with the epoch of the setting
  qos      : List (Nat × Nat)      -- QoS control set by port
  changed  : List Nat              -- logical devices whose CDAT has changed since it was read (R307)
  gpf1     : List Nat              -- ports that completed GPF phase 1
  viol     : List (Nat × Nat)      -- port and epoch of each violation of the last 1 s (R321)
deriving DecidableEq, Repr

/-! ### Tiers (05_tiers.md) and the bench (06_bench_cache.md) -/

/-- The kinds of move-lock holders (R181). -/
inductive LockKind where
  | fill | promotion | demotion | dropLoft | dropFloor | drainSnap | resyncSnap | resaw | rebuild
deriving DecidableEq, Repr

/-- A move lock held or awaited: its kind and the ticket or move slot that holds it. -/
structure Lock where
  kind   : LockKind
  holder : Nat
deriving DecidableEq, Repr

/-- A tier-directory entry (R161) with what the frame tables keep beside it: the valid bits of its copies (R160), the lock's holder
and waiters, and the quarters a fill still waits for (R168). -/
structure Gran where
  loft     : Bool
  floor    : Bool
  footed   : Bool
  pinned   : Bool
  loftPend : Bool
  floorPend : Bool
  age      : Nat
  tenant   : Nat
  cistern  : Nat
  stream   : Bool
  loftIndex : Nat
  loftStack : Nat
  floorIndex : Nat
  floorChannel : Nat
  loftValid : Nat         -- bit per line
  floorValid : Nat
  lock     : Option Lock
  waiters  : List Lock
  fillQ    : Nat          -- bit per quarter still to arrive
deriving DecidableEq, Repr

/-- An entry as a reach's provisioning creates it: zeros (R161). -/
def Gran.zero : Gran :=
  { loft := false, floor := false, footed := false, pinned := false, loftPend := false, floorPend := false, age := 0, tenant := 0, cistern := 0,
    stream := false, loftIndex := 0, loftStack := 0, floorIndex := 0, floorChannel := 0, loftValid := 0, floorValid := 0, lock := none,
    waiters := [], fillQ := 0 }

/-- A bench way that is not invalid (R196): space and block address stand for the tag. -/
structure BWay where
  isMeta  : Bool
  ba      : Nat
  valid   : Nat
  dirty   : Nat
  poison  : Nat
  age     : Nat
  filling : Bool
deriving DecidableEq, Repr

/-- A bench fill issued for a sector of a block (R198, R202, R208): the age it takes, whether a maintenance cut came after it. -/
structure BFill where
  isMeta : Bool
  ba     : Nat
  sector : Nat
  age    : Nat
  cut    : Bool
  mod    : Bool            -- a modification of the metadata sector waits on it (R201)
deriving DecidableEq, Repr

/-- A victim-buffer entry (R204, R205): the metadata block, its dirty sectors, the requests that wait on its reinstall. -/
structure VictimEnt where
  ba      : Nat
  sectors : Nat
  waits   : List Bool      -- true: a modification
deriving DecidableEq, Repr

/-- A stream tracker (R173): the requester, the next granule number, the length of the run, the epoch of its last miss. -/
structure Stream where
  who  : Nat
  next : Nat
  run  : Nat
  last : Nat
deriving DecidableEq, Repr

/-- A granule being packed (R25, R102, R283): kind 0 a drain pack, 1 a repair or poison pack, 2 a RESYNC
merge (R153), 3 a relocation (R190), 4 a checkpoint of translation page granule − 2^34 (R106). -/
structure Pack where
  granule  : Nat
  kind     : Nat
  gen      : Nat
  snap     : Nat
  poison   : Nat               -- bit per line of the granule
  data     : List Host.Cell    -- snapshot: offset in the granule, byte
  locator  : Nat
  slot     : Nat               -- the move slot it holds (R101)
  old      : Nat               -- a relocation's old locator (R190)
  entries  : List XltEnt       -- a checkpoint page's entries (R106)
  phase    : Nat               -- 0 placed, 1 its row group's program is confirmed (R230), 2 failed (R107)
deriving DecidableEq, Repr

/-- A row group being filled or programmed (R230): lane, unit, group number, open for relocation or for the drain, data slots used. -/
structure RowGrp where
  lane    : Nat
  unit    : Nat
  group   : Nat
  reloc   : Bool
  narrow  : Bool
  used    : Nat
  packs   : List Nat           -- granules placed in it
  started : Nat
  issued  : Bool               -- programming
deriving DecidableEq, Repr

/-- A stripe rebuild, read ladder or copy request under way on a quarter (R278): its deadline, the step it stands at, requests. -/
structure Ladder where
  quarter  : Nat               -- 4 × granule + quarter
  deadline : Nat
  step     : Nat               -- 1 retries, 2 stripe rebuild, 3 the twin's copy
  shifts   : Nat               -- shifts tried
  asked    : Bool
deriving DecidableEq, Repr

/-- The tiers outside their registers: directory, applied contents, poison marks, translation, waiting requests, bench. -/
structure TirSt where
  dir      : List (Nat × Gran)     -- by global granule number; unlisted: zeros
  home     : List Host.Cell        -- applied content by home address; unlisted: 0 (R33)
  poison   : List (Nat × Nat)      -- poisoned lines: 1 by HA[47:6] (R267)
  xlt      : List (Nat × XltEnt)   -- translation table, by granule (R104)
  dirtyXlt : List (Nat × Nat)      -- XLATE entries by translation page since its last checkpoint (R106)
  gens     : List (Nat × Nat)      -- write generation last given to a granule (R88, R381)
  waiting  : List Req              -- reads and atomics that wait, in arrival order
  ageQ     : List (Nat × Bool)     -- queued age evictions: granule, true for the loft copy (R178)
  hand     : List (Nat × Nat)      -- pressure hand by pool: the granule last passed (R179)
  nextStack : Nat                  -- round robin (R162)
  nextChan : Nat
  streams  : List Stream
  slots    : List (Nat × Nat)      -- move slots held: number, user 1 eviction, 2 drain, 3 resaw, 4 promotion or snapshot (R177)
  sweepAt  : Nat                   -- epoch the running pass started
  sweepDue : Bool                  -- the next period began while it ran (R166)
  rebuilds : List Nat              -- granules being rebuilt after copy loss (R184)
  erases   : List Nat              -- stripes whose erase is under way (R190, R239)
  evacs    : List Nat              -- stripes to be evacuated and retired (R246, R247)
  suspends : List (Nat × Nat)      -- suspensions of the operation under way, by 16 × sluice + die (R237)
  packs    : List Pack
  packQ    : List Nat              -- granules with a repair or poison pack queued (R283)
  groups   : List RowGrp
  ladders  : List Ladder
  shiftOf  : List (Nat × Nat)      -- read-level shift remembered by unit (R242)
  rswVictim : Option Nat           -- victim stripe of the resaw (R189)
  rswXlate : List Nat              -- journal numbers its erase waits for (R190)
  wearVictim : Option Nat          -- stripe of the wear relocation (R249)
  bench    : List (Nat × BWay)     -- by (bank × 768 + set) × 16 + way
  bfills   : List BFill
  victims  : List VictimEnt
  maint    : Option (Bool × Nat × Nat)  -- the maintenance operation under way: space, first and last line (R208)
  parity   : List (Nat × Nat)      -- bank and epoch of each parity error of the last 24 h (R217)
  inject   : Option (Nat × Nat × Nat)  -- ECC_INJECT armed: domain, unit, kind
  tabled   : Bool                  -- the reach table has been loaded in this bring-up (R42, R60)
  scrubAt  : List (Nat × Nat)      -- epoch the running scrub pass of a domain started (R290, R293)
  errs     : List (Nat × Nat)      -- errors of the last 24 h: counter (40 × channel + device, 640 + channel, 656 + stack), epoch (R294)
deriving DecidableEq, Repr

/-! ### The yard and the ditches (12_yard_and_ditches.md) -/

/-- A ditch cell that is in a packet: its number and the bytes it carries (R397, R399). -/
structure DCell where
  num  : Nat
  data : List Byte
deriving DecidableEq, Repr

/-- A ditch queue that is not CLOSED (R398 to R404, R411): state 1 OPEN, 2 CLOSING; linked packets in order, whether the consumer is part-way
through the head packet, and the packets open for it by caller. -/
structure DQueue where
  state    : Nat
  consumer : Nat
  notice   : Nat
  maxCells : Nat
  packets  : List (List DCell)
  part     : Bool
  opens    : List (Nat × List DCell)
deriving DecidableEq, Repr

/-- The yard and the ditches outside their registers: the bytes of the buffers (handle × 2^21 + offset), buffers held by handle with their owner, queues by number (a fixed queue is listed only
while it holds something), cells in use by number, halves of the loft cell store lost at a fence (R409). -/
structure YrdSt where
  started : Bool               -- pools and queues placed by a bring-up
  mem     : List Host.Cell
  bufs    : List (Nat × Nat)
  queues  : List (Nat × DQueue)
  cells   : List (Nat × Nat)   -- cell in use and its queue
  lost    : List Nat
deriving DecidableEq, Repr

/-! ### The cipher complex (11_cipher_complex.md) -/

/-- An application key in its slot (R368, R371, R374, R376): its key ID stands for the key, which no path reads out (R369); the mailbox that waits for its first record;
whether and for which mailbox it is being cleared. -/
structure CSlot where
  keyId    : Nat
  inst     : Nat
  mode     : Nat
  counter  : Nat               -- next value of the invocation counter
  limit    : Nat               -- end of the block in use; 0 until the first record is read back
  ahead    : List Nat          -- reserved blocks not yet in use (R376)
  loader   : Option Nat
  clearing : Option Nat
deriving DecidableEq, Repr

/-- A cipher job under way (R366, R372, R383): the primitive's caller, or the mailbox that waits. -/
structure CJob where
  mbx     : Option Nat
  decrypt : Bool
  mode    : Nat
  slot    : Nat
  dst     : Nat
  bufs    : List Nat           -- yard buffers of the submission (R409)
  iv      : Nat
  tag     : Nat
  aad     : List Byte
  data    : List Byte
  started : Bool               -- false: a GCM decryption that waits for hold space
deriving DecidableEq, Repr

/-- The cipher complex outside its registers: application slots by number, jobs by number. -/
structure CphSt where
  slots : List (Nat × CSlot)
  jobs  : List (Nat × CJob)
deriving DecidableEq, Repr

/-! ### RDMA service (10_rdma_service.md) -/

/-- A packet of a QP as it arrives (R324): kind 0 SEND, 1 WRITE, 2 WRITE with immediate, 3 READ, 4 compare-swap, 5 fetch-add, 6 ATOMIC WRITE,
7 FLUSH, 8 WAIT; place 0 Only, 1 First, 2 Middle, 3 Last.  `a` and `b` are the operands of an atomic, FLUSH's persistence and whole-window bits, or
WAIT's counter and threshold. -/
structure RPkt where
  port  : Nat
  qp    : Nat
  psn   : Nat
  kind  : Nat
  place : Nat
  key   : Nat
  off   : Nat
  len   : Nat
  imm   : Option Nat
  a     : Nat
  b     : Nat
  ce    : Bool
  data  : List Byte
deriving DecidableEq, Repr

/-- A message of a QP under way (R335, R338 to R345): its packets' PSNs, its window and what it takes, how far it has come.  `stage` is 0 not
started, 1 started, 2 its slot or data written and the producer count due, 3 done. -/
structure RMsg where
  psn    : Nat
  last   : Nat               -- PSN of the last packet that has arrived
  msn    : Nat
  kind   : Nat
  window : Option Nat
  off    : Nat
  len    : Nat
  imm    : Option Nat
  a      : Nat
  b      : Nat
  chunks : List (Nat × List Byte)   -- packets' data not yet handed on: offset in the message
  got    : Nat               -- bytes that have arrived
  whole  : Bool              -- every packet has arrived
  since  : Nat               -- epoch of its last packet
  begun  : Nat               -- epoch of its first packet
  ticket : Option Nat
  stage  : Nat
  issued : Nat               -- operations handed to the cistern or the tiers
  back   : Nat               -- operations answered
  answer : List (Nat × Bool × List Byte)  -- answers of lines and atomics: index, poisoned, data
  sent   : Nat               -- READ response packets sent
  slot   : Option Nat        -- ring slot number (R344)
  marks  : List (Nat × Nat)  -- reaches and numbers a FLUSH waits for the twin to acknowledge (R64)
  again  : Bool              -- a duplicate READ executed again (R341)
deriving DecidableEq, Repr

/-- A QP (R333 to R337): state 1 RTR, 2 DRAINING, 3 ERROR. -/
structure Qp where
  state     : Nat
  port      : Nat
  mtu       : Nat
  resources : Nat
  pd        : Nat
  vlan      : Nat            -- bytes 5–7 of QP_CREATE: tag present, IPv6, VLAN and priority
  dscp      : Nat
  peerMac   : Nat
  peerQp    : Nat
  peerIp    : Nat
  entropy   : Nat
  ownAddr   : Nat
  ring      : Option Nat
  variant   : Nat            -- variant of the ring window at binding
  slotLog   : Nat
  counter   : Nat
  epsn      : Nat
  msn       : Nat            -- last message acknowledged
  nextMsn   : Nat
  rate      : Nat
  naked     : Bool           -- the PSN sequence error NAK of the present gap has been sent (R341)
  msgs      : List RMsg
  fail      : Option (Nat × Nat × Nat × Option Nat × Nat)  -- while DRAINING: status, opcode, PSN, window, offset of the failing request
  ackDue    : Nat            -- packets acknowledgeable and not yet acknowledged (R340)
  atoms     : List (Nat × Nat)     -- atomic result cache: PSN and value (R341)
  report    : List Byte      -- last report record (R336)
  cnpAt     : Option Nat     -- epoch of the last CNP sent (R358)
  cnpGot    : Nat            -- epoch of the last CNP received or rate step (R359)
  destroyer : List Nat       -- mailboxes of QP_DESTROY or QP_ERROR that wait (R334)
  destroyed : Bool           -- QP_DESTROY waits for ERROR
deriving DecidableEq, Repr

/-- A receive ring in use (R344): slots, slots reserved by SENDs under way, next slot number, slots completed, producer count written. -/
structure Ring where
  reserved : Nat
  next     : Nat
  done     : List Nat
  count    : Nat
deriving DecidableEq, Repr

/-- RDMA outside its registers. -/
structure RdmSt where
  got      : List (Nat × Nat × Nat × Bool × List Byte)  -- QP, PSN, index, poisoned, data: answers not yet taken up
  pds      : List (Nat × Option Nat)   -- protection domains and their report windows (R328)
  qps      : List (Nat × Qp)
  counters : List (Nat × Nat)          -- completion counters that are not 0 (R346)
  variants : List (Nat × Nat)          -- variant of each window slot, 0 before its first open (R330)
  rings    : List (Nat × Ring)         -- by window
  cache    : List Nat                  -- QPs whose contexts are on the die, latest used first (R351)
  fetching : List Nat                  -- QPs whose contexts are being fetched (R352)
  parked   : List RPkt                 -- packets parked, in arrival order (R352)
  viol     : List (Nat × Nat)          -- port and epoch of each violation of the last 1 s (R363)
  paused   : List (Nat × Nat × Nat)    -- port, priority and epoch of each pause in force (R357)
  ignored  : List (Nat × Nat × Nat)    -- port, priority and epoch up to which its pause is ignored (R363)
  heldOut  : List (Nat × Nat × Msg)    -- responses held by a pause: port, priority, message
deriving DecidableEq, Repr

/-! ### Spill slots and footing contents (07_footing_media.md) -/

/-- A granule as the footing stores it at a locator: the quarter metadata of R227 and the data, by offset in the granule. -/
structure Stored where
  granule : Nat
  gen     : Nat
  snap    : Nat
  poison  : Nat
  data    : List Host.Cell
deriving DecidableEq, Repr

/-- A stripe-table entry (R232); state 0 FREE, 1 OPEN_DRAIN, 2 OPEN_RELOC, 3 CLOSED, 4 RETIRED, 5 SPILLWAY. -/
structure Stripe where
  state  : Nat
  narrow : Bool
  absent : Nat
  live   : Nat
  erases : Nat
  stamp  : Nat
  groups : Nat            -- row groups programmed (R240)
deriving DecidableEq, Repr

/-- A stripe never used. -/
def Stripe.free : Stripe := { state := 0, narrow := false, absent := 0, live := 0, erases := 0, stamp := 0, groups := 0 }

/-- What a spill saves in a slot (R253): the occupied segments with the translation tail, the catch-up bitmap with the void
list, ring positions, the logbook buffer, the pair state and generation at the stop, and the commit marker with the values of R511. -/
structure SpillImage where
  number    : Nat
  committed : Bool
  recs      : List Rec
  cub       : List Nat
  coarse    : List Nat
  voids     : List (Nat × Nat)
  voidWhole : List Nat
  head      : Nat
  tail      : Nat
  applied   : List (Nat × Nat)
  assigned  : List (Nat × Nat)
  journal   : Nat
  log       : List LogRec
  pairState : Nat
  gen       : Nat
  epoch     : Nat
  duration  : Nat
  energy    : Nat
  vbank     : Nat
deriving DecidableEq, Repr

/-- The media: what survives loss of power outside the firmware store. -/
structure MedSt where
  slot0 : Option SpillImage     -- none: ERASED
  slot1 : Option SpillImage
  spillNo : Nat                 -- number of the last spill written
  spillInto : Option Nat        -- slot of the stream under way
  formatted : Bool              -- a remap record exists (R261)
  stored : List (Nat × Stored)  -- by LOCATOR (R229); unlisted: nothing live or stale there
  ckpt   : List (Nat × XltEnt)  -- translation as last checkpointed, by granule (R106)
  ckptSeq : List (Nat × Nat)    -- the journal number up to which a page's checkpoint holds the translation (R106)
  ckptLoc : List (Nat × Nat)    -- where a page's checkpoint lies
  stripes : List (Nat × Stripe) -- by (16 × k + d) × 4,096 + unit; unlisted: FREE and never erased
  stamp  : Nat                  -- next closing order (R232)
  spares : List (Nat × Nat)     -- spare units used, by 16 × sluice + die (R244, R245)
  worn   : List Nat             -- units whose 90 % event has been raised (R250)
  eraseBase : Nat               -- erases of every stripe that is not listed: the formats (R261)
  rebuildQ : List Nat           -- stripes still to rebuild onto a new board (R260)
  units  : Nat                  -- units of a spillway slot per die, fixed at format (R252)
  restored : Option Nat         -- slot restored and not yet erased (R254)
  wearAt : Nat                  -- epoch of the last wear relocation (R249)
deriving DecidableEq, Repr

/-- One direction's frame numbering and counter blocks on a Rilram port (R120, R124 to R126, R129), and its partner's. -/
structure PortSt where
  txSeq    : Nat                -- FRAME_SEQ of the next frame
  rxSeq    : Nat                -- next FRAME_SEQ expected in order
  counter  : Nat                -- next COUNTER of the sending key instance
  counterEnd : Nat              -- end of the recorded blocks (R129)
  rxCounter : Nat               -- next COUNTER acceptable under the receiving instance (R157)
  rxOld    : Option (Nat × Nat) -- previous receiving instance and its next COUNTER, while it is accepted (R130)
  rxNewAt  : Option Nat    -- epoch of the first frame under the new instance (R130)
  credit   : Nat                -- bytes the twin still grants
  resend   : List (Nat × Msg)   -- resend store: FRAME_SEQ and frame (R126)
  group    : Nat                -- encrypted frames since the last PARITY frame (R125)
  rekeyAt  : Option Nat         -- epoch a rekey started (R131)
  setup    : Bool               -- connection setup under way (R119, R128)
  ahead    : List (Nat × FrameBody)  -- accepted frames that wait for an earlier FRAME_SEQ (R123)
  keyAt    : Nat                -- epoch the sending key instance came into use (R130, R131)
deriving DecidableEq, Repr

/-- A provisioning (action 0) or release (1) of a persistent reach under way: the mailbox that waits at the module that was asked, and
whether this module and its twin hold the REACH record (R37, R466). -/
structure ReachOp where
  reach  : Nat
  action : Nat
  kind   : Nat
  owner  : Nat
  mbx    : Option Nat
  own    : Bool
  twin   : Bool
deriving DecidableEq, Repr

/-- The twin link outside its registers. -/
structure TwnSt where
  cub    : List Nat             -- granules marked in the catch-up bitmap (R147, R148)
  coarse : List Nat             -- regions marked whole (R148)
  voids  : List (Nat × Nat)     -- the void list: reach and sequence number (R616)
  voidWhole : List Nat          -- reaches voided whole (R616)
  port0  : PortSt
  port1  : PortSt
  ackDue : List (Nat × Nat)     -- ACK entries due: reach and number (R124)
  heldN  : Nat                  -- records received from the twin and held: HELD_PROGRESS (R114)
  slot   : Nat                  -- SLOT of the next word sent
  lastSlot : Option Nat         -- SLOT of the last valid word (R115)
  before : Nat                  -- pair state before JOINING (R615)
  accept : Bool                 -- PAIR_JOIN_ACCEPT given (R133)
  waitingJoin : Bool            -- a join waits for command (R133)
  margin : Bool                 -- the fence margin of a takeover runs (R144)
  settled : Bool                -- this module is to catch up once PAIR_FENCE_IN deasserts (R146)
  twinSettled : Bool            -- the twin is to catch up; RESYNCING waits for FENCED 0 (R146)
  twinGen : Nat                 -- the twin's generation, as exchanged in JOINING (R134)
  handovers : List (Nat × Nat × Option Nat)  -- reach, step 1–4 and the mailbox that waits (R43)
  partialG : List Nat           -- granules with a partial copy (R152)
  streamBytes : List (Nat × Nat) -- epoch and bytes streamed in the last 100 µs (TWN_RSY_STATE.RATE)
  streamed : List Nat           -- granules sent and not yet acknowledged (R153)
  owned  : List Nat             -- reaches the twin owned before the split (R155)
  split  : Option (Option Nat × Bool)  -- a planned split under way: the mailbox that waits here, and whether this module departs (R150)
  reachOps : List ReachOp       -- provisionings and releases of persistent reaches under way (R37, R466)
  hist   : Option TwinHist      -- the twin's history, as received in JOINING (R134)
  wordAt : Nat                  -- epoch of the last valid word (R139, R140)
  runAt  : Nat                  -- epoch from which words have come without a gap (R140)
  frameAt : Nat                 -- epoch of the last valid frame (R139, R140)
  twinHeld : Nat                -- HELD_PROGRESS of the last word, and the epoch it last changed (R139)
  heldAt : Nat
  twinCf : Bool                 -- CABLE_FAULT of the last word: the twin has lost this module's heartbeat (R114, R141)
  downAt : Option Nat           -- epoch since which both Rilram ports are down (R141)
  deaf   : Bool                 -- frames from the twin are not acted on, from the declaration to the next join (R144)
  joining : Bool                -- a join is under way (R133); a serving SOLO module keeps its pair state meanwhile
  barred : Bool                 -- FENCED until reset (R212)
  viol   : List (Nat × Nat)     -- link (0 cable, 1 port 4, 2 port 5) and epoch of each violation of the last 1 s (R157)
  tkoFull : Bool                -- the takeover under way runs all steps of R144; false: a planned split (R150)
  tkoKeep : Bool                -- it keeps the bitmap, the catching-up module having been lost (R156)
  arbWon : Bool                 -- an arbitration has been won and the loser's FENCED is awaited (R141)
  reconciling : Bool            -- the join reconciles (R135)
  expect : List (Nat × Nat)     -- reach and number of each record awaited from the twin (R135)
  expectG : List Nat            -- granules awaited instead of records that the twin has retired (R135)
  covered : List (Nat × Nat)    -- numbers those granules cover
  halves : List (Nat × Nat × Nat × List Byte)  -- first halves of GRANULE pairs: granule, half, poison mask, data (R121)
  merged : List (Nat × Nat)     -- granules merged and not yet packed here, with their S (R153)
  twinPartial : List Nat        -- granules of which the catching-up module has a partial copy (R152, R153)
  entry  : Option Nat           -- pair state whose serving mode waits for SERVE_BLOCK to clear (R521)
  served : Bool                 -- a serving mode has been entered since the restore (R134)
  soloMbx : Option Nat          -- mailbox of a SOLO_START whose takeover runs
  rsyCount : Nat                -- granules streamed in this RESYNC
deriving DecidableEq, Repr

/-! ### Why a step stops -/

/-- Why the machine stops with a fault.  No meaning of this model raises it: the spec gives every command of the table an
effect, a refusal by status being one of them. -/
inductive Fault where
  /-- An access to an address the spec says does not exist.  Nothing raises it (reads of empty offsets answer 0, R582); safe. -/
  | noSuchAddress (offset : Nat)
deriving DecidableEq, Repr

/-- Why the model refuses a command. -/
inductive Refusal where
  /-- The command has no meaning yet; raised by Dispatch alone; safe. -/
  | notModelled (mnemonic : String)
deriving DecidableEq, Repr

-- STATE-BEGIN
/-- The state of one module. -/
structure State where
  regs  : List (Nat × Nat)     -- register fields that do not read their Reset column, by field key (R582 to R593)
  pwr   : PwrSt
  evr   : LogSt
  store : StoreSt
  sess  : List (Nat × Session) -- SPDM sessions by number 0–3 (R532)
  mbx   : MbxSt
  fmn   : FmnSt
  frm   : FrmSt
  jnb   : JnbSt
  cis   : CisSt
  tir   : TirSt
  win   : List (Nat × Window)  -- windows that are not FREE (R45)
  hpt   : HptSt
  rdm   : RdmSt
  yrd   : YrdSt
  cph   : CphSt
  med   : MedSt
  twn   : TwnSt
  sent  : List Msg
  fresh : Nat                  -- the model's own: how many free values were drawn
  pending : List Instr
deriving DecidableEq, Repr
-- STATE-END

/-! ### The state right after power-on (R495, R590) -/

/-- Island 0's power state: powered, in STANDBY, nothing granted. -/
def PwrSt.init : PwrSt :=
  { powered := true, pfFilter := false, pfOut := false, hgHeld := [], hgWait := [], spill := none, testFloor := 0, testMbx := none, testAt := 0,
    thermHold := false, justOn := true, inReset := none, resetPend := none, modeMbx := none, serveStop := false }

/-- An empty logbook. -/
def LogSt.init : LogSt :=
  { buf := [], store := [], pageOut := 0, nextSeq := none, lostNext := false, missed := 0, cycles := none, opBase := 0, opEpoch := 0,
    frozen := false, freezeAt := none, freezeHeld := none, freezeCmd := false, unlocked := false,
    unlockFail := 0, svyAddr := 0, svyRead := 0 }

/-- A firmware store as notes/assumptions/5.md names it: erased, 96 spares, the factory bank measurement of a 24.00 mF bank. -/
def StoreSt.init : StoreSt :=
  { bytes := [], programs := [], unverified := [], suspect := [], badErase := [], dead := [], opSector := 0, minSecVer := 0, erases := [], spares := 96, opMbx := none,
    markers := [], markerWords := 0, unlockFail := 0, raiseFail := 0, cfg := [], cfgWords := 0, cleanStop := none, gen := 0,
    twinId := 0, serials := [], jkeys := [], jInst := 0, jWords := 0, jHalf := 0, wraps := [], bankC := 2400, bankEsr := 50, bankE := 9026, bankAge := 0, cycles := 0, opBase := 0, opAt := 0, mapOutJ := [], mapOutC := [],
    stopState := 0, reachRegs := [], variantB := false, serial := 0, identity := 0 }

/-- Mailboxes after a reset: every one IDLE with header and payload zero (R447). -/
def MbxSt.init : MbxSt := { payload := [], queue := [], running := [], rings := 0, aborting := [] }

/-- A foreman with nothing queued. -/
def FmnSt.init : FmnSt := { exc := [], expiries := [], restartAt := 0, budgets := [] }

/-- Eight FREE frames. -/
def FrmSt.init : FrmSt := { frames := [], deferred := [], old := [] }

/-- Eight empty bays. -/
def JnbSt.init : JnbSt := { ready := [], ops := [], waiters := [], compat := [], masks := [], testAt := 0, retest := [] }

/-- An empty cistern (R86). -/
def CisSt.init : CisSt :=
  { recs := [], waitApp := [], admitQ := [], waitOps := [], heldFwd := [], fwdVals := [], drained := [], retires := [], admits := [], gpf := [], tickets := [], applied := [], assigned := [], acked := [],
    journal := 1, survivor := none, newStack := none, roomMade := false }

/-- Empty tiers and a bench of invalid ways. -/
def TirSt.init : TirSt :=
  { dir := [], home := [], poison := [], xlt := [], dirtyXlt := [], gens := [], waiting := [], ageQ := [], hand := [], nextStack := 0, nextChan := 0,
    streams := [], slots := [], sweepAt := 0, sweepDue := false, rebuilds := [], erases := [], evacs := [], suspends := [], packs := [], packQ := [], groups := [], ladders := [],
    shiftOf := [], rswVictim := none, rswXlate := [], wearVictim := none, bench := [], bfills := [], victims := [], maint := none, parity := [],
    inject := none, tabled := false, scrubAt := [], errs := [] }

/-- Nothing allocated. -/
def YrdSt.init : YrdSt := { started := false, mem := [], bufs := [], queues := [], cells := [], lost := [] }

/-- No key, no job. -/
def CphSt.init : CphSt := { slots := [], jobs := [] }

/-- No protection domain, no QP. -/
def RdmSt.init : RdmSt :=
  { got := [], pds := [], qps := [], counters := [], variants := [], rings := [], cache := [], fetching := [], parked := [], viol := [], paused := [], ignored := [],
    heldOut := [] }

/-- No message queued, no decoder committed, no region configured. -/
def HptSt.init : HptSt :=
  { req := [], rwd := [], decoders := [], errs := [], regions := [], events := [], handle := 0, policy := [], stamps := [], qos := [], changed := [], gpf1 := [],
    viol := [] }

/-- Media as they leave the factory: both spill slots erased. -/
def MedSt.init : MedSt :=
  { slot0 := none, slot1 := none, spillNo := 0, spillInto := none, formatted := false, stored := [], ckpt := [], ckptSeq := [], ckptLoc := [], stripes := [],
    stamp := 0, spares := [], worn := [], eraseBase := 0, rebuildQ := [], units := 0, restored := none, wearAt := 0 }

/-- A Rilram port that has carried nothing. -/
def PortSt.init : PortSt :=
  { txSeq := 0, rxSeq := 0, counter := 0, counterEnd := 0, rxCounter := 0, rxOld := none, rxNewAt := none, credit := 0, resend := [], group := 0, rekeyAt := none,
    setup := false, ahead := [], keyAt := 0 }

/-- A twin link that has heard nothing. -/
def TwnSt.init : TwnSt :=
  { cub := [], coarse := [], voids := [], voidWhole := [], port0 := PortSt.init, port1 := PortSt.init, ackDue := [], heldN := 0, slot := 0,
    lastSlot := none, before := 0, accept := false, waitingJoin := false, margin := false, settled := false, twinSettled := false,
    twinGen := 0, handovers := [], partialG := [], streamBytes := [], streamed := [], owned := [], split := none, reachOps := [], hist := none,
    wordAt := 0, runAt := 0, frameAt := 0, twinHeld := 0, heldAt := 0, twinCf := false, downAt := some 0, deaf := false, joining := false, barred := false, viol := [], tkoFull := true,
    tkoKeep := false, arbWon := false, reconciling := false, expect := [], expectG := [], covered := [], halves := [], merged := [], twinPartial := [], entry := none,
    served := false, soloMbx := none, rsyCount := 0 }

-- RESET-BEGIN
/-- The module right after power-on (R495, R590): STANDBY, epoch 0, every register at its Reset column, memories empty. -/
def State.reset : State :=
  { regs := [], pwr := PwrSt.init, evr := LogSt.init, store := StoreSt.init, sess := [], mbx := MbxSt.init, fmn := FmnSt.init, frm := FrmSt.init, jnb := JnbSt.init, cis := CisSt.init, tir := TirSt.init, win := [], hpt := HptSt.init, rdm := RdmSt.init, yrd := YrdSt.init, cph := CphSt.init, med := MedSt.init, twn := TwnSt.init,
    sent := [], fresh := 0, pending := [] }
-- RESET-END

end Sys2Proof.Machine
end

