-- ==== Sys2Proof/Machine/Ops.lean ====
section
/-!
DEFINITION. Sys2Proof/Machine/Ops.lean: the shared operations of the machine: reading and writing register fields, events and
the logbook, modes and pair states, admission, fencing, spills and resets.  Meanings are written over these.
-/
namespace Sys2Proof.Machine

open Sys2Proof

/-- What a meaning answers. -/
abbrev Out := Host.Outcome State Fault Refusal

/-! ### Registers -/

/-- The value of a register field. -/
def State.get (s : State) (f : Fld) : Nat := tget f.reset f.key s.regs

/-- Write a register field: the bits beyond its width are dropped. -/
def State.put (s : State) (f : Fld) (v : Nat) : State :=
  { s with regs := tset f.reset f.key (v % 2 ^ f.width) s.regs }

/-- The register table lists its keys in strictly rising order, so that a field has one value. -/
def State.regsOk (s : State) : Prop := tsorted s.regs = true

/-- Add to a counter field, which wraps at its width. -/
def State.add (s : State) (f : Fld) (n : Nat) : State := s.put f (s.get f + n)

/-- Add one to a counter field. -/
def State.inc (s : State) (f : Fld) : State := s.add f 1

/-- Subtract from a field that counts what is in use. -/
def State.sub (s : State) (f : Fld) (n : Nat) : State := s.put f (s.get f - n)

/-- Add to a field that saturates at its highest value. -/
def State.addSat (s : State) (f : Fld) (n : Nat) : State := s.put f (satAt (2 ^ f.width - 1) (s.get f + n))

/-- A one-bit field as a flag. -/
def State.flag (s : State) (f : Fld) : Bool := s.get f == 1

/-- The island 0 epoch (R12). -/
def State.epoch (s : State) : Nat := s.get Reg.CLK_EPOCH_EPOCH

/-- Change the power state. -/
def State.onPwr (s : State) (f : PwrSt → PwrSt) : State := { s with pwr := f s.pwr }
/-- Change the logbook and freeze state. -/
def State.onEvr (s : State) (f : LogSt → LogSt) : State := { s with evr := f s.evr }
/-- Change the firmware store. -/
def State.onStore (s : State) (f : StoreSt → StoreSt) : State := { s with store := f s.store }
/-- Change the mailbox queues. -/
def State.onMbx (s : State) (f : MbxSt → MbxSt) : State := { s with mbx := f s.mbx }
/-- Change the foreman's state. -/
def State.onFmn (s : State) (f : FmnSt → FmnSt) : State := { s with fmn := f s.fmn }
/-- Change the frames. -/
def State.onFrm (s : State) (f : FrmSt → FrmSt) : State := { s with frm := f s.frm }
/-- Change the bays. -/
def State.onJnb (s : State) (f : JnbSt → JnbSt) : State := { s with jnb := f s.jnb }
/-- Change the cistern. -/
def State.onCis (s : State) (f : CisSt → CisSt) : State := { s with cis := f s.cis }
/-- Change the tiers. -/
def State.onTir (s : State) (f : TirSt → TirSt) : State := { s with tir := f s.tir }
/-- Change the host ports. -/
def State.onHpt (s : State) (f : HptSt → HptSt) : State := { s with hpt := f s.hpt }
/-- Change the RDMA service. -/
def State.onRdm (s : State) (f : RdmSt → RdmSt) : State := { s with rdm := f s.rdm }
/-- Change the yard and the ditches. -/
def State.onYrd (s : State) (f : YrdSt → YrdSt) : State := { s with yrd := f s.yrd }
/-- Change the cipher complex. -/
def State.onCph (s : State) (f : CphSt → CphSt) : State := { s with cph := f s.cph }
/-- Change the media. -/
def State.onMed (s : State) (f : MedSt → MedSt) : State := { s with med := f s.med }
/-- Change the twin link. -/
def State.onTwn (s : State) (f : TwnSt → TwnSt) : State := { s with twn := f s.twn }

/-- Send a message. -/
def State.send (s : State) (m : Msg) : State := { s with sent := m :: s.sent }

/-- Draw a fresh value the spec leaves open, cut to `w` bits (notes/assumptions/4.md). -/
def State.free (s : State) (w : Nat) : Nat × State :=
  (Config.freeValue s.fresh % 2 ^ w, { s with fresh := s.fresh + 1 })

/-- `n` bytes the spec leaves open (notes/assumptions/6.md). -/
def State.freeBytes (s : State) (n : Nat) : List Byte × State :=
  ((List.range n).map (Config.freeByte s.fresh), { s with fresh := s.fresh + 1 })

/-! ### Modes and pair states -/

/-- The code of a mode in MOD_STATE.MODE. -/
def Mode.code : Mode → Nat
  | .standby => 1 | .bringup => 2 | .quiesced => 3 | .paired => 4
  | .resync => 5 | .solo => 6 | .spill => 7 | .recovery => 8

/-- The mode of a code; the reserved codes never stand in MOD_STATE.MODE and read as STANDBY. -/
def Mode.ofCode (n : Nat) : Mode :=
  if n = 2 then .bringup else if n = 3 then .quiesced else if n = 4 then .paired else if n = 5 then .resync
  else if n = 6 then .solo else if n = 7 then .spill else if n = 8 then .recovery else .standby

/-- The code of a pair state in TWN_STATE.PAIR_STATE (R111). -/
def PairState.code : PairState → Nat
  | .unpaired => 0 | .joining => 1 | .paired => 2 | .catchingUp => 3
  | .resyncing => 4 | .solo => 5 | .fenced => 6 | .contested => 7

/-- The pair state of a code (R111). -/
def PairState.ofCode (n : Nat) : PairState :=
  if n = 1 then .joining else if n = 2 then .paired else if n = 3 then .catchingUp else if n = 4 then .resyncing
  else if n = 5 then .solo else if n = 6 then .fenced else if n = 7 then .contested else .unpaired

/-- The module's mode. -/
def State.mode (s : State) : Mode := Mode.ofCode (s.get Reg.MOD_STATE_MODE)

/-- The module's pair state. -/
def State.pair (s : State) : PairState := PairState.ofCode (s.get Reg.TWN_STATE_PAIR_STATE)

/-- A serving mode: PAIRED, RESYNC or SOLO. -/
def State.serving (s : State) : Bool := s.mode = .paired || s.mode = .resync || s.mode = .solo

/-- The modes in which a spill follows a power failure, but for QUIESCED with no restore outcome (R508). -/
def State.spills (s : State) : Bool :=
  s.serving || (s.mode = .quiesced && s.get Reg.MOD_STATE_RESTORE != 0)

/-- Island 0 runs: powered and not frozen (R575, R576). -/
def State.live (s : State) : Bool := s.pwr.powered && !s.evr.frozen

/-- Every island runs: live, not in STANDBY and not held in reset (R10, R525). -/
def State.up (s : State) : Bool := s.live && !(s.mode = .standby) && s.pwr.inReset.isNone

/-- Apply an effect while island 0 runs; otherwise nothing happens. -/
def onLive (s : State) (f : State → State) : Out := .next (if s.live then f s else s)

/-- Apply an effect while every island runs; otherwise nothing happens. -/
def onUp (s : State) (f : State → State) : Out := .next (if s.up then f s else s)

/-- Apply an effect in a serving mode; otherwise nothing happens. -/
def onServing (s : State) (f : State → State) : Out := .next (if s.up && s.serving then f s else s)

/-! ### The logbook (R561 to R568) -/

/-- Powered time in ms, none before bring-up step 1 of the power cycle (R564). -/
def State.opTime (s : State) : Option Nat :=
  s.evr.cycles.map (fun _ => s.evr.opBase + (s.epoch - s.evr.opEpoch) / 1000)

/-- EVR_STATE and EVR_SEQ as the buffer stands. -/
def evrSync (s : State) : State :=
  let oldest := ((s.evr.store ++ s.evr.buf).filterMap LogRec.seq).headD 0
  ((((s.put Reg.EVR_STATE_BUFFERED s.evr.buf.length).put Reg.EVR_STATE_OPEN (s.evr.buf.filter LogRec.isOpen).length).put
    (Reg.EVR_SEQ_SEQ 0) oldest).put (Reg.EVR_SEQ_SEQ 1) (s.evr.nextSeq.getD 0)).put Reg.EVR_STATE_STOPPED
    (b2n (decide (s.evr.buf.length ≥ 4096)))

/-- A new record of this epoch. -/
def newRec (s : State) (event subject detail source window : Nat) : LogRec :=
  { seq := s.evr.nextSeq, event := event, isOpen := window != 0, spilled := false, lostBefore := s.evr.lostNext,
    source := source, cycles := s.evr.cycles, epoch := s.epoch, tally := 1, lastDelta := 0, opTime := s.opTime,
    subject := subject, detail := detail, window := window }

/-- Put a record into the buffer. -/
def pushRec (s : State) (r : LogRec) : State :=
  evrSync (({ s with evr := { s.evr with buf := s.evr.buf ++ [r], nextSeq := s.evr.nextSeq.map (· + 1), lostNext := false } }).inc
    (Reg.EVR_STAT_COUNT 0))

/-- Add one occurrence to an open record (R563). -/
def LogRec.again (r : LogRec) (now : Nat) : LogRec :=
  { r with tally := satAt 0xFFFFFFFF (r.tally + 1), lastDelta := now - r.epoch }

/-- Whether a record is the open record of a rate-limited event and subject. -/
def LogRec.isFor (r : LogRec) (event subject : Nat) : Bool := r.isOpen && r.event == event && r.subject == subject

/-- SOURCE of an event: an island, the foreman or the ROM; which one is open (R561; notes/assumptions/91.md). -/
def eventSource (event subject : Nat) : Nat :=
  let k := Config.source event subject % 30
  if k < 28 then k else 0x40 + (k - 28)

/-- Make a record, or fold it into an open one, or count it as not made (R563, R568). The flag says whether a record was made. -/
def makeRec (event subject detail source window : Nat) (s : State) : State × Bool :=
  if s.evr.buf.length ≥ 4096 then
    let buf := s.evr.buf.map (fun (r : LogRec) => if r.event = 0x0D11 ∧ r.isOpen then r.again s.epoch else r)
    let s' : State := { s with evr := { s.evr with buf := buf, missed := s.evr.missed + 1 } }
    (s'.inc (Reg.EVR_STAT_COUNT 2), false)
  else if window ≠ 0 ∧ s.evr.buf.any (fun r => r.isFor event subject) then
    let buf := s.evr.buf.map (fun (r : LogRec) => if r.isFor event subject then r.again s.epoch else r)
    let s' : State := { s with evr := { s.evr with buf := buf } }
    (s'.inc (Reg.EVR_STAT_COUNT 1), false)
  else if s.evr.buf.length = 4095 then
    (((pushRec { s with evr := { s.evr with missed := s.evr.missed + 1 } } (newRec s 0x0D11 0 0 (eventSource 0x0D11 0) 1)).inc (Reg.EVR_STAT_COUNT 2)), false)
  else (pushRec s (newRec s event subject detail source window), true)

/-! ### Freeze (R573 to R575) -/

/-- A freeze takes effect: record 0x0D10 and the freeze epoch F = e + 2 (R575). -/
def freezeNow (cause index : Nat) (s : State) : State :=
  let e := s.epoch
  let s := (makeRec 0x0D10 cause (e + 2) (eventSource 0x0D10 cause) 0 s).1
  let s := { s with evr := { s.evr with freezeAt := some (e + 2, cause) } }
  (((s.put Reg.CLK_STATE_FREEZE 1).put Reg.SVY_LAST_CAUSE cause).put Reg.SVY_LAST_INDEX index).put Reg.SVY_LAST_EPOCH (e + 2)

/-- A freeze is triggered: deferred while a spill runs, otherwise record 0x0D10 and the freeze epoch F = e + 2 (R574, R575). -/
def freezeTrigger (cause index : Nat) (s : State) : State :=
  if s.evr.frozen || s.evr.freezeAt.isSome then s
  else if s.mode = .spill || s.pwr.spill.isSome then
    (if s.evr.freezeHeld.isNone then { s with evr := { s.evr with freezeHeld := some cause } } else s)
  else freezeNow cause index s

/-- The first enabled SVY_TRIGGER entry that names the event (R573). -/
def triggerFor (s : State) (event : Nat) : Option Nat :=
  (List.range 4).find? (fun i => bitOf i (s.get Reg.SVY_CFG_TRIGGER_EN) && s.get (Reg.SVY_TRIGGER_EVENT i) == event)

/-- Serving alone: SOLO, or the authoritative module in RESYNCING (R574, R212). -/
def State.alone (s : State) : Bool := s.pair = .solo && s.mode = .solo || s.pair = .resyncing

/-- Raise an event: make its record, and trigger a freeze of cause 3 where a new record's event is an enabled entry (R573, R574). -/
def raiseW (event subject detail source window : Nat) (s : State) : State :=
  match makeRec event subject detail source window s with
  | (s', false) => s'
  | (s', true) =>
    match triggerFor s' event with
    | some i => if s'.store.variantB || s'.alone then s' else freezeTrigger 3 i s'
    | none => s'

/-- Raise an event that is not rate-limited. -/
def raise (event subject detail : Nat) (s : State) : State := raiseW event subject detail (eventSource event subject) 0 s

/-- Raise a rate-limited event, whose record stays open for 1 s (R563). -/
def raiseRl (event subject detail : Nat) (s : State) : State := raiseW event subject detail (eventSource event subject) 1000000 s

/-! ### Sending Rilram frames (R120 to R129) -/

/-- Change a Rilram port's numbering. -/
def onPort (p : Nat) (f : PortSt → PortSt) (s : State) : State :=
  s.onTwn fun x => if p = 0 then { x with port0 := f x.port0 } else { x with port1 := f x.port1 }

/-- A Rilram port's numbering. -/
def State.port (s : State) (p : Nat) : PortSt := if p = 0 then s.twn.port0 else s.twn.port1

/-- A port that carries frames: up and keyed, its counter blocks not at their end (R127, R129). -/
def portSends (s : State) (p : Nat) : Bool := s.get (Reg.TWN_PORT_STATE_LINK p) == 2 && s.get (Reg.TWN_PORT_STATE_BLOCK_WAIT p) == 0

/-- Since when neither port carries frames (R129, R141). -/
def downSync (s : State) : State :=
  if portSends s 0 || portSends s 1 then s.onTwn fun x => { x with downAt := none }
  else s.onTwn fun x => { x with downAt := x.downAt.orElse (fun _ => some s.epoch) }

/-- A PARITY frame over the group's frames leaves; it carries no tag and takes no COUNTER (R121, R125). -/
def sendParity (p : Nat) (s : State) : State :=
  let q := s.port p
  let m := Msg.frame (4 + p) "PARITY" 0 q.group []
  let s := onPort p (fun (x : PortSt) => { x with txSeq := (x.txSeq + 1) % 2 ^ 32, resend := x.resend ++ [(x.txSeq, m)], group := 0 }) s
  (s.send m).inc (Reg.TWN_PORT_STAT_COUNT p 0)

/-- An encrypted frame takes the next FRAME_SEQ and COUNTER of its port and stays in the resend store; the fifteenth of a group brings the PARITY frame
(R120, R125, R126, R129).  At the end of the recorded blocks the port stops sending, with event 0x0803. -/
def sendOn (p : Nat) (code : String) (reach seq : Nat) (data : List Byte) (s : State) : State :=
  let q := s.port p
  let m := Msg.frame (4 + p) code reach seq data
  let s := onPort p (fun (x : PortSt) => { x with txSeq := (x.txSeq + 1) % 2 ^ 32, counter := x.counter + 1, resend := x.resend ++ [(x.txSeq, m)], group := x.group + 1 }) s
  let s := (((s.send m).inc (Reg.TWN_PORT_STAT_COUNT p 0)).add (Reg.TWN_PORT_STAT_COUNT p 7) data.length).inc (Reg.TWN_PORT_REKEY_TX_FRAMES p)
  let s := if q.group + 1 ≥ 15 then sendParity p s else s
  if q.counter + 1 ≥ q.counterEnd then raise 0x0803 (4 + p) 0 (downSync (s.put (Reg.TWN_PORT_STATE_BLOCK_WAIT p) 1)) else s

/-- Send a frame on whichever port has credit first: with both ports up the choice is open (R123; notes/assumptions/4.md); with none up
nothing leaves. -/
def linkSend (code : String) (reach seq : Nat) (data : List Byte) (s : State) : State :=
  if portSends s 0 && portSends s 1 then
    let q := s.free 1
    sendOn q.1 code reach seq data q.2
  else if portSends s 0 then sendOn 0 code reach seq data s
  else if portSends s 1 then sendOn 1 code reach seq data s
  else s

/-! ### Admission (R95, R97, R99) -/

/-- Bytes counted in the last 100 µs. -/
def windowBytes (now : Nat) (l : List (Nat × Nat)) : Nat := (l.filter (fun e => decide (now < e.1 + 100))).foldl (fun n e => n + e.2) 0

/-- Effective size in bytes (R76). -/
def State.effBytes (s : State) : Nat := s.get Reg.TIR_CST_LIMIT_EFFECTIVE_GIB * 2 ^ 30

/-- 16 MiB: the journal reserve of R99. -/
def journalReserve : Nat := 16 * 2 ^ 20

/-- Journal records' bytes that are not freed: what the reserve has been drawn on (R99). -/
def journalUsed (s : State) : Nat :=
  (s.cis.recs.filter (fun r => r.kind = .xlate || r.kind = .void)).foldl (fun n r => n + 64 + r.data.length + 16 * r.xlts.length) 0

/-- Occupied bytes: occupied segments and the unused journal reserve (R99, TIR_CST_OCC). -/
def occBytes (s : State) : Nat :=
  let seg := 2 ^ 20
  let h := (s.get Reg.TIR_CST_HEAD_POS + seg - 1) / seg * seg
  let t := s.get Reg.TIR_CST_TAIL_POS / seg * seg
  (h - t) + (journalReserve - journalUsed s)

/-- Whether the fill is at or above a percentage of the effective size. -/
def fillAtLeast (s : State) (pct : Nat) : Bool := decide (s.get Reg.TIR_CST_OCC_BYTES * 100 ≥ s.effBytes * pct)

/-- The admission state the fill gives to a module that enters a serving mode (R95). -/
def admitByFill (s : State) : Nat := if fillAtLeast s 97 then 2 else if fillAtLeast s 85 then 1 else 0

/-- The own admission state that follows from the present one, the mode and the fill (R95). -/
def admitNext (s : State) : Nat :=
  if !(s.serving || s.pair = .catchingUp) then 3
  else
    let c := s.get Reg.TIR_CST_STATE_ADMIT
    if c = 3 then admitByFill s
    else if c = 0 then (if fillAtLeast s 97 then 2 else if fillAtLeast s 85 then 1 else 0)
    else if c = 1 then (if fillAtLeast s 97 then 2 else if fillAtLeast s 60 then 1 else 0)
    else (if fillAtLeast s 60 then 2 else 0)

/-- The admission state in force: the more restrictive of the two while PAIRED or in RESYNC, the own one otherwise (R97). -/
def pairAdmit (s : State) (own : Nat) : Nat :=
  if s.mode = .paired || s.mode = .resync then Nat.max own (s.get Reg.TIR_CST_STATE_TWIN_ADMIT)
  else own

/-- Fill, admission and their report to the twin, brought up to date (R95, R97). -/
def admitSync (s : State) : State :=
  let s := s.put Reg.TIR_CST_OCC_BYTES (occBytes s)
  let s := s.put Reg.TIR_CST_STATE_FILL (if s.effBytes = 0 then 0 else satAt 1000 (s.get Reg.TIR_CST_OCC_BYTES * 1000 / s.effBytes))
  let n := admitNext s
  let old := s.get Reg.TIR_CST_STATE_ADMIT
  let s := (s.put Reg.TIR_CST_STATE_ADMIT n).put Reg.TIR_CST_STATE_PAIR_ADMIT (pairAdmit s n)
  if n = old || !(s.serving || s.pair = .catchingUp) then s else linkSend "STATE" 0 n [BitVec.ofNat 8 n] s

/-! ### Mailbox headers, payloads and completions (R441 to R447) -/

/-- A header field of mailbox m (MBX_HDR). Headers have no control-space address of their own but the view slots (R438); the
model keeps them above the control space, at 0x0400_0000 + 64 × m. -/
def mbField (m lo w : Nat) : Fld := ⟨(0x4000000 + 64 * m) * 512 + lo, w, 0⟩

def Mb.opcode (m : Nat) : Fld := mbField m 0 16
def Mb.priority (m : Nat) : Fld := mbField m 16 2
def Mb.notify (m : Nat) : Fld := mbField m 18 1
def Mb.tag (m : Nat) : Fld := mbField m 32 32
def Mb.length (m : Nat) : Fld := mbField m 64 16
def Mb.status (m : Nat) : Fld := mbField m 256 16
def Mb.retryUs (m : Nat) : Fld := mbField m 272 16
def Mb.returnLength (m : Nat) : Fld := mbField m 288 16
def Mb.detail (m : Nat) : Fld := mbField m 320 32
def Mb.tagEcho (m : Nat) : Fld := mbField m 352 32
def Mb.seq (m : Nat) : Fld := mbField m 384 64
def Mb.epoch (m : Nat) : Fld := mbField m 448 64

/-- The DETAIL of a refusal with no single field at fault (R442). -/
def noDetail : Nat := 0xFFFFFFFF

/-- The DETAIL that names a payload field by its first byte (R442). -/
def atPayload (off : Nat) : Nat := 0x80000000 + off

/-- The status codes of R456. -/
inductive St where
  | done | busy | unknownCommand | badLength | badField | notPermitted | wrongMode | noResource | dryfitFailed | frameConflict
  | keySpent | authFailed | notErased | storeLocked | poisoned | twinUnreachable | revoked | bounds | notOwner | doubleFree
  | poolEmpty | timeout | aborted | flushed | mediaFailed | headgateDenied | protocolViolation | programLimit
deriving DecidableEq, Repr

/-- The code of a status (R456). -/
def St.code : St → Nat
  | .done => 0 | .busy => 1 | .unknownCommand => 2 | .badLength => 3 | .badField => 4 | .notPermitted => 5 | .wrongMode => 6
  | .noResource => 7 | .dryfitFailed => 8 | .frameConflict => 9 | .keySpent => 0xA | .authFailed => 0xB | .notErased => 0xC
  | .storeLocked => 0xD | .poisoned => 0xE | .twinUnreachable => 0xF | .revoked => 0x10 | .bounds => 0x11 | .notOwner => 0x12
  | .doubleFree => 0x13 | .poolEmpty => 0x14 | .timeout => 0x15 | .aborted => 0x16 | .flushed => 0x17 | .mediaFailed => 0x18
  | .headgateDenied => 0x19 | .protocolViolation => 0x1A | .programLimit => 0x1B

/-- `n` payload bytes of mailbox m from offset `off`. -/
def reqBytes (s : State) (m off n : Nat) : List Byte := readBytes s.mbx.payload (m * 4096 + off) n

/-- A little-endian payload field (R441). -/
def reqNat (s : State) (m off n : Nat) : Nat := leNat (reqBytes s m off n)

/-- Whether mailbox m runs the command with this opcode: not one that a hot restart is to abort (R432). -/
def State.runs (s : State) (m op : Nat) : Bool :=
  s.get (Reg.MBX_STATE_STATE m) == 2 && s.get (Reg.MBX_STATE_OPCODE m) == op && !(s.mbx.aborting.contains m)

/-- The counters a completion adds to (MBX_STAT). -/
def countCompletion (st : St) (responder : Bool) (s : State) : State :=
  match st with
  | .done => s.inc (Reg.MBX_STAT_COUNT 1)
  | .busy => s.inc (Reg.MBX_STAT_COUNT (if responder then 3 else 4))
  | .aborted => (s.inc (Reg.MBX_STAT_COUNT 2)).inc (Reg.MBX_STAT_COUNT 6)
  | _ => s.inc (Reg.MBX_STAT_COUNT 2)

/-- The signal of a completion with NOTIFY 1 (R444); a host mailbox's interrupt is not sent while its link is down (R447). -/
def notify (m : Nat) (s : State) : State :=
  if s.get (Mb.notify m) = 0 then s
  else if m < 32 then
    (if s.get (Reg.HPT_LINK_STATE_RATE (m / 4)) ≠ 0 then (s.send (.msix (m / 4) (m % 4))).put (Reg.MBX_STATE_NOTIFY_PENDING m) 1 else s)
  else if m < 36 then ((s.send (.alert m)).put Reg.GLB_DISCRETES_ALERT_N 1).put (Reg.MBX_STATE_NOTIFY_PENDING m) 1
  else s

/-- Write a completion into mailbox m: status, hint, DETAIL, response payload, TAG_ECHO, EPOCH; COMPLETE (R441 to R444). -/
def completeW (m : Nat) (st : St) (retry detail : Nat) (responder : Bool) (resp : List Byte) (s : State) : State :=
  let s := { s with mbx := { s.mbx with payload := writeBytes (m * 4096) resp s.mbx.payload,
                                        running := s.mbx.running.filter (· != m), queue := s.mbx.queue.filter (· != m) } }
  let s := (((s.put (Mb.status m) st.code).put (Mb.retryUs m) (satAt 0xFFFF retry)).put (Mb.returnLength m) resp.length).put
    (Mb.detail m) detail
  let s := ((s.put (Mb.tagEcho m) (s.get (Mb.tag m))).put (Mb.epoch m) s.epoch)
  let s := ((s.put (Reg.MBX_STATE_STATE m) 3).put (Reg.MBX_STATE_STATUS m) st.code).put (Reg.MBX_STATE_RESPONDER m) (b2n responder)
  notify m (countCompletion st responder s)

/-- Complete a command DONE with its response. -/
def complete (m : Nat) (resp : List Byte) (s : State) : State := completeW m .done 0 noDetail false resp s

/-- Refuse a command: a status and DETAIL, no payload (R446). -/
def refuse (m : Nat) (st : St) (detail : Nat) (s : State) : State := completeW m st 0 detail false [] s

/-- Complete a foreman command BUSY under R449, its object being in use; the hint is unknown. -/
def refuseBusy (m : Nat) (s : State) : State := completeW m .busy 0xFFFF noDetail false [] s

/-- Run a mailbox command: while its mailbox runs it, the module serves mailboxes, and nothing otherwise (R443, R455). -/
def onCmd (m op : Nat) (s : State) (f : State → State) : Out :=
  .next (if s.up && !(s.mode = .spill) && s.runs m op then f s else s)

/-! ### Windows and tickets: counting, closing, releasing (R49, R313) -/

/-- Reaches a range touches. -/
def reachSpan (base len : Nat) : List Nat :=
  ((List.range (Nat.min 4096 ((base + len + 2 ^ 36 - 1) / 2 ^ 36 - base / 2 ^ 36))).map (· + base / 2 ^ 36)).filter (fun n => decide (n < 4096) && decide (len > 0))

/-- Add to or take from TIR_REACH.WINDOWS of the reaches a window overlaps; the field saturates at 0xFFFF. -/
def countReaches (up : Bool) (w : Window) (s : State) : State :=
  (reachSpan w.base w.len).foldl (fun s n =>
    if up then s.addSat (Reg.TIR_REACH_WINDOWS n) 1
    else
      let still := (s.win.filter (fun e => (reachSpan e.2.base e.2.len).contains n)).length
      s.put (Reg.TIR_REACH_WINDOWS n) (satAt 0xFFFF still)) s

/-- Add to or take from the windows of a logical device (HPT_LD_STATE.WINDOWS). -/
def countLd (w : Window) (s : State) : State :=
  if w.rdma then s
  else
    let p := w.binding % 8
    let l := w.binding / 8 % 16
    s.put (Reg.HPT_LD_STATE_WINDOWS p l) (s.win.filter (fun e => !e.2.rdma && e.2.binding == w.binding)).length

/-- A LOCAL window of this module that is not closed overlaps reach n (R57). -/
def localOpen (s : State) (n : Nat) : Bool := s.win.any (fun e => e.2.cls == 1 && (e.2.state == 1 || e.2.state == 2) && (reachSpan e.2.base e.2.len).contains n)

/-- Tell the twin whether a LOCAL window overlaps reach n, in a STATE frame (R57; notes/assumptions/8.md). -/
def tellReach (n : Nat) (s : State) : State := linkSend "STATE" 4 n (leBytes 2 n ++ leBytes 1 (b2n (localOpen s n))) s

/-- Tell the twin of the reaches of a window for which that has changed. -/
def tellLocal (w : Window) (before s : State) : State :=
  if w.cls = 1 then ((reachSpan w.base w.len).filter (fun n => localOpen before n != localOpen s n)).foldl (fun s n => tellReach n s) s else s

/-- A window leaves the table: FREE (R49). -/
def freeWindow (id : Nat) (s : State) : State :=
  match tfind id s.win with
  | none => s
  | some w => countLd w (countReaches false w { s with win := tdel id s.win })

/-- Change a window. -/
def modWindow (id : Nat) (f : Window → Window) (s : State) : State := { s with win := tmod id f s.win }

/-- CLOSED when nothing is in flight, and FREE when no gap flag is set; a mailbox command that waits completes (R49, R311, R349). -/
def closeIfIdle (id : Nat) (s : State) : State :=
  match tfind id s.win with
  | none => s
  | some w =>
    if w.state = 2 ∧ w.inFlight = 0 then
      let s := tellLocal w s (modWindow id (fun (w : Window) => { w with state := 3, waiters := [] }) s)
      let s := w.waiters.foldl (fun s m => complete m [] s) s
      if w.gapU || w.gapL then s else freeWindow id s
    else s

/-- An access ends. -/
def endAccess (id : Nat) (s : State) : State := closeIfIdle id (modWindow id (fun (w : Window) => { w with inFlight := w.inFlight - 1 }) s)

/-- Tickets held by a holder: host port 0–7, or 8 for the RDMA service. -/
def ticketsOf (h : Nat) (s : State) : Nat := (s.cis.tickets.filter (fun e => e.2 == h)).length

/-- HPT_PORT_STATE.TICKETS as the table stands. -/
def ticketSync (h : Nat) (s : State) : State := if h < 8 then s.put (Reg.HPT_PORT_STATE_TICKETS h) (ticketsOf h s) else s

/-- Release a ticket; a settings generation goes with its last operation (R477). -/
def giveTicket (n : Nat) (s : State) : State :=
  match tfind n s.cis.tickets with
  | none => s
  | some h =>
    ticketSync h ((s.onCis fun x => { x with tickets := tdel n x.tickets }).onFrm fun x =>
      { x with old := (x.old.map (fun e => (e.1, e.2.filter (· != n)))).filter (fun e => !e.2.isEmpty) })

/-! ### Mode and pair-state changes -/

/-- FMN_STATE.STATE a mode gives the foreman (R431, FMN_STATE). -/
def foremanOf (m : Mode) (cur : Nat) : Nat :=
  match m with
  | .recovery => 3
  | .spill | .standby => 4
  | _ => if cur = 3 || cur = 4 then 0 else cur

/-- The module is fenced or has fenced itself, in a join that began so as well (R114, R146, R615). -/
def State.fenced (s : State) : Bool := s.pair = .fenced || (s.pair = .joining && s.twn.before == PairState.fenced.code)

/-- The media status of R319: 0 Not Ready, 1 Ready, 2 Error, 3 Disabled. -/
def mediaStatus (s : State) : Nat := if s.fenced then 3 else if s.serving then 1 else if s.mode = .recovery then 2 else 0

/-- HPT_PORT_STATE.MEDIA of every port (R319). -/
def mediaSync (s : State) : State := (List.range 8).foldl (fun s p => s.put (Reg.HPT_PORT_STATE_MEDIA p) (mediaStatus s)) s

/-- Whether a request came from a host, a client or the twin; joinery's own reads go on (R117). -/
def Src.ofHost : Src → Bool
  | .prim _ => false
  | _ => true

/-- A QP without its messages: the first that has not completed is expected again, so that its retransmission is a new request and no duplicate (R341, R361). -/
def Qp.forget (x : Qp) : Qp :=
  match x.msgs.find? (fun m => m.stage != 3 && !m.again) with
  | some m => { x with msgs := [], ackDue := 0, epsn := m.psn, nextMsn := (m.msn + 2 ^ 24 - 1) % 2 ^ 24, naked := false }
  | none => { x with msgs := [], ackDue := 0 }

/-- What a fence does to operations in flight (R117, R320, R361): none completes any more.  Messages without a ticket are discarded, tickets and windows' accesses
end, and a GPF phase 2 is not answered; records that were sequenced are kept. -/
def dropHostOps (s : State) : State :=
  let held := (s.cis.waitOps.map (fun w => (w.op.src, w.op.ticket, w.op.window)) ++ s.cis.admitQ.map (fun o => (o.src, o.ticket, o.window)) ++
    s.tir.waiting.map (fun r => (r.src, r.ticket, r.window))).filter (fun e => e.1.ofHost && !(match e.1 with | .twin _ => true | .rdma _ _ _ => true | _ => false))
  let msgs := s.rdm.qps.flatMap (fun e => e.2.msgs)
  let s := s.onCis fun x => { x with waitOps := [], admitQ := [], heldFwd := [], gpf := [] }
  let s := s.onTir fun x => { x with waiting := x.waiting.filter (fun r => !r.src.ofHost) }
  let s := s.onHpt fun x => { x with req := [], rwd := [], gpf1 := [] }
  let s := s.onRdm fun x => { x with got := [], qps := x.qps.map (fun (e : Nat × Qp) => (e.1, e.2.forget)),
                                     rings := x.rings.map (fun e => (e.1, { e.2 with reserved := 0, next := e.2.count, done := [] })) }
  let s := held.foldl (fun s e => endAccess e.2.2 (giveTicket e.2.1 s)) s
  let s := msgs.foldl (fun s m =>
    let s := match m.ticket with | some t => giveTicket t s | none => s
    match m.window with | some w => endAccess w s | none => s) s
  let s := (List.range 8).foldl (fun s p =>
    (((s.put (Reg.HPT_PORT_STATE_GPF_P2 p) 0).put (Reg.HPT_PORT_STATE_WRITE_HELD p) 0).put (Reg.HPT_PORT_STATE_REQ_QUEUED p) 0).put (Reg.HPT_PORT_STATE_RWD_QUEUED p) 0) s
  s.put Reg.TIR_CST_STATE_GPF_ACTIVE 0

/-- SLC_SPILLWAY as the slots stand. -/
def spillwaySync (s : State) : State :=
  (s.put Reg.SLC_SPILLWAY_ERASED (b2n s.med.slot0.isNone + 2 * b2n s.med.slot1.isNone)).put Reg.SLC_SPILLWAY_SPILL_NO s.med.spillNo

/-- Erase a spill slot. -/
def eraseSlot (j : Nat) (s : State) : State := spillwaySync (s.onMed fun x => if j = 0 then { x with slot0 := none } else { x with slot1 := none })

/-- Erase the restored slot once a serving mode is entered (R254). -/
def eraseRestored (s : State) : State :=
  match s.med.restored with
  | some j => eraseSlot j (s.onMed fun x => { x with restored := none })
  | none => s

/-- Enter a mode: PREV_MODE, the change counter, event 0x0D01 (R519), the clocks of the islands (R10), and what admission
makes of it (R95).  The first entry to a serving mode clears the clean-stop record and erases the restored slot (R254, R535). -/
def setMode (m : Mode) (s : State) : State :=
  if s.mode = m then s
  else
    let old := s.get Reg.MOD_STATE_MODE
    let s := ((s.put Reg.MOD_STATE_PREV_MODE old).put Reg.MOD_STATE_MODE m.code).inc (Reg.MOD_STAT_COUNT 7)
    let s := s.put Reg.CLK_STATE_RUNNING (if m = .standby then 1 else 28)
    let s := s.put Reg.FMN_STATE_STATE (foremanOf m (s.get Reg.FMN_STATE_STATE))
    let s := if m = .recovery then raise 0x0D08 0 0 (s.inc (Reg.MOD_STAT_COUNT 6)) else s
    let s := if m = .paired || m = .resync || m = .solo then eraseRestored ((s.onStore fun x => { x with cleanStop := none }).onTwn fun x => { x with served := true }) else s
    mediaSync (admitSync (raise 0x0D01 m.code old s))

/-- Enter a pair state, with event 0x0501 (R111, R572). -/
def setPair (p : PairState) (s : State) : State :=
  if s.pair = p then s
  else
    let old := s.get Reg.TWN_STATE_PAIR_STATE
    mediaSync (raise 0x0501 p.code old (s.put Reg.TWN_STATE_PAIR_STATE p.code))

/-- What needs the twin is given up: handovers are abandoned, a provisioning whose REACH record is not held here is dropped; the commands that wait complete with
TWIN_UNREACHABLE, but for a provisioning whose record is held here (R44, R158, R470). -/
def dropTwinWork (s : State) : State :=
  let s := s.twn.handovers.foldl (fun s h => match h.2.2 with | some m => refuse m .twinUnreachable noDetail s | none => s) s
  let s := s.onTwn fun x => { x with handovers := [] }
  let dead := fun (o : ReachOp) => o.action == 0 && !o.own
  let s := s.twn.reachOps.foldl (fun s o => match o.mbx with
    | some m => if m < 40 && (dead o || o.action == 1) then refuse m .twinUnreachable noDetail s else s
    | none => s) s
  s.onTwn fun x =>
    { x with reachOps := (x.reachOps.filter (fun o => !(dead o))).map (fun (o : ReachOp) => { o with twin := true, mbx := if o.action = 1 then none else o.mbx }) }

/-- A planned split and a SOLO_START end with this module fenced: the departing module's command completes, the staying module's with TWIN_UNREACHABLE, and
SOLO_START is refused (R138, R150). -/
def dropSplit (s : State) : State :=
  let s := match s.twn.split with
    | some (some m, true) => complete m [] s
    | some (some m, false) => refuse m .twinUnreachable noDetail s
    | _ => s
  let s := match s.twn.soloMbx with
    | some m => refuse m .notPermitted noDetail s
    | none => s
  s.onTwn fun x => { x with split := none, soloMbx := none }

/-- The effects of R117: the pair state becomes FENCED and the mode QUIESCED; records in the cistern are kept; a takeover under way ends; what needs the twin is
given up. -/
def fenceSelf (s : State) : State :=
  let s := (dropHostOps (dropSplit (dropTwinWork s))).onPwr fun x => { x with serveStop := true }
  setMode .quiesced (setPair .fenced (s.onTwn fun x => { x with margin := false, arbWon := false, joining := false, entry := none }))

/-! ### SERVE_BLOCK (R520) -/

/-- Set or clear bit `i` of MOD_STATE.SERVE_BLOCK. -/
def setBlock (i : Nat) (fails : Bool) (s : State) : State :=
  let v := s.get Reg.MOD_STATE_SERVE_BLOCK
  let base := if bitOf i v then v - 2 ^ i else v
  s.put Reg.MOD_STATE_SERVE_BLOCK (if fails then base + 2 ^ i else base)

/-! ### The cistern's size (R76 to R79, R505, R507) -/

/-- cistern_limit of R77 from e_measured in 10 mJ. -/
def cisternLimit (e : Nat) : Nat := satAt 32 ((e - 1000) / 200)

/-- v_req of R505 for a cistern of `g` GiB, in 10 mV, from c in 10 µF and r_esr in mΩ. -/
def vReq (g c esr : Nat) : Nat :=
  if c = 0 then 65535 else satAt 65535 (isqrt ((2000000000 * (2 * g + 10) + 20000000 * esr) / c + 9000000))

/-- e_measured of R506 in 10 mJ. -/
def eMeasured (c esr : Nat) : Nat := 3782 * c / 1000 - esr

/-- The floor of a discharge test, in 10 mV (R506). -/
def testFloorOf (s : State) : Nat := Nat.max 8600 (s.get Reg.PWR_BANK_STATE_VREQ + 100)

/-- Recompute cistern_limit, the effective size and v_req, and act on a change of size (R76, R78, R79). -/
def resizeCistern (s : State) : State :=
  let e := s.get Reg.PWR_BANK_MEAS_E
  let lim := cisternLimit e
  let old := s.get Reg.TIR_CST_LIMIT_EFFECTIVE_GIB
  let eff := Nat.min (s.get Reg.TIR_CST_CFG_SIZE_GIB) lim
  let s := ((s.put Reg.TIR_CST_LIMIT_E_MEASURED e).put Reg.TIR_CST_LIMIT_LIMIT_GIB lim).put Reg.TIR_CST_LIMIT_EFFECTIVE_GIB eff
  let s := s.put Reg.PWR_BANK_STATE_VREQ (vReq eff (s.get Reg.PWR_BANK_MEAS_C) (s.get Reg.PWR_BANK_MEAS_ESR))
  let s := s.put Reg.PWR_BANK_STATE_BELOW_VREQ (b2n (decide (s.get Reg.PWR_BANK_STATE_VBANK < s.get Reg.PWR_BANK_STATE_VREQ)))
  let s := setBlock 2 (s.flag Reg.PWR_BANK_STATE_BELOW_VREQ || s.get Reg.PWR_BANK_STATE_STATE == 3) (setBlock 1 (decide (lim < 1)) s)
  let s := if lim < 1 then raise 0x0105 0 lim s else s
  let s := if eff < old then raise 0x0108 0 eff s else s
  if eff < old ∧ s.get Reg.TIR_CST_OCC_BYTES > eff * 2 ^ 30 ∧ s.get Reg.TIR_CST_STATE_ADMIT ≠ 3
  then admitSync (s.put Reg.TIR_CST_STATE_ADMIT 2) else admitSync s

/-! ### The headgate (R500 to R503) -/

/-- Tokens held. -/
def heldTokens (l : List HgReq) : Nat := l.foldl (fun n r => n + r.tokens) 0

/-- Waiting requests of one class. -/
def waitingOf (h0 : Bool) (l : List HgReq) : List HgReq := l.filter (fun r => r.h0 == h0)

/-- The allowance in force, after throttling (R500, R514). -/
def allowanceOf (s : State) : Nat :=
  let full := s.get Reg.PWR_HG_CFG_HEAVY_W * 20
  let lvl := s.get Reg.PWR_THERM_STATE_LEVEL
  if lvl = 0 then full else if lvl = 1 then full / 2 else s.get Reg.PWR_HG_CFG_RESERVE

/-- PWR_HG_STATE as the queues stand. -/
def hgSync (s : State) : State :=
  (((s.put Reg.PWR_HG_STATE_ALLOWANCE (allowanceOf s)).put Reg.PWR_HG_STATE_GRANTED (heldTokens s.pwr.hgHeld)).put
    Reg.PWR_HG_STATE_H0_WAITING (satAt 0xFF (waitingOf true s.pwr.hgWait).length)).put
    Reg.PWR_HG_STATE_H1_WAITING (satAt 0xFF (waitingOf false s.pwr.hgWait).length)

/-- Whether a request may be granted now, apart from earlier requests of its class (R502, R514). -/
def hgFits (s : State) (r : HgReq) : Bool :=
  let free := allowanceOf s - heldTokens s.pwr.hgHeld
  !(s.flag Reg.PWR_HG_STATE_STOPPED) && !(s.flag Reg.PWR_HG_STATE_WITHDRAWN) && decide (r.tokens ≤ free) &&
    (r.h0 || (decide (free - r.tokens ≥ s.get Reg.PWR_HG_CFG_RESERVE) && (waitingOf true s.pwr.hgWait).isEmpty &&
      decide (s.get Reg.PWR_THERM_STATE_LEVEL < 2)))

/-- Give a request its tokens. -/
def hgGive (r : HgReq) (s : State) : State :=
  hgSync (({ s with pwr := { s.pwr with hgHeld := s.pwr.hgHeld ++ [r] } }).inc (Reg.PWR_HG_STAT_COUNT (if r.h0 then 0 else 1)))

/-- HEADGATE_REQ: granted at once, denied while withdrawn, or queued and counted as a denial (R502, R503).
The answer is 0 granted, 1 waiting, 2 HEADGATE_DENIED. -/
def hgRequest (r : HgReq) (s : State) : Nat × State :=
  if s.flag Reg.PWR_HG_STATE_WITHDRAWN then (2, s.inc (Reg.PWR_HG_STAT_COUNT 3))
  else if hgFits s r && (waitingOf r.h0 s.pwr.hgWait).isEmpty then (0, hgGive r s)
  else (1, hgSync (({ s with pwr := { s.pwr with hgWait := s.pwr.hgWait ++ [r] } }).inc (Reg.PWR_HG_STAT_COUNT 2)))

/-- Whether an owner holds tokens. -/
def hgHolds (s : State) (o : HgOwner) : Bool := s.pwr.hgHeld.any (fun r => r.owner = o)

/-- The first waiting request that may be granted: H0 first, then H1 when no H0 waits (R502). -/
def hgNext (s : State) : Option HgReq :=
  match waitingOf true s.pwr.hgWait with
  | r :: _ => if hgFits s r then some r else none
  | [] => match waitingOf false s.pwr.hgWait with
          | r :: _ => if hgFits s r then some r else none
          | [] => none

/-- Grant waiting requests while they fit, at most `n` of them (R502). -/
def hgGrants : Nat → State → State
  | 0, s => s
  | n + 1, s =>
    match hgNext s with
    | none => s
    | some r => hgGrants n (hgGive r { s with pwr := { s.pwr with hgWait := s.pwr.hgWait.erase r } })

/-- Grant every waiting request that may be granted. -/
def hgServe (s : State) : State := hgGrants s.pwr.hgWait.length (hgSync s)

/-- Return an owner's tokens; waiting requests may then be granted (R500). -/
def hgReturn (o : HgOwner) (s : State) : State :=
  hgServe { s with pwr := { s.pwr with hgHeld := s.pwr.hgHeld.filter (fun r => r.owner ≠ o) } }

/-- HEADGATE_WITHDRAW: grant nothing more; every waiting request completes with HEADGATE_DENIED (R503). -/
def hgWithdraw (s : State) : State :=
  let n := s.pwr.hgWait.length
  hgSync (({ s with pwr := { s.pwr with hgWait := [] } }).put Reg.PWR_HG_STATE_WITHDRAWN 1 |>.add (Reg.PWR_HG_STAT_COUNT 3) n)

/-! ### Joiners, cores and the DEGRADED flag (R114, R385, R426) -/

/-- Joiners in service. -/
def joinersInService (s : State) : Nat :=
  (List.range 8).foldl (fun n b => n + ((List.range 8).filter (fun j => bitOf j (s.get (Reg.JNB_BAY_STATE_JOINERS b)))).length) 0

/-- Cipher cores in service: neither mapped out nor in the test that ends a map-out. -/
def coresInService (s : State) : Nat := 16 - ((List.range 16).filter (fun c => s.get (Reg.CPH_CORE_STATE_STATE c) == 2 || s.get (Reg.CPH_CORE_STATE_STATE c) == 3)).length

/-- The controller takes unit u out of service for a fault (R484). -/
def unitFault (u : Nat) (s : State) : State :=
  ((s.put (Reg.FRM_UNIT_STATE_STATE u) 3).put (Reg.FRM_UNIT_CTL_ACTION u) 2).put (Reg.FRM_UNIT_STATE_CAUSE u) 2

/-- Unit u is SERVING with no action pending (R484). -/
def unitServing (u : Nat) (s : State) : State :=
  ((s.put (Reg.FRM_UNIT_STATE_STATE u) 0).put (Reg.FRM_UNIT_CTL_ACTION u) 0).put (Reg.FRM_UNIT_STATE_CAUSE u) 0

/-- A floor channel or a loft stack has been trained: the epoch's low bits and the margin measured (R593). -/
def trained (u : Nat) (s : State) : State :=
  let m := Config.readEye u s.epoch % 65536
  if 14 ≤ u ∧ u < 30 then (s.put (Reg.FLC_TRAIN_EPOCH (u - 14)) (s.epoch % 2 ^ 32)).put (Reg.FLC_TRAIN_MARGIN (u - 14)) m
  else if 30 ≤ u ∧ u < 34 then (s.put (Reg.LFT_TRAIN_EPOCH (u - 30)) (s.epoch % 2 ^ 32)).put (Reg.LFT_TRAIN_MARGIN (u - 30)) m
  else s

/-- TWN_STATE.DEGRADED: one cistern copy, a loft stack out of service, or fewer than 56 joiners in service (R114); a change is told in a STATE frame. -/
def degradedSync (s : State) : State :=
  let fencedStack := (List.range 4).any (fun n => s.get (Reg.FRM_UNIT_STATE_STATE (30 + n)) == 3 || s.get (Reg.FRM_UNIT_STATE_STATE (30 + n)) == 5)
  let d := b2n (s.get Reg.TIR_CST_STATE_COPIES != 0 || fencedStack || decide (joinersInService s < 56))
  if s.get Reg.TWN_STATE_DEGRADED = d then s
  else linkSend "STATE" 1 d [BitVec.ofNat 8 d] (s.put Reg.TWN_STATE_DEGRADED d)

/-! ### The catch-up bitmap (R147, R148) -/

/-- The region of a granule (R148). -/
def granRegion (g : Nat) : Nat := g / 4096

/-- Regions that have a level-2 page. -/
def cubPages (cub : List Nat) : List Nat := (cub.map granRegion).eraseDups

/-- TWN_CUB, TWN_CUB_COARSE and TWN_RSY_STATE.REMAINING as the bitmap stands. -/
def cubSync (s : State) : State :=
  let n := s.twn.cub.length + 4096 * s.twn.coarse.length
  let s := ((s.put Reg.TWN_CUB_MARKED n).put Reg.TWN_CUB_PAGES (cubPages s.twn.cub).length).put Reg.TWN_CUB_COARSE_REGIONS s.twn.coarse.length
  s.put Reg.TWN_RSY_STATE_REMAINING (if s.pair = .resyncing || s.pair = .catchingUp then n else 0)

/-- Whether a granule is marked. -/
def isMarked (s : State) (g : Nat) : Bool := s.twn.cub.contains g || s.twn.coarse.contains (granRegion g)

/-- Mark a granule; when the page pool is exhausted its region is marked whole (R148). -/
def markGran (g : Nat) (s : State) : State :=
  if isMarked s g then s
  else
    let r := granRegion g
    let pages := cubPages s.twn.cub
    if pages.contains r || decide (pages.length < 65536) then cubSync (s.onTwn fun x => { x with cub := x.cub ++ [g] })
    else cubSync (s.onTwn fun x => { x with coarse := x.coarse ++ [r] })

/-- A data record: FULL, PARTIAL or ATOMIC (R86). -/
def Rec.isData (r : Rec) : Bool := r.kind = RecKind.full || r.kind = .partWrite || r.kind = .atomic

/-- Highest sequence number the twin has acknowledged. -/
def ackedTo (s : State) (r : Nat) : Nat := tget 0 r s.cis.acked

/-- Whether this module owns reach n. -/
def ownsReach (s : State) (n : Nat) : Bool := s.get (Reg.TIR_REACH_LOCAL_OWNED n) == 1

/-- Records of own reaches that the twin has not acknowledged. -/
def unackedRecs (s : State) : List Rec := s.cis.recs.filter (fun r => r.isData && !r.mirror && ownsReach s r.reach && decide (r.seq > ackedTo s r.reach))

/-! ### Spills, power failure and resets -/

/-- The module stops all service ahead of a spill on input power or an entry (R526). -/
def stopService (s : State) : State := { s with pwr := { s.pwr with serveStop := true } }

/-- In RESYNCING a spill's start marks the granules of the records that the catching-up module has been sent and has not acknowledged (R148). -/
def spillMarks (s : State) : State :=
  if s.pair = .resyncing then (unackedRecs s).foldl (fun s r => if r.held then markGran (r.line / 256) s else s) s else s

/-- Start a spill on input power, called for in the mode of code `mode`, unless one runs (R508, R526). -/
def spillOnInput (after : AfterSpill) (mode : Nat) (s : State) : State :=
  if s.pwr.spill.isSome then s
  else (spillMarks (stopService s)).onPwr fun x =>
    { x with spill := some { fromBank := false, mode := mode, streaming := false, started := s.epoch, after := after } }

/-- What R258 states for too few boards, and R212, R385, R426, R505 with it: the module fences itself, or, serving alone,
stops all service, spills on input power and enters RECOVERY.  A module that neither serves nor catches up keeps its place. -/
def failStop (s : State) : State :=
  if s.alone then spillOnInput .recovery s.mode.code s
  else if s.mode = .paired || s.pair = .catchingUp || s.pair = .joining then fenceSelf s
  else s

/-- A fatal error of R212: as `failStop`; a module that fences itself for it stays FENCED until it is reset. -/
def failFatal (s : State) : State :=
  let s := failStop s
  if s.pair = .fenced then s.onTwn fun x => { x with barred := true } else s

/-- Registers island 0 and the survey logic keep across a module reset: GLB, MOD, PWR, CLK, EVR, FST and SVY (R590). -/
def keptByReset (key : Nat) : Bool :=
  let o := key / 512
  decide (o < 0x20000) || (decide (0x80000 ≤ o) && decide (o < 0xD0000)) ||
    (decide (0x500000 ≤ o) && decide (o < 0x510000)) || (decide (0x700000 ≤ o) && decide (o < 0x710000))

/-- The reach table's fields that outlast a reset: state, kind, owner, LAST_SEQ and ADOPT_SEQ (R42, R60). -/
def reachKept (key : Nat) : Bool :=
  let o := key / 512
  let b := key % 512
  (decide (0x1C8000 ≤ o) && decide (o < 0x1D0000) && decide (b < 6)) || (decide (0x1D0000 ≤ o) && decide (o < 0x1E0000))

/-- Record the reach table and the pair state at the stop, as the spill header, the footing and the media log keep them
(R42, R60, R536): only where this bring-up has loaded the table, and a module that stands UNPAIRED or in JOINING keeps the state it stopped in before. -/
def stashStop (s : State) : State :=
  if s.tir.tabled then
    s.onStore fun x => { x with reachRegs := s.regs.filter (fun e => reachKept e.1),
                                stopState := if s.pair = .unpaired || s.pair = .joining then x.stopState else s.get Reg.TWN_STATE_PAIR_STATE }
  else s

/-- HPT_LINK_STATE.PERST follows the HPn_PERST_N lines, low when asserted (R606). -/
def perstSync (s : State) : State :=
  (List.range 8).foldl (fun s p => s.put (Reg.HPT_LINK_STATE_PERST p) (b2n (!(bitOf p (s.get Reg.GLB_DISCRETES_PERST_N))))) s

/-- Hold islands 1–27 in reset: everything in them is lost; island 0, the store and the media stay (R525). -/
def clearIslands (s : State) : State :=
  let s := stashStop s
  { State.reset with
      regs := s.regs.filter (fun e => keptByReset e.1), pwr := s.pwr, evr := s.evr, store := { s.store with unlockFail := 0, raiseFail := 0, opMbx := none },
      med := s.med, sent := s.sent, fresh := s.fresh, pending := s.pending } |> perstSync

/-- Every record is retired: nothing unique is in the cistern (R535). -/
def noUnretired (s : State) : Bool := s.cis.recs.all Rec.retired && s.cis.waitApp.isEmpty

/-- Program the clean-stop record: the module stops from QUIESCED or RECOVERY (`mode`), its cistern holds no unretired record, and the restore outcome is known
(R535). -/
def cleanStop (mode : Nat) (s : State) : State :=
  if (mode = Mode.quiesced.code || mode = Mode.recovery.code) && noUnretired s && s.get Reg.MOD_STATE_RESTORE != 0
  then s.onStore fun x => { x with cleanStop := some s.med.spillNo } else s

/-- What island 0 does at a module reset: the clean-stop record, the end of a freeze, MOD_RESET_LOG, and whatever was under way is over (R524, R535, R577). -/
def resetLog (scope cause mode : Nat) (spilled : Bool) (s : State) : State :=
  let s := (cleanStop mode s).onEvr fun x => { x with frozen := false, freezeAt := none, freezeHeld := none, freezeCmd := false }
  let s := (((((s.put Reg.MOD_RESET_LOG_CAUSE cause).put Reg.MOD_RESET_LOG_SCOPE scope).put Reg.MOD_RESET_LOG_MODE_AT mode).put
    Reg.MOD_RESET_LOG_SPILLED (b2n spilled)).put Reg.MOD_RESET_LOG_EPOCH s.epoch).inc (Reg.MOD_STAT_COUNT 1)
  (s.put Reg.CLK_STATE_FREEZE 0).onPwr fun x =>
    { x with inReset := some scope, spill := none, resetPend := none, modeMbx := none, serveStop := false, testMbx := none, hgHeld := [], hgWait := [] }

/-- Registers that island 0 keeps and that start again with the islands: measurements, region unlocks, a store operation cut off (R547), the headgate's tokens,
bring-up and SERVE_BLOCK. -/
def resetRegs (s : State) : State :=
  let s := hgSync ((s.put Reg.FST_STATE_OP 0).put Reg.FST_OP_WORDS_LEFT 0)
  let s := (List.range 5).foldl (fun s i => s.put (Reg.MOD_MEAS_DIGEST i) 0) s
  let s := (s.put Reg.FST_STATE_UNLOCK6 0).put Reg.FST_STATE_UNLOCK7 0
  ((s.put Reg.MOD_BRINGUP_STEPS 0).put Reg.MOD_BRINGUP_RUNNING 0).put Reg.MOD_STATE_SERVE_BLOCK 0x7F

/-- A module reset's events: 0x0D07, and 0x0E03 when the survey was read out (R524, R580). -/
def resetEvents (cause : Nat) (s : State) : State :=
  let s := raise 0x0D07 cause 0 s
  if s.get Reg.SVY_LAST_READ_OUT = 1 then raise 0x0E03 0 s.evr.svyRead (s.onEvr fun x => { x with svyRead := 0 }) else s

/-- A module reset of a scope, with its cause: logged, STANDBY while held, islands 1–27 cleared (R524, R525).  The freeze ends,
and record 0x0E03 is made when the survey was read out (R577, R580). -/
def moduleReset (scope cause mode : Nat) (spilled : Bool) (s : State) : State :=
  resetEvents cause (setMode .standby (resetRegs (clearIslands (resetLog scope cause mode spilled s))))

/-- The power stage shuts down (R508, R511). -/
def powerOff (s : State) : State :=
  let s := stashStop s
  { s with pwr := { s.pwr with powered := false, spill := none, pfOut := false, pfFilter := false } }

/-- BRINGUP is entered: no step ended, no restore outcome, every SERVE_BLOCK condition open, the headgate's withdrawal over
(R503, R520, R533). -/
def enterBringup (s : State) : State :=
  let s := { s with pwr := { s.pwr with inReset := none, thermHold := false, serveStop := false } }
  let s := ((((s.put Reg.MOD_BRINGUP_STEPS 0).put Reg.MOD_BRINGUP_RUNNING 1).put Reg.MOD_BRINGUP_ELAPSED_MS 0).put
    Reg.MOD_STATE_RESTORE 0).put Reg.MOD_STATE_SERVE_BLOCK 0x7F
  let s := (s.put Reg.MOD_STATE_FALLBACK 0).put Reg.PWR_HG_STATE_WITHDRAWN 0
  hgSync (setMode .bringup s)

/-- The RDMA ports go down, as in RECOVERY (R361). -/
def ethDown (s : State) : State := (List.range 4).foldl (fun s p => s.put (Reg.ETH_PORT_STATE_RATE p) 3) s

/-- The islands that hold the register at an offset (R10, R584). -/
def islandsOf (off : Nat) : List Nat :=
  if off < 0x20000 then [0] else if off < 0x80000 then [1] else if off < 0x100000 then [0] else if off < 0x180000 then [17]
  else if off < 0x1C0000 then (if 0x181000 ≤ off ∧ off < 0x181400 then [15 + (off - 0x181000) / 0x200] else [15, 16])
  else if off < 0x200000 then [18] else if off < 0x240000 then [19] else if off < 0x280000 then [14] else if off < 0x300000 then [12]
  else if off < 0x380000 then [10 + (off - 0x300000) / 0x40000] else if off < 0x400000 then [if off < 0x3C0000 then 12 else 13]
  else if off < 0x440000 then [24 + (off - 0x400000) / 0x20000] else if off < 0x480000 then [20 + (off - 0x440000) / 0x10000]
  else if off < 0x500000 then (if off < 0x4C0000 then [26 + (off - 0x480000) / 0x20000] else [26, 27])
  else if off < 0x540000 then [0] else if off < 0x580000 then [13]
  else if off < 0x600000 then (if off < 0x588000 then [2 + (off - 0x580000) / 0x10000] else if off < 0x590000 then [2, 3, 4, 5, 6, 7, 8, 9] else [2 + (off - 0x580000) / 0x10000])
  else if off < 0x700000 then [1] else []

/-- The islands of a frame's registers. -/
def frameIslands (x : Frame) : List Nat := (List.range 28).filter (fun i => x.entries.any (fun e => (islandsOf e.off).contains i))

/-- Settings generations held on an island: the one in force, older ones with an operation in flight, and one for each SCHEDULED frame (R477). -/
def generations (s : State) (i : Nat) : Nat :=
  1 + (s.frm.old.filter (fun e => e.1.contains i)).length + (s.frm.frames.filter (fun e => e.2.state == 3 && (frameIslands e.2).contains i)).length

/-- Mirror a frame's state into its registers, and FRM_STATE with it (R471). -/
def frameSync (f : Nat) (s : State) : State :=
  let x : Frame := (tfind f s.frm.frames).getD Frame.free
  let s := ((((s.put (Reg.FRM_FRAME_STATE f) x.state).put (Reg.FRM_FRAME_ENTRIES f) x.entries.length).put (Reg.FRM_FRAME_MAILBOX f) x.opener).put
    (Reg.FRM_FRAME_CHECK f) x.status).put (Reg.FRM_FRAME_EPOCH_EPOCH f) (if x.state = 3 then x.target else 0)
  let s := s.put Reg.FRM_STATE_IN_USE (s.frm.frames.foldl (fun n e => n + 2 ^ e.1) 0)
  let s := s.put Reg.FRM_STATE_SCHEDULED ((s.frm.frames.filter (fun e => e.2.state == 3)).foldl (fun n e => n + 2 ^ e.1) 0)
  s.put Reg.FRM_STATE_GENERATIONS ((List.range 28).foldl (fun n i => Nat.max n (generations s i)) 1)

/-- Every frame is lost, a scheduled peg with it (R482). -/
def loseFrames (s : State) : State :=
  s.frm.frames.foldl (fun s e => frameSync e.1 s) (s.onFrm fun x => { x with frames := [] })

/-- A FRAME_PEG whose frame is lost while mailboxes are still answered completes ABORTED. -/
def abortPegs (s : State) : State := (s.frm.frames.filterMap (fun e => e.2.waiter)).foldl (fun s m => completeW m .aborted 0 noDetail false [] s) s

/-- RECOVERY is entered: the data path is held and every frame is lost (R361, R482, R539). -/
def enterRecovery (s : State) : State :=
  let s := ethDown (loseFrames (abortPegs s))
  let s := setMode .recovery { s with pwr := { s.pwr with spill := none, serveStop := true, inReset := none } }
  match s.pwr.modeMbx with
  | some m => complete m (leBytes 8 Mode.recovery.code) (s.onPwr fun x => { x with modeMbx := none })
  | none => s

/-- Before a module reset or an entry to RECOVERY: fence when PAIRED or RESYNC, stop all service and spill on input power; skipped
where no spill is due (R526). -/
def preReset (after : AfterSpill) (s : State) : State :=
  spillOnInput after s.mode.code (if s.mode = .paired || s.mode = .resync then fenceSelf (spillMarks s) else s)

/-- What a spill's end leads to when its commit marker is written or its time is up; `mode` is the mode it was called for in (R511, R526). -/
def applyAfter (after : AfterSpill) (mode : Nat) (spilled inputGood : Bool) (s : State) : State :=
  match after with
  | .powerOff => if inputGood then moduleReset 0 4 Mode.spill.code spilled { s with pwr := { s.pwr with spill := none, pfOut := false } } else powerOff s
  | .recovery => enterRecovery (stashStop s)
  | .standby => moduleReset 1 5 mode spilled { s with pwr := { s.pwr with thermHold := true } }
  | .moduleReset scope cause => moduleReset scope cause mode spilled s

/-- A violation on a host port is counted, in the running second and since reset (R321). -/
def hostViolation (p : Nat) (s : State) : State :=
  let s := s.onHpt fun x => { x with viol := (p, s.epoch) :: x.viol.filter (fun e => decide (s.epoch < e.2 + 1000000)) }
  (s.addSat (Reg.HPT_VIOL_CURRENT p) 1).addSat (Reg.HPT_VIOL_TOTAL p) 1

/-! ### The counter journal (R376, R378) -/

/-- CPH_JRNL_STATE and the active half as the journal stands. -/
def jrnlSync (s : State) : State :=
  let ids := s.store.jkeys.length
  let dead := (s.store.jkeys.filter (fun e => e.2.spent || e.2.forgotten)).length
  (((s.put Reg.CPH_JRNL_STATE_KEY_IDS ids).put Reg.CPH_JRNL_STATE_WORDS s.store.jWords).put Reg.CPH_JRNL_STATE_SPENT dead).put Reg.CPH_STATE_JRNL_HALF s.store.jHalf

/-- Program a record; a full half of 32,768 is compacted into the other first: the latest record of each key ID in force is
copied, those of the Rilram sending keys among them, event 0x0806 (R378; notes/assumptions/25.md). -/
def jrnlWord (s : State) : State :=
  let s := if s.store.jWords < 32768 then s
    else raise 0x0806 0 0 (s.onStore fun x => { x with jWords := x.jkeys.length + ((List.range 2).filter (fun p => s.get (Reg.TWN_PORT_STATE_LINK p) == 2)).length, jHalf := 1 - x.jHalf })
  s.onStore fun x => { x with jWords := x.jWords + 1 }

/-- Program a record of a Rilram key, which is not counted among the key IDs (R376, R378). -/
def jrnlLink (s : State) : State := jrnlSync (jrnlWord s)

end Sys2Proof.Machine
end

