-- ==== Sys2Proof/Machine/Media.lean ====
section
/-!
DEFINITION. Sys2Proof/Machine/Media.lean: shared operations on the media, the spillway, the firmware store's status registers and
the cistern copies, which several families call.
-/
namespace Sys2Proof.Machine

open Sys2Proof

/-- Boards ONLINE or REBUILDING (R258); SLC_BOARD_STATE.STATE is 0 ONLINE, 1 RELEASING, 2 ABSENT, 3 ADMITTING, 4 REBUILDING. -/
def boardsServing (s : State) : Nat :=
  ((List.range 8).filter (fun b => s.get (Reg.SLC_BOARD_STATE_STATE b) == 0 || s.get (Reg.SLC_BOARD_STATE_STATE b) == 4)).length

/-- The newest marker (R554); a store with no marker names slot A and joinery index 2. -/
def newestMarker (s : State) : Marker :=
  s.store.markers.headD { seq := 0, slot := 0, joinery := 2, sunVer := 0, joinVer := 0 }

/-- FST registers that follow the markers, the sectors and the logs. -/
def storeSync (s : State) : State :=
  let m := newestMarker s
  let s := ((s.put Reg.FST_STATE_ACTIVE_SLOT m.slot).put Reg.FST_STATE_BOOT_JOINERY m.joinery).put Reg.FST_MARKER_SEQ m.seq
  let s := (s.put Reg.FST_MARKER_SUNDYTH_VERSION m.sunVer).put Reg.FST_SECTORS_SUSPECT s.store.suspect.length
  let s := (s.put Reg.FST_SECTORS_GROWN_BAD s.store.badErase.length).put Reg.FST_SECTORS_SPARE_LEFT s.store.spares
  let s := s.put Reg.FST_SECTORS_MAX_ERASES (s.store.erases.foldl (fun m e => Nat.max m e.2) 0)
  (List.range 6).foldl (fun s i => s.put (Reg.FST_IMAGE_ACTIVE i) (b2n (if i < 2 then i == m.slot else i == m.joinery))) s

/-- A cistern copy rebuild can start again where COPIES is 2 (R82): the room is sought anew when CISTERN_ROOM_MADE reports it. -/
def retryCistern (s : State) : State :=
  if s.get Reg.TIR_CST_STATE_COPIES = 2 then s.put Reg.TIR_CST_STATE_COPIES 1 else s

end Sys2Proof.Machine
end

