-- ==== Sys2Proof/Machine/TierOps.lean ====
section
/-!
DEFINITION. Sys2Proof/Machine/TierOps.lean: shared operations on the tier directory, the two pools, the bench and the applied contents
(05_tiers.md, 06_bench_cache.md).  A line is named by HA[47:6], a granule by HA[47:14] (R32).
-/
namespace Sys2Proof.Machine

open Sys2Proof

/-! ### Addresses (R32) -/

/-- The granule of a line. -/
def lineGran (line : Nat) : Nat := line / 256
/-- The line's number within its granule. -/
def lineIdx (line : Nat) : Nat := line % 256
/-- The reach of a line. -/
def lineReach (line : Nat) : Nat := line / 2 ^ 30
/-- The reach of a granule. -/
def granReach (g : Nat) : Nat := g / 2 ^ 22
/-- The quarter of a line within its granule. -/
def lineQuarter (line : Nat) : Nat := line % 256 / 64
/-- Every line of a granule, as a mask. -/
def allLines : Nat := 2 ^ 256 - 1
/-- The lines of quarter q, as a mask. -/
def quarterLines (q : Nat) : Nat := (2 ^ 64 - 1) * 2 ^ (64 * q)
/-- One bit of a mask as a mask. -/
def maskBit (i : Nat) : Nat := 2 ^ i

/-- Set or clear a bit of a number. -/
def setBit (v i : Nat) (b : Bool) : Nat := if bitOf i v then (if b then v else v - 2 ^ i) else (if b then v + 2 ^ i else v)

/-- The number of one bits among the lowest `n`. -/
def popCount (n v : Nat) : Nat := ((List.range n).filter (fun i => bitOf i v)).length

/-! ### Units of the loft and the floor (R483, R285) -/

/-- State of serviceable unit u (FRM_UNIT_STATE). -/
def unitState (s : State) (u : Nat) : Nat := s.get (Reg.FRM_UNIT_STATE_STATE u)

/-- A floor channel whose pool frames are in use: populated, swept, SERVING or RECALIBRATING (R287, R486, R487). -/
def chanUp (s : State) (c : Nat) : Bool :=
  (unitState s (14 + c) == 0 || unitState s (14 + c) == 2) && bitOf c (s.get Reg.ECC_INIT_STATE_CHANNELS_DONE) && decide (s.get (Reg.FLC_DIMM_GIB c 0) + s.get (Reg.FLC_DIMM_GIB c 1) > 0)

/-- A loft stack in service: swept, SERVING or RECALIBRATING. -/
def stackUp (s : State) (n : Nat) : Bool := (unitState s (30 + n) == 0 || unitState s (30 + n) == 2) && bitOf n (s.get Reg.ECC_INIT_STATE_STACKS_DONE)

/-- The value of a field that acts: for a field of R478 pegged since the bring-up, the value of the bring-up. -/
def State.inForce (s : State) (f : Fld) : Nat := (tfind f.key s.frm.deferred).getD (s.get f)

/-- The stack pair that a code of TIR_CST_CFG.STACKS selects (R80). -/
def stackPair (c : Nat) : List Nat := if c = 0 then [0, 2] else if c = 1 then [1, 3] else if c = 2 then [0, 3] else [1, 2]

/-- The stacks of the cistern's copies (R80), after a fence the surviving and the new one (R81). -/
def cisternStacks (s : State) : List Nat :=
  match s.cis.survivor with
  | some n => n :: s.cis.newStack.toList
  | none => stackPair (s.inForce Reg.TIR_CST_CFG_STACKS)

/-- Bytes of a pool's buffers by class (R388). -/
def yardClassBytes (p : Nat) : Nat := if p / 4 = 0 then 256 else if p / 4 = 1 then 4096 else if p / 4 = 2 then 65536 else 2097152

/-- Provisioned reaches of a kind (0 persistent, 1 volatile). -/
def reachesOf (kind : Nat) (s : State) : Nat :=
  ((List.range 4096).filter (fun n => s.get (Reg.TIR_REACH_STATE n) != 0 && s.get (Reg.TIR_REACH_KIND n) == kind)).length

/-! ### Pools (R162, R163) -/

/-- Frames of the loft stack n that are left for the pool: 32 GiB less the cistern's copy, the stack's yard pools, the cells' half where the
stack holds one (R397), and a quarter of the bitmap and the metadata cache (R163). -/
def stackCap (s : State) (n : Nat) : Nat :=
  let yard := ((List.range 16).filter (fun p => s.inForce (Reg.YRD_POOL_CFG_STACK p) == n)).foldl
    (fun a p => a + s.inForce (Reg.YRD_POOL_CFG_COUNT p) * yardClassBytes p) 0
  let cells := if (stackPair (s.inForce Reg.TIR_CST_CFG_STACKS)).contains n then 0 else 2 ^ 29
  let shared := 34078720 + s.inForce Reg.TIR_LOFT_CFG_META_GIB * 2 ^ 30
  (2 ^ 35 - (if (cisternStacks s).contains n then s.effBytes else 0) - yard - cells - shared / 4) / 16384

/-- Frames the directory, translation, QP contexts and volatile copies take from the floor (R163). -/
def floorCarve (s : State) : Nat :=
  (reachesOf 0 s + reachesOf 1 s) * 4096 + reachesOf 0 s * 4096 + 65536 + reachesOf 1 s * 8388608

/-- Populated floor channels that hold carve-outs: not those out of service, whose pages have moved to the others (R487, R488). -/
def chansPopulated (s : State) : Nat :=
  ((List.range 16).filter (fun c => decide (unitState s (14 + c) < 3) && decide (s.get (Reg.FLC_DIMM_GIB c 0) + s.get (Reg.FLC_DIMM_GIB c 1) > 0) && !(bitOf c (s.get Reg.ECC_SELFTEST_FLOOR_FAIL)))).length

/-- GiB of the floor channels that hold carve-outs. -/
def floorGib (s : State) : Nat :=
  ((List.range 16).filter (fun c => decide (unitState s (14 + c) < 3) && !(bitOf c (s.get Reg.ECC_SELFTEST_FLOOR_FAIL)))).foldl
    (fun n c => n + s.get (Reg.FLC_DIMM_GIB c 0) + s.get (Reg.FLC_DIMM_GIB c 1)) 0

/-- Frames of channel c that are left for the pool: the carve-outs are spread over all populated channels (R161, R163). -/
def chanCap (s : State) (c : Nat) : Nat :=
  (s.get (Reg.FLC_DIMM_GIB c 0) + s.get (Reg.FLC_DIMM_GIB c 1)) * 65536 - floorCarve s / Nat.max 1 (chansPopulated s)

/-- Frames of pool p in use. -/
def poolUsed (s : State) (p : Nat) : Nat := (List.range 16).foldl (fun a b => a + s.get (Reg.TIR_AGE_HIST_FRAMES p b)) 0

/-- TIR_POOL_SIZE recomputed (R163, R287). -/
def poolSync (s : State) : State :=
  let loft := ((List.range 4).filter (stackUp s)).foldl (fun a n => a + stackCap s n) 0
  let floor := ((List.range 16).filter (chanUp s)).foldl (fun a c => a + chanCap s c) 0
  let s := (s.put (Reg.TIR_POOL_SIZE_FRAMES 0) loft).put (Reg.TIR_POOL_SIZE_FRAMES 1) floor
  (s.put (Reg.TIR_POOL_SIZE_FREE 0) (loft - poolUsed s 0)).put (Reg.TIR_POOL_SIZE_FREE 1) (floor - poolUsed s 1)

/-! ### Directory entries (R161, R164, R167, R187) -/

/-- The entry of a volatile reach's granule as provisioning leaves it: PINNED, its floor copies whole (R161, R186). -/
def Gran.volatileEntry (g : Nat) : Gran :=
  { Gran.zero with floor := true, pinned := true, floorValid := allLines, floorIndex := (Config.pinFrame g).1 % 2 ^ 25,
                   floorChannel := (Config.pinFrame g).2 % 8 }

/-- A granule's directory entry: as provisioning created it where nothing is listed (R161). -/
def State.gran (s : State) (g : Nat) : Gran :=
  match tfind g s.tir.dir with
  | some e => e
  | none => if s.get (Reg.TIR_REACH_STATE (granReach g)) ≠ 0 ∧ s.get (Reg.TIR_REACH_KIND (granReach g)) = 1 then Gran.volatileEntry g else Gran.zero

/-- Whether an entry holds a frame of pool p (a PINNED granule's floor frames are no pool frames). -/
def Gran.inPool (e : Gran) (p : Nat) : Bool := if p = 0 then e.loft else e.floor && !e.pinned

/-- Count an entry's frame of pool p in the age buckets, the tenant's use and the free count, or take it out. -/
def countFrame (up : Bool) (p : Nat) (e : Gran) (s : State) : State :=
  if e.inPool p then
    let h := Reg.TIR_AGE_HIST_FRAMES p (e.age / 16)
    let t := if p = 0 then Reg.TIR_TEN_USE_LOFT_FRAMES e.tenant else Reg.TIR_TEN_USE_FLOOR_FRAMES e.tenant
    if up then ((s.add h 1).add t 1).sub (Reg.TIR_POOL_SIZE_FREE p) 1 else ((s.sub h 1).sub t 1).add (Reg.TIR_POOL_SIZE_FREE p) 1
  else s

/-- Write a directory entry, keeping the buckets, the tenant's use and the free counts current (R167, R187). -/
def setGran (g : Nat) (e : Gran) (s : State) : State :=
  let old := s.gran g
  let s := countFrame false 1 old (countFrame false 0 old s)
  let s := s.onTir fun x => { x with dir := tset Gran.zero g e x.dir }
  countFrame true 1 e (countFrame true 0 e s)

/-- Change a directory entry. -/
def modGran (g : Nat) (f : Gran → Gran) (s : State) : State := setGran g (f (s.gran g)) s

/-- Lines valid in some cached copy. -/
def Gran.valid (e : Gran) : Nat := (if e.loft then e.loftValid else 0) ||| (if e.floor then e.floorValid else 0)

/-- A cached copy exists. -/
def Gran.cached (e : Gran) : Bool := e.loft || e.floor

/-- PARTIAL: a cached copy is partial (R160, R161). -/
def Gran.partialCopy (e : Gran) : Bool := (e.loft && e.loftValid != allLines) || (e.floor && e.floorValid != allLines)

/-- An access served from a cached copy: AGE 0, STREAM and the pool's pending flag cleared, the cancellation counted (R164, R173, R183). -/
def touch (g : Nat) (fromLoft : Bool) (s : State) : State :=
  let e := s.gran g
  let pend := if fromLoft then e.loftPend else e.floorPend
  let e := { e with age := 0, stream := false, loftPend := e.loftPend && !fromLoft, floorPend := e.floorPend && fromLoft }
  let s := setGran g e s
  if pend then s.inc (Reg.TIR_TIER_STAT_COUNT 9) else s

/-- The free frames of a pool. -/
def poolFree (s : State) (p : Nat) : Nat := s.get (Reg.TIR_POOL_SIZE_FREE p)

/-- Frames in use on a stack or channel. -/
def usedOn (s : State) (p i : Nat) : Nat :=
  (s.tir.dir.filter (fun e => if p = 0 then e.2.loft && e.2.loftStack == i else e.2.floor && !e.2.pinned && e.2.floorChannel == i)).length

/-- The next stack or channel in round-robin order that has a free frame (R162). -/
def nextUnit (s : State) (p : Nat) : Option Nat :=
  if p = 0 then ((List.range 4).map (fun k => (s.tir.nextStack + k) % 4)).find? (fun n => stackUp s n && decide (usedOn s 0 n < stackCap s n))
  else ((List.range 16).map (fun k => (s.tir.nextChan + k) % 16)).find? (fun c => chanUp s c && decide (usedOn s 1 c < chanCap s c))

/-- Give a granule a floor frame with the valid lines `v`; none when no frame is free: the allocation waits (R162, R180, R187).
The frame index is open (notes/assumptions/4.md). -/
def allocFloor (g v age tenant : Nat) (s : State) : Option State :=
  match nextUnit s 1 with
  | none => none
  | some c =>
    let q := s.free 25
    let e := q.2.gran g
    let e := { e with floor := true, floorChannel := c, floorIndex := q.1, floorValid := v, age := age, tenant := if e.cached then e.tenant else tenant }
    some (setGran g e (q.2.onTir fun x => { x with nextChan := (c + 1) % 16 }))

/-- Give a granule a loft frame; none when no frame is free. -/
def allocLoft (g v : Nat) (s : State) : Option State :=
  match nextUnit s 0 with
  | none => none
  | some n =>
    let q := s.free 21
    let e := { q.2.gran g with loft := true, loftStack := n, loftIndex := q.1, loftValid := v }
    some (setGran g e (q.2.onTir fun x => { x with nextStack := (n + 1) % 4 }))

/-- Count an allocation that waits for a frame (R180). -/
def frameWait (p : Nat) (s : State) : State := (s.put (Reg.TIR_POOL_STATE_FRAME_WAIT p) 1).inc (Reg.TIR_TIER_STAT_COUNT 13)

/-! ### Move locks and move slots (R177, R181) -/

/-- Take a move lock, or wait for it behind the movers that came before (R181). The flag says whether it was taken. -/
def takeLock (g : Nat) (l : Lock) (s : State) : Bool × State :=
  let e := s.gran g
  if e.lock.isNone && e.waiters.isEmpty then (true, setGran g { e with lock := some l } s)
  else (false, setGran g { e with waiters := e.waiters ++ [l] } s)

/-- Release a move lock; a waiting mover takes it by MOVE_LOCK_GRANTED (R181). -/
def dropLock (g : Nat) (s : State) : State := modGran g (fun (e : Gran) => { e with lock := none }) s

/-- What an eviction of an entry's copy from pool p does: 0 nothing, the copy is not eligible; 1 drop; 2 demote (R175). -/
def evictAction (p : Nat) (e : Gran) (s : State) : Nat :=
  if p = 0 then
    (if !e.loft then 0
     else if e.floor then 1
     else if e.cistern = 0 ∧ e.age ≥ s.get Reg.TIR_MOVE_CFG_DEMOTE_AGE then 1
     else if poolFree s 1 > 0 then 2 else 0)
  else if !e.floor || e.pinned then 0
  else if e.loft then 1
  else if e.cistern = 0 then 1 else 0

/-- TIR_POOL_STATE.INELIGIBLE of both pools: frames that R175 does not let go, or whose granule is locked. -/
def poolStateSync (s : State) : State :=
  let n := fun (p : Nat) => (s.tir.dir.filter (fun e => e.2.inPool p && (e.2.lock.isSome || evictAction p e.2 s == 0))).length
  (s.put (Reg.TIR_POOL_STATE_INELIGIBLE 0) (n 0)).put (Reg.TIR_POOL_STATE_INELIGIBLE 1) (n 1)

/-- Move slots held by a user: 1 eviction, 2 drain, 3 resaw, 4 promotion or RESYNC snapshot. -/
def slotsOf (u : Nat) (s : State) : Nat := (s.tir.slots.filter (fun e => e.2 == u)).length

/-- TIR_MOVE_SLOTS as the slots are held. -/
def slotSync (s : State) : State :=
  (((s.put Reg.TIR_MOVE_SLOTS_IN_USE s.tir.slots.length).put Reg.TIR_MOVE_SLOTS_EVICT (slotsOf 1 s)).put Reg.TIR_MOVE_SLOTS_RESAW
    (slotsOf 3 s)).put Reg.TIR_MOVE_SLOTS_PROMOTE (slotsOf 4 s)

/-- Whether a user may take a move slot (R177): the reserve is for evictions only. -/
def slotFree (u : Nat) (s : State) : Bool :=
  let n := s.tir.slots.length
  let left := 16384 - n
  let reserveLeft := s.get Reg.TIR_EVICT_CFG2_EVICT_RESERVE - slotsOf 1 s
  if u = 1 then decide (left > 0)
  else decide (left > reserveLeft) &&
    (if u = 2 then decide (slotsOf 2 s < s.get Reg.TIR_DRN_CFG_MAX_PACKS)
     else if u = 3 then decide (slotsOf 3 s < s.get Reg.TIR_RSW_CFG2_MAX_SLOTS) else true)

/-- Take the lowest free move slot; none when the user may take none. -/
def takeSlot (u : Nat) (s : State) : Option (Nat × State) :=
  if slotFree u s then
    let n := tnext 0 s.tir.slots
    some (n, slotSync (s.onTir fun x => { x with slots := tins n u x.slots }))
  else none

/-- Give back a move slot. -/
def giveSlot (n : Nat) (s : State) : State := slotSync (s.onTir fun x => { x with slots := tdel n x.slots })

/-! ### Contents and poison -/

/-- The 64 bytes of a line as applied here. -/
def lineBytes (s : State) (line : Nat) : List Byte := readBytes s.tir.home (line * 64) 64

/-- Whether the line carries the poison mark (R267). -/
def linePoisoned (s : State) (line : Nat) : Bool := tget 0 line s.tir.poison == 1

/-- Set or clear the poison mark of a line. -/
def setPoison (line : Nat) (b : Bool) (s : State) : State := s.onTir fun x => { x with poison := tset 0 line (b2n b) x.poison }

/-- A line is lost: poisoned, and its bytes are open (notes/assumptions/4.md). -/
def loseLine (line : Nat) (s : State) : State :=
  let r := s.freeBytes 64
  setPoison line true (r.2.onTir fun x => { x with home := writeBytes (line * 64) r.1 x.home })

/-- A write of a line in the unit that ECC_INJECT has armed: ARM clears; the poison pattern marks the line, an injected error of another kind is what a
later read of the word reports (ECC_INJECT). -/
def injectWrite (line : Nat) (s : State) : State :=
  match s.tir.inject with
  | some (d, u, k) =>
    let e := s.gran (lineGran line)
    if (d = 0 ∧ e.loft = true ∧ e.loftStack = u) ∨ (d = 1 ∧ e.floor = true ∧ e.floorChannel = u) then
      let s := (s.onTir fun x => { x with inject := none }).put Reg.ECC_INJECT_ARM 0
      if k = 2 then setPoison line true s else s
    else s
  | none => s

/-- The poison marks of a granule's lines as a mask. -/
def granPoison (s : State) (g : Nat) : Nat :=
  (s.tir.poison.filter (fun e => e.1 / 256 == g)).foldl (fun v e => v + e.2 * 2 ^ (e.1 % 256)) 0

/-- A granule's applied bytes, by offset. -/
def granBytes (s : State) (g : Nat) : List Host.Cell :=
  (s.tir.home.filter (fun c => c.1 / 16384 == g)).map (fun c => (c.1 % 16384, c.2))

/-- Replace the applied content of a granule's lines in `lines` by stored bytes and poison marks; the other lines stay. -/
def installLines (g lines : Nat) (data : List Host.Cell) (poison : Nat) (s : State) : State :=
  let inn := fun (a : Nat) => a / 16384 == g && bitOf (a % 16384 / 64) lines
  let home := s.tir.home.filter (fun c => !(inn c.1))
  let home := (data.filter (fun c => bitOf (c.1 / 64) lines)).foldl (fun m c => tset 0 (g * 16384 + c.1) c.2 m) home
  let pois := s.tir.poison.filter (fun e => !(e.1 / 256 == g && bitOf (e.1 % 256) lines))
  let pois := ((List.range 256).filter (fun i => bitOf i lines && bitOf i poison)).foldl (fun m i => tset 0 (g * 256 + i) 1 m) pois
  s.onTir fun x => { x with home := home, poison := pois }

/-- What the footing holds for a granule under its translation: nothing when it is not FOOTED (R33). -/
def footedCopy (s : State) (g : Nat) : Option Stored :=
  match tfind g s.tir.xlt with
  | some e => tfind e.locator s.med.stored
  | none => none

/-! ### The bench (R194 to R205) -/

/-- Bank of a block (R195). -/
def benchBank (ba : Nat) : Nat := (ba % 16) ^^^ (ba / 16 % 16) ^^^ (ba / 256 % 16)
/-- Set of a block (R195). -/
def benchSet (ba : Nat) : Nat := ba / 16 % 2 ^ 36 % 768
/-- Key of a block's way. -/
def benchKey (ba way : Nat) : Nat := (benchBank ba * 768 + benchSet ba) * 16 + way

/-- Whether a bank is ENABLED. -/
def bankOn (s : State) (b : Nat) : Bool := s.get (Reg.BCH_BANK_STATE_STATE b) == 1

/-- The way that holds a block. -/
def benchFind (isMeta : Bool) (ba : Nat) (s : State) : Option (Nat × BWay) :=
  (List.range 16).findSome? (fun w => match tfind (benchKey ba w) s.tir.bench with
    | some e => if e.isMeta = isMeta ∧ e.ba = ba then some (w, e) else none
    | none => none)

/-- Write a way; a way without a valid sector and without a fill is invalid, and unlisted. -/
def putWay (ba way : Nat) (e : BWay) (s : State) : State :=
  s.onTir fun x => { x with bench := if e.valid = 0 ∧ e.filling = false then tdel (benchKey ba way) x.bench else tins (benchKey ba way) e x.bench }

/-- DIRTY_BLOCKS of a bank. -/
def dirtySync (b : Nat) (s : State) : State :=
  s.put (Reg.BCH_BANK_STATE_DIRTY_BLOCKS b) (s.tir.bench.filter (fun e => e.1 / 12288 == b && e.2.dirty != 0)).length

/-- Victim-buffer registers as the buffer stands. -/
def victimSync (s : State) : State := s.put Reg.BCH_VB_STATE_IN_USE s.tir.victims.length

/-- Whether a way may be taken (R203): FILLING 0, metadata within META_WAYS, and no dirty way while the victim buffer is full. -/
def wayEligible (forMeta : Bool) (ways : List (Option BWay)) (s : State) (e : BWay) : Bool :=
  let metas := (ways.filterMap id).filter BWay.isMeta
  !e.filling && !(s.tir.victims.length ≥ 64 && e.dirty != 0) &&
    (if forMeta then (decide (metas.length < s.get Reg.BCH_CFG_META_WAYS) || e.isMeta) else true)

/-- The first eligible way of age 3, with ageing rounds until there is one (R203); at most four rounds change anything. -/
def victimRounds (forMeta : Bool) (s : State) : Nat → List (Option BWay) → Option (Nat × List (Option BWay))
  | 0, _ => none
  | n + 1, ways =>
    let old := (List.range 16).find? (fun w => match ways.getD w none with
      | some e => e.age == 3 && wayEligible forMeta ways s e
      | none => false)
    match old with
    | some w => some (w, ways)
    | none => victimRounds forMeta s n (ways.map (fun (o : Option BWay) => o.map (fun (e : BWay) => { e with age := Nat.min 3 (e.age + 1) })))

/-- Choose a way for a block: an invalid way first, then R203; none when no way is eligible. -/
def chooseWay (forMeta : Bool) (ba : Nat) (s : State) : Option (Nat × List (Option BWay)) :=
  let ways := (List.range 16).map (fun w => tfind (benchKey ba w) s.tir.bench)
  let metas := (ways.filterMap id).filter BWay.isMeta
  match (List.range 16).find? (fun w => (ways.getD w none).isNone) with
  | some w => if forMeta && decide (metas.length ≥ s.get Reg.BCH_CFG_META_WAYS) then victimRounds forMeta s 5 ways else some (w, ways)
  | none => if (ways.filterMap id).any (wayEligible forMeta ways s) then victimRounds forMeta s 5 ways else none

/-- Move a victim's dirty sectors to the victim buffer (R204). -/
def evictWay (e : BWay) (s : State) : State :=
  let b := benchBank e.ba
  let s := s.inc (Reg.BCH_STAT_COUNT b 4)
  if e.dirty = 0 then s
  else victimSync ((s.onTir fun x => { x with victims := x.victims ++ [{ ba := e.ba, sectors := e.dirty, waits := [] }] }).inc (Reg.BCH_STAT_COUNT b 5))

/-- Set FILLING on a way for a block's fill, evicting its victim; the way is chosen when the fill lands if none is eligible now
(R203, R208). -/
def reserveWay (isMeta : Bool) (ba : Nat) (s : State) : State :=
  match benchFind isMeta ba s with
  | some (w, e) => putWay ba w { e with filling := true } s
  | none =>
    match chooseWay isMeta ba s with
    | none => s.put Reg.BCH_VB_STATE_FULL_WAIT 1
    | some (w, ways) =>
      let s := ((List.range 16).foldl (fun s i => match ways.getD i none with
        | some e => putWay ba i e s
        | none => s) s).put Reg.BCH_VB_STATE_FULL_WAIT 0
      let s := match ways.getD w none with
        | some e => evictWay e s
        | none => s
      dirtySync (benchBank ba) (putWay ba w { isMeta := isMeta, ba := ba, valid := 0, dirty := 0, poison := 0, age := 0, filling := true } s)

/-- Issue a bench fill of a sector's block, once (R198, R202, R208). -/
def issueFill (isMeta : Bool) (ba sector age : Nat) (mod : Bool) (s : State) : State :=
  if s.tir.bfills.any (fun f => f.isMeta == isMeta && f.ba == ba && !f.cut) then s
  else reserveWay isMeta ba (s.onTir fun x => { x with bfills := x.bfills ++ [{ isMeta := isMeta, ba := ba, sector := sector, age := age, cut := false, mod := mod }] })

/-- Look a line up in the bench: 0 hit, 1 block miss, 2 sector miss, 3 bypassed; a hit sets AGE 0 and every outcome is counted
(R197, R202, R213). -/
def benchLookup (isMeta : Bool) (line : Nat) (s : State) : Nat × State :=
  let ba := line / 4
  let b := benchBank ba
  if !(bankOn s b) then (3, s.inc (Reg.BCH_STAT_COUNT b 9))
  else match benchFind isMeta ba s with
    | some (w, e) =>
      if bitOf (line % 4) e.valid then (0, (putWay ba w { e with age := 0 } s).inc (Reg.BCH_STAT_COUNT b 0))
      else (2, s.inc (Reg.BCH_STAT_COUNT b 2))
    | none => (1, s.inc (Reg.BCH_STAT_COUNT b 1))

/-- Update the bench when a record is applied to a line: the sector stays valid, its POISON bit follows the line (R199). -/
def benchUpdate (line : Nat) (s : State) : State :=
  match benchFind false (line / 4) s with
  | some (w, e) => if bitOf (line % 4) e.valid then putWay (line / 4) w { e with poison := setBit e.poison (line % 4) (linePoisoned s line) } s else s
  | none => s

end Sys2Proof.Machine
end

