-- ==== Sys2Proof/Machine/WindowOps.lean ====
section
/-!
DEFINITION. Sys2Proof/Machine/WindowOps.lean: the window table (R45 to R49, R75) and the tickets (R313): opening, checking an access,
ending one, closing, and what the descriptor reads.
-/
namespace Sys2Proof.Machine

open Sys2Proof

/-- Whether [base, base + len) of a window holds the line-aligned range of an access. -/
def Window.covers (w : Window) (addr len : Nat) : Bool := decide (w.base ≤ addr) && decide (addr + len ≤ w.base + w.len)

/-- The binding of a CXL window: port and logical device (R75). -/
def cxlBinding (port ld : Nat) : Nat := port + 8 * ld

/-- The state of reach n. -/
def reachState (s : State) (n : Nat) : Nat := s.get (Reg.TIR_REACH_STATE n)
/-- Whether reach n is volatile. -/
def volatileReach (s : State) (n : Nat) : Bool := s.get (Reg.TIR_REACH_KIND n) == 1

/-- The checks of R47 in order; `align` is 256 MiB for CXL and 64 B for RDMA.  The DETAIL offsets name the base and length fields. -/
def windowCheck (align cls base len baseAt lenAt clsAt : Nat) (s : State) : Option (St × Nat) :=
  let span := reachSpan base len
  if len = 0 ∨ len = 2 ^ 64 - 1 then some (.badField, atPayload lenAt)
  else if len % align ≠ 0 then some (.badField, atPayload lenAt)
  else if base % align ≠ 0 then some (.badField, atPayload baseAt)
  else if base + len > 2 ^ 48 then some (.bounds, atPayload lenAt)
  else if span.any (fun n => reachState s n == 0 || reachState s n == 4 || reachState s n == 5) then some (.bounds, atPayload baseAt)
  else if cls > 2 ∨ span.any (fun n => volatileReach s n != (cls == 2)) then some (.badField, atPayload clsAt)
  else if span.any (fun n => volatileReach s n && !(ownsReach s n)) then some (.notPermitted, noDetail)
  else if s.win.length ≥ 4194304 then some (.noResource, noDetail)
  else none

/-- Open a window in slot `id` of the table: the slot takes its next variant, and the twin is told of a LOCAL window (R57, R330). -/
def openWindow (id : Nat) (w : Window) (s : State) : State :=
  let o : State := { s with win := tins id w s.win }
  let o := o.onRdm fun x => { x with variants := tset 0 id ((tget 0 id x.variants + 1) % 1024) x.variants }
  countLd w (countReaches true w (tellLocal w s o))

/-- Begin closing a window, or join the close under way (R49, R463). -/
def startClose (id : Nat) (waiter : Option Nat) (s : State) : State :=
  closeIfIdle id (modWindow id (fun (w : Window) => { w with state := if w.state = 1 then 2 else w.state, waiters := w.waiters ++ waiter.toList }) s)

/-- An access passes the window check: it counts in flight (R49). -/
def beginAccess (id : Nat) (s : State) : State := modWindow id (fun (w : Window) => { w with inFlight := w.inFlight + 1 }) s

/-- The verdict on an access (R49, R331): BOUNDS outside the window, NOT_PERMITTED without the right (1 read, 2 write, 4 atomic), REVOKED
once CLOSING has begun. -/
def accessCheck (w : Window) (addr len right : Nat) : Option St :=
  if w.state ≠ 1 || w.offered then some .revoked
  else if !(w.covers addr len) then some .bounds
  else if w.rights / right % 2 = 0 then some .notPermitted
  else none

/-- The descriptor of R75. -/
def descriptor (id : Nat) (w : Window) : List Byte :=
  leBytes 4 (id + w.state * 2 ^ 22 + w.cls * 2 ^ 24 + w.rights * 2 ^ 26 + b2n w.rdma * 2 ^ 29 + b2n w.gapU * 2 ^ 30 + b2n w.gapL * 2 ^ 31) ++
    leBytes 4 (w.tenant + w.binding * 1024) ++ leBytes 8 w.base ++ leBytes 8 w.len ++ leBytes 4 w.inFlight ++ leBytes 4 w.unmir

/-! ### Tickets (R313, R354) -/

/-- A holder's reserve and limit. -/
def ticketReserve (h : Nat) (s : State) : Nat := if h < 8 then s.get (Reg.HPT_TKT_CFG_RESERVE h) else s.get Reg.RDM_TKT_CFG_RESERVE
def ticketLimit (h : Nat) (s : State) : Nat := if h < 8 then s.get (Reg.HPT_TKT_CFG_LIMIT h) else s.get Reg.RDM_TKT_CFG_LIMIT

/-- What is left of the unreserved pool (R313). -/
def ticketPool (s : State) : Nat :=
  let reserves := (List.range 9).foldl (fun n h => n + ticketReserve h s) 0
  let above := (List.range 9).foldl (fun n h => n + (ticketsOf h s - ticketReserve h s)) 0
  65536 - reserves - above

/-- Whether a holder may take a ticket: within its reserve, or within its limit while the pool lasts (R313). -/
def ticketFree (h : Nat) (s : State) : Bool :=
  let n := ticketsOf h s
  decide (n < ticketLimit h s) && (decide (n < ticketReserve h s) || decide (ticketPool s > 0))

/-- Take the lowest free ticket, if the holder may (R313). -/
def takeTicket (h : Nat) (s : State) : Option (Nat × State) :=
  if ticketFree h s then
    let n := tnext 0 s.cis.tickets
    some (n, ticketSync h (s.onCis fun x => { x with tickets := tins n h x.tickets }))
  else none

end Sys2Proof.Machine
end

