-- ==== Sys2Proof/Machine/LinkOps.lean ====
section
/-!
DEFINITION. Sys2Proof/Machine/LinkOps.lean: the catch-up bitmap (R148) and where mirroring is in force.
-/
namespace Sys2Proof.Machine

open Sys2Proof

/-! ### The catch-up bitmap (R148) -/

/-- Clear a granule's bit; a region marked whole becomes a page of its other granules when its first granule is cleared. -/
def clearGran (g : Nat) (s : State) : State :=
  let r := granRegion g
  if s.twn.coarse.contains r then
    let rest := (List.range 4096).filterMap (fun i => if r * 4096 + i = g then none else some (r * 4096 + i))
    cubSync (s.onTwn fun x => { x with coarse := x.coarse.filter (· != r), cub := x.cub.filter (· != g) ++ rest.filter (fun y => !(x.cub.contains y)) })
  else cubSync (s.onTwn fun x => { x with cub := x.cub.filter (· != g) })

/-- Mirroring is in force: PAIRED, or RESYNCING with the catching-up module there (R21, R151). -/
def State.mirrors (s : State) : Bool := s.pair = .paired || s.pair = .resyncing

/-- Records are completed and made visible without the twin (R54, R67). -/
def State.soloPoint (s : State) : Bool := s.pair = .solo

end Sys2Proof.Machine
end

