-- ==== Sys2Proof/Machine/CisternOps.lean ====
section
/-!
DEFINITION. Sys2Proof/Machine/CisternOps.lean: the write path (R20 to R26, R41, R51, R61 to R74, R84 to R98, R159, R171, R172): cutting a write
into records, sequencing, appending, holding, applying, making visible, completing; and what a read or an atomic does when it is served.
-/
namespace Sys2Proof.Machine

open Sys2Proof

/-! ### Records (R84 to R88) -/

/-- Payload slots of a record. -/
def Rec.slots (r : Rec) : Nat := (r.data.length + 63) / 64 + (r.xlts.length + 3) / 4
/-- Cistern bytes of a record, header included. -/
def Rec.bytes (r : Rec) : Nat := 64 * (1 + r.slots)
/-- Lines a data record covers. -/
def Rec.lines (r : Rec) : List Nat := (List.range (r.data.length / 64)).map (fun i => r.line + i)
/-- A journal record, which draws on the reserve (R99). -/
def Rec.isJournal (r : Rec) : Bool := r.kind = .xlate || r.kind = .void
/-- Whether a data record touches a line. -/
def Rec.hits (r : Rec) (line : Nat) : Bool := r.isData && decide (r.line ≤ line) && decide (line < r.line + r.data.length / 64)

/-- A record with nothing filled in but its kind. -/
def Rec.blank (kind : RecKind) : Rec :=
  { kind := kind, reach := 0, isLocal := false, origin := 0, mirror := false, window := 0, seq := 0, line := 0, mask := 0, poison := 0, epoch := 0,
    ticket := 0, port := 0, part := 0, last := true, data := [], xlts := [], pos := 0, held := false, visible := false, applied := false, retired := false }

/-- Own pair position. -/
def State.pos (s : State) : Nat := s.get Reg.TIR_HAS_CFG_PAIR_POS

/-- Highest sequence number of a reach applied here. -/
def appliedTo (s : State) (r : Nat) : Nat := tget 0 r s.cis.applied
/-- Last sequence number this module assigned as owner. -/
def assignedTo (s : State) (r : Nat) : Nat := tget 0 r s.cis.assigned

/-- Unretired data records of a granule. -/
def granRecs (s : State) (g : Nat) : List Rec := s.cis.recs.filter (fun r => r.isData && !r.retired && lineGran r.line == g)

/-- Place a record at the head of the ring: a PAD record fills a segment it does not fit in; the granule's CISTERN count rises; in SOLO a data
record marks its granule (R84, R85, R89, R148, R161). -/
def place (r : Rec) (s : State) : State :=
  let head := s.get Reg.TIR_CST_HEAD_POS
  let left := 2 ^ 20 - head % 2 ^ 20
  let s := if r.bytes > left then
      let pad := { Rec.blank .pad with pos := head, epoch := s.epoch, held := true, visible := true, applied := true, retired := true }
      ((s.onCis fun x => { x with recs := x.recs ++ [pad] }).put Reg.TIR_CST_HEAD_POS (head + left)).add (Reg.TIR_CST_STAT_COUNT 2) left
    else s
  let head := s.get Reg.TIR_CST_HEAD_POS
  let r := { r with pos := head, epoch := s.epoch }
  let s := ((s.onCis fun x => { x with recs := x.recs ++ [r] }).put Reg.TIR_CST_HEAD_POS (head + r.bytes)).inc (Reg.TIR_CST_STAT_COUNT 0)
  let s := s.add (Reg.TIR_CST_STAT_COUNT 2) r.bytes
  let s := if r.isData then
      let s := modGran (lineGran r.line) (fun (e : Gran) => { e with cistern := e.cistern + 1 }) s
      if s.pair = .solo then markGran (lineGran r.line) s
      else if s.pair = .resyncing && !r.mirror && isMarked s (lineGran r.line) && !(s.twn.twinPartial.contains (lineGran r.line)) then
        s.onTwn fun x => { x with twinPartial := x.twinPartial ++ [lineGran r.line] }
      else s
    else if r.kind = .void then s.inc (Reg.TIR_CST_STAT_COUNT 5) else s
  admitSync s

/-- Append a record: at or above 97 % it waits, but for journal records and those a GPF phase 2 waits for (R63, R98, R99). -/
def append (r : Rec) (gpf : Bool) (s : State) : State :=
  if fillAtLeast s 97 && !r.isJournal && !gpf then s.onCis fun x => { x with waitApp := x.waitApp ++ [r] } else place r s

/-- Appends that wait at full-stop go on while the fill is below 97 % (R98). -/
def resumeAppends : Nat → State → State
  | 0, s => s
  | n + 1, s =>
    match s.cis.waitApp with
    | [] => s
    | r :: rest => if fillAtLeast s 97 then s else resumeAppends n (place r (s.onCis fun x => { x with waitApp := rest }))

/-! ### Cutting a write (R87) -/

/-- The pieces of a write of `data` at home address `addr` whose byte enables are all set: PARTIAL for a head or tail line, FULL runs that stay
within a quarter (R87).  `n` is fuel: at most one piece per line. -/
def cutWrite : Nat → Nat → List Byte → List Piece
  | 0, _, _ => []
  | n + 1, addr, data =>
    if data.isEmpty then []
    else
      let off := addr % 64
      let line := addr / 64
      if off ≠ 0 ∨ data.length < 64 then
        let k := Nat.min (64 - off) data.length
        { line := line, full := false, mask := (2 ^ k - 1) * 2 ^ off, poison := 0, data := padTo 64 (List.replicate off 0 ++ data.take k) } ::
          cutWrite n (addr + k) (data.drop k)
      else
        let k := Nat.min (data.length / 64) (64 - line % 64)
        { line := line, full := true, mask := 0, poison := 0, data := data.take (64 * k) } :: cutWrite n (addr + 64 * k) (data.drop (64 * k))

/-- The reaches of an operation's pieces, in order. -/
def pieceReaches (ps : List Piece) : List Nat := (ps.map (fun p => lineReach p.line)).eraseDups

/-- The origin port of a source as a record header gives it (R85); of an atomic that the twin forwards only that it is an Ethernet port is known. -/
def srcPort (x : Src) (s : State) : Nat :=
  match x with
  | .cxl p _ _ => p
  | .doe p _ => p
  | .rdma q _ _ => 8 + ((tfind q s.rdm.qps).map Qp.port).getD 0
  | _ => 8

/-- The records of an operation's pieces within one reach under one sequence number, numbered by PART, LAST in the final one (R85, R87). -/
def recordsOf (op : WriteOp) (reach seq origin : Nat) (kind : Option RecKind) (ps : List Piece) : List Rec :=
  let mine := ps.filter (fun p => lineReach p.line == reach)
  (mine.zip (List.range mine.length)).map (fun (e : Piece × Nat) =>
    { Rec.blank (kind.getD (if e.1.full then .full else .partWrite)) with
        reach := reach, seq := seq, origin := origin, isLocal := op.cls == 1, window := op.window, line := e.1.line, mask := e.1.mask,
        poison := e.1.poison, ticket := op.ticket, port := op.port, part := e.2,
        last := e.2 + 1 == mine.length, data := e.1.data })

/-- A record as a frame carries it: its header fields and payload (R85, R121). -/
def recWire (r : Rec) : List Byte :=
  leBytes 4 ((match r.kind with | .full => 1 | .partWrite => 2 | .atomic => 3 | .xlate => 4 | .reach => 5 | .void => 6 | .pad => 7) + 16 +
      r.slots * 256 + r.reach * 65536 + b2n r.isLocal * 2 ^ 28 + r.origin * 2 ^ 29 + b2n r.mirror * 2 ^ 30) ++
    leBytes 4 r.window ++ leBytes 8 r.seq ++ leBytes 8 r.line ++ leBytes 8 r.mask ++ leBytes 8 r.poison ++ leBytes 8 r.epoch ++
    leBytes 8 (r.ticket + r.port * 65536 + r.part * 2 ^ 20 + b2n r.last * 2 ^ 40)

/-- The bytes of a whole record, CHECK included (R85). -/
def recFull (r : Rec) : List Byte :=
  let b := recWire r
  b ++ leBytes 8 (Config.crc64 (b ++ r.data)) ++ r.data

/-! ### Applying (R90, R159, R171, R172, R181, R199, R271) -/

/-- Merge a payload line into a line under its byte mask. -/
def mergeLine : Nat → List Byte → List Byte → List Byte
  | _, [], _ => []
  | _, o, [] => o
  | m, o :: os, n :: ns => (if m % 2 = 1 then n else o) :: mergeLine (m / 2) os ns

/-- Write line i of a record into the applied content, with its poison mark (R70, R271). -/
def applyLine (r : Rec) (i : Nat) (s : State) : State :=
  let line := r.line + i
  let new := (r.data.drop (64 * i)).take 64
  let bytes := if r.kind = RecKind.full then new else mergeLine r.mask (lineBytes s line) new
  let s := s.onTir fun x => { x with home := writeBytes (line * 64) bytes x.home }
  let was := linePoisoned s line
  let s := if bitOf i r.poison then setPoison line true s
    else if r.kind = RecKind.full then (if was then (setPoison line false s).inc (Reg.ECC_POISON_STAT_COUNT 4) else s)
    else s
  benchUpdate line (injectWrite line s)

/-- Start a fill that takes no lock, for a write to a granule with no cached copy (R171). -/
def startWriteFill (g : Nat) (s : State) : State :=
  (modGran g (fun (e : Gran) => { e with fillQ := 15 }) s).inc (Reg.TIR_TIER_STAT_COUNT 2)

/-- An entry after a record has been applied to its copies: lines covered in full become valid, AGE 0, pending evictions cancelled (R164,
R171, R183). -/
def coverLines (cover : Nat) (e : Gran) : Gran :=
  let lv := if e.loft then e.loftValid ||| cover else 0
  let fv := if e.floor then e.floorValid ||| cover else 0
  { e with loftValid := lv, floorValid := fv, age := 0, loftPend := e.loftPend && !e.loft, floorPend := e.floorPend && !e.floor }

/-- What a record's application meets at its granule: it waits for a lock (R181), waits for a frame or for its line (R171, R172, R180), or goes
on.  The state may have gained a frame and a fill. -/
def prepareApply (r : Rec) (s : State) : Bool × State :=
  let g := lineGran r.line
  let e := s.gran g
  let locked := match e.lock with
    | some l => l.kind = LockKind.dropLoft || l.kind = LockKind.dropFloor || l.kind = LockKind.drainSnap || l.kind = LockKind.resyncSnap || l.kind = LockKind.rebuild
    | none => false
  if locked then (false, s)
  else
    let cover := if r.kind = RecKind.full then (r.lines.map lineIdx).foldl (fun m i => m + 2 ^ i) 0 else 0
    let made : Option State :=
      if e.cached then some s
      else
        let tenant := if r.mirror then 0 else match tfind r.window s.win with | some w => w.tenant | none => 0
        (allocFloor g (if e.footed then 0 else allLines) e.age tenant s).map (fun s => if e.footed then startWriteFill g s else s)
    match made with
    | none => (false, if s.get (Reg.TIR_POOL_STATE_FRAME_WAIT 1) = 1 then s else frameWait 1 s)
    | some s =>
      let e := s.gran g
      if r.kind ≠ RecKind.full && !(bitOf (lineIdx r.line) e.valid) then (false, s)
      else
        (true, modGran g (coverLines cover) s)

/-- Mark a record, found by its ring position. -/
def modRec (pos : Nat) (f : Rec → Rec) (s : State) : State :=
  s.onCis fun x => { x with recs := x.recs.map (fun (r : Rec) => if r.pos = pos then f r else r) }

/-- Every part of a number is here and applied: PART 0 to the LAST one (R87). -/
def numberApplied (s : State) (reach seq : Nat) : Bool :=
  let rs := s.cis.recs.filter (fun r => r.isData && r.reach == reach && r.seq == seq)
  match rs.find? (fun r => r.last) with
  | some l => (List.range (l.part + 1)).all (fun k => rs.any (fun r => r.part == k && r.applied))
  | none => false

/-- The action of a REACH record (R41, R86): 0 provisioning, 1 release, 2 a handover point; its first payload byte says which (the slot's
layout is not in the spec: notes/assumptions/8.md). -/
def reachAction (r : Rec) : Nat := (r.data.headD 0).toNat

/-- Advance the applied number of a reach, with the ACK entry for records the twin sent (R90, R124). -/
def advance (reach seq : Nat) (ack : Bool) (s : State) : State :=
  s.onCis (fun x => { x with applied := tset 0 reach seq x.applied }) |>.onTwn fun x =>
    if ack then { x with ackDue := x.ackDue.filter (fun e => e.1 != reach) ++ [(reach, seq)] } else x

/-- Apply one record in its place (R90, R159).  In CATCHING_UP a record of a marked granule goes to its partial copy (R152). -/
def applyRec (r : Rec) (s : State) : Bool × State :=
  let g := lineGran r.line
  if s.pair = .catchingUp && isMarked s g then
    (true, s.onTwn fun x => { x with partialG := if x.partialG.contains g then x.partialG else x.partialG ++ [g] })
  else
    let p := prepareApply r s
    if p.1 then (true, (List.range (r.data.length / 64)).foldl (fun s i => applyLine r i s) p.2) else p

/-- One pass over the records in ring order: each that is held, visible and next in its reach's sequence is applied, a VOID number is
passed over (R90, R93). -/
def applyPass : List Rec → State → State
  | [], s => s
  | r :: rs, s =>
    if r.applied || !r.held || !r.visible then applyPass rs s
    else if r.kind = .void then
      (if r.seq = appliedTo s r.reach + 1 then applyPass rs (advance r.reach r.seq false (modRec r.pos (fun (r : Rec) => { r with applied := true, retired := true }) s))
       else if r.seq ≤ appliedTo s r.reach then applyPass rs (modRec r.pos (fun (r : Rec) => { r with applied := true, retired := true }) s)
       else applyPass rs s)
    else if r.kind = .reach then
      (if r.seq ≤ appliedTo s r.reach then applyPass rs (modRec r.pos (fun (r : Rec) => { r with applied := true, retired := true }) s) else applyPass rs s)
    else if !r.isData then applyPass rs s
    else if r.seq ≠ appliedTo s r.reach + 1 then applyPass rs s
    else
      let p := applyRec r s
      if p.1 then
        let s := modRec r.pos (fun (r : Rec) => { r with applied := true }) p.2
        applyPass rs (if numberApplied s r.reach r.seq then advance r.reach r.seq r.mirror s else s)
      else applyPass rs p.2

/-- Passes until nothing more is applied: each pass that goes on applies a record at least. -/
def applyPasses : Nat → State → State
  | 0, s => s
  | n + 1, s =>
    let s' := applyPass s.cis.recs s
    if s'.cis.applied = s.cis.applied && (s'.cis.recs.filter Rec.applied).length = (s.cis.recs.filter Rec.applied).length then s'
    else applyPasses n s'

/-- Apply every record that can be applied. -/
def applyAll (s : State) : State := applyPasses (s.cis.recs.length + 1) s

/-! ### Completing (R51, R54, R87) -/

/-- One number of an operation has reached the completion point of the class (R22, R51, R54, R92). -/
def partDone (cls reach seq : Nat) (s : State) : Bool :=
  decide (appliedTo s reach ≥ seq) &&
    (s.soloPoint || !(ownsReach s reach) || cls == 1 || decide (ackedTo s reach ≥ seq))

/-- Operations in flight go on: in a serving mode, and after MODE_REQUEST has taken a SOLO module to QUIESCED; no spill and no stop of service begun (R28,
R117, R523). -/
def State.completes (s : State) : Bool := s.up && (s.serving || (s.mode = .quiesced && s.pair = .solo)) && !s.pwr.serveStop

/-- DevLoad of a port (R317): 0 Light, 1 Optimal, 2 Moderate, 3 Severe. -/
def devLoad (p : Nat) (s : State) : Nat :=
  let lim := s.get (Reg.HPT_TKT_CFG_LIMIT p)
  let n := ticketsOf p s
  let a := s.get Reg.TIR_CST_STATE_PAIR_ADMIT
  if n ≥ lim ∨ a ≥ 2 then 3 else if 4 * n > 3 * lim ∨ a = 1 then 2 else if 4 * n ≥ lim then 1 else 0

/-- An S2M response or a device command's answer leaves on a port whose link is up, with DevLoad (R317). -/
def respond (p l t : Nat) (code : String) (data : List Byte) (s : State) : State :=
  if s.get (Reg.HPT_LINK_STATE_RATE p) = 0 || s.mode = .spill then s
  else (s.put (Reg.HPT_PORT_STATE_DEVLOAD p) (devLoad p s)).send (.cxl p l t code data)

/-- Answer a completed write or atomic to its sender (R302, R340). -/
def answer (src : Src) (poison : Bool) (data : List Byte) (s : State) : State :=
  match src with
  | .cxl p l t => respond p l t "Cmp" data (s.inc (Reg.HPT_STAT_COUNT p 1))
  | .rdma q n i => s.onRdm fun x => { x with got := x.got ++ [(q, n, i, poison, data)] }
  | .twin t => linkSend "RETURN" 0 t data s
  | .doe p l => respond p l 0 "Success" data s
  | .prim n => s.send (.prim "TIER_READ" (if poison then St.poisoned.code else 0) (n + 2 ^ 32 * leNat data))
  | .spec _ => s
  | .gone _ => s

/-- An operation is over: its ticket (the twin's own for a FORWARD, the message's for an RDMA operation) is released, the access ends, a GPF phase 2 no longer
waits for it (R49, R62, R342). -/
def finishOp (src : Src) (ticket window : Nat) (s : State) : State :=
  match src with
  | .twin _ => s
  | .prim _ => s
  | .rdma _ _ _ => s
  | _ =>
    let s := endAccess window (giveTicket ticket s)
    s.onCis fun x => { x with gpf := x.gpf.map (fun e => (e.1, e.2.filter (· != ticket))) }

/-- GPF phase 2 responses of ports whose writes have all completed (R62, R315). -/
def gpfSync (s : State) : State :=
  let done := s.cis.gpf.filter (fun e => e.2.isEmpty)
  let s := s.onCis fun x => { x with gpf := x.gpf.filter (fun e => !e.2.isEmpty) }
  let s := done.foldl (fun s e => (respond e.1 0 0 "GPF phase 2 response" [] (s.inc (Reg.HPT_STAT_COUNT e.1 7))).put (Reg.HPT_PORT_STATE_GPF_P2 e.1) 0) s
  s.put Reg.TIR_CST_STATE_GPF_ACTIVE (b2n (!s.cis.gpf.isEmpty))

/-- Complete every operation whose records have all reached their completion point. -/
def completeOps (s : State) : State :=
  if !s.completes then s
  else
    let ready := fun (w : WaitOp) => w.fwd.isEmpty && w.parts.all (fun e => partDone w.op.cls e.1 e.2 s)
    let done := s.cis.waitOps.filter ready
    let s := s.onCis fun x => { x with waitOps := x.waitOps.filter (fun w => !(ready w)) }
    gpfSync (done.foldl (fun s w => answer w.op.src false w.answer (finishOp w.op.src w.op.ticket w.op.window s)) s)

/-! ### Sequencing (R21, R41, R87) -/

/-- Sequence an operation's pieces of one reach this module owns: number, append, send to the twin (R21, R91). -/
def sequenceReach (op : WriteOp) (kind : Option RecKind) (origin reach : Nat) (s : State) : State :=
  let n := assignedTo s reach + 1
  let rs := recordsOf op reach n origin kind op.pieces
  let s := s.onCis fun x => { x with assigned := tset 0 reach n x.assigned }
  rs.foldl (fun s r =>
    let s := append r op.gpf s
    if s.mirrors && origin = s.pos then linkSend "RECORDS" reach n (recFull r) s else s) s

/-- The pieces of an operation within one reach, as a FORWARD carries them (R121). -/
def forwardReach (op : WriteOp) (reach : Nat) (s : State) : State :=
  let body := (recordsOf op reach 0 s.pos none op.pieces).flatMap recFull
  (linkSend "FORWARD" reach op.ticket body s).put (Reg.TIR_REACH_FWD_PENDING reach) (s.get (Reg.TIR_REACH_FWD_PENDING reach) + 1)

/-- A reach whose writes wait for the end of a handover (R43). -/
def inHandover (s : State) (reach : Nat) : Bool := reachState s reach == 2

/-- Apply a VOLATILE write to both floor copies and any loft copy at once (R23, R51, R186). -/
def applyVolatile (op : WriteOp) (s : State) : State :=
  op.pieces.foldl (fun s p =>
    let r : Rec := { Rec.blank (if p.full then .full else .partWrite) with line := p.line, mask := p.mask, poison := p.poison, data := p.data }
    let s := (List.range (p.data.length / 64)).foldl (fun s i => applyLine r i s) s
    let g := lineGran p.line
    modGran g (fun (e : Gran) => { e with age := 0, loftPend := e.loftPend && !e.loft }) s) s

/-- Sequence a write, or forward what the twin owns; it then waits for its completion point (R21, R51, R87). -/
def sequence (op : WriteOp) (kind : Option RecKind) (ans : List Byte) (s : State) : State :=
  let reaches := pieceReaches op.pieces
  let own := reaches.filter (fun n => ownsReach s n)
  let others := reaches.filter (fun n => !(ownsReach s n))
  let s := own.foldl (fun s n => sequenceReach op kind s.pos n s) s
  let parts := own.map (fun n => (n, assignedTo s n))
  let s := others.foldl (fun s n => forwardReach op n s) s
  s.onCis fun x => { x with waitOps := x.waitOps ++ [{ op := op, parts := parts, fwd := others, answer := ans }] }

/-! ### Reads and atomics (R17, R68, R72, R168 to R174, R181) -/

/-- A record of the line that is sequenced or held here and not yet applied makes a read wait (R68). -/
def linePending (s : State) (line : Nat) : Bool :=
  s.cis.recs.any (fun r => r.hits line && !r.applied) || s.cis.waitApp.any (fun r => r.hits line)

/-- A lock that makes a read wait: a demotion, a drop, a rebuild (R181). -/
def lockHolds (e : Gran) : Bool :=
  match e.lock with
  | some l => l.kind = LockKind.demotion || l.kind = LockKind.dropLoft || l.kind = LockKind.dropFloor || l.kind = LockKind.rebuild
  | none => false

/-- The identity a stream tracker keeps for a requester (R173). -/
def srcId : Src → Nat
  | .cxl p l _ => p + 8 * l
  | .rdma q _ _ => 1024 + q
  | .twin _ => 2 ^ 30
  | .doe p l => p + 8 * l
  | .prim _ => 2 ^ 30 + 1
  | .spec p => p
  | .gone p => p

/-- Track a miss (R173): the answer says whether its fill is a streaming fill. -/
def trackMiss (who g : Nat) (s : State) : Bool × State :=
  let live := s.tir.streams.find? (fun t => t.who == who && t.next == g && decide (s.epoch ≤ t.last + 10))
  match live with
  | some t =>
    let t' : Stream := { t with next := g + 1, run := t.run + 1, last := s.epoch }
    (decide (t.run ≥ s.get Reg.TIR_SWP_CFG_STREAM_RUN), s.onTir fun x => { x with streams := t' :: x.streams.filter (fun u => u.who != who) })
  | none =>
    let t' : Stream := { who := who, next := g + 1, run := 1, last := s.epoch }
    (false, s.onTir fun x => { x with streams := (t' :: x.streams.filter (fun u => u.who != who)).take 64 })

/-- Start a fill under the requester's ticket (R168): a new floor frame, the move lock, four quarters to come.  none: no frame is free. -/
def startFill (g ticket who tenant : Nat) (s : State) : Option State :=
  let t := trackMiss who g s
  let age := if t.1 then s.get Reg.TIR_MOVE_CFG_STREAM_AGE else s.get Reg.TIR_MOVE_CFG_FILL_AGE
  (allocFloor g 0 age tenant t.2).map fun s =>
    let s := modGran g (fun (e : Gran) => { e with fillQ := 15, stream := t.1, lock := some { kind := .fill, holder := ticket } }) s
    let s := s.inc (Reg.TIR_TIER_STAT_COUNT 2)
    if t.1 then s.inc (Reg.TIR_TIER_STAT_COUNT 11) else s

/-- Start a promotion where R174 allows one; a missing frame or slot skips it, counted. -/
def maybePromote (g : Nat) (e : Gran) (s : State) : State :=
  if e.loft || e.stream || decide (e.age > s.get Reg.TIR_MOVE_CFG_PROMOTE_AGE) then s
  else
    let s := modGran g (fun (x : Gran) => { x with loftPend := false, floorPend := false }) s
    match takeSlot 4 s with
    | none => s.inc (Reg.TIR_TIER_STAT_COUNT 5)
    | some (n, s1) =>
      if e.lock.isSome || !e.waiters.isEmpty then (takeLock g { kind := .promotion, holder := n } s1).2
      else
        match allocLoft g 0 s1 with
        | none => s.inc (Reg.TIR_TIER_STAT_COUNT 5)
        | some s2 => (takeLock g { kind := .promotion, holder := n } s2).2

/-- A request belongs to a stream (R173), or reads beyond a READ's first 4 KiB (R202). -/
def streaming (r : Req) (s : State) : Bool :=
  s.tir.streams.any (fun t => t.who == srcId r.src && decide (t.run ≥ s.get Reg.TIR_SWP_CFG_STREAM_RUN) && t.next == lineGran r.line + 1) ||
    (match r.src with | .rdma _ _ i => decide (i ≥ 64) | _ => false)

/-- Issue the bench fill of a line served from a cached copy or the footing (R198, R200, R202, R213). -/
def benchFillFor (r : Req) (hit : Nat) (s : State) : State :=
  if hit = 3 then s
  else if streaming r s && s.flag Reg.BCH_CFG_STREAM_OLD then
    issueFill false (r.line / 4) (r.line % 4) 3 false (s.inc (Reg.BCH_STAT_COUNT (benchBank (r.line / 4)) 3))
  else issueFill false (r.line / 4) (r.line % 4) 1 false s

/-- A read that the loft or the floor answers POISONED is counted for its stack or channel (R265, ECC_LOFT_CNT, ECC_FLOOR_CNT). -/
def poisonedRead (inLoft : Bool) (line : Nat) (s : State) : State :=
  let e := s.gran (lineGran line)
  if !(linePoisoned s line) then s
  else if inLoft then s.inc (Reg.ECC_LOFT_CNT_COUNT e.loftStack 2) else s.inc (Reg.ECC_FLOOR_CNT_COUNT e.floorChannel 2)

/-- How a request for a line comes out: served now, or waiting; with the state it leaves (R68, R168 to R174, R181). -/
def reachLine (r : Req) (s : State) : Bool × State :=
  let g := lineGran r.line
  if linePending s r.line then (false, s)
  else
    let b := benchLookup false r.line s
    if b.1 = 0 && r.atomic.isNone then (true, b.2)
    else
      let s := b.2
      let e := s.gran g
      if lockHolds e then (false, s)
      else if bitOf (lineIdx r.line) e.valid then
        let fromLoft := e.loft && bitOf (lineIdx r.line) e.loftValid
        let s := if r.chained then s else touch g fromLoft (poisonedRead fromLoft r.line (s.inc (Reg.TIR_TIER_STAT_COUNT (if fromLoft then 0 else 1))))
        let s := if fromLoft || r.noPromote || r.chained then s else maybePromote g e s
        (true, benchFillFor r b.1 s)
      else if e.fillQ ≠ 0 then (false, s)
      else if e.footed then
        (if e.lock.isSome || !e.waiters.isEmpty then (false, if e.waiters.any (fun w => w.kind = LockKind.fill) then s else (takeLock g { kind := .fill, holder := r.ticket } s).2)
         else match startFill g r.ticket (srcId r.src) r.tenant s with
         | some s => (false, s)
         | none => (false, if s.get (Reg.TIR_POOL_STATE_FRAME_WAIT 1) = 1 then s else frameWait 1 s))
      else (true, s.inc (Reg.TIR_TIER_STAT_COUNT 3))

/-- The result of an atomic on its 8 bytes: the new value, none when a comparison fails (R72, R73). -/
def atomicResult (a : AtomicOp) (old : Nat) : Option Nat :=
  match a with
  | .compareSwap _ c v => if old = c then some v else none
  | .fetchAdd _ v => some ((old + v) % 2 ^ 64)
  | .write _ v => some v

/-- Home address of an atomic's 8 bytes. -/
def AtomicOp.addr : AtomicOp → Nat
  | .compareSwap a _ _ => a
  | .fetchAdd a _ => a
  | .write a _ => a

/-- The piece an atomic's record carries: its result merged under 8 byte enables (R86). -/
def atomicPiece (a : AtomicOp) (v : Nat) : Piece :=
  let off := a.addr % 64
  { line := a.addr / 64, full := false, mask := 255 * 2 ^ off, poison := 0, data := padTo 64 (List.replicate off 0 ++ leBytes 8 v) }

/-- A poisoned line is delivered: counted, with event 0x0306 (R268). -/
def consumePoison (r : Req) (s : State) : State :=
  let s := match r.src with
    | .cxl _ _ _ => s.inc (Reg.ECC_POISON_STAT_COUNT 2)
    | .rdma _ _ _ => s.inc (Reg.ECC_POISON_STAT_COUNT 3)
    | _ => s
  raiseRl 0x0306 (lineGran r.line) (r.line % 256) s

/-- Execute an atomic whose line has been reached at the owner (R72, R73, R269). -/
def runAtomic (r : Req) (a : AtomicOp) (s : State) : State :=
  let old := leNat (readBytes s.tir.home a.addr 8)
  let isWrite := match a with | .write _ _ => true | _ => false
  if linePoisoned s r.line && !isWrite then answer r.src true [] (finishOp r.src r.ticket r.window (consumePoison r s))
  else match atomicResult a old with
    | none => answer r.src false (leBytes 8 old) (finishOp r.src r.ticket r.window s)
    | some v =>
      let op : WriteOp := { ticket := r.ticket, src := r.src, window := r.window, cls := r.cls, tenant := r.tenant, port := srcPort r.src s, pieces := [atomicPiece a v],
                            atomic := some a, gpf := false }
      if r.cls = 2 then answer r.src false (leBytes 8 old) (finishOp r.src r.ticket r.window (applyVolatile op s))
      else match r.src with
        | .twin _ => sequenceReach op (some .atomic) (1 - s.pos) (lineReach r.line)
            (s.onCis fun x => { x with fwdVals := tins r.ticket old x.fwdVals })
        | _ => sequence op (some .atomic) (leBytes 8 old) s

/-- Deliver a line that a request has reached: the data with its poison, or the atomic's execution (R19, R72, R268). -/
def deliver (r : Req) (s : State) : State :=
  match r.atomic with
  | some a => runAtomic r a s
  | none =>
    let p := linePoisoned s r.line
    let data := lineBytes s r.line
    match r.src with
    | .spec _ => finishOp r.src r.ticket r.window s
    | .gone _ => finishOp r.src r.ticket r.window s
    | .cxl q l t =>
      let s := if p then (consumePoison r s).inc (Reg.HPT_STAT_COUNT q 3) else s
      respond q l t (if p then "MemData poison" else "MemData") data (finishOp r.src r.ticket r.window (s.inc (Reg.HPT_STAT_COUNT q 0)))
    | _ => answer r.src p data (finishOp r.src r.ticket r.window (if p then consumePoison r s else s))

/-- Reads that have their tickets are served (R55, R117, R523). -/
def State.servesReads (s : State) : Bool := s.completes

/-- Take each waiting request in arrival order and serve it if it can be served now (R68, R169). -/
def servePass : List Req → State → State
  | [], s => s
  | r :: rs, s =>
    let q := reachLine r s
    if q.1 then servePass rs (deliver r (q.2.onTir fun x => { x with waiting := x.waiting.erase r }))
    else
      let r' : Req := { r with chained := r.chained || (q.2.gran (lineGran r.line)).fillQ != 0 }
      servePass rs (q.2.onTir fun x => { x with waiting := x.waiting.map (fun (y : Req) => if y = r then r' else y) })

/-- Whether a waiting request could be served: no pending record, no lock that holds it, its line valid or to be filled. -/
def reqReady (s : State) (r : Req) : Bool :=
  let e := s.gran (lineGran r.line)
  !(linePending s r.line) && !(lockHolds e) && (bitOf (lineIdx r.line) e.valid || e.fillQ == 0)

/-- Serve the waiting requests that can be served. -/
def serveWaiting (s : State) : State := if s.servesReads then servePass (s.tir.waiting.filter (reqReady s)) s else s

/-- Apply what can be applied, complete what has completed, serve what can be served. -/
def settleOps (s : State) : State := poolStateSync (serveWaiting (completeOps (applyAll s)))

/-- A read or atomic arrives with its ticket: served, or left waiting (R68, R169). -/
def request (r : Req) (s : State) : State :=
  let q := reachLine r s
  if q.1 then deliver r q.2
  else
    let chained := (q.2.gran (lineGran r.line)).fillQ != 0
    let s := if chained && !(q.2.tir.ladders.isEmpty) && q.2.tir.ladders.any (fun l => l.quarter == 4 * lineGran r.line + lineQuarter r.line)
      then q.2.inc (Reg.ECC_LADDER_STAT_COUNT 6) else q.2
    s.onTir fun x => { x with waiting := x.waiting ++ [{ r with chained := chained }] }

/-! ### Admission (R95 to R98) -/

/-- Cistern bytes an operation will take: header and payload of each piece (R96). -/
def opBytes (op : WriteOp) : Nat := op.pieces.foldl (fun n p => n + 64 + p.data.length) (if op.atomic.isSome then 128 else 0)

/-- Whether the admission state lets a write in now; admission is held while a loft stack is recalibrated (R95, R96, R486). -/
def mayAdmit (op : WriteOp) (s : State) : Bool :=
  let a := s.get Reg.TIR_CST_STATE_PAIR_ADMIT
  if op.cls ≠ 2 && (List.range 4).any (fun n => unitState s (30 + n) == 2) then false
  else if a = 0 then true
  else if a = 1 then
    decide ((windowBytes s.epoch s.cis.admits + opBytes op) * 16 ≤ s.get Reg.TIR_CST_CFG_PACE * windowBytes s.epoch s.cis.retires)
  else false

/-- An admitted write or atomic goes on: VOLATILE at once, an atomic to its line, a write to its sequence (R23, R51, R72). -/
def startOp (op : WriteOp) (s : State) : State :=
  let s := if s.get Reg.TIR_CST_STATE_PAIR_ADMIT = 1 && op.cls ≠ 2 then s.onCis fun x =>
      { x with admits := (s.epoch, opBytes op) :: x.admits.filter (fun e => decide (s.epoch < e.1 + 100)) } else s
  match op.atomic with
  | some a =>
    let reach := a.addr / 2 ^ 36
    if op.cls = 2 || ownsReach s reach then
      request { ticket := op.ticket, src := op.src, line := a.addr / 64, window := op.window, tenant := op.tenant, cls := op.cls, atomic := some a,
                chained := false, noPromote := false } s
    else
      let body := leBytes 8 a.addr ++ (match a with | .compareSwap _ c v => leBytes 8 c ++ leBytes 8 v | .fetchAdd _ v => leBytes 8 v | .write _ v => leBytes 8 v)
      let s := (linkSend "FORWARD" reach op.ticket body s).put (Reg.TIR_REACH_FWD_PENDING reach) (s.get (Reg.TIR_REACH_FWD_PENDING reach) + 1)
      s.onCis fun x => { x with waitOps := x.waitOps ++ [{ op := op, parts := [], fwd := [reach], answer := [] }] }
  | none =>
    if op.cls = 2 then answer op.src false [] (finishOp op.src op.ticket op.window (applyVolatile op s))
    else sequence op none [] s

/-- Whether an admitted write or atomic waits for the end of a handover (R43). -/
def opHandover (op : WriteOp) (s : State) : Bool :=
  decide (op.cls ≠ 2) && (match op.atomic with | some a => [a.addr / 2 ^ 36] | none => pieceReaches op.pieces).any (inHandover s)

/-- An admitted write or atomic goes on, unless a reach of it is in handover: then it waits (R43). -/
def admitOp (op : WriteOp) (s : State) : State :=
  if opHandover op s then s.onCis fun x => { x with admitQ := x.admitQ ++ [op] } else startOp op s

/-- Operations that waited for a handover go on, in order, once no reach of theirs is in one. -/
def admitOps (s : State) : State :=
  if s.completes then
    let go := s.cis.admitQ.filter (fun o => !(opHandover o s))
    go.foldl (fun s o => startOp o s) (s.onCis fun x => { x with admitQ := x.admitQ.filter (fun o => opHandover o s) })
  else s

end Sys2Proof.Machine
end

