-- ==== Sys2Proof/Machine/PortOps.lean ====
section
/-!
DEFINITION. Sys2Proof/Machine/PortOps.lean: shared operations on the CXL host ports: the window map, refusals, the Req and RwD queues and what
leaves them, violations, event records of logical devices, a link that goes down (09_cxl_host_ports.md).
-/
namespace Sys2Proof.Machine

open Sys2Proof

/-- Number of a logical device. -/
def ldNum (port ld : Nat) : Nat := 16 * port + ld

/-- A port whose link carries messages: up and not fenced, in a mode that answers (R319, R321). -/
def portCarries (p : Nat) (s : State) : Bool :=
  s.up && !(s.mode = .spill) && decide (p < 8) && decide (s.get (Reg.HPT_LINK_STATE_RATE p) ≠ 0) && !(s.flag (Reg.HPT_LINK_STATE_FENCED p))

/-- The module departs in a planned split: it admits nothing (R150). -/
def State.departing (s : State) : Bool := match s.twn.split with | some (_, true) => true | _ => false

/-- An event record for a logical device (R300, R309, R322). -/
def noteLd (n event detail : Nat) (s : State) : State :=
  s.onHpt fun x => { x with handle := x.handle + 1, events := x.events ++ [(n, { handle := x.handle + 1, event := event, detail := detail, epoch := s.epoch })] }

/-- An event record for every logical device of a port. -/
def notePort (p event detail : Nat) (s : State) : State := (List.range (s.get (Reg.HPT_PORT_CFG_LD_COUNT p))).foldl (fun s l => noteLd (ldNum p l) event detail s) s

/-! ### The window map (R303, R305) -/

/-- The decoder's DPA of a host address: interleave bits removed (R303). -/
def decodeWith (d : HdmDec) (hpa : Nat) : Option Nat :=
  if d.base ≤ hpa ∧ hpa < d.base + d.size then
    let o := hpa - d.base
    some (d.dpa + o / (d.gran * d.ways) * d.gran + o % d.gran)
  else none

/-- The DPA of a host address within a logical device: that of the committed decoder that holds it (R303). -/
def decodeHpa (port ld hpa : Nat) (s : State) : Option Nat :=
  (List.range 4).findSome? (fun i => (tfind (4 * ldNum port ld + i) s.hpt.decoders).bind (fun d => decodeWith d hpa))

/-- The window of a logical device that covers a DPA, an offered extent included (R305). -/
def windowAt (port ld dpa : Nat) (s : State) : Option (Nat × Window) :=
  s.win.find? (fun e => !e.2.rdma && e.2.binding == cxlBinding port ld && decide (e.2.dpa ≤ dpa) && decide (dpa < e.2.dpa + e.2.len))

/-- Home line of a DPA in its window (R305). -/
def homeLine (w : Window) (dpa : Nat) : Nat := (w.base + (dpa - w.dpa)) / 64

/-! ### Refusals (R318) -/

/-- The first case of R318 that applies: 0 BOUNDS, 1 REVOKED, 2 NOT_PERMITTED, 3 WRONG_MODE, 4 TWIN_UNREACHABLE; or the window that serves. -/
def portRefusal (m : HMsg) (s : State) : Nat ⊕ (Nat × Window) :=
  if s.fenced then .inl 4
  else if !s.serving || s.pwr.serveStop then .inl 3
  else match m.dpa.bind (fun d => windowAt m.port m.ld d s) with
    | none => .inl 0
    | some (id, w) =>
      if w.offered then .inl 0
      else if w.state ≠ 1 then .inl 1
      else if w.rights / (if m.kind = 0 then 1 else 2) % 2 = 0 then .inl 2
      else .inr (id, w)

/-- A refusal: counted, event 0x0605 at most once per second per logical device; a read is answered with poison, a write with Cmp (R318). -/
def refuseMsg (m : HMsg) (k : Nat) (s : State) : State :=
  let n := ldNum m.port m.ld
  let fresh := !(s.evr.buf.any (fun r => r.isFor 0x0605 n))
  let s := raiseRl 0x0605 n k (s.inc (Reg.HPT_REFUSE_STAT_COUNT m.port k))
  let s := if fresh then noteLd n 0x0605 k s else s
  if m.kind = 0 then respond m.port m.ld m.tag "MemData poison" [] s else respond m.port m.ld m.tag "Cmp" [] s

/-! ### What leaves the queues (R302, R312 to R315) -/

/-- A read with its ticket passes the window check and reaches its line (R302, R305). -/
def startRead (m : HMsg) (src : Src) (ticket id : Nat) (w : Window) (s : State) : State :=
  request { ticket := ticket, src := src, line := homeLine w (m.dpa.getD 0), window := id, tenant := w.tenant, cls := w.cls, atomic := none,
            chained := false, noPromote := false } (beginAccess id s)

/-- The write a message asks for: one line, FULL or PARTIAL, with its poison (R86, R270, R302). -/
def writeOf (m : HMsg) (ticket id : Nat) (w : Window) (gpf : Bool) : WriteOp :=
  let full := decide (m.kind = 1)
  { ticket := ticket, src := .cxl m.port m.ld m.tag, window := id, cls := w.cls, tenant := w.tenant, port := m.port, atomic := none, gpf := gpf,
    pieces := [{ line := homeLine w (m.dpa.getD 0), full := full, mask := if full then 0 else m.mask % 2 ^ 64, poison := b2n m.poison,
                 data := padTo 64 m.data }] }

/-- A write with its ticket goes on (R51, R270). -/
def startWrite (m : HMsg) (ticket id : Nat) (w : Window) (gpf : Bool) (s : State) : State :=
  let s := beginAccess id s
  let s := if m.poison then (s.inc (Reg.HPT_STAT_COUNT m.port 4)).inc (Reg.ECC_POISON_STAT_COUNT 5) else s
  admitOp (writeOf m ticket id w gpf) s

/-- One message of the Req queues in turn: refused, served, or left with every later one of its port (R313, R318). -/
def pumpReq : List HMsg → List Nat → State → State
  | [], _, s => s
  | m :: ms, stuck, s =>
    if stuck.contains m.port then pumpReq ms stuck s
    else
      let gone := fun (s : State) => s.onHpt fun x => { x with req := x.req.erase m }
      match portRefusal m s with
      | .inl k => pumpReq ms stuck (refuseMsg m k (gone s))
      | .inr (id, w) =>
        match takeTicket m.port s with
        | some (t, s) => pumpReq ms stuck (startRead m (.cxl m.port m.ld m.tag) t id w (gone s))
        | none => pumpReq ms (m.port :: stuck) s

/-- One message of the RwD queues in turn; a persistent-class write that is not admitted holds the queue of its port (R314). -/
def pumpRwd : List HMsg → List Nat → State → State
  | [], _, s => s
  | m :: ms, stuck, s =>
    if stuck.contains m.port then pumpRwd ms stuck s
    else
      let gone := fun (s : State) => s.onHpt fun x => { x with rwd := x.rwd.erase m }
      match portRefusal m s with
      | .inl k => pumpRwd ms stuck (refuseMsg m k (gone s))
      | .inr (id, w) =>
        if w.cls ≠ 2 ∧ !(mayAdmit (writeOf m 0 id w false) s) then pumpRwd ms (m.port :: stuck) (s.put (Reg.HPT_PORT_STATE_WRITE_HELD m.port) 1)
        else match takeTicket m.port s with
          | some (t, s) => pumpRwd ms stuck (startWrite m t id w false (gone s))
          | none => pumpRwd ms (m.port :: stuck) s

/-- Queue lengths of the ports. -/
def queueLens (s : State) : State :=
  (List.range 8).foldl (fun s p =>
    (s.put (Reg.HPT_PORT_STATE_REQ_QUEUED p) (s.hpt.req.filter (fun m => m.port == p)).length).put (Reg.HPT_PORT_STATE_RWD_QUEUED p)
      (s.hpt.rwd.filter (fun m => m.port == p)).length) s

/-- Serve the ports' queues: nothing leaves them in SPILL or while the module departs (R150, R319). -/
def pumpPorts (s : State) : State :=
  if (s.hpt.req.isEmpty && s.hpt.rwd.isEmpty) || !s.up || s.mode = .spill || s.departing then s
  else
    let s := (List.range 8).foldl (fun s p => s.put (Reg.HPT_PORT_STATE_WRITE_HELD p) 0) s
    let s := pumpReq s.hpt.req [] s
    queueLens (pumpRwd s.hpt.rwd [] s)

/-! ### Violations and links (R320, R321) -/

/-- Violations of a port within the last 1 s. -/
def hostViolsOf (p : Nat) (s : State) : Nat := (s.hpt.viol.filter (fun e => e.1 == p && decide (s.epoch < e.2 + 1000000))).length

/-- The source of a request whose link is lost: its response is discarded (R320). -/
def Src.lose (p : Nat) (x : Src) : Src :=
  match x with
  | .cxl q _ _ => if q = p then .gone p else x
  | .doe q _ => if q = p then .gone p else x
  | _ => x

/-- The effects of R320 on a port whose link goes down: responses in flight are discarded, the CXL configuration is reset, queued messages without a ticket are
discarded; windows, extents and regions stay. -/
def linkLost (p : Nat) (s : State) : State :=
  let s := s.onCis fun x =>
    { x with waitOps := x.waitOps.map (fun w => { w with op := { w.op with src := w.op.src.lose p } }), admitQ := x.admitQ.map (fun o => { o with src := o.src.lose p }),
             gpf := x.gpf.filter (fun e => e.1 != p) }
  let s := s.onTir fun x => { x with waiting := x.waiting.map (fun (r : Req) => { r with src := r.src.lose p }) }
  let s := s.onHpt fun x =>
    { x with req := x.req.filter (fun m => m.port != p), rwd := x.rwd.filter (fun m => m.port != p), decoders := x.decoders.filter (fun e => e.1 / 64 != p),
             errs := x.errs.filter (fun e => e / 64 != p), gpf1 := x.gpf1.filter (· != p) }
  let s := (List.range 16).foldl (fun s l => s.put (Reg.HPT_LD_STATE_DECODERS p l) 0) s
  let s := ((((s.put (Reg.HPT_LINK_STATE_RATE p) 0).put (Reg.HPT_LINK_STATE_WIDTH p) 0).put (Reg.HPT_LINK_STATE_FLIT p) 0).put
    (Reg.HPT_PORT_STATE_GPF_P2 p) 0).put (Reg.HPT_PORT_STATE_WRITE_HELD p) 0
  let s := (s.put Reg.TIR_CST_STATE_GPF_ACTIVE (b2n (!s.cis.gpf.isEmpty))).inc (Reg.HPT_LINK_STAT_COUNT p 3)
  queueLens (notePort p 0x0603 0 (raise 0x0603 p 0 s))

end Sys2Proof.Machine
end

