-- ==== Sys2Proof/Machine/RdmaOps.lean ====
section
/-!
DEFINITION. Sys2Proof/Machine/RdmaOps.lean: shared operations of the RDMA service: queue pairs and their messages, the order in which they start and are
acknowledged, NAKs and report records, receive rings, counters; and `settle`, which brings every waiting operation of the module forward
(10_rdma_service.md).
-/
namespace Sys2Proof.Machine

open Sys2Proof

/-! ### Queue pairs and messages -/

/-- Bytes of a path MTU code (R337). -/
def mtuBytes (m : Nat) : Nat := 1024 * 2 ^ m

/-- Change a QP. -/
def modQp (q : Nat) (f : Qp → Qp) (s : State) : State := s.onRdm fun x => { x with qps := tmod q f x.qps }

/-- Change the message of a QP that began with a PSN. -/
def modMsg (q psn : Nat) (f : RMsg → RMsg) (s : State) : State :=
  modQp q (fun (x : Qp) => { x with msgs := x.msgs.map (fun (m : RMsg) => if m.psn = psn then f m else m) }) s

/-- Bytes in a port's ingress cells: packets that are parked and data of messages that have not been handed on (R347, R354, R357). -/
def ingressBytes (p : Nat) (s : State) : Nat :=
  (s.rdm.parked.filter (fun k => k.port == p)).foldl (fun n k => n + k.data.length) 0 +
    (s.rdm.qps.filter (fun e => e.2.port == p)).foldl (fun n e => n + e.2.msgs.foldl (fun n m => n + m.chunks.foldl (fun n c => n + c.2.length) 0) 0) 0

/-- A port's ingress and the PFC pause it sends: from XOFF_KIB up to the fall to XON_KIB (R357). -/
def ingressSync (p : Nat) (s : State) : State :=
  let kib := (ingressBytes p s + 1023) / 1024
  let s := s.put (Reg.ETH_PORT_STATE_INGRESS_KIB p) kib
  let on := s.get (Reg.ETH_PORT_STATE_PAUSING p)
  if s.get (Reg.ETH_PORT_CFG_PFC_EN p) = 0 then s
  else if on = 0 ∧ kib ≥ s.get (Reg.ETH_PFC_CFG_XOFF_KIB p) then
    (s.put (Reg.ETH_PORT_STATE_PAUSING p) 1).send (.eth p "PFC pause" (s.get (Reg.ETH_PORT_CFG_PFC_PRIO p)))
  else if on = 1 ∧ kib ≤ s.get (Reg.ETH_PFC_CFG_XON_KIB p) then
    (s.put (Reg.ETH_PORT_STATE_PAUSING p) 0).send (.eth p "PFC release" (s.get (Reg.ETH_PORT_CFG_PFC_PRIO p)))
  else s

/-- RDM_QP_COUNT, RDM_STATE and the ports' ingress as the tables stand. -/
def rdmSync (s : State) : State :=
  let waits := s.rdm.qps.foldl (fun n e => n + (e.2.msgs.filter (fun m => m.kind == 8 && decide (m.stage < 3))).length) 0
  let s := (s.put Reg.RDM_QP_COUNT_ALLOCATED s.rdm.qps.length).put Reg.RDM_QP_COUNT_ERROR (s.rdm.qps.filter (fun e => decide (e.2.state ≥ 2))).length
  let s := (((s.put Reg.RDM_STATE_CACHED s.rdm.cache.length).put Reg.RDM_STATE_PARKED s.rdm.parked.length).put Reg.RDM_STATE_FETCHING s.rdm.fetching.length).put
    Reg.RDM_STATE_WAITS waits
  (List.range 4).foldl (fun s p => ingressSync p s) s

/-- PSN arithmetic modulo 2^24. -/
def psnAdd (p n : Nat) : Nat := (p + n) % 2 ^ 24
/-- How far PSN p lies beyond PSN b. -/
def psnDiff (p b : Nat) : Nat := (p + 2 ^ 24 - b) % 2 ^ 24

/-- PSNs a message takes: its response packets for a READ, its packets otherwise (R341, R343). -/
def RMsg.psns (m : RMsg) (mtu : Nat) : Nat :=
  if m.kind = 3 then Nat.max 1 ((m.len + mtuBytes mtu - 1) / mtuBytes mtu) else psnDiff m.last m.psn + 1

/-- Write-type messages: SEND, WRITE, WRITE with immediate, atomics, ATOMIC WRITE (R355). -/
def RMsg.writes (m : RMsg) : Bool := decide (m.kind ≤ 2) || m.kind == 4 || m.kind == 5 || m.kind == 6

/-- Lines of a message's range in its window. -/
def RMsg.lineCount (m : RMsg) (base : Nat) : Nat := if m.len = 0 then 0 else (base + m.off + m.len - 1) / 64 - (base + m.off) / 64 + 1

/-- A message is over: its ticket and its access of the window end (R331, R342). -/
def endMsg (m : RMsg) (s : State) : State :=
  let s := match m.ticket with | some t => giveTicket t s | none => s
  match m.window with | some w => endAccess w s | none => s

/-- Remove messages of a QP. -/
def dropMsgs (q : Nat) (gone : RMsg → Bool) (s : State) : State :=
  match tfind q s.rdm.qps with
  | none => s
  | some x =>
    let out := x.msgs.filter gone
    let s := modQp q (fun (x : Qp) => { x with msgs := x.msgs.filter (fun m => !gone m) }) s
    out.foldl (fun s m =>
      let s := endMsg m s
      if (m.kind == 0 || m.kind == 2) && m.slot.isNone then
        (match x.ring with | some w => s.onRdm fun y => { y with rings := tmod w (fun (r : Ring) => { r with reserved := r.reserved - 1 }) y.rings } | none => s)
      else s) s

/-! ### What leaves on the wire (R327, R332, R336, R357) -/

/-- Priority of a QP's packets (R333). -/
def Qp.prio (x : Qp) : Nat := x.vlan / 2 ^ 20 % 8

/-- A pause on a port's priority is in force (R357, R363). -/
def pausedNow (port prio : Nat) (s : State) : Bool := s.rdm.paused.any (fun e => e.1 == port && e.2.1 == prio)

/-- A response leaves on the QP's port: lost on a port that is down, held by a pause (R327, R357, R362). -/
def rdmaSend (q : Nat) (x : Qp) (psn : Nat) (code : String) (data : List Byte) (s : State) : State :=
  let m := Msg.rdma x.port q psn code data
  if s.get (Reg.ETH_PORT_STATE_RATE x.port) = 3 then s
  else if pausedNow x.port x.prio s then s.onRdm fun y => { y with heldOut := y.heldOut ++ [(x.port, x.prio, m)] }
  else (s.send m).inc (Reg.ETH_PORT_STAT_COUNT x.port 1)

/-- The wire answer of a status (R332). -/
def nakCode (st : Nat) : String :=
  if st = St.notPermitted.code ∨ st = St.revoked.code ∨ st = St.bounds.code then "NAK remote access error"
  else if st = St.badField.code ∨ st = St.protocolViolation.code then "NAK invalid request"
  else "NAK remote operational error"

/-- The counter of RDM_NAK_STAT a status adds to. -/
def nakStat (st : Nat) : Nat :=
  if st = St.notPermitted.code then 0 else if st = St.revoked.code then 1 else if st = St.bounds.code then 2 else if st = St.badField.code then 3
  else if st = St.protocolViolation.code then 4 else if st = St.poisoned.code then 5 else if st = St.timeout.code then 6
  else if st = St.wrongMode.code then 7 else 8

/-- The report record (R336). -/
def reportBytes (st op port qp psn : Nat) (window : Option Nat) (off epoch msn : Nat) : List Byte :=
  leBytes 2 st ++ leBytes 1 op ++ leBytes 1 port ++ leBytes 4 qp ++ leBytes 4 psn ++
    leBytes 4 (match window with | some w => w | none => 2 ^ 31) ++ leBytes 8 off ++ leBytes 8 epoch ++ leBytes 4 msn ++ leBytes 28 0

/-- Slots of a ring window (R344). -/
def ringSlots (w : Window) (slotLog : Nat) : Nat := (w.len - 4096) / 2 ^ slotLog

/-- A little-endian 8 B count in a window. -/
def ringCount (w : Window) (off : Nat) (s : State) : Nat := leNat (readBytes s.tir.home (w.base + off) 8)

/-- The ring of a window: as used so far, or as its producer count stands. -/
def ringOf (id : Nat) (w : Window) (s : State) : Ring :=
  (tfind id s.rdm.rings).getD { reserved := 0, next := ringCount w 64 s, done := [], count := ringCount w 64 s }

/-- An internal write of the RDMA service into a window under a message's ticket (R344): QP, PSN and index name it. -/
def ringWrite (q psn idx ticket id : Nat) (w : Window) (parts : List (Nat × List Byte)) (s : State) : State :=
  admitOp { ticket := ticket, src := .rdma q psn idx, window := id, cls := w.cls, tenant := w.tenant, port := srcPort (.rdma q psn idx) s, atomic := none, gpf := false,
            pieces := parts.flatMap (fun e => cutWrite (e.2.length / 64 + 2) (w.base + e.1) e.2) } s

/-- The QP number under which report records are written: no QP has it. -/
def reportQp : Nat := 2 ^ 20

/-- Append a report record to the report window of a protection domain: dropped, with event 0x0706, when the ring is full (R336). -/
def appendReport (pd : Nat) (r : List Byte) (s : State) : State :=
  match (tfind pd s.rdm.pds).bind id with
  | none => s
  | some id =>
    match tfind id s.win with
    | none => s
    | some w =>
      let n := ringSlots w 6
      if w.state ≠ 1 ∨ n = 0 then s
      else
        let g := ringOf id w s
        if g.next - ringCount w 0 s ≥ n then raise 0x0706 pd 0 s
        else
          let s := s.onRdm fun x => { x with rings := tins id { g with next := g.next + 1 } x.rings }
          ringWrite reportQp id g.next 0 id w [(4096 + g.next % n * 64, r)] s

/-- Write a QP's report record (R336). -/
def writeReport (q : Nat) (x : Qp) (st op psn : Nat) (window : Option Nat) (off : Nat) (s : State) : State :=
  let r := reportBytes st op x.port q psn window off s.epoch x.msn
  appendReport x.pd r (modQp q (fun (x : Qp) => { x with report := r }) s)

/-- The QP enters ERROR (R334, R335); event 0x0703 at most once per second per protection domain. -/
def enterError (q : Nat) (x : Qp) (s : State) : State :=
  raiseRl 0x0703 x.pd q (modQp q (fun (x : Qp) => { x with state := 3, fail := none }) s)

/-- Opcode of a message's kind in a report record, by the BTH codes of the operation's Only or request packet; 0xC0 is WAIT (R324, R336). -/
def bthOpcode (kind : Nat) : Nat :=
  if kind = 0 then 0x04 else if kind = 1 then 0x0A else if kind = 2 then 0x0B else if kind = 3 then 0x0C else if kind = 4 then 0x13
  else if kind = 5 then 0x14 else if kind = 6 then 0x1D else if kind = 7 then 0x1C else 0xC0

/-- A failing request gives the NAK of its QP: in RTR, and in DRAINING where it comes before the request that failed; by QP_ERROR there is no NAK (R335). -/
def Qp.failsFirst (x : Qp) (psn : Nat) : Bool :=
  x.state == 1 || (match x.fail with | some (_, _, p, _, _) => psn != p && decide (psnDiff p psn < 2 ^ 23) | none => false)

/-- A request of the QP fails: DRAINING, with what its NAK will say; later requests that have not started are dropped (R335). -/
def failReq (q psn st kind : Nat) (window : Option Nat) (off : Nat) (s : State) : State :=
  match tfind q s.rdm.qps with
  | none => s
  | some x =>
    if x.state ≥ 3 then s
    else
      let s := dropMsgs q (fun (m : RMsg) => m.psn == psn || (m.stage == 0 && decide (psnDiff m.psn psn < 2 ^ 23))) s
      if x.failsFirst psn then modQp q (fun (x : Qp) => { x with state := 2, fail := some (st, bthOpcode kind, psn, window, off) }) s else s

/-- RNR NAK: the message and every later one of the QP is discarded, and the requester comes back to its PSN; on a QP that is DRAINING none is sent (R345,
R355, R364). -/
def rnrNak (q : Nat) (m : RMsg) (k : Nat) (s : State) : State :=
  match tfind q s.rdm.qps with
  | none => s
  | some x =>
    if x.state ≠ 1 then s
    else
      let s := dropMsgs q (fun (y : RMsg) => decide (psnDiff y.psn m.psn < 2 ^ 23) && !y.again) s
      let s := modQp q (fun (x : Qp) => { x with epsn := m.psn, nextMsn := psnAdd m.msn (2 ^ 24 - 1), naked := true }) s
      rdmaSend q x m.psn "RNR NAK" (leBytes 1 (s.get Reg.RDM_CFG_RNR_TIMER)) (s.inc (Reg.RDM_NAK_STAT_COUNT k))

/-! ### Starting messages (R339, R342, R354, R355) -/

/-- An operation of the message still waits to be sequenced: in a handover, on its line, or at the owner. -/
def unsequenced (q psn : Nat) (s : State) : Bool :=
  let mine := fun (x : Src) => match x with | .rdma a b _ => a == q && b == psn | _ => false
  s.cis.admitQ.any (fun o => mine o.src) || s.tir.waiting.any (fun r => r.atomic.isSome && mine r.src) ||
    s.cis.waitOps.any (fun w => mine w.op.src && !w.fwd.isEmpty)

/-- A write-type message has been sequenced whole (R339). -/
def sequenced (q : Nat) (m : RMsg) (s : State) : Bool :=
  !m.writes || m.stage == 3 || (m.whole && m.chunks.isEmpty && decide (m.stage ≥ (if m.kind = 0 ∨ m.kind = 2 then 2 else 1)) && !(unsequenced q m.psn s))

/-- Whether the messages before it let a message start (R339, R347). -/
def mayStartMsg (q : Nat) (m : RMsg) (before : List RMsg) (s : State) : Bool :=
  before.all (fun b => decide (b.stage ≥ 1)) && !(before.any (fun b => b.kind == 8 && decide (b.stage < 3))) &&
    (decide (m.kind ≤ 2) || before.all (fun b => sequenced q b s))

/-- The durability class a message is admitted under: that of its window or its ring, the persistent one first; 2 where it needs no admission. -/
def msgClass (x : Qp) (m : RMsg) (s : State) : Nat :=
  let c := fun (o : Option Nat) => match o.bind (fun i => tfind i s.win) with | some w => w.cls | none => 2
  if !m.writes then 2 else Nat.min (c m.window) (if m.kind = 2 then c x.ring else 2)

/-- How the admission of a message stands: 0 admitted, 1 it waits, 2 RNR NAK at once (R355). -/
def msgAdmission (x : Qp) (m : RMsg) (s : State) : Nat :=
  if msgClass x m s = 2 then 0
  else
    let a := s.get Reg.TIR_CST_STATE_PAIR_ADMIT
    let op : WriteOp := { ticket := 0, src := .rdma 0 0 0, window := 0, cls := 0, tenant := 0, port := 0, atomic := none, gpf := false,
                          pieces := cutWrite (m.got / 64 + 2) m.off (List.replicate m.got 0) }
    if a ≥ 2 then 2 else if mayAdmit op s then 0 else 1

/-- The atomic of a message. -/
def msgAtomic (m : RMsg) (addr : Nat) : AtomicOp :=
  if m.kind = 4 then .compareSwap addr m.a m.b else if m.kind = 5 then .fetchAdd addr m.a else .write addr m.a

/-- The request of line i of a READ. -/
def readReq (q : Nat) (m : RMsg) (id : Nat) (w : Window) (i : Nat) : Req :=
  { ticket := m.ticket.getD 0, src := .rdma q m.psn i, line := (w.base + m.off) / 64 + i, window := id, tenant := w.tenant, cls := w.cls,
    atomic := none, chained := false, noPromote := false }

/-- A message starts (R338): a READ asks for its lines, an atomic goes to its owner, a FLUSH notes what it waits for. -/
def startMsg (q : Nat) (m : RMsg) (s : State) : State :=
  let s := modMsg q m.psn (fun (m : RMsg) => { m with stage := 1 }) s
  match m.window.bind (fun i => (tfind i s.win).map (fun w => (i, w))) with
  | none => s
  | some (id, w) =>
    if m.kind = 3 then
      let n := m.lineCount w.base
      (List.range n).foldl (fun s i => request (readReq q m id w i) s) (modMsg q m.psn (fun (m : RMsg) => { m with issued := n }) s)
    else if m.kind = 4 ∨ m.kind = 5 ∨ m.kind = 6 then
      admitOp { ticket := m.ticket.getD 0, src := .rdma q m.psn 0, window := id, cls := w.cls, tenant := w.tenant, port := srcPort (.rdma q m.psn 0) s, pieces := [],
                atomic := some (msgAtomic m (w.base + m.off)), gpf := false } (modMsg q m.psn (fun (m : RMsg) => { m with issued := 1 }) s)
    else if m.kind = 7 then
      let span := if m.a / 2 % 2 = 1 then reachSpan w.base w.len else reachSpan (w.base + m.off) m.len
      let marks := if w.cls = 1 ∧ m.a % 2 = 0 then (span.filter (fun n => ownsReach s n)).map (fun n => (n, assignedTo s n)) else []
      modMsg q m.psn (fun (m : RMsg) => { m with marks := marks }) s
    else s

/-- Try to start a QP's messages in order; at the first that cannot, stop (R339, R354, R355). -/
def startMsgs (q : Nat) : List RMsg → List RMsg → State → State
  | _, [], s => s
  | before, m :: ms, s =>
    if m.stage ≠ 0 then startMsgs q (before ++ [m]) ms s
    else match tfind q s.rdm.qps with
    | none => s
    | some x =>
      if s.departing || !(s.completes) || !(mayStartMsg q m before s) then s
      else match msgAdmission x m s with
        | 0 =>
          (match takeTicket 8 s with
           | none => s
           | some (t, s) =>
             let m := { m with ticket := some t }
             let s := startMsg q m (modMsg q m.psn (fun (y : RMsg) => { y with ticket := some t }) s)
             startMsgs q (before ++ [{ m with stage := 1 }]) ms s)
        | 1 => s
        | _ => rnrNak q m 10 s

/-! ### Carrying messages on (R338, R343, R344, R347) -/

/-- The slot footer of R344. -/
def ringFooter (q : Nat) (m : RMsg) : List Byte :=
  leBytes 4 (if m.kind = 0 then m.got else m.len) ++ leBytes 4 (m.imm.getD 0) ++
    leBytes 1 (b2n m.imm.isSome + (if m.kind = 0 then 2 else 4)) ++ leBytes 3 q ++ leBytes 4 m.psn ++ leBytes 8 m.msn ++ leBytes 40 0

/-- Hand on the data a started message holds: chunks of a WRITE go to the cistern as they come; a SEND or an immediate takes its ring slot once every packet
has arrived (R344, R345). -/
def handOn (q : Nat) (x : Qp) (m : RMsg) (s : State) : State :=
  if m.stage ≠ 1 then s
  else
    let s :=
      if m.kind = 0 then s
      else match m.window.bind (fun i => (tfind i s.win).map (fun w => (i, w))) with
        | none => s
        | some (id, w) =>
          let s := modMsg q m.psn (fun (m : RMsg) => { m with issued := m.issued + m.chunks.length, chunks := [] }) s
          ((m.chunks.zip (List.range m.chunks.length)).foldl (fun s e =>
            ringWrite q m.psn (m.issued + e.2) (m.ticket.getD 0) id w [(m.off + e.1.1, e.1.2)] s) s)
    if (m.kind = 0 ∨ m.kind = 2) ∧ m.whole ∧ m.slot.isNone then
      match x.ring.bind (fun i => (tfind i s.win).map (fun w => (i, w))) with
      | none => s
      | some (id, w) =>
        let g := ringOf id w s
        let at0 := 4096 + g.next % (Nat.max 1 (ringSlots w x.slotLog)) * 2 ^ x.slotLog
        let body := if m.kind = 0 then (m.chunks.flatMap Prod.snd) else []
        let s := s.onRdm fun y => { y with rings := tins id { g with next := g.next + 1, reserved := g.reserved - 1 } y.rings }
        let n := match tfind q s.rdm.qps with | some x => ((x.msgs.find? (fun y => y.psn == m.psn)).map RMsg.issued).getD 0 | none => 0
        let s := modMsg q m.psn (fun (m : RMsg) => { m with slot := some g.next, issued := m.issued + 1, chunks := if m.kind = 0 then [] else m.chunks }) s
        ringWrite q m.psn n (m.ticket.getD 0) id w [(at0, body), (at0 + 2 ^ x.slotLog - 64, ringFooter q m)] s
    else s

/-- Take up the answers that have come for a QP's messages. -/
def takeUp (q : Nat) (s : State) : State :=
  let mine := s.rdm.got.filter (fun e => e.1 == q)
  let s := s.onRdm fun x => { x with got := x.got.filter (fun e => e.1 != q) }
  mine.foldl (fun s e => modMsg q e.2.1 (fun (m : RMsg) =>
    { m with back := m.back + 1, answer := if m.kind ≥ 3 then m.answer ++ [(e.2.2.1, e.2.2.2.1, e.2.2.2.2)] else m.answer }) s) s

/-- The producer count of a ring may be written when this slot is the next one (R344). -/
def ringTurn (id slot : Nat) (s : State) : Bool := match tfind id s.rdm.rings with | some g => g.count == slot | none => false

/-- A message whose operations have all answered goes on: a ring message writes its producer count in slot order, then it is done; a FLUSH and a WAIT are done when
their condition holds (R64, R344, R347). -/
def moveOn (q : Nat) (x : Qp) (before : List RMsg) (m : RMsg) (s : State) : State :=
  let put := fun (n : Nat) (s : State) => modMsg q m.psn (fun (m : RMsg) => { m with stage := n }) s
  if m.kind = 7 then
    (if m.stage = 1 ∧ before.all (fun b => b.stage == 3) ∧ m.marks.all (fun e => decide (ackedTo s e.1 ≥ e.2) || s.soloPoint || !(ownsReach s e.1)) then put 3 s else s)
  else if m.kind = 8 then (if m.stage = 1 ∧ tget 0 m.a s.rdm.counters ≥ m.b then put 3 s else s)
  else if m.stage = 1 ∧ m.whole ∧ m.chunks.isEmpty ∧ m.back ≥ m.issued then
    match m.slot, x.ring with
    | some n, some id =>
      if ringTurn id n s then
        (match tfind id s.win with
         | some w => ringWrite q m.psn m.issued (m.ticket.getD 0) id w [(64, leBytes 8 (n + 1))]
                       (modMsg q m.psn (fun (m : RMsg) => { m with stage := 2, issued := m.issued + 1 }) s)
         | none => put 3 s)
      else s
    | _, _ => if m.kind = 0 ∨ m.kind = 2 then s else put 3 s
  else if m.stage = 2 ∧ m.back ≥ m.issued then
    (match x.ring with
     | some id => put 3 (s.onRdm fun y => { y with rings := tmod id (fun (g : Ring) => { g with count := g.count + 1 }) y.rings })
     | none => put 3 s)
  else s

/-! ### Acknowledging (R335, R340, R343, R346) -/

/-- A message of an RTR or DRAINING QP is acknowledged: its counter, its statistics, its ticket and its access of the window (R346). -/
def finalize (q : Nat) (m : RMsg) (s : State) : State :=
  match tfind q s.rdm.qps with
  | none => s
  | some x =>
    let s := modQp q (fun (x : Qp) => { x with msn := if m.again then x.msn else m.msn, msgs := x.msgs.filter (fun y => y.psn != m.psn || y.again != m.again) }) s
    let s := s.inc (Reg.RDM_STAT_COUNT 0)
    let s := if m.kind ≤ 2 then s.add (Reg.RDM_STAT_COUNT 2) m.got
      else if m.kind = 3 then s.add (Reg.RDM_STAT_COUNT 1) m.len
      else if m.kind = 7 then s.inc (Reg.RDM_STAT_COUNT 4)
      else if m.kind = 8 then s.inc (Reg.RDM_STAT_COUNT 5)
      else s.inc (Reg.RDM_STAT_COUNT 3)
    let s := if x.counter ≠ 0 ∧ m.kind ≠ 3 ∧ m.kind ≠ 8 then
        s.onRdm fun y => { y with counters := tset 0 (x.counter - 1) ((tget 0 (x.counter - 1) y.counters + 1) % 2 ^ 64) y.counters }
      else s
    endMsg m s

/-- The messages at the front of a QP that are done and owe only an ACK. -/
def ackable : List RMsg → List RMsg
  | [] => []
  | m :: ms => if m.stage = 3 ∧ m.kind ≠ 3 ∧ m.kind ≠ 4 ∧ m.kind ≠ 5 then m :: ackable ms else []

/-- Send the ACK that is due: it acknowledges every message that is done in order (R340). -/
def sendAck (q : Nat) (wire : Bool) (s : State) : State :=
  match tfind q s.rdm.qps with
  | none => s
  | some x =>
    let ms := ackable x.msgs
    match ms.getLast? with
    | none => s
    | some l =>
      let s := ms.foldl (fun s m => finalize q m s) (modQp q (fun (x : Qp) => { x with ackDue := 0 }) s)
      if wire then rdmaSend q x l.last "ACK" (leBytes 3 l.msn) s else s

/-- The next response packet of a READ whose lines have come: data, or the failure at its first poisoned line (R343). -/
def readPacket (q : Nat) (x : Qp) (m : RMsg) (s : State) : State :=
  let n := mtuBytes x.mtu
  let base := match m.window.bind (fun i => tfind i s.win) with | some w => w.base | none => 0
  let first := (base + m.off) / 64
  let lo := m.sent * n
  let cnt := Nat.min n (m.len - lo)
  let lines := if cnt = 0 then [] else (List.range ((base + m.off + lo + cnt - 1) / 64 - (base + m.off + lo) / 64 + 1)).map (· + ((base + m.off + lo) / 64 - first))
  let ans := lines.map (fun i => m.answer.find? (fun e => e.1 == i))
  if ans.any Option.isNone then s
  else match ans.findSome? (fun a => a.bind (fun e => if e.2.1 then some e.1 else none)) with
    | some i => raise 0x0704 q i (failReq q (psnAdd m.psn m.sent) St.poisoned.code 3 m.window (if (first + i) * 64 ≤ base then 0 else (first + i) * 64 - base)
                  (dropMsgs q (fun (y : RMsg) => y.psn == m.psn && y.again == m.again) s))
    | none =>
      let bytes := (ans.flatMap (fun a => (a.map (fun e => e.2.2)).getD []))
      let skip := (base + m.off + lo) % 64
      let s := rdmaSend q x (psnAdd m.psn m.sent) "READ response" ((bytes.drop skip).take cnt) s
      let m' := { m with sent := m.sent + 1 }
      if m'.sent * n ≥ m.len then finalize q m' s else modMsg q m.psn (fun (y : RMsg) => { y with sent := m'.sent }) s

/-- The atomic response, kept for duplicates (R338, R341), or the failure on poison (R269). -/
def atomicAnswer (q : Nat) (x : Qp) (m : RMsg) (s : State) : State :=
  match m.answer.head? with
  | none => s
  | some (_, true, _) => raise 0x0704 q 0 (failReq q m.psn St.poisoned.code m.kind m.window m.off s)
  | some (_, false, d) =>
    let s := modQp q (fun (x : Qp) => { x with atoms := ((m.psn, leNat d) :: x.atoms).take x.resources }) s
    rdmaSend q x m.psn "ATOMIC response" d (finalize q m s)

/-- What the front of a QP has to say: a READ packet or an atomic response, with the ACK of what is before it; else ACKs over 16 packets go at once (R340). -/
def speak (q : Nat) (s : State) : State :=
  match tfind q s.rdm.qps with
  | none => s
  | some x =>
    if x.state ≥ 3 then
      -- carried to its end internally, never acknowledged (R335)
      dropMsgs q (fun (m : RMsg) => m.stage == 3 || m.stage == 0 || ((m.kind == 3 || m.kind == 4 || m.kind == 5) && decide (m.back ≥ m.issued)) || m.kind == 7 || m.kind == 8 ||
        !m.whole) s
    else
      let front := ackable x.msgs
      match x.msgs[front.length]? with
      | some m =>
        if m.kind = 3 ∧ m.stage ≥ 1 ∧ (m.answer.length > 0 ∨ m.len = 0) then readPacket q x m (sendAck q false s)
        else if (m.kind = 4 ∨ m.kind = 5) ∧ m.stage ≥ 1 ∧ m.back ≥ 1 then atomicAnswer q x m (sendAck q false s)
        else if front.length > 0 then
          let due := front.foldl (fun n m => n + m.psns x.mtu) 0
          if due ≥ 16 then sendAck q true s else modQp q (fun (x : Qp) => { x with ackDue := due }) s
        else s
      | none =>
        let due := front.foldl (fun n m => n + m.psns x.mtu) 0
        if due ≥ 16 then sendAck q true s else modQp q (fun (x : Qp) => { x with ackDue := due }) s

/-- A DRAINING QP whose earlier requests have completed sends its NAK, writes its report record and enters ERROR; by QP_ERROR it does so silently once every started
request is acknowledged, but for one whose packets have not all arrived (R335, R336). -/
def drainQp (q : Nat) (s : State) : State :=
  match tfind q s.rdm.qps with
  | none => s
  | some x =>
    if x.state ≠ 2 then s
    else match x.fail with
      | some (st, op, psn, w, off) =>
        let earlier := x.msgs.filter (fun m => decide (psnDiff psn m.psn < 2 ^ 23) && m.psn != psn)
        if earlier.all (fun m => m.stage == 3 && m.kind != 3 && m.kind != 4 && m.kind != 5) then
          let s := sendAck q false s
          match tfind q s.rdm.qps with
          | none => s
          | some x =>
            let s := rdmaSend q x psn (nakCode st) [] (s.inc (Reg.RDM_NAK_STAT_COUNT (nakStat st)))
            enterError q x (writeReport q x st op psn w off s)
        else s
      | none => if x.msgs.all (fun m => !m.whole || (m.stage == 3 && m.kind != 3 && m.kind != 4 && m.kind != 5)) then enterError q x (sendAck q true s) else s

/-- A QP in ERROR with nothing left inside: a QP_ERROR or QP_DESTROY that waits completes, and a destroyed QP is FREE (R334). -/
def releaseQp (q : Nat) (s : State) : State :=
  match tfind q s.rdm.qps with
  | none => s
  | some x =>
    if x.state ≠ 3 || !(x.msgs.isEmpty || !x.destroyed) then s
    else
      let s := if x.destroyed then
          s.onRdm fun y => { y with qps := tdel q y.qps, cache := y.cache.filter (· != q), fetching := y.fetching.filter (· != q), parked := y.parked.filter (fun p => p.qp != q) }
        else modQp q (fun (x : Qp) => { x with destroyer := [] }) s
      x.destroyer.foldl (fun s m => complete m [] s) s

/-- One round of a QP: answers taken up, messages started, handed on, moved on, and what they bring said (R338 to R346). -/
def qpRound (q : Nat) (s : State) : State :=
  let s := takeUp q s
  let s := match tfind q s.rdm.qps with | some x => startMsgs q [] x.msgs s | none => s
  let s := match tfind q s.rdm.qps with | some x => x.msgs.foldl (fun s m => handOn q x m s) s | none => s
  let s := match tfind q s.rdm.qps with
    | some x => (x.msgs.zip (List.range x.msgs.length)).foldl (fun s e => moveOn q x (x.msgs.take e.2) e.1 s) s
    | none => s
  releaseQp q (drainQp q (speak q s))

/-- The report records' second step: a record written lets the producer count be written, in slot order (R336). -/
def reportRound (s : State) : State :=
  let mine := s.rdm.got.filter (fun e => e.1 == reportQp)
  let s := s.onRdm fun x => { x with got := x.got.filter (fun e => e.1 != reportQp) }
  let s := mine.foldl (fun s e =>
    s.onRdm fun x => { x with rings := tmod e.2.1 (fun (g : Ring) => if e.2.2.1 < 2 ^ 64 then { g with done := g.done ++ [e.2.2.1] } else g) x.rings }) s
  s.rdm.rings.foldl (fun s e =>
    if e.2.done.contains e.2.count then
      match tfind e.1 s.win with
      | some w =>
        let s := s.onRdm fun x => { x with rings := tmod e.1 (fun (g : Ring) => { g with count := g.count + 1, done := g.done.filter (· != g.count) }) x.rings }
        ringWrite reportQp e.1 (2 ^ 64) 0 e.1 w [(64, leBytes 8 (e.2.count + 1))] s
      | none => s
    else s) s

/-- QPs that have something to do: messages, answers, or a mailbox that waits. -/
def busyQps (s : State) : List Nat :=
  (s.rdm.qps.filter (fun e => !e.2.msgs.isEmpty || (e.2.state == 2) || !e.2.destroyer.isEmpty)).map Prod.fst

/-- Rounds over every busy QP, until a round changes nothing or the fuel ends. -/
def rdmaRounds : Nat → State → State
  | 0, s => s
  | n + 1, s =>
    let s' := reportRound ((busyQps s).foldl (fun s q => qpRound q s) s)
    if s'.rdm = s.rdm then s' else rdmaRounds n s'

/-- Bring the RDMA service forward; in SPILL its ports send nothing (R361). -/
def rdmaSettle (s : State) : State :=
  if (s.rdm.qps.isEmpty && s.rdm.got.isEmpty) || s.mode = .spill then s
  else rdmSync (rdmaRounds (4 + 8 * s.rdm.qps.foldl (fun n e => n + e.2.msgs.length + 2) 0) s)

/-- Start the fetches that parked packets need, up to 1,024 in flight (R352). -/
def startFetches (s : State) : State :=
  let want := ((s.rdm.parked.map RPkt.qp).eraseDups.filter (fun q => !(s.rdm.fetching.contains q) && !(s.rdm.cache.contains q))).take (1024 - s.rdm.fetching.length)
  (s.onRdm fun x => { x with fetching := x.fetching ++ want }).add (Reg.RDM_STAT_COUNT 6) want.length

/-- A QP's context is lost: ERROR without a NAK, with MEDIA_FAILED in the report and event 0x0709; its parked packets are FLUSHED (R277, R353). -/
def contextLost (qp : Nat) (s : State) : State :=
  let mine := s.rdm.parked.filter (fun p => p.qp == qp)
  let s := s.onRdm fun x => { x with fetching := x.fetching.filter (· != qp), parked := x.parked.filter (fun p => p.qp != qp) }
  match tfind qp s.rdm.qps with
  | none => rdmSync (startFetches s)
  | some x =>
    let s := s.add (Reg.RDM_NAK_STAT_COUNT 11) mine.length
    let r := reportBytes St.mediaFailed.code 0 x.port qp x.epsn none 0 s.epoch x.msn
    let s := modQp qp (fun (x : Qp) => { x with report := r }) (dropMsgs qp (fun _ => true) s)
    rdmSync (startFetches (raise 0x0709 qp 0 (enterError qp x s)))

/-! ### Everything that waits -/

/-- After any change: apply, complete and serve what can be; then what the ports' queues and the RDMA service make of it. -/
def settle (s : State) : State := rdmaSettle (pumpPorts (settleOps s))

/-- Operations that wait for a handover or for admission go on where they can. -/
def admitAll (s : State) : State := rdmaSettle (pumpPorts (admitOps s))

end Sys2Proof.Machine
end

