-- ==== Sys2Proof/Machine/DrainOps.lean ====
section
/-!
DEFINITION. Sys2Proof/Machine/DrainOps.lean: shared operations of the drain, the resaw and the footing: stripes and row groups, retiring records,
freeing segments, the journal (R25, R26, R101 to R106, R225 to R232, R240, R248).
-/
namespace Sys2Proof.Machine

open Sys2Proof

/-! ### Stripes (R225, R231 to R233, R248) -/

/-- Die positions populated on all 32 channels (R220), as a mask. -/
def diePositions (s : State) : Nat := (List.range 32).foldl (fun m c => m &&& s.get (Reg.SLC_CH_STATE_DIES_PRESENT c)) 0xFFFF
/-- Die positions in use. -/
def dieCount (s : State) : Nat := popCount 16 (diePositions s)
/-- Units of a spillway slot per die (R252). -/
def spillUnits (s : State) : Nat := s.get Reg.SLC_SPILLWAY_UNITS_PER_SLOT
/-- u by R252 for a number of dies in use. -/
def unitsFor (dies : Nat) : Nat := if dies = 0 then 0 else (36864 * 8 + 7 * dies * 32 - 1) / (7 * dies * 32)
/-- Whether lane 16 × k + d is in use. -/
def laneUsed (s : State) (lane : Nat) : Bool := decide (lane < 64) && bitOf (lane % 16) (diePositions s)
/-- Whether a channel index runs the dense profile. -/
def laneDense (s : State) (lane : Nat) : Bool := s.get (Reg.SLC_CH_CFG_PROFILE (lane / 16)) == 0
/-- Row groups of a stripe (R225, R230). -/
def laneGroups (s : State) (lane : Nat) : Nat := if laneDense s lane then 2048 else 512
/-- Key of a stripe in the stripe table. -/
def stripeKey (lane unit : Nat) : Nat := lane * 4096 + unit
/-- A stripe as the last format left it. -/
def Stripe.fresh (n : Nat) : Stripe := { Stripe.free with erases := n }
/-- A stripe-table entry. -/
def State.stripe (s : State) (key : Nat) : Stripe := tget (Stripe.fresh s.med.eraseBase) key s.med.stripes
/-- Whether a key names a stripe unit in use: neither spillway nor spare (R233). -/
def stripeInUse (s : State) (key : Nat) : Bool :=
  laneUsed s (key / 4096) && decide (2 * spillUnits s ≤ key % 4096) && decide (key % 4096 < 3650)
/-- The stripe a locator lies in (R229). -/
def locStripe (loc : Nat) : Nat := stripeKey (16 * bitsOf 0 2 loc + bitsOf 2 4 loc) (bitsOf 6 12 loc)
/-- The locator of a slot (R229). -/
def mkLocator (lane unit row slot : Nat) : Nat := lane / 16 + 4 * (lane % 16) + 64 * unit + 2 ^ 18 * row + 2 ^ 33 * slot

/-- Stripes that are neither FREE nor RETIRED. -/
def stripesTaken (s : State) : Nat := (s.med.stripes.filter (fun e => e.2.state == 1 || e.2.state == 2 || e.2.state == 3)).length

/-- Free stripes in per mille of the stripes outside the spillway (R188). -/
def freePermille (s : State) : Nat :=
  let n := s.get Reg.SLC_FTG_SPACE_STRIPES
  if n = 0 then 0 else (n - stripesTaken s) * 1000 / n

/-- Data MiB of one stripe of channel index k (R234). -/
def stripeMib (s : State) (k : Nat) : Nat := if s.get (Reg.SLC_CH_CFG_PROFILE k) = 0 then 896 else 224

/-- Data MiB of every stripe that is neither retired nor spillway (R234). -/
def dataMib (s : State) : Nat :=
  (List.range 4).foldl (fun n k => n + dieCount s * (3650 - 2 * spillUnits s) * stripeMib s k) 0 -
    (s.med.stripes.filter (fun e => e.2.state == 4)).foldl (fun n e => n + stripeMib s (e.1 / 4096 / 16)) 0

/-- REACH_LIMIT by R234. -/
def reachLimit (s : State) : Nat := satAt 4096 (dataMib s * (1000 - s.inForce Reg.SLC_FTG_CFG_OP_PERMILLE) / 1000 / 65536)

/-- SLC_FTG_SPACE, SLC_WEAR_STATE and TIR_RSW_STATE.FREE_PERMILLE as the stripe table stands (R233, R246, R249). -/
def stripeSync (s : State) : State :=
  let total := 4 * dieCount s * (3650 - 2 * spillUnits s)
  let retired := (s.med.stripes.filter (fun e => e.2.state == 4)).length
  let s := (s.put Reg.SLC_FTG_SPACE_STRIPES (total - retired)).put Reg.SLC_FTG_SPACE_RETIRED retired
  let mib := dataMib s
  let s := s.put Reg.SLC_FTG_SPACE_OP_NOW (if mib = 0 then 0 else 1000 - s.get Reg.TIR_HAS_CFG_REACH_LIMIT * 65536 * 1000 / mib)
  let live := s.med.stripes.filter (fun e => e.2.state != 4)
  let hi := live.foldl (fun m e => Nat.max m e.2.erases) s.med.eraseBase
  let lo := if live.length < total - retired then live.foldl (fun m e => Nat.min m e.2.erases) s.med.eraseBase else live.foldl (fun m e => Nat.min m e.2.erases) hi
  ((s.put Reg.SLC_WEAR_STATE_MIN_ERASES lo).put Reg.SLC_WEAR_STATE_MAX_ERASES hi).put Reg.TIR_RSW_STATE_FREE_PERMILLE (freePermille s)

/-- Write a stripe-table entry. -/
def setStripe (key : Nat) (e : Stripe) (s : State) : State :=
  stripeSync (s.onMed fun x => { x with stripes := tset (Stripe.fresh x.eraseBase) key e x.stripes })

/-- Change a stripe-table entry. -/
def modStripe (key : Nat) (f : Stripe → Stripe) (s : State) : State := setStripe key (f (s.stripe key)) s

/-- Close a stripe (R232). -/
def closeStripe (key : Nat) (s : State) : State :=
  (modStripe key (fun (e : Stripe) => { e with state := 3, stamp := s.med.stamp }) s).onMed fun x => { x with stamp := x.stamp + 1 }

/-- The FREE stripe of a lane with the fewest erases (R248), the lowest unit among equals. -/
def pickFree (lane : Nat) (s : State) : Option Nat :=
  let keys := (List.range (3650 - 2 * spillUnits s)).map (fun i => stripeKey lane (2 * spillUnits s + i))
  let untouched := keys.find? (fun k => (tfind k s.med.stripes).isNone)
  match untouched with
  | some k => some k
  | none =>
    let free := s.med.stripes.filter (fun e => decide (e.1 / 4096 = lane) && e.2.state == 0 && stripeInUse s e.1)
    (free.foldl (fun (b : Option (Nat × Nat)) e => match b with
      | none => some (e.1, e.2.erases)
      | some (k, n) => if e.2.erases < n then some (e.1, e.2.erases) else some (k, n)) none).map Prod.fst

/-- Boards ONLINE or REBUILDING decide whether new stripes are wide (R257, R259). -/
def stripesNarrow (s : State) : Bool := decide (boardsServing s < 8)

/-- The lowest ABSENT board (R232: a narrow stripe's missing board). -/
def absentBoard (s : State) : Nat := ((List.range 8).find? (fun b => s.get (Reg.SLC_BOARD_STATE_STATE b) == 2)).getD 0

/-- The open stripe of a lane for the drain (1) or for relocation (2) (R231). -/
def openStripe (lane st : Nat) (s : State) : Option Nat :=
  (s.med.stripes.find? (fun e => decide (e.1 / 4096 = lane) && e.2.state == st)).map Prod.fst

/-! ### Row groups (R228 to R230) -/

/-- Data slots of a row group. -/
def groupSlots (narrow : Bool) : Nat := if narrow then 96 else 112

/-- The name a row group's tokens are held under. -/
def groupName (g : RowGrp) : HgOwner := .pack (stripeKey g.lane g.unit * 2048 + g.group)

/-- Tokens a row group's program takes (R501). -/
def groupTokens (s : State) (lane : Nat) : Nat := if laneDense s lane then 32 else 24

/-- The free stripes are below URGENT (R191). -/
def resawUrgent (s : State) : Bool := decide (freePermille s < 10 * s.get Reg.TIR_RSW_CFG_URGENT)

/-- Request a row group's tokens: H0 for the drain and for the resaw below URGENT (R102, R501). -/
def groupRequest (g : RowGrp) (s : State) : State :=
  let r := hgRequest { owner := groupName g, h0 := !g.reloc || resawUrgent s, tokens := groupTokens s g.lane } s
  if r.1 = 0 then r.2
  else if g.reloc then (r.2.put Reg.TIR_RSW_STATE_HG_WAIT 1).inc (Reg.TIR_RSW_STAT_COUNT 4)
  else (r.2.put Reg.TIR_DRN_STATE_HG_WAIT 1).inc (Reg.TIR_DRN_STAT_COUNT 3)

/-- Open the next row group of a lane, in its open stripe or a new one; none when no stripe is free: DRAIN_WAIT (R191, R240). -/
def openGroup (lane : Nat) (reloc : Bool) (s : State) : Option (RowGrp × State) :=
  let st := if reloc then 2 else 1
  let found : Option (Nat × State) :=
    match openStripe lane st s with
    | some k => if (s.stripe k).groups < laneGroups s lane then some (k, s)
                else
                  let s := closeStripe k s
                  (pickFree lane s).map (fun k => (k, s))
    | none => (pickFree lane s).map (fun k => (k, s))
  found.map fun (e : Nat × State) =>
    let k := e.1
    let s := e.2
    let old := s.stripe k
    let narrow := if old.state = st then old.narrow else stripesNarrow s
    let absent := if narrow && old.state != st then absentBoard s else old.absent
    let s := setStripe k { old with state := st, narrow := narrow, groups := old.groups + 1, absent := absent } s
    let g : RowGrp := { lane := lane, unit := k % 4096, group := old.groups, reloc := reloc, narrow := narrow, used := 0, packs := [], started := s.epoch, issued := false }
    (g, groupRequest g (s.onTir fun x => { x with groups := x.groups ++ [g] }))

/-- The row group of a lane that still takes granules. -/
def fillingGroup (lane : Nat) (reloc : Bool) (s : State) : Option RowGrp :=
  s.tir.groups.find? (fun g => g.lane == lane && g.reloc == reloc && !g.issued && decide (g.used + 4 ≤ groupSlots g.narrow))

/-- Place a granule in four consecutive data slots of a lane's row group: its locator (R228, R229).  A full group is programmed. -/
def placeGran (granule lane : Nat) (reloc : Bool) (s : State) : Option (Nat × State) :=
  let got : Option (RowGrp × State) := match fillingGroup lane reloc s with
    | some g => some (g, s)
    | none => openGroup lane reloc s
  got.map fun (e : RowGrp × State) =>
    let g := e.1
    let n := if g.narrow then 6 else 7
    let loc := mkLocator lane g.unit (16 * g.group + g.used / n) (g.used % n)
    let full := decide (g.used + 8 > groupSlots g.narrow)
    let g' : RowGrp := { g with used := g.used + 4, packs := g.packs ++ [granule], issued := full }
    (loc, e.2.onTir fun x => { x with groups := x.groups.map (fun (y : RowGrp) => if y = g then g' else y) })

/-! ### Packs, the journal and retirement (R25, R26, R103 to R106) -/

/-- TIR_DRN_STATE as the packs stand; the drain is stopped in a mode that does not permit it (R101). -/
def drainModes (s : State) : Bool := s.serving || s.mode = .quiesced
/-- TIR_DRN_STATE.PACKS and STOPPED. -/
def packSync (s : State) : State :=
  (s.put Reg.TIR_DRN_STATE_PACKS s.tir.packs.length).put Reg.TIR_DRN_STATE_STOPPED (b2n (!(drainModes s)))

/-- The highest number applied to a granule's copy (R25). -/
def snapOf (s : State) (g : Nat) : Nat :=
  let base := match footedCopy s g with | some f => f.snap | none => 0
  ((granRecs s g).filter Rec.applied).foldl (fun m r => Nat.max m r.seq) base

/-- The generation of a granule's last program. -/
def lastGen (s : State) (g : Nat) : Nat := Nat.max (tget 0 g s.tir.gens) (match tfind g s.tir.xlt with | some e => e.gen | none => 0)

/-- The generation a granule's next program takes (R381, R382): 1 first; past 0xFFFF_FFFF it wraps, under an entry of the wrap table whose count goes up
and is PENDING until the translation is held.  none: the table is full or the count is spent, and the packs wait. -/
def takeGen (g : Nat) (s : State) : Option (Nat × State) :=
  if lastGen s g < 4294967295 then some (lastGen s g + 1, s.onTir fun x => { x with gens := tset 0 g (lastGen s g + 1) x.gens })
  else
    let n := match tfind g s.store.wraps with | some (c, _) => c | none => 0
    if n ≥ 255 ∨ ((tfind g s.store.wraps).isNone ∧ s.store.wraps.length ≥ 4096) then none
    else
      let s := s.onStore fun x => { x with wraps := tins g (n + 1, true) x.wraps }
      let s := (s.put Reg.CPH_WRAP_STATE_ENTRIES s.store.wraps.length).put Reg.CPH_WRAP_STATE_FULL 0
      let s := raise 0x0808 g (n + 1) (s.inc (Reg.CPH_STAT_COUNT 10))
      some (1, s.onTir fun x => { x with gens := tset 0 g 1 x.gens })

/-- A wrap's translation is held: PENDING is cleared (R382). -/
def wrapHeld (g : Nat) (s : State) : State := s.onStore fun x => { x with wraps := tmod g (fun (e : Nat × Bool) => (e.1, false)) x.wraps }

/-- Snapshot a granule for a pack under its move slot and place it (R25, R101, R283); none: it waits for a stripe or for a wrap. -/
def startPack (g kind slot lane : Nat) (s : State) : Option State :=
  match takeGen g s with
  | none => none
  | some (gen, s1) =>
    (placeGran g lane false s1).map fun (e : Nat × State) =>
      let s := e.2
      let p : Pack := { granule := g, kind := kind, gen := gen, snap := Nat.max (snapOf s g) (tget 0 g s.twn.merged), poison := granPoison s g, data := granBytes s g, locator := e.1,
                        slot := slot, old := 0, entries := [], phase := 0 }
      packSync ((s.onTir fun x => { x with packs := x.packs ++ [p], packQ := x.packQ.filter (· != g) }).put Reg.TIR_RSW_STATE_DRAIN_WAIT 0)

/-- Why a pack could not start: the wrap table refuses the granule (event 0x0807), or no stripe is free (R191, R382). -/
def packWaits (g : Nat) (s : State) : State :=
  match takeGen g s with
  | none => if s.flag Reg.CPH_WRAP_STATE_FULL then s else raise 0x0807 g 0 (s.put Reg.CPH_WRAP_STATE_FULL 1)
  | some _ => s.put Reg.TIR_RSW_STATE_DRAIN_WAIT 1

/-- TIR_XLT_TAIL as the journal and the dirty pages stand (R106). -/
def tailSync (s : State) : State :=
  (s.put Reg.TIR_XLT_TAIL_RECORDS (s.cis.recs.filter (fun r => r.kind = RecKind.xlate && !r.retired)).length).put Reg.TIR_XLT_TAIL_DIRTY_PAGES s.tir.dirtyXlt.length

/-- Journal a granule's new translation: an XLATE record, the translation entry, the page's dirty count (R104, R106). -/
def journal (g loc gen : Nat) (s : State) : State :=
  let e : XltEnt := { granule := g, locator := loc, gen := gen }
  let n := s.cis.journal
  let s := place { Rec.blank .xlate with seq := n, xlts := [e], visible := true, applied := true } s
  let p := g / 1024
  tailSync ((s.onCis fun x => { x with journal := n + 1 }).onTir fun x =>
    { x with xlt := tins g e x.xlt, dirtyXlt := tset 0 p (tget 0 p x.dirtyXlt + 1) x.dirtyXlt })

/-- A stored copy becomes live, and the one it replaces stale (R104). -/
def moveLive (old : Option Nat) (new : Nat) (s : State) : State :=
  let s := match old with
    | some l => modStripe (locStripe l) (fun (e : Stripe) => { e with live := e.live - 1 }) s
    | none => s
  modStripe (locStripe new) (fun (e : Stripe) => { e with live := e.live + 1 }) s

/-- Free segments from the tail while every record in them is retired (R105). -/
def freeSegments : Nat → State → State
  | 0, s => s
  | n + 1, s =>
    let t := s.get Reg.TIR_CST_TAIL_POS
    let next := t + 2 ^ 20
    if next > s.get Reg.TIR_CST_HEAD_POS then s
    else if (s.cis.recs.filter (fun r => decide (r.pos < next))).all Rec.retired then
      freeSegments n ((s.onCis fun x => { x with recs := x.recs.filter (fun r => decide (next ≤ r.pos)) }).put Reg.TIR_CST_TAIL_POS next)
    else s

/-- Segments between tail and head: the fuel of `freeSegments`. -/
def segments (s : State) : Nat := (s.get Reg.TIR_CST_HEAD_POS - s.get Reg.TIR_CST_TAIL_POS) / 2 ^ 20 + 1

/-- Retire the records that a test names: counted, taken from the granule's CISTERN count and added to the retirement rate; segments are freed,
and admission, appends and held writes follow (R26, R95, R96, R105). -/
def retireWhere (f : Rec → Bool) (s : State) : State :=
  let gone := s.cis.recs.filter (fun r => !r.retired && f r)
  let s := s.onCis fun x => { x with recs := x.recs.map (fun (r : Rec) => if !r.retired && f r then { r with retired := true } else r),
                                     retires := (s.epoch, gone.foldl (fun n r => n + r.bytes) 0) :: x.retires.filter (fun e => decide (s.epoch < e.1 + 100)) }
  let s := gone.foldl (fun s r => if r.isData then modGran (lineGran r.line) (fun (e : Gran) => { e with cistern := e.cistern - 1 }) s else s) s
  let s := s.add (Reg.TIR_CST_STAT_COUNT 1) gone.length
  tailSync (admitSync (freeSegments (segments s) s))

/-- Records of a granule up to a number are retired (R26). -/
def retireGran (g snap : Nat) (s : State) : State :=
  retireWhere (fun r => r.isData && r.applied && lineGran r.line == g && decide (r.seq ≤ snap)) s

/-- XLATE records retire once every page their entries changed has been checkpointed since (R106). -/
def retireXlates (s : State) : State :=
  retireWhere (fun r => r.kind = RecKind.xlate && r.held && r.xlts.all (fun e => decide (tget 0 (e.granule / 1024) s.med.ckptSeq ≥ r.seq))) s

/-- Start a checkpoint of a translation page on a lane, unless one is under way (R106). -/
def startCheckpoint (page lane : Nat) (s : State) : State :=
  let id := 2 ^ 34 + page
  if s.tir.packs.any (fun p => p.granule == id) then s
  else match placeGran id lane false s with
    | none => s
    | some (loc, s) =>
      let es := (s.tir.xlt.filter (fun e => e.1 / 1024 == page)).map Prod.snd
      let p : Pack := { granule := id, kind := 4, gen := s.cis.journal - 1, snap := s.cis.journal - 1, poison := 0, data := [], locator := loc, slot := 0,
                        old := 0, entries := es, phase := 0 }
      tailSync (s.onTir fun x => { x with packs := x.packs ++ [p], dirtyXlt := tset 0 page 0 x.dirtyXlt })

/-- Pages that are due: 256 entries refer to them, or the oldest XLATE record lies in the oldest occupied segment (R106). -/
def pagesDue (s : State) : List Nat :=
  let full := (s.tir.dirtyXlt.filter (fun e => decide (e.2 ≥ 256))).map Prod.fst
  match s.cis.recs.find? (fun r => r.kind = RecKind.xlate && !r.retired) with
  | some r => if r.pos < s.get Reg.TIR_CST_TAIL_POS + 2 ^ 20 then full ++ (r.xlts.map (fun e => e.granule / 1024)).filter (fun p => !(full.contains p) && decide (tget 0 p s.tir.dirtyXlt > 0)) else full
  | none => full

/-- Checkpoint every page that is due. -/
def checkpointDue (lane : Nat) (s : State) : State := (pagesDue s).foldl (fun s p => startCheckpoint p lane s) s

/-- Why the drain packs a granule: 2 a merge of the stream (R153), 1 a repair or poison pack (R283), 0 its records. -/
def packKind (g : Nat) (s : State) : Nat := if (tfind g s.twn.merged).isSome then 2 else b2n (s.tir.packQ.contains g)

/-- Queue a repair or poison pack, once (R283). -/
def queuePack (g : Nat) (s : State) : State := if s.tir.packQ.contains g then s else s.onTir fun x => { x with packQ := x.packQ ++ [g] }

/-- The program of a group is under way: full or padded, its tokens held (R230, R239). -/
def programming (g : RowGrp) (s : State) : Bool := g.issued && hgHolds s (groupName g)

/-- The row group a locator lies in. -/
def inGroup (g : RowGrp) (loc : Nat) : Bool :=
  locStripe loc == stripeKey g.lane g.unit && bitsOf 18 15 loc / 16 == g.group

/-- The row group of a lane, unit and number. -/
def findGroup (lane unit group : Nat) (s : State) : Option RowGrp :=
  s.tir.groups.find? (fun g => g.lane == lane && g.unit == unit && g.group == group)

/-- TIR_DRN_STATE.HG_WAIT and TIR_RSW_STATE.HG_WAIT as the groups' tokens stand (R102, R191). -/
def hgWaitSync (s : State) : State :=
  let w := fun (reloc : Bool) => s.tir.groups.any (fun g => g.reloc == reloc && !(hgHolds s (groupName g)))
  let e := s.tir.erases.any (fun k => !(hgHolds s (.erase k)))
  (s.put Reg.TIR_DRN_STATE_HG_WAIT (b2n (w false))).put Reg.TIR_RSW_STATE_HG_WAIT (b2n (w true || e))

/-- The packs of a group take a phase. -/
def groupPhase (g : RowGrp) (phase : Nat) (s : State) : State :=
  s.onTir fun x => { x with packs := x.packs.map (fun (p : Pack) => if inGroup g p.locator then { p with phase := phase } else p),
                            groups := x.groups.filter (· != g) }

/-- An owner's tokens, or its place in the queue, are given up. -/
def hgDrop (o : HgOwner) (s : State) : State :=
  hgReturn o (s.onPwr fun x => { x with hgWait := x.hgWait.filter (fun r => r.owner ≠ o) })

/-- A row group in flight fails: its tokens are returned and its packs are packed again (R107). -/
def failGroup (g : RowGrp) (s : State) : State := hgWaitSync (groupPhase g 2 (hgDrop (groupName g) s))

/-- Packs that are not confirmed and not being programmed are abandoned, their slots given back; programs under way end, erases stop, and their units
are erased again before their stripes open (R510). -/
def stopMediaWork (s : State) : State :=
  let live := s.tir.groups.filter (fun g => programming g s)
  let keep := fun (p : Pack) => p.phase == 1 || live.any (fun g => inGroup g p.locator)
  let gone := s.tir.packs.filter (fun p => !(keep p))
  let s := gone.foldl (fun s p => if p.kind = 4 then s else giveSlot p.slot s) s
  let s := s.tir.erases.foldl (fun s k => modStripe k (fun (e : Stripe) => { e with state := 3 }) s) s
  packSync (s.onTir fun x => { x with packs := x.packs.filter keep, groups := live, erases := [] })

end Sys2Proof.Machine
end

