-- ==== Sys2Proof/Machine/ReachOps.lean ====
section
/-!
DEFINITION. Sys2Proof/Machine/ReachOps.lean: shared operations on reaches: provisioning, release, the handover, a record's hold, and what an
acknowledgement brings (R20, R22, R35 to R44, R67, R92, R124, R380).
-/
namespace Sys2Proof.Machine

open Sys2Proof

/-- A record as it arrives, for this module's ring (R85). -/
def recOfWire (w : WireRec) (mirror : Bool) : Rec :=
  { Rec.blank (if w.kind = 1 then .full else if w.kind = 2 then .partWrite else if w.kind = 3 then .atomic else if w.kind = 5 then .reach
               else if w.kind = 6 then .void else .pad) with
      reach := w.reach, seq := w.seq, line := w.line, mask := w.mask, poison := w.poison, window := w.window, ticket := w.ticket, port := w.port,
      part := w.part, origin := w.origin, isLocal := w.isLocal, mirror := mirror, last := w.last,
      data := w.data.map (BitVec.ofNat 8) }

/-! ### Provisioning and release (R35 to R41) -/

/-- Drop everything the tiers and the footing hold of a reach (R33, R38, R161): entries, content, poison marks, translation. -/
def dropReach (n : Nat) (s : State) : State :=
  let gone := s.tir.xlt.filter (fun e => granReach e.1 == n)
  let s := gone.foldl (fun s e => modStripe (locStripe e.2.locator) (fun (y : Stripe) => { y with live := y.live - 1 }) s) s
  let grans := s.tir.dir.filter (fun e => granReach e.1 == n)
  let s := grans.foldl (fun s e => countFrame false 1 e.2 (countFrame false 0 e.2 s)) s
  let s := s.onTir fun x =>
    { x with dir := x.dir.filter (fun e => granReach e.1 != n), home := x.home.filter (fun c => c.1 / 2 ^ 36 != n),
             poison := x.poison.filter (fun e => lineReach e.1 != n), xlt := x.xlt.filter (fun e => granReach e.1 != n),
             gens := x.gens.filter (fun e => granReach e.1 != n), packQ := x.packQ.filter (fun g => granReach g != n),
             ageQ := x.ageQ.filter (fun e => granReach e.1 != n) }
  let s := s.onStore fun x => { x with wraps := x.wraps.filter (fun e => granReach e.1 != n) }
  (s.put Reg.CPH_WRAP_STATE_ENTRIES s.store.wraps.length).onMed fun x => { x with ckpt := x.ckpt.filter (fun e => granReach e.1 != n) }

/-- Reach n is provisioned: ACTIVE, with its kind and owner, no numbers given (R39, R41); a persistent reach takes its next serial (R380). -/
def provisionReach (n kind owner : Nat) (s : State) : State :=
  let s := dropReach n s
  let s := ((s.put (Reg.TIR_REACH_STATE n) 1).put (Reg.TIR_REACH_KIND n) kind).put (Reg.TIR_REACH_OWNER n) owner
  let s := (s.put (Reg.TIR_REACH_LOCAL_OWNED n) (b2n (owner == s.pos))).put (Reg.TIR_REACH_SEQ_LAST_SEQ n) 0
  let s := s.onCis fun x => { x with applied := tset 0 n 0 x.applied, assigned := tset 0 n 0 x.assigned, acked := tset 0 n 0 x.acked }
  let s := if kind = 0 then s.onStore fun x => { x with serials := tset 0 n (tget 0 n x.serials + 1) x.serials } else s
  poolSync s

/-- Reach n becomes UNPROVISIONED (R38, R39): its data goes, its records retire without a program (R103), ADOPT_SEQ is cleared. -/
def releaseReach (n : Nat) (s : State) : State :=
  let left := (s.cis.recs.filter (fun r => r.isData && !r.retired && r.reach == n)).length
  let s := (retireWhere (fun r => r.isData && r.reach == n) s).add (Reg.TIR_DRN_STAT_COUNT 5) left
  let s := dropReach n s
  let s := ((s.put (Reg.TIR_REACH_STATE n) 0).put (Reg.TIR_REACH_KIND n) 0).put (Reg.TIR_REACH_OWNER n) 0
  let s := ((s.put (Reg.TIR_REACH_LOCAL_OWNED n) 0).put (Reg.TIR_REACH_TWIN_LOCAL n) 0).put (Reg.TIR_REACH_SEQ_LAST_SEQ n) 0
  poolSync (s.put (Reg.TIR_REACH_ADOPT_SEQ_SEQ n) 0)

/-- A REACH record of reach n: its action, kind and owner in its payload slot (R41, R86; notes/assumptions/8.md). -/
def reachRec (n action kind owner : Nat) (mirror : Bool) (s : State) : Rec :=
  { Rec.blank .reach with reach := n, seq := assignedTo s n, origin := s.pos, mirror := mirror,
                          data := padTo 64 [BitVec.ofNat 8 action, BitVec.ofNat 8 kind, BitVec.ofNat 8 owner] }

/-- Every REACH record of reach n that this module has is applied. -/
def reachRecsApplied (s : State) (n : Nat) : Bool :=
  s.cis.recs.all (fun r => !(r.kind = RecKind.reach && r.reach == n) || r.applied) && s.cis.waitApp.all (fun r => !(r.kind = RecKind.reach && r.reach == n))

/-- Provisionings and releases whose REACH record both modules hold take effect; the command completes (R37, R466). -/
def reachOpsSync (s : State) : State :=
  let ready := fun (o : ReachOp) => o.own && o.twin && reachRecsApplied s o.reach
  let done := s.twn.reachOps.filter ready
  let s := s.onTwn fun x => { x with reachOps := x.reachOps.filter (fun o => !(ready o)) }
  done.foldl (fun s o =>
    let s := if o.action = 0 then provisionReach o.reach o.kind o.owner s else releaseReach o.reach s
    match o.mbx with
    | some m => if m ≥ 40 then s else complete m (if o.action = 0 then leBytes 8 (tget 0 o.reach s.store.serials) else []) s
    | none => linkSend "REACH_CTL" o.reach 0 [BitVec.ofNat 8 (2 + o.action)] s) s

/-! ### Handover (R43, R44) -/

/-- Step 3 of a handover: the last number passes to the twin, which is the owner from now on; FORWARDs that waited are returned without a record
(R43). -/
def passReach (n : Nat) (s : State) : State :=
  let last := assignedTo s n
  let r := reachRec n 2 0 (1 - s.pos) false s
  let s := linkSend "RECORDS" n last (recFull r) (append r false s)
  let s := (s.put (Reg.TIR_REACH_OWNER n) (1 - s.pos)).put (Reg.TIR_REACH_LOCAL_OWNED n) 0
  let s := linkSend "HANDOVER" n last [3] s
  let waits := s.cis.heldFwd.filter (fun o => (pieceReaches o.pieces).contains n || (match o.atomic with | some a => a.addr / 2 ^ 36 == n | none => false))
  let s := s.onCis fun x => { x with heldFwd := x.heldFwd.filter (fun o => !(waits.contains o)) }
  waits.foldl (fun s o => linkSend "RETURN" n o.ticket [BitVec.ofNat 8 (1 - s.pos)] s) s

/-- Handovers whose every record the twin has acknowledged go from step 2 to step 3 (R43). -/
def handoverSync (s : State) : State :=
  let ready := fun (h : Nat × Nat × Option Nat) => h.2.1 == 2 && decide (ackedTo s h.1 ≥ assignedTo s h.1) && s.cis.waitApp.all (fun r => r.reach != h.1)
  let go := s.twn.handovers.filter ready
  let s := s.onTwn fun x => { x with handovers := x.handovers.map (fun h => if ready h then (h.1, 3, h.2.2) else h) }
  go.foldl (fun s h => passReach h.1 s) s

/-- The owner begins a handover: HANDOVER, no more numbers (R43 steps 1 and 2). -/
def beginHandover (n : Nat) (mbx : Option Nat) (s : State) : State :=
  let s := s.put (Reg.TIR_REACH_STATE n) 2
  handoverSync (s.onTwn fun x => { x with handovers := x.handovers.filter (fun h => h.1 != n) ++ [(n, 2, mbx)] })

/-- A handover ends: the command that waits for it completes with the last number passed (R466). -/
def endHandover (n last : Nat) (s : State) : State :=
  let w := s.twn.handovers.find? (fun h => h.1 == n)
  let s := s.onTwn fun x => { x with handovers := x.handovers.filter (fun h => h.1 != n) }
  let s := s.put (Reg.TIR_REACH_STATE n) 1
  let s := match w with
    | some (_, _, some m) => complete m (leBytes 8 last) s
    | _ => s
  admitAll s

/-! ### A record is held (R20, R22, R67, R92) -/

/-- Whether a record becomes visible by this module's own hold (R67): a record the twin sent, a LOCAL record of an own reach that arrived here, any
record in SOLO. -/
def visibleOnHold (r : Rec) (s : State) : Bool :=
  r.mirror || s.soloPoint || (r.isLocal && ownsReach s r.reach && r.origin == s.pos) || r.kind = .void || r.kind = .xlate ||
    (r.kind = .reach && reachAction r == 2)

/-- Every part of an operation's number is held (R87, R92). -/
def numberHeld (s : State) (reach seq : Nat) : Bool :=
  let rs := s.cis.recs.filter (fun r => r.isData && r.reach == reach && r.seq == seq)
  match rs.find? (fun r => r.last) with
  | some l => (List.range (l.part + 1)).all (fun k => rs.any (fun r => r.part == k && r.held))
  | none => false

/-- The return frame of a forwarded write leaves once the owner holds every record of it (R21, R92). -/
def returnIfHeld (r : Rec) (s : State) : State :=
  if s.completes && r.isData && !r.mirror && r.origin != s.pos && ownsReach s r.reach && numberHeld s r.reach r.seq then
    let rs := s.cis.recs.filter (fun x => x.isData && x.reach == r.reach && x.seq == r.seq)
    let val := leBytes 8 (tget 0 r.ticket s.cis.fwdVals)
    let s := s.onCis fun x => { x with fwdVals := tdel r.ticket x.fwdVals }
    linkSend "RETURN" r.reach r.ticket (val ++ rs.flatMap recFull) s
  else s

/-- What follows a record's hold: LAST_SEQ, visibility, the count of the heartbeat, the return frame; then everything that can go on does. -/
def recordHeld (pos : Nat) (s : State) : State :=
  match s.cis.recs.find? (fun r => r.pos == pos && !r.held) with
  | none => s
  | some r =>
    let v := visibleOnHold r s
    let s := modRec pos (fun (x : Rec) => { x with held := true, visible := x.visible || v }) s
    let s := if (r.isData || r.kind = .void) && decide (r.seq > s.get (Reg.TIR_REACH_SEQ_LAST_SEQ r.reach))
      then s.put (Reg.TIR_REACH_SEQ_LAST_SEQ r.reach) r.seq else s
    let s := if r.mirror then s.onTwn fun x => { x with heldN := x.heldN + 1 } else s
    let s := if r.kind = .reach then s.onTwn fun x => { x with reachOps := x.reachOps.map (fun (o : ReachOp) => if o.reach = r.reach then { o with own := true } else o) } else s
    reachOpsSync (settle (returnIfHeld r s))

/-! ### Acknowledgements (R24, R67, R124) -/

/-- An ACK entry: every record of the reach up to the number is held and applied at the twin.  A number never sent is ignored (R157). -/
def ackEntry (e : Nat × Nat) (s : State) : State :=
  if e.2 > assignedTo s e.1 || e.2 ≤ ackedTo s e.1 then s
  else
    let s := s.onCis fun x => { x with acked := tset 0 e.1 e.2 x.acked }
    s.onCis fun x =>
      { x with recs := x.recs.map (fun (r : Rec) => if r.isData && r.reach == e.1 && decide (r.seq ≤ e.2) && !r.mirror then { r with visible := true } else r) }

end Sys2Proof.Machine
end

