-- ==== Sys2Proof/Machine/IntegrityOps.lean ====
section
/-!
DEFINITION. Sys2Proof/Machine/IntegrityOps.lean: what a decoder's or a parity check's finding leads to (06_bench_cache.md R211, R212;
08_data_integrity.md R265 to R277, R294), and the rebuild of a copy (R184).
-/
namespace Sys2Proof.Machine

open Sys2Proof

/-- Record the last uncorrectable error (ECC_UE_LOG). -/
def logUe (domain unit : Nat) (poisoned : Bool) (addr : Nat) (s : State) : State :=
  (((s.put Reg.ECC_UE_LOG0_DOMAIN domain).put Reg.ECC_UE_LOG0_UNIT unit).put Reg.ECC_UE_LOG0_POISONED (b2n poisoned)).put Reg.ECC_UE_LOG0_ADDR addr
    |>.put Reg.ECC_UE_LOG1_EPOCH s.epoch

/-- Record a parity error (BCH_PAR_LOG, R211). -/
def logParity (bank set way sector : Nat) (tag dirty victim : Bool) (s : State) : State :=
  let s := (((s.put Reg.BCH_PAR_LOG_BANK bank).put Reg.BCH_PAR_LOG_SET set).put Reg.BCH_PAR_LOG_WAY way).put Reg.BCH_PAR_LOG_SECTOR sector
  (((s.put Reg.BCH_PAR_LOG_TAG (b2n tag)).put Reg.BCH_PAR_LOG_DIRTY (b2n dirty)).put Reg.BCH_PAR_LOG_VICTIM (b2n victim)).put
    Reg.BCH_PAR_LOG_EPOCH_LOW (s.epoch % 2 ^ 32)

/-- A parity error of event 0x0340: counted for the bank and for PARITY_LIMIT (R211, R217). -/
def softParity (bank : Nat) (s : State) : State :=
  let s := (s.inc (Reg.BCH_STAT_COUNT bank 7)).onTir fun x => { x with parity := x.parity ++ [(bank, s.epoch)] }
  raise 0x0340 bank 0 s

/-- A bench parity error in a block's data sector or in its tag and state bits (R211, R212): cleared when clean, fatal when dirty. -/
def benchParity (isMeta : Bool) (ba sector : Nat) (tag : Bool) (s : State) : State :=
  match benchFind isMeta ba s with
  | none => s
  | some (w, e) =>
    let b := benchBank ba
    let bad := if tag then e.dirty != 0 else bitOf sector e.dirty
    let s := logParity b (benchSet ba) w (if tag then 0 else sector) tag bad false s
    if bad then failFatal (raise 0x0341 b 0 s)
    else
      let s := softParity b s
      if tag then putWay ba w { e with valid := 0, poison := 0 } s
      else putWay ba w { e with valid := setBit e.valid sector false, poison := setBit e.poison sector false } s

/-- Take the move lock for a rebuild of a granule (R184, R273), or wait for it. -/
def startRebuild (g : Nat) (s : State) : State :=
  let s := (takeLock g { kind := .rebuild, holder := 0 } s).2
  (s.onTir fun x => { x with rebuilds := if x.rebuilds.contains g then x.rebuilds else x.rebuilds ++ [g] }).inc (Reg.TIR_TIER_STAT_COUNT 14)

/-- Counter k of the unit that holds a line's loft or floor copy. -/
def eccCount (inLoft : Bool) (e : Gran) (k : Nat) (s : State) : State :=
  if inLoft then s.inc (Reg.ECC_LOFT_CNT_COUNT e.loftStack k) else s.inc (Reg.ECC_FLOOR_CNT_COUNT e.floorChannel k)

/-- An error is kept for the rolling 24 h of R294. -/
def noteErr (key : Nat) (s : State) : State := s.onTir fun x => { x with errs := (key, s.epoch) :: x.errs }

/-- Errors of a counter within the last 24 h (R294). -/
def errsOf (s : State) (key : Nat) : Nat := (s.tir.errs.filter (fun e => e.1 == key && decide (s.epoch < e.2 + 86400000000))).length

/-- A corrected error on a floor device (ECC_DEV_CE, R294). -/
def deviceError (c v : Nat) (s : State) : State := noteErr (40 * c + v) (s.addSat (Reg.ECC_DEV_CE_COUNT c v) 1)

/-- An uncorrectable error of a loft stack or a floor channel (R294). -/
def unitError (inLoft : Bool) (unit : Nat) (s : State) : State :=
  if inLoft then noteErr (656 + unit) (s.inc (Reg.ECC_LOFT_CNT_COUNT unit 1)) else noteErr (640 + unit) (s.inc (Reg.ECC_FLOOR_CNT_COUNT unit 1))

/-- Byte address of a line in its loft or floor frame (ECC_UE_LOG.ADDR). -/
def frameAddr (inLoft : Bool) (e : Gran) (line : Nat) : Nat := (if inLoft then e.loftIndex else e.floorIndex) * 16384 + line % 256 * 64

/-- A loft or floor line decodes UNCORRECTABLE (R273, R274). -/
def lineUncorrectable (inLoft other : Bool) (line : Nat) (s : State) : State :=
  let g := lineGran line
  let e := s.gran g
  if !(if inLoft then e.loft else e.floor) then s
  else
    let unit := if inLoft then e.loftStack else e.floorChannel
    let s := unitError inLoft unit s
    let lost := e.pinned && !other
    let s := logUe (if inLoft then 0 else 1) unit lost (frameAddr inLoft e line) s
    if lost then raise 0x0305 g (line % 256) ((loseLine line s).inc (Reg.ECC_POISON_STAT_COUNT 0))
    else
      let s := raise (if inLoft then 0x0302 else 0x0304) unit g (eccCount inLoft e 3 s)
      let elsewhere := if inLoft then e.floor && bitOf (lineIdx line) e.floorValid else e.loft && bitOf (lineIdx line) e.loftValid
      if e.pinned || elsewhere then s else startRebuild g s

/-- A loft or floor line decodes CORRECTED: counted, with its rate-limited event; on the floor the device's count rises (R265, R294). -/
def lineCorrected (inLoft : Bool) (device line : Nat) (s : State) : State :=
  let e := s.gran (lineGran line)
  let s := eccCount inLoft e 0 s
  if inLoft then raiseRl 0x0301 e.loftStack 0 s
  else raiseRl 0x0303 e.floorChannel device (deviceError e.floorChannel (device % 40) s)

/-- What a finding leads to while a step reads `line`. -/
def memFault (f : MemFault) (line : Nat) (s : State) : State :=
  match f with
  | .none => s
  | .bench m ba sec tag => benchParity m ba (sec % 4) tag s
  | .victim ba =>
    if s.tir.victims.any (fun v => v.ba == ba) then failFatal (raise 0x0341 (benchBank ba) 0 (logParity (benchBank ba) (benchSet ba) 0 0 false true true s)) else s
  | .corrected l d => lineCorrected l d line s
  | .uncorrectable l o => lineUncorrectable l o line s
  | .metaLine ok => if ok then raise 0x030E (lineGran line) 0 s else failFatal (raise 0x030E (lineGran line) 1 s)
  | .cisternCorrected => s.inc (Reg.ECC_CST_STAT_COUNT 0)
  | .cisternOne => s.inc (Reg.ECC_CST_STAT_COUNT 1)
  | .cisternBoth g =>
    let s := raise 0x0308 g 0 (s.inc (Reg.ECC_CST_STAT_COUNT 2))
    s.onTir fun x => { x with packQ := g :: x.packQ.filter (· != g) }
  | .ondieCorrected i => raiseRl 0x030F i 0 (s.inc (Reg.ECC_ONDIE_STAT_COUNT 0))
  | .ondieCell lines =>
    raise 0x0310 0 0 (lines.foldl (fun s l => (setPoison l true s).inc (Reg.ECC_POISON_STAT_COUNT 0)) (logUe 3 0 true 0 (s.inc (Reg.ECC_ONDIE_STAT_COUNT 1))))
  | .ondieGroup lane unit group =>
    let s := raise 0x0310 0 0 (logUe 3 0 false 0 (s.inc (Reg.ECC_ONDIE_STAT_COUNT 1)))
    match findGroup lane unit group s with | some g => failGroup g s | none => s
  | .ondieQp qp dirty =>
    let s := raise 0x0310 0 0 (logUe 3 0 false 0 (s.inc (Reg.ECC_ONDIE_STAT_COUNT 1)))
    let held := s.rdm.cache.contains qp
    let s := s.onRdm fun x => { x with cache := x.cache.filter (· != qp) }
    if dirty then contextLost qp s
    else if held && !(s.rdm.fetching.contains qp) then rdmSync ((s.onRdm fun x => { x with fetching := x.fetching ++ [qp] }).inc (Reg.RDM_STAT_COUNT 6)) else s
  | .ondieFatal i => failFatal (raise 0x0310 i 0 (logUe 3 i false 0 (s.inc (Reg.ECC_ONDIE_STAT_COUNT 1))))

/-- A PARTIAL or ATOMIC record that is applied over a CORRECTED line is merged over the corrected word (R272). -/
def mergeFault (f : MemFault) (r : Rec) (s : State) : State :=
  match f with
  | .corrected _ _ => if r.kind = RecKind.partWrite || r.kind = .atomic then raise 0x030A (lineGran r.line) (r.line % 256) s else s
  | _ => s

end Sys2Proof.Machine
end

