-- ==== Sys2Proof/Machine/Mailbox.lean ====
section
/-!
DEFINITION. Sys2Proof/Machine/Mailbox.lean: doorbells and the mailbox life cycle (14_mailbox_interface.md), the auto-responder (R434),
register access (R582 to R591) and the management port (R587 to R589), and the identity and statistics commands.
-/
namespace Sys2Proof.Machine

open Sys2Proof

/-! ### The opcode table (R457) -/

/-- The request lengths a command accepts: exactly n; base + step × k for k from lo to hi; or a range. -/
inductive LenRule where
  | exact (n : Nat)
  | steps (base step lo hi : Nat)
  | range (lo hi : Nat)
deriving DecidableEq, Repr

/-- One row of the opcode table: level 0 OBSERVE, 1 OPERATE, 2 CONFIGURE, 3 FACTORY; P0 and ROM marks. -/
structure OpRow where
  code  : Nat
  level : Nat
  len   : LenRule
  p0    : Bool
  rom   : Bool
deriving DecidableEq, Repr

/-- Groups 0x01 to 0x06 of R457. -/
def opTableA : List OpRow :=
  [⟨0x0101, 0, .exact 0, true, true⟩, ⟨0x0102, 0, .exact 0, true, true⟩, ⟨0x0181, 0, .steps 8 4 0 1022, false, false⟩,
   ⟨0x0201, 2, .exact 8, false, false⟩, ⟨0x0202, 2, .exact 8, false, true⟩,
   ⟨0x0301, 2, .exact 0, false, false⟩, ⟨0x0302, 2, .steps 8 16 1 255, false, false⟩, ⟨0x0303, 2, .exact 8, false, false⟩,
   ⟨0x0304, 2, .exact 16, false, false⟩, ⟨0x0305, 2, .exact 8, false, false⟩, ⟨0x0306, 0, .exact 8, false, false⟩,
   ⟨0x0401, 2, .exact 48, false, false⟩, ⟨0x0402, 2, .exact 8, false, false⟩, ⟨0x0403, 2, .exact 48, false, false⟩,
   ⟨0x0404, 2, .exact 8, false, false⟩, ⟨0x0405, 1, .exact 8, false, false⟩, ⟨0x0406, 2, .exact 32, false, false⟩,
   ⟨0x0407, 2, .exact 8, false, false⟩, ⟨0x0408, 2, .exact 8, false, false⟩, ⟨0x0409, 0, .exact 16, false, false⟩,
   ⟨0x0481, 0, .exact 8, false, false⟩,
   ⟨0x0501, 2, .exact 8, false, false⟩, ⟨0x0502, 2, .exact 8, false, false⟩, ⟨0x0503, 2, .exact 64, false, false⟩,
   ⟨0x0504, 2, .exact 16, false, false⟩, ⟨0x0505, 1, .exact 8, false, false⟩, ⟨0x0506, 2, .exact 8, false, false⟩,
   ⟨0x0507, 1, .exact 8, false, false⟩, ⟨0x0508, 2, .exact 16, false, false⟩, ⟨0x0509, 2, .exact 8, false, false⟩,
   ⟨0x0581, 2, .exact 48, false, false⟩, ⟨0x0582, 2, .exact 8, false, false⟩, ⟨0x0583, 0, .exact 8, false, false⟩,
   ⟨0x0584, 0, .exact 8, false, false⟩,
   ⟨0x0601, 2, .exact 8, true, false⟩, ⟨0x0602, 2, .exact 8, true, false⟩, ⟨0x0603, 2, .exact 8, true, false⟩,
   ⟨0x0604, 0, .exact 0, true, true⟩, ⟨0x0605, 2, .exact 0, true, false⟩, ⟨0x0606, 2, .exact 8, true, false⟩,
   ⟨0x0607, 2, .exact 8, true, false⟩, ⟨0x0608, 2, .exact 0, true, false⟩, ⟨0x0609, 2, .exact 8, true, false⟩]

/-- Groups 0x07 to 0x0E of R457. -/
def opTableB : List OpRow :=
  [⟨0x0701, 0, .exact 8, false, false⟩, ⟨0x0702, 0, .exact 0, true, false⟩, ⟨0x0703, 0, .exact 8, false, false⟩,
   ⟨0x0801, 2, .exact 8, false, false⟩, ⟨0x0802, 2, .exact 8, false, false⟩, ⟨0x0803, 2, .exact 0, false, false⟩,
   ⟨0x0804, 0, .exact 0, false, false⟩,
   ⟨0x0901, 2, .exact 56, false, false⟩, ⟨0x0902, 2, .exact 8, false, false⟩, ⟨0x0903, 2, .exact 16, false, false⟩,
   ⟨0x0904, 1, .range 64 4096, false, false⟩, ⟨0x0905, 0, .exact 8, false, false⟩,
   ⟨0x0A01, 0, .exact 0, false, true⟩, ⟨0x0A02, 2, .steps 16 32 1 127, false, true⟩, ⟨0x0A03, 2, .exact 8, false, true⟩,
   ⟨0x0A04, 2, .exact 0, false, false⟩, ⟨0x0A05, 3, .exact 40, false, true⟩,
   ⟨0x0B01, 0, .exact 16, false, true⟩, ⟨0x0B02, 0, .exact 0, false, true⟩, ⟨0x0B03, 1, .exact 48, false, false⟩,
   ⟨0x0C01, 0, .exact 0, true, false⟩, ⟨0x0C02, 2, .exact 0, false, false⟩, ⟨0x0C03, 0, .exact 0, false, false⟩,
   ⟨0x0D01, 2, .exact 0, false, true⟩, ⟨0x0D02, 0, .exact 0, false, true⟩, ⟨0x0D03, 0, .exact 0, false, true⟩,
   ⟨0x0E01, 2, .exact 16, false, false⟩, ⟨0x0E02, 2, .exact 8, false, false⟩, ⟨0x0E03, 0, .exact 0, false, false⟩,
   ⟨0x0E04, 2, .exact 8, false, false⟩, ⟨0x0E81, 0, .exact 8, false, false⟩, ⟨0x0E82, 0, .exact 8, false, false⟩]

/-- The row of an opcode. -/
def opRow (op : Nat) : Option OpRow := (opTableA ++ opTableB).find? (fun r => r.code == op)

/-- Whether a length is one the command accepts (R445 check 4, R457). STATS_READ's own length rule is R459's. -/
def LenRule.accepts : LenRule → Nat → Bool
  | .exact n, l => l == n
  | .steps base step lo hi, l => decide (base ≤ l) && (l - base) % step == 0 && decide (lo ≤ (l - base) / step) && decide ((l - base) / step ≤ hi)
  | .range lo hi, l => decide (lo ≤ l) && decide (l ≤ hi)

/-- The level a mailbox runs at (R439): a host mailbox OPERATE, CONFIGURE while a session of its management logical device at that level
is open; a management mailbox its session's level; a pair mailbox CONFIGURE. -/
def mailboxLevel (m sess : Nat) (s : State) : Nat :=
  if m < 32 then
    (if s.sess.any (fun e => !e.2.mgmt && e.2.secured && e.2.port == m / 4 && e.2.ld == s.get (Reg.HPT_PORT_CFG_MGMT_LD (m / 4)) && decide (e.2.level ≥ 2))
     then 2 else 1)
  else if m < 36 then (match tfind sess s.sess with | some e => e.level | none => 0)
  else 2

/-- Check 6 of R445 on group and port (R437, R439). -/
def groupAllowed (m op : Nat) (s : State) : Bool :=
  let g := op / 256
  if m ≥ 36 then g == 1 || g == 6
  else if m < 32 && (op == 0x0401 || op == 0x0403 || op == 0x0406 || op == 0x0407 || op == 0x0408)
  then reqNat s m 0 1 % 8 == m / 4
  else true

/-- Checks 1 to 6 of R445, in order; none when all pass. -/
def ringCheck (m sess : Nat) (s : State) : Option (St × Nat) :=
  let op := s.get (Mb.opcode m)
  let len := s.get (Mb.length m)
  if m < 36 && !(bitOf m (s.get Reg.MBX_ENABLE_ENABLE)) then some (.notPermitted, noDetail)
  else match opRow op with
    | none => some (.unknownCommand, 0)
    | some r =>
      if len = 0xFFFF then some (.badField, 8)
      else if len > 4096 || !(r.len.accepts len) then some (.badLength, 8)
      else if s.get (Mb.priority m) = 0 && op % 256 < 0x80 && !r.p0 then some (.notPermitted, 2)
      else if mailboxLevel m sess s < r.level || !(groupAllowed m op s) then some (.notPermitted, noDetail)
      else none

/-- Queued foreman commands of one priority. -/
def queuedAt (p : Nat) (s : State) : List Nat :=
  s.mbx.queue.filter (fun m => s.get (Reg.MBX_STATE_PRIORITY m) == p && s.get (Reg.MBX_STATE_FAST m) == 0)

/-- MBX_QUEUE as the queue stands. -/
def queueSync (s : State) : State :=
  (((s.put Reg.MBX_QUEUE_Q0 (queuedAt 0 s).length).put Reg.MBX_QUEUE_Q1 (queuedAt 1 s).length).put
    Reg.MBX_QUEUE_Q2 (queuedAt 2 s).length).put Reg.MBX_QUEUE_Q3 (queuedAt 3 s).length

/-- The auto-responder's hint where it answers (R434): `meanUs` is the mean service time of the last 100 ms. -/
def responderHint (op prio meanUs : Nat) (s : State) : Option Nat :=
  let st := s.get Reg.FMN_STATE_STATE
  if st = 1 then some ((120000 - s.get Reg.FST_OP_ELAPSED_US) * b2n (s.get Reg.FST_STATE_OP == 1) + 12 * s.get Reg.FST_OP_WORDS_LEFT)
  else if st = 2 then some (200000 - (s.epoch - s.fmn.restartAt))
  else if s.mode = .recovery then
    (match opRow op with | some r => if r.rom then none else some 0xFFFF | none => some 0xFFFF)
  else if (queuedAt prio s).length ≥ 16 then
    some (((List.range (prio + 1)).foldl (fun n p => n + (queuedAt p s).length) 0) * meanUs)
  else none

/-- A bay is IN_SERVICE (R454). -/
def bayInService (s : State) : Bool := (List.range 8).any (fun b => s.get (Reg.JNB_BAY_STATE_STATE b) == 3)

/-- A RING is entered: counted, SEQ and the header captured, the mailbox QUEUED (R443, R444). -/
def ringEntered (m : Nat) (s : State) : State :=
  let op := s.get (Mb.opcode m)
  let prio := s.get (Mb.priority m)
  let s := (s.onMbx fun x => { x with rings := x.rings + 1 }).inc (Reg.MBX_STAT_COUNT 0)
  let s := (((s.put (Mb.seq m) s.mbx.rings).put (Reg.MBX_STATE_OPCODE m) op).put (Reg.MBX_STATE_PRIORITY m) prio).put (Reg.MBX_STATE_FAST m)
    (b2n (decide (op % 256 ≥ 0x80)))
  (s.put (Reg.MBX_STATE_STATE m) 1).put (Reg.MBX_STATE_NOTIFY_PENDING m) 0

/-- A command joins the queue. -/
def enqueue (m : Nat) (s : State) : State := queueSync (s.onMbx fun x => { x with queue := x.queue ++ [m] })

/-- A RING accepted on mailbox m: entered, the checks of R445 on its header, the auto-responder, or the queue (R434, R443 to R448,
R451, R454). -/
def ringAccepted (m sess meanUs : Nat) (s : State) : State :=
  let t := ringEntered m s
  match ringCheck m sess s with
  | some (st, d) => refuse m st d t
  | none =>
    if s.get (Mb.opcode m) % 256 ≥ 0x80 then
      let t := t.inc (Reg.MBX_STAT_COUNT 5)
      if s.mode = .recovery || (s.mode = .bringup && !(bayInService s)) then refuse m .wrongMode noDetail t
      else enqueue m t
    else match responderHint (s.get (Mb.opcode m)) (s.get (Mb.priority m)) meanUs s with
      | some h => completeW m .busy h noDetail true [] ((t.inc (Reg.FMN_STAT_COUNT 1)).put Reg.FMN_STATE_RESPONDER 1)
      | none => enqueue m t

/-- Whether the module answers doorbells: not in STANDBY or SPILL (R453, R455). -/
def State.answers (s : State) : Bool := s.up && !(s.mode = .spill)

/-- MBX_RING: a doorbell in QUEUED or RUNNING is ignored and counted (R443, R444). -/
def execMbxRing (m sess meanUs : Nat) (s : State) : Out :=
  .next (if !s.answers || m ≥ 36 then s
    else if s.get (Reg.MBX_STATE_STATE m) = 1 || s.get (Reg.MBX_STATE_STATE m) = 2 then s.inc (Reg.MBX_STAT_COUNT 7)
    else ringAccepted m sess meanUs s)

/-- MBX_CANCEL: a QUEUED command completes with ABORTED; ignored otherwise (R443, R444). -/
def execMbxCancel (m : Nat) (s : State) : Out :=
  .next (if s.answers && s.get (Reg.MBX_STATE_STATE m) = 1
    then queueSync (completeW m .aborted 0 noDetail false [] s) else s)

/-- MBX_ACK: COMPLETE to IDLE; ALERT_N is released when no management mailbox still signals (R443, R444). -/
def execMbxAck (m : Nat) (s : State) : Out :=
  .next (if s.answers && s.get (Reg.MBX_STATE_STATE m) = 3 then
    let s := (s.put (Reg.MBX_STATE_STATE m) 0).put (Reg.MBX_STATE_NOTIFY_PENDING m) 0
    if (List.range 4).any (fun k => s.get (Reg.MBX_STATE_NOTIFY_PENDING (32 + k)) == 1) then s else s.put Reg.GLB_DISCRETES_ALERT_N 0
  else s)

/-- Whether the foreman may start m's command now: it runs, and no queued command comes before m by priority and arrival (R429, R470). -/
def mayStart (m : Nat) (s : State) : Bool :=
  let p := s.get (Reg.MBX_STATE_PRIORITY m)
  (s.get Reg.FMN_STATE_STATE == 0 || s.get Reg.FMN_STATE_STATE == 3) &&
    (List.range p).all (fun q => (queuedAt q s).isEmpty) && (queuedAt p s).head? == some m

/-- MBX_COMMAND_START: a queued command goes to RUNNING, a fast-lane one on a joiner, another on the foreman (R443, R451). -/
def execMbxCommandStart (m : Nat) (s : State) : Out :=
  .next (if s.answers && s.get (Reg.MBX_STATE_STATE m) = 1 && s.mbx.queue.contains m then
    let fast := s.get (Reg.MBX_STATE_FAST m) == 1
    if fast || mayStart m s then
      let s := (s.onMbx fun x => { x with queue := x.queue.filter (· != m), running := x.running ++ [m] }).put (Reg.MBX_STATE_STATE m) 2
      queueSync (if fast then s else s.inc (Reg.FMN_STAT_COUNT 0))
    else s
  else s)

/-- PAIR_MAILBOX_COMMAND: a management command of the twin's foreman arrives for pair mailbox m (36 to 39) with its payload; it runs at
priority 0 through the same checks (R437, R440). -/
def execPairMailboxCommand (m op : Nat) (payload : List Nat) (s : State) : Out :=
  .next (if s.answers && decide (36 ≤ m) && decide (m < 40) &&
      !(s.get (Reg.MBX_STATE_STATE m) = 1 || s.get (Reg.MBX_STATE_STATE m) = 2) then
    let bytes := (payload.map (BitVec.ofNat 8)).take 4096
    let s := s.onMbx fun x => { x with payload := writeBytes (m * 4096) bytes x.payload }
    let s := ((s.put (Mb.opcode m) op).put (Mb.priority m) 0).put (Mb.length m) bytes.length
    ringAccepted m 0 0 s
  else s)

/-! ### Register access (R582 to R586, R590, R591) -/

/-- What is left of an offset inside a register instance, if the offset lies in one (R584). -/
def dimRem : List (Nat × Nat) → Nat → Option Nat
  | [], r => some r
  | (stride, count) :: ds, r => if r / stride < count then dimRem ds (r % stride) else none

/-- The register at an offset: its definition and the offset of its first byte (R584). -/
def regIn (off : Nat) : List RegDef → Option (RegDef × Nat)
  | [] => none
  | r :: rs =>
    if r.off ≤ off then
      match dimRem r.dims (off - r.off) with
      | some k => if k < r.width / 8 then some (r, off - k) else regIn off rs
      | none => regIn off rs
    else regIn off rs

/-- The register at an offset of the control space. -/
def regAt (off : Nat) : Option (RegDef × Nat) := regIn off regTable

/-- What the register at `base` reads where it is the shadow of other state (the units and their DIMMs, cistern copies and pools of R593, the islands of
R592) or a measurement or traffic count that the commands do not spell out, whose value is open (notes/assumptions/9.md). -/
def shadowValue (s : State) (base : Nat) : Option Nat :=
  let open64 := Config.measured base s.epoch % 2 ^ 64
  let statIs := fun (f : Fld) => decide (base = f.key / 512)
  if 0xA0100 ≤ base ∧ base < 0xA01E0 then
    let i := (base - 0xA0100) / 8
    some (b2n (decide (i < s.get Reg.CLK_STATE_RUNNING)) + Config.measured base 0 % 151 * 2 ^ 16 + Config.measured base 1 % 65536 * 2 ^ 32)
  else if 0x400000 ≤ base ∧ base < 0x440000 then
    let c := (base - 0x400000) / 0x4000
    let o := (base - 0x400000) % 0x4000
    let dimms := b2n (decide (s.get (Reg.FLC_DIMM_GIB c 0) > 0)) + b2n (decide (s.get (Reg.FLC_DIMM_GIB c 1) > 0))
    if o = 0 then some (unitState s (14 + c) + 8 * dimms + 32 * s.get (Reg.FLC_CH_STATE_REFUSED c))
    else if o = 0x40 then some (if dimms = 2 then 5600 else if dimms = 1 then 6400 else 0)
    else if o = 0x48 ∨ o = 0x50 then some (Config.measured base 0 % 2 ^ 64)
    else if 0x100 ≤ o then some open64
    else none
  else if 0x440000 ≤ base ∧ base < 0x480000 then
    let n := (base - 0x440000) / 0x10000
    let o := (base - 0x440000) % 0x10000
    let yard := (List.range 16).any (fun p => s.inForce (Reg.YRD_POOL_CFG_STACK p) == n && decide (0 < s.inForce (Reg.YRD_POOL_CFG_COUNT p)))
    if o = 0 then some (unitState s (30 + n) + 8 * b2n ((cisternStacks s).contains n) + 16 * b2n yard)
    else if 0x100 ≤ o then some open64
    else none
  else if 0x3C0100 ≤ base ∧ base < 0x3E0000 then
    let p := (base - 0x3C0100) / 0x10000
    let k := (base - 0x3C0100) % 0x10000 / 8
    if k = 1 then some (s.get (Reg.TWN_PORT_STAT_COUNT p 0)) else if k = 4 ∨ k = 5 then some 0 else some open64
  else if statIs Reg.FMN_LOAD_P0 then
    some (leNat ((List.range 4).map fun k => BitVec.ofNat 8 (Config.measured (base + k) s.epoch % 101)))
  else if (List.range 2).any (fun p => statIs (Reg.TWN_PORT_STAT_COUNT p 6)) || (List.range 3).any (fun k => statIs (Reg.CPH_CLASS_STAT_COUNT k)) ||
      (List.range 8).any (fun p => (List.range 3).any (fun k => statIs (Reg.HPT_LINK_STAT_COUNT p k)) || statIs (Reg.JNB_STAT_COUNT p 5)) ||
      (List.range 4).any (fun p => statIs (Reg.ETH_PORT_STAT_COUNT p 2) || statIs (Reg.ETH_PORT_STAT_COUNT p 3)) ||
      (List.range 32).any (fun c => statIs (Reg.SLC_CH_STAT_COUNT c 9)) then some open64
  else none

/-- The whole value of a register: its fields in place, reserved bits 0 (R582). -/
def regValue (s : State) (r : RegDef) (base : Nat) : Nat :=
  (shadowValue s base).getD <|
  r.fields.foldl (fun v f => v + tget f.reset (base * 512 + f.lo) s.regs * 2 ^ f.lo) 0

/-- What a read at an offset returns: a 64-bit register whole, a 32-bit one zero-extended, a wider one by its 64-bit words, 0 where no
register lies (R459, R582, R583). -/
def readAt (s : State) (off : Nat) : Nat :=
  match regAt off with
  | none => 0
  | some (r, base) => regValue s r base / 2 ^ (8 * (off - base)) % 2 ^ 64

/-- Write the fields of a register that `keep` lets through from the bytes of an access: `lo` is the access's first bit within the
register and `w` its width in bits. -/
def writeFields (base lo w v : Nat) (keep : FieldDef → Bool) (fs : List FieldDef) (s : State) : State :=
  fs.foldl (fun s f =>
    if keep f && decide (lo ≤ f.lo) && decide (f.lo + f.width ≤ lo + w) then s.put ⟨base * 512 + f.lo, f.width, f.reset⟩ (bitsOf (f.lo - lo) f.width v)
    else s) s

/-- The accessor operand of the write rows: 0–7 the management logical device of a host port and 8–15 a management session, as GLB_ACCESS numbers them; from 16,
BAR0 of logical device (acc - 16) % 16 of port (acc - 16) / 16 (notes/assumptions/102.md). -/
def isMgmt (acc : Nat) : Bool := decide (8 ≤ acc) && decide (acc < 16)

/-- The level a direct write to a register needs, none where it is written only through frames or by the controller (R585, R586):
GLB_SCRATCH, the bench maintenance registers and the view slots at OPERATE, MOD_CTL too but on the management port only, ECC_INJECT at FACTORY. -/
def directLevel (acc off : Nat) : Option Nat :=
  if 0x400 ≤ off ∧ off < 0x420 then some 1
  else if 0x182000 ≤ off ∧ off < 0x182018 then some 1
  else if 0x30000 ≤ off ∧ off < 0x40000 then some 1
  else if 0x181000 ≤ off ∧ off < 0x181400 ∧ off % 0x40 < 4 then some 1
  else if 0x206000 ≤ off ∧ off < 0x206004 then some 3
  else if 0x10008 ≤ off ∧ off < 0x1000C then some (if isMgmt acc then 1 else 4)
  else none

/-- The accessor's number in GLB_ACCESS: 0–7 a host port, 8–11 a management session. -/
def accessorNo (acc : Nat) : Nat := if acc < 16 then acc else (acc - 16) / 16 % 8

/-- Record a discarded write in GLB_ACCESS (R586). -/
def discardWrite (acc off : Nat) (s : State) : State :=
  ((s.put Reg.GLB_ACCESS_OFFSET off).put Reg.GLB_ACCESS_ACCESSOR (accessorNo acc)).addSat Reg.GLB_ACCESS_COUNT 1

/-- A write below the level it needs: recorded, and on BAR0 a violation of the host port (R321, R586). -/
def discardBelow (acc off : Nat) (s : State) : State :=
  if isMgmt acc then discardWrite acc off s else hostViolation (accessorNo acc) (discardWrite acc off s)

/-- The answer a management session gets to a write (R588); BAR0 writes have none. -/
def mgmtReply (acc : Nat) (st : St) (s : State) : State := if isMgmt acc then s.send (.reply acc st.code []) else s

/-- The level of an accessor: a host port's management logical device (R298) and a management session as their mailboxes (R439), any other logical device OBSERVE. -/
def accessorLevel (acc : Nat) (s : State) : Nat :=
  if isMgmt acc then mailboxLevel 32 (acc - 8) s
  else if acc < 8 ∨ (acc - 16) % 16 = s.get (Reg.HPT_PORT_CFG_MGMT_LD (accessorNo acc)) then mailboxLevel (4 * accessorNo acc) 0 s
  else 0

/-- The control space takes a write: not in SPILL, and from the management port only while that is enabled (R319, R591). -/
def writeCarried (acc : Nat) (s : State) : Bool := !decide (s.mode = .spill) && (!isMgmt acc || decide (s.get Reg.GLB_MGT_CFG_ENABLE ≠ 0))

/-- A write with a row of its own, to the register at `off` and with effect `f`: below `level` it is discarded; a management session is answered (R585, R586, R588). -/
def pulseWrite (acc off level : Nat) (f : State → State) (s : State) : State :=
  if !writeCarried acc s then s
  else if accessorLevel acc s < level then mgmtReply acc .notPermitted (discardBelow acc off s)
  else mgmtReply acc .done (f s)

/-- A write into a view slot: header bytes 0–31 and payload, of the accessor's mailbox; discarded and counted while QUEUED or RUNNING,
without effect on header bytes 32–63 (R438, R441, R444). -/
def writeView (acc off width v : Nat) (s : State) : State :=
  let k := (off - 0x30000) / 0x4000
  let m := if isMgmt acc then 32 + k else 4 * accessorNo acc + k
  let o := (off - 0x30000) % 0x4000
  if s.get (Reg.MBX_STATE_STATE m) = 1 || s.get (Reg.MBX_STATE_STATE m) = 2 then s.inc (Reg.MBX_STAT_COUNT 7)
  else if o < 32 then
    [Mb.opcode m, Mb.priority m, Mb.notify m, Mb.tag m, Mb.length m].foldl (fun s f =>
      let lo := f.key % 512
      if 8 * o ≤ lo ∧ lo + f.width ≤ 8 * o + 8 * width then s.put f (bitsOf (lo - 8 * o) f.width v) else s) s
  else if 0x1000 ≤ o ∧ o < 0x2000 then
    s.onMbx fun x => { x with payload := writeBytes (m * 4096 + (o - 0x1000)) (leBytes width v) x.payload }
  else s

/-- A write of BCH_MAINT_OP with GO and the reserved OP 3: BUSY while an operation runs, the write ignored, BAD_FIELD otherwise (R210).  GO with another OP is a row
of its own. -/
def maintReserved (off v : Nat) : Bool := off == 0x182000 && bitOf 4 v && v % 4 == 3

/-- A direct register write that reaches the control space. -/
def directWrite (acc off width v : Nat) (s : State) : State :=
  match regAt off with
  | none => mgmtReply acc .done s
  | some (r, base) =>
    match directLevel acc off with
    | none => mgmtReply acc .notPermitted (discardWrite acc off s)
    | some l =>
      if accessorLevel acc s < l then mgmtReply acc .notPermitted (discardBelow acc off s)
      else if 0x30000 ≤ off ∧ off < 0x40000 then mgmtReply acc .done (writeView acc off width v s)
      else if maintReserved off v && s.flag Reg.BCH_MAINT_OP_BUSY then mgmtReply acc .done (s.put Reg.BCH_MAINT_OP_STATUS St.busy.code)
      else if maintReserved off v then mgmtReply acc .done ((s.put Reg.BCH_MAINT_OP_OP 3).put Reg.BCH_MAINT_OP_STATUS St.badField.code)
      else mgmtReply acc .done
        (writeFields base (8 * (off - base)) (8 * width) v (fun f => f.access = .rw && !(decide (0x181000 ≤ base) && decide (base < 0x181400))) r.fields s)

/-- A write of the wrong size or alignment: BAD_FIELD on the management port; a violation, answered Unsupported Request, on BAR0 (R321, R582, R588). -/
def badAccess (acc : Nat) (s : State) : State :=
  if isMgmt acc then mgmtReply acc .badField s
  else respond (accessorNo acc) (if acc < 16 then s.get (Reg.HPT_PORT_CFG_MGMT_LD acc) else (acc - 16) % 16) 0 "Unsupported Request" [] (hostViolation (accessorNo acc) s)

/-- REGISTER_WRITE: a write of 4 or 8 bytes by an accessor.  An offset beyond the control space is answered BOUNDS on the management port; a register that is held in
reset keeps its value; in SPILL the management port discards every write and BAR0 answers nothing; nothing is written while frozen (R582, R586, R588, R591). -/
def execRegisterWrite (acc off width value : Nat) (s : State) : Out :=
  onLive s fun s =>
    if !isMgmt acc ∧ s.mode = .spill then s
    else if isMgmt acc ∧ s.get Reg.GLB_MGT_CFG_ENABLE = 0 then s
    else if (width ≠ 4 ∧ width ≠ 8) ∨ off % width ≠ 0 then badAccess acc s
    else if s.mode = .spill then mgmtReply acc (if off ≥ 0x4000000 then .bounds else .done) s
    else if off ≥ 0x4000000 then mgmtReply acc .bounds s
    else if !s.up && !(keptByReset (off * 512)) then mgmtReply acc .done s
    else directWrite acc off width value s

/-- MGMT_RAISE_LEVEL: OP 0x03 of a management session, with the verdict of the digest comparison (R589). -/
def execMgmtRaiseLevel (sess : Nat) (digestMatches : Bool) (s : State) : Out :=
  onLive s fun s =>
    if s.mode = .spill then s
    else match tfind sess s.sess with
    | none => s
    | some e =>
      if !e.mgmt then s
      else if s.store.variantB || s.store.raiseFail ≥ 3 then s.send (.reply (8 + sess) St.notPermitted.code [])
      else if digestMatches then
        ({ s with sess := tmod sess (fun e => { e with level := 3 }) s.sess }.put (Reg.GLB_SESSION_LEVEL sess) 3).send (.reply (8 + sess) 0 [])
      else (s.onStore fun x => { x with raiseFail := x.raiseFail + 1 }).send (.reply (8 + sess) St.authFailed.code [])

/-! ### Identity, health and statistics (R458, R459) -/

/-- The bytes of an ASCII string. -/
def asciiBytes (t : String) : List Byte := t.toList.map (fun c => BitVec.ofNat 8 c.toNat)

/-- Lowest IMAGE_VERSION of the bays in service, 0 when none (R458). -/
def lowestImage (s : State) : Nat :=
  let vs := ((List.range 8).filter (fun b => s.get (Reg.JNB_BAY_STATE_STATE b) == 3)).map (fun b => s.get (Reg.JNB_BAY_IMAGE_VERSION b))
  match vs with
  | [] => 0
  | v :: vs => vs.foldl Nat.min v

/-- The release word of IDENTIFY bytes 24–27: Sundyth 4.2 and its build (R458). -/
def releaseWord (s : State) : Nat := 2 + 4 * 256 + s.get Reg.GLB_RELEASE_BUILD * 65536

/-- Raw footing capacity in MB: 500,000 for each dense die the channels report, 125,000 for each low-latency one (R220, R221). -/
def rawFootingMb (s : State) : Nat :=
  (List.range 32).foldl (fun n c =>
    n + popCount 16 (s.get (Reg.SLC_CH_STATE_DIES_PRESENT c)) * (if s.get (Reg.SLC_CH_STATE_DIE_PROFILE c) = 0 then 500000 else 125000)) 0

/-- The response of IDENTIFY (R458); floor capacity from the DIMMs, raw footing capacity from the dies. -/
def identifyBytes (s : State) : List Byte :=
  let floor := (List.range 16).foldl (fun n c => n + s.get (Reg.FLC_DIMM_GIB c 0) + s.get (Reg.FLC_DIMM_GIB c 1)) 0
  padTo 128 (padTo 16 (asciiBytes (if s.store.variantB then "CSH-4896-1B" else "CSH-4896-1A")) ++ leBytes 8 s.store.serial ++
    leBytes 4 (releaseWord s) ++ leBytes 4 (lowestImage s) ++ leBytes 8 s.store.identity ++ leBytes 1 (s.get Reg.TIR_HAS_CFG_PAIR_POS) ++
    leBytes 1 (b2n s.store.variantB) ++ leBytes 2 (s.get Reg.TIR_HAS_CFG_REACH_LIMIT) ++ leBytes 4 floor ++ leBytes 8 (rawFootingMb s))

/-- IDENTIFY (R458). -/
def execIdentify (m : Nat) (s : State) : Out := onCmd m 0x0101 s fun s => complete m (identifyBytes s) s

/-- The response of HEALTH, sampled in one step (R458). -/
def healthBytes (s : State) : List Byte :=
  let boards := (List.range 8).foldl (fun v b => v + (if s.get (Reg.SLC_BOARD_STATE_STATE b) = 0 then 2 ^ b else 0)) 0
  padTo 64 (leBytes 1 (s.get Reg.MOD_STATE_MODE) ++ leBytes 1 (s.get Reg.TWN_STATE_PAIR_STATE) ++
    leBytes 1 (s.get Reg.TIR_CST_STATE_PAIR_ADMIT + 4 * s.get Reg.TIR_CST_STATE_COPIES + 16 * s.get Reg.TWN_STATE_DEGRADED) ++
    leBytes 1 (joinersInService s) ++ leBytes 1 (coresInService s) ++ leBytes 1 boards ++ leBytes 2 (s.get Reg.TIR_CST_STATE_FILL) ++
    leBytes 2 (s.get Reg.TIR_CST_LIMIT_EFFECTIVE_GIB) ++
    leBytes 2 (s.get Reg.PWR_THERM_STATE_MAX_C + (if s.get Reg.PWR_THERM_STATE_MAX_C ≥ 128 then 0xFF00 else 0)) ++
    leBytes 4 (s.get Reg.TIR_CST_LIMIT_E_MEASURED) ++ leBytes 8 (s.get Reg.TWN_GEN_GEN) ++ leBytes 8 s.epoch)

/-- HEALTH (R458). -/
def execHealth (m : Nat) (s : State) : Out := onCmd m 0x0102 s fun s => complete m (healthBytes s) s

/-- The first refusal among the offsets of a STATS_READ list (R459): status and entry. -/
def statsCheck : Nat → List Nat → Option (St × Nat)
  | _, [] => none
  | i, o :: os =>
    if o % 4 ≠ 0 then some (.badField, i)
    else if o ≥ 0x4000000 then some (.bounds, i)
    else if (0x20000 ≤ o ∧ o < 0x40000) ∨ (0x700000 ≤ o ∧ o < 0x710000) then some (.notPermitted, i)
    else statsCheck (i + 1) os

/-- STATS_READ: the listed registers in order, 8 B each (R459). -/
def execStatsRead (m : Nat) (s : State) : Out :=
  onCmd m 0x0181 s fun s =>
    let n := reqNat s m 0 2
    if n = 0 ∨ n > 512 then refuse m .badField (atPayload 0) s
    else if s.get (Mb.length m) ≠ 8 + 4 * n then refuse m .badLength 8 s
    else
      let offs := (List.range n).map (fun i => reqNat s m (8 + 4 * i) 4)
      match statsCheck 0 offs with
      | some (st, i) => refuse m st (atPayload (8 + 4 * i)) s
      | none => complete m (offs.flatMap (fun o => leBytes 8 (readAt s o))) s

/-- Complete a status command whose response layout the spec does not give: `n` open bytes (notes/assumptions/6.md). -/
def completeFree (m n : Nat) (s : State) : State :=
  let r := s.freeBytes n
  complete m r.1 r.2

end Sys2Proof.Machine
end

