-- ==== Sys2Proof/Machine/Bench.lean ====
section
/-!
DEFINITION. Sys2Proof/Machine/Bench.lean: the bench's own commands and events (06_bench_cache.md): banks, maintenance, fills that land, write-backs of the
victim buffer, the parity limit.
-/
namespace Sys2Proof.Machine

open Sys2Proof

/-! ### Banks (R213 to R217) -/

/-- BCH_BANK_INVALIDATE: a write of INVALIDATE by an accessor at OPERATE or above: a DISABLED bank is INVALIDATING, any other raises 0x0344 (R214, R216). -/
def execBchBankInvalidate (acc b : Nat) (s : State) : Out :=
  onUp s fun s =>
    let b := b % 16
    pulseWrite acc (0x181000 + 0x40 * b) 1 (fun s =>
      if s.get (Reg.BCH_BANK_STATE_STATE b) = 0 then s.put (Reg.BCH_BANK_STATE_STATE b) 3
      else raise 0x0344 b (s.get (Reg.BCH_BANK_STATE_STATE b)) s) s

/-- BANK_INVALIDATE_DONE: every way of the bank is cleared; DISABLED with INVALIDATED 1 (R214, R215). -/
def execBankInvalidateDone (b : Nat) (s : State) : Out :=
  onUp s fun s =>
    let b := b % 16
    if s.get (Reg.BCH_BANK_STATE_STATE b) ≠ 3 then s
    else
      let s := s.onTir fun x => { x with bench := x.bench.filter (fun e => e.1 / 12288 != b) }
      dirtySync b ((s.put (Reg.BCH_BANK_STATE_STATE b) 0).put (Reg.BCH_BANK_STATE_INVALIDATED b) 1)

/-- BANK_WRITEBACK_DONE: every dirty sector of a DISABLING bank is written back; DISABLED (R214). -/
def execBankWritebackDone (b : Nat) (s : State) : Out :=
  onUp s fun s =>
    let b := b % 16
    if s.get (Reg.BCH_BANK_STATE_STATE b) ≠ 2 then s
    else
      let n := (s.tir.bench.filter (fun e => e.1 / 12288 == b && e.2.dirty != 0)).length
      let s := s.onTir fun x => { x with bench := x.bench.map (fun (e : Nat × BWay) => if e.1 / 12288 = b then (e.1, { e.2 with dirty := 0 }) else e) }
      dirtySync b ((s.add (Reg.BCH_STAT_COUNT b 5) n).put (Reg.BCH_BANK_STATE_STATE b) 0)

/-- PARITY_LIMIT_REACHED: an ENABLED bank that counted PARITY_LIMIT errors in 24 h is disabled by itself (R217). -/
def execParityLimitReached (b : Nat) (s : State) : Out :=
  onUp s fun s =>
    let b := b % 16
    let lim := s.get Reg.BCH_CFG_PARITY_LIMIT
    let n := (s.tir.parity.filter (fun e => e.1 == b && decide (s.epoch < e.2 + 86400000000))).length
    if lim = 0 ∨ n < lim ∨ bankOn s b = false then s
    else raise 0x0342 b n (((s.put (Reg.BCH_BANK_STATE_STATE b) 2).put (Reg.BCH_BANK_STATE_INVALIDATED b) 0).put (Reg.BCH_BANK_STATE_AUTO_DISABLED b) 1)

/-! ### Maintenance (R207 to R210) -/

/-- The first refusal of a maintenance request whose GO is written while BUSY is 0 (R210). -/
def maintCheck (acc : Nat) (s : State) : Option St :=
  let range := s.get Reg.BCH_MAINT_OP_SCOPE == 1
  let n := s.get Reg.BCH_MAINT_LEN_LENGTH
  let len := if range then n else 64
  if range && (n == 2 ^ 49 - 1 || n == 0 || n % 64 != 0) then some .badField
  else if s.get Reg.BCH_MAINT_ADDR_LINE * 64 + len > 2 ^ 48 then some .bounds
  else if s.get Reg.BCH_MAINT_OP_SPACE = 1 ∧ accessorLevel acc s < 2 then some .notPermitted
  else none

/-- What an operation does to one way: dirty sectors of the range are written back, and cleared unless the operation is CLEAN (R207). -/
def maintWay (clean : Bool) (lo hi : Nat) (e : BWay) : BWay :=
  let hit := (List.range 4).foldl (fun m i => if lo ≤ 4 * e.ba + i ∧ 4 * e.ba + i < hi then m + 2 ^ i else m) 0
  let keep := 15 - hit
  if clean then { e with dirty := e.dirty &&& keep }
  else { e with dirty := e.dirty &&& keep, valid := e.valid &&& keep, poison := e.poison &&& keep }

/-- A fill that targets a range (R208). -/
def fillIn (space : Bool) (lo hi : Nat) (f : BFill) : Bool := f.isMeta == space && decide (4 * f.ba < hi) && decide (lo < 4 * f.ba + 4)

/-- The operation is over once no fill issued before its cut is outstanding (R208). -/
def maintDone (s : State) : State :=
  match s.tir.maint with
  | some (sp, lo, hi) =>
    if s.tir.bfills.any (fun f => f.cut && fillIn sp lo hi f) then s
    else ((s.onTir fun x => { x with maint := none }).put Reg.BCH_MAINT_OP_BUSY 0).put Reg.BCH_MAINT_OP_STATUS St.done.code
  | none => s

/-- A maintenance operation at its cut: op 0 INVALIDATE, 1 CLEAN, 2 FLUSH (R207, R208). -/
def maintCut (op : Nat) (s : State) : State :=
  let space := s.get Reg.BCH_MAINT_OP_SPACE == 1
  let lo := s.get Reg.BCH_MAINT_ADDR_LINE
  let hi := if s.get Reg.BCH_MAINT_OP_SCOPE = 1 then lo + s.get Reg.BCH_MAINT_LEN_LENGTH / 64 else lo + 1
  let ways := s.tir.bench.filter (fun e => e.2.isMeta == space && decide (4 * e.2.ba < hi) && decide (lo < 4 * e.2.ba + 4) && bankOn s (e.1 / 12288))
  let s := ways.foldl (fun s e =>
    let w := maintWay (op == 1) lo hi e.2
    let b := e.1 / 12288
    let s := putWay e.2.ba (e.1 % 16) w s
    dirtySync b (if w.dirty = e.2.dirty then s else s.inc (Reg.BCH_STAT_COUNT b 5))) s
  let s := s.onTir fun x => { x with maint := some (space, lo, hi),
                                     bfills := x.bfills.map (fun (f : BFill) => if fillIn space lo hi f then { f with cut := true } else f) }
  maintDone (s.put Reg.BCH_MAINT_OP_BUSY 1)

/-- GO written with an operation; while BUSY the write is ignored (R210). -/
def maintGo (acc op : Nat) (s : State) : State :=
  if s.get Reg.BCH_MAINT_OP_BUSY = 1 then s.put Reg.BCH_MAINT_OP_STATUS St.busy.code
  else
    let s := s.put Reg.BCH_MAINT_OP_OP op
    match maintCheck acc s with
    | some st => s.put Reg.BCH_MAINT_OP_STATUS st.code
    | none => maintCut op s

/-- BENCH_INVALIDATE: the line or range of the maintenance registers (R207). -/
def execBenchInvalidate (acc : Nat) (s : State) : Out := onUp s (pulseWrite acc 0x182000 1 (maintGo acc 0))

/-- BENCH_CLEAN (R207). -/
def execBenchClean (acc : Nat) (s : State) : Out := onUp s (pulseWrite acc 0x182000 1 (maintGo acc 1))

/-- BENCH_FLUSH (R207). -/
def execBenchFlush (acc : Nat) (s : State) : Out := onUp s (pulseWrite acc 0x182000 1 (maintGo acc 2))

/-! ### Fills and write-backs (R198 to R208) -/

/-- The sectors a fill installs: the requested one, with FILL_BLOCK every other that the copy holds valid and that is not valid yet (R198). -/
def fillSectors (f : BFill) (have_ : Nat) (s : State) : Nat :=
  (List.range 4).foldl (fun m i =>
    let inCopy := f.isMeta || bitOf ((4 * f.ba + i) % 256) (s.gran (lineGran (4 * f.ba))).valid
    if i = f.sector ∨ (s.flag Reg.BCH_CFG_FILL_BLOCK ∧ inCopy = true ∧ bitOf i have_ = false) then m + 2 ^ i else m) 0

/-- Install a fill that no maintenance operation has cut; it waits where no way is eligible yet (R198, R201 to R203). -/
def installFill (f : BFill) (s : State) : State :=
  let s := if (benchFind f.isMeta f.ba s).isNone then reserveWay f.isMeta f.ba s else s
  match benchFind f.isMeta f.ba s with
  | none => s
  | some (w, e) =>
    let s := s.onTir fun x => { x with bfills := x.bfills.erase f }
    let got := fillSectors f e.valid s
    let pois := (List.range 4).foldl (fun m i => if bitOf i got && !f.isMeta && linePoisoned s (4 * f.ba + i) then m + 2 ^ i else m) 0
    let more := s.tir.bfills.any (fun g => g.isMeta == f.isMeta && g.ba == f.ba)
    let dirty := if f.mod then setBit e.dirty f.sector true else e.dirty
    dirtySync (benchBank f.ba)
      (putWay f.ba w { e with valid := e.valid ||| got, poison := (e.poison &&& (15 - got)) ||| pois, age := f.age, filling := more, dirty := dirty } s)

/-- BENCH_FILL_LANDED: the oldest fill of a block lands: installed, or, after a cut, discarded and issued again; a waiting maintenance operation may then
be complete (R198, R208, R213). -/
def execBenchFillLanded (isMeta : Bool) (ba : Nat) (s : State) : Out :=
  onUp s fun s =>
    match s.tir.bfills.find? (fun f => f.isMeta == isMeta && f.ba == ba) with
    | none => s
    | some f =>
      let out := s.onTir fun x => { x with bfills := x.bfills.erase f }
      if !(bankOn s (benchBank ba)) then maintDone out
      else if f.cut then
        let s := out.inc (Reg.BCH_STAT_COUNT (benchBank ba) 8)
        maintDone (issueFill f.isMeta f.ba f.sector f.age f.mod s)
      else installFill f s

/-- VICTIM_WRITEBACK_ACK: the entry is released; a line that was asked for meanwhile is reinstalled clean, and a waiting modification makes it dirty again
(R204, R205). -/
def execVictimWritebackAck (ba : Nat) (s : State) : Out :=
  onUp s fun s =>
    match s.tir.victims.find? (fun v => v.ba == ba) with
    | none => s
    | some v =>
      let s := victimSync (s.onTir fun x => { x with victims := x.victims.erase v })
      if v.waits.isEmpty || !(bankOn s (benchBank ba)) then s
      else
        let s := reserveWay true ba s
        match benchFind true ba s with
        | none => s
        | some (w, e) =>
          let more := s.tir.bfills.any (fun g => g.isMeta && g.ba == ba)
          dirtySync (benchBank ba) (putWay ba w { e with valid := e.valid ||| v.sectors, filling := more, age := 0,
                                                         dirty := if v.waits.any id then e.dirty ||| v.sectors else e.dirty } s)

end Sys2Proof.Machine
end

