-- ==== Sys2Proof/Machine/TierMoves.lean ====
section
/-!
DEFINITION. Sys2Proof/Machine/TierMoves.lean: shared operations of the movers: starting and ending an eviction, a promotion and a rebuild, the sweep,
the arrival of a quarter, the loss of copies (05_tiers.md R164 to R186).
-/
namespace Sys2Proof.Machine

open Sys2Proof

/-! ### Evictions and promotions (R174 to R183) -/

/-- Start the eviction of a granule's copy of pool p that already has a move slot: the lock and what R175 does; the slot goes back when the copy is not
eligible. -/
def beginEvict (p g slot : Nat) (s : State) : State :=
  let e := s.gran g
  let a := evictAction p e s
  let clear := fun (e : Gran) => if p = 0 then { e with loftPend := false } else { e with floorPend := false }
  if a = 1 then modGran g (fun (e : Gran) => { clear e with lock := some { kind := if p = 0 then .dropLoft else .dropFloor, holder := slot } }) s
  else if a = 2 then
    match allocFloor g 0 e.age e.tenant s with
    | none => giveSlot slot (modGran g clear s)
    | some s => modGran g (fun (e : Gran) => { clear e with lock := some { kind := .demotion, holder := slot } }) s
  else giveSlot slot (modGran g clear s)

/-- Give a granule's copy of pool p up (R175). -/
def dropCopy (p g : Nat) (s : State) : State :=
  if p = 0 then modGran g (fun (e : Gran) => { e with loft := false, loftValid := 0, loftPend := false }) s
  else modGran g (fun (e : Gran) => { e with floor := false, floorValid := 0, floorPend := false, fillQ := 0 }) s

/-- Requests that waited on the drop of a last copy fetch the granule again, and that hit never promotes (R181, R182). -/
def refetchAfterDrop (g : Nat) (s : State) : State :=
  let e := s.gran g
  if !e.cached && e.footed && s.tir.waiting.any (fun r => lineGran r.line == g) then
    (s.onTir fun x => { x with waiting := x.waiting.map (fun (r : Req) => if lineGran r.line = g then { r with noPromote := true } else r) }).inc
      (Reg.TIR_TIER_STAT_COUNT 10)
  else s

/-- A drop, a promotion or a demotion completes: its lock and its slot are released (R176). -/
def endMove (g : Nat) (s : State) : State :=
  let e := s.gran g
  match e.lock with
  | some { kind := .dropLoft, holder := n } => refetchAfterDrop g (giveSlot n (dropLock g ((dropCopy 0 g s).inc (Reg.TIR_TIER_STAT_COUNT 7))))
  | some { kind := .dropFloor, holder := n } => refetchAfterDrop g (giveSlot n (dropLock g ((dropCopy 1 g s).inc (Reg.TIR_TIER_STAT_COUNT 8))))
  | some { kind := .promotion, holder := n } =>
    let s := modGran g (fun (e : Gran) => { e with loftValid := if e.floor then e.loftValid ||| e.floorValid else e.loftValid, age := 0 }) s
    giveSlot n (dropLock g (s.inc (Reg.TIR_TIER_STAT_COUNT 4)))
  | some { kind := .demotion, holder := n } =>
    let s := modGran g (fun (e : Gran) => { e with floorValid := e.floorValid ||| e.loftValid }) s
    giveSlot n (dropLock g ((dropCopy 0 g s).inc (Reg.TIR_TIER_STAT_COUNT 6)))
  | _ => s

/-- A mover abandoned with a copy's loss gives its lock and its slot back (R184). -/
def abandonMove (g : Nat) (s : State) : State :=
  let e := s.gran g
  match e.lock with
  | some { kind := .promotion, holder := n } => giveSlot n (dropLock g (dropCopy 0 g s))
  | some { kind := .dropLoft, holder := n } => giveSlot n (dropLock g s)
  | some { kind := .dropFloor, holder := n } => giveSlot n (dropLock g s)
  | some { kind := .demotion, holder := n } => giveSlot n (dropLock g s)
  | some { kind := .fill, holder := _ } => dropLock g s
  | _ => s

/-! ### Losing a copy (R184, R186) -/

/-- A granule loses its copy of pool p with the stack or channel that held it: the move that involves it is dropped with it, and a granule left with no
copy while records of it are not retired is rebuilt. -/
def loseCopy (p g : Nat) (s : State) : State :=
  let s := dropCopy p g (abandonMove g s)
  let e := s.gran g
  if !e.cached && decide (e.cistern > 0) then startRebuild g s else s

/-- A volatile granule's pair of floor copies moves away from a lost channel: a new index on channels k and k + 8 that are in service and are not the lost
channel; without such a pair the surviving copy stays, and when both are gone its lines read as poison (R186). -/
def moveVolatile (g lost : Nat) (s : State) : State :=
  let e := s.gran g
  let pairs := (List.range 8).filter (fun k => chanUp s k && chanUp s (k + 8) && k != lost % 8)
  match pairs.head? with
  | some k =>
    let q := s.free 25
    setGran g { e with floorChannel := k, floorIndex := q.1 } q.2
  | none =>
    if chanUp s (e.floorChannel % 8) || chanUp s (e.floorChannel % 8 + 8) || e.loft then s
    else (List.range 256).foldl (fun s i => loseLine (g * 256 + i) s) s

/-- The volatile granules whose pair of copies uses channel c. -/
def volatileOn (c : Nat) (s : State) : List Nat :=
  let reaches := (List.range 4096).filter (fun n => reachState s n != 0 && volatileReach s n && ownsReach s n)
  reaches.flatMap (fun n => ((List.range 4194304).map (fun i => n * 4194304 + i)).filter (fun g => (s.gran g).floorChannel % 8 == c % 8))

/-- A floor channel leaves service without a planned evacuation (R184 to R186, R294, R484): its copies are dropped, rebuilds start, its metadata pages are
rebuilt elsewhere, the pools are recomputed. -/
def loseChannel (c : Nat) (s : State) : State :=
  let s := unitFault (14 + c) s
  let gone := (s.tir.dir.filter (fun e => e.2.floor && !e.2.pinned && e.2.floorChannel == c)).map Prod.fst
  let s := gone.foldl (fun s g => loseCopy 1 g s) s
  let s := (volatileOn c s).foldl (fun s g => moveVolatile g c s) s
  poolSync (raise 0x030E c 0 s)

/-! ### The sweep (R164, R165) -/

/-- One granule as a pass visits it. -/
def sweepOne (g : Nat) (s : State) : State :=
  let e := s.gran g
  if !e.cached then s
  else
    let age := Nat.min 255 (e.age + 1)
    let la := s.get Reg.TIR_EVICT_CFG_LOFT_AGE
    let fa := s.get Reg.TIR_EVICT_CFG_FLOOR_AGE
    let ql := e.loft && la != 255 && decide (age ≥ la) && !e.loftPend
    let qf := e.floor && !e.pinned && fa != 255 && decide (age ≥ fa) && !e.floorPend
    let s := setGran g { e with age := age, loftPend := e.loftPend || ql, floorPend := e.floorPend || qf } s
    s.onTir fun x => { x with ageQ := x.ageQ ++ (if ql then [(g, true)] else []) ++ (if qf then [(g, false)] else []) }

/-- A pass starts: it visits each granule with a cached copy once. -/
def startSweep (s : State) : State :=
  let s := (s.onTir fun x => { x with sweepAt := s.epoch, sweepDue := false }).put Reg.TIR_SWP_STATE_RUNNING 1
  (s.tir.dir.map Prod.fst).foldl (fun s g => sweepOne g s) s

/-! ### A quarter arrives (R160, R168, R169, R171, R281, R282) -/

/-- Install a quarter in the granule's copies: lines already valid keep their content; the last quarter ends the fill and releases its lock. -/
def installQuarter (g q : Nat) (s : State) : State :=
  let e := s.gran g
  if !(bitOf q e.fillQ) then s
  else
    let m := quarterLines q
    let left := setBit e.fillQ q false
    let e := { e with fillQ := left, floorValid := if e.floor then e.floorValid ||| m else 0,
                      loftValid := if e.loft && e.loftValid != 0 then e.loftValid ||| m else e.loftValid }
    let s := setGran g e s
    if left = 0 ∧ e.lock.any (fun l => l.kind = LockKind.fill) then dropLock g s else s

/-! ### Pressure eviction (R179) -/

/-- Whether a pressure eviction of the pool goes on: it starts below START and stops at STOP. -/
def pressureOn (p : Nat) (s : State) : Bool :=
  let frames := s.get (Reg.TIR_POOL_SIZE_FRAMES p)
  let free := s.get (Reg.TIR_POOL_SIZE_FREE p)
  let start := if p = 0 then s.get Reg.TIR_EVICT_CFG_LOFT_START else s.get Reg.TIR_EVICT_CFG2_FLOOR_START
  let stop := if p = 0 then s.get Reg.TIR_EVICT_CFG_LOFT_STOP else s.get Reg.TIR_EVICT_CFG2_FLOOR_STOP
  decide (free * 1000 < frames * start) || (s.flag (Reg.TIR_POOL_STATE_EVICTING p) && decide (free * 1000 < frames * stop))

/-- The highest non-empty age bucket of a pool. -/
def topBucket (p : Nat) (s : State) : Nat :=
  (List.range 16).foldl (fun b i => if s.get (Reg.TIR_AGE_HIST_FRAMES p i) > 0 then i else b) 0

/-- Granules with a frame of the pool, from the hand on, in granule order (the order of frames is open: notes/assumptions/4.md). -/
def handOrder (p : Nat) (s : State) : List Nat :=
  let gs := (s.tir.dir.filter (fun e => e.2.inPool p)).map Prod.fst
  let h := tget 0 p s.tir.hand
  gs.filter (fun g => decide (g > h)) ++ gs.filter (fun g => decide (g ≤ h))

/-- The first victim at or above a cut, and how many locked granules the hand passes on its way. -/
def pickVictim (p cut : Nat) (s : State) : List Nat → Nat → Option Nat × Nat
  | [], n => (none, n)
  | g :: gs, n =>
    let e := s.gran g
    if e.lock.isSome || e.waiters.any (fun w => w.kind = LockKind.promotion) then pickVictim p cut s gs (n + 1)
    else if decide (e.age ≥ cut * 16) && evictAction p e s != 0 then (some g, n)
    else pickVictim p cut s gs n

/-- A victim, lowering the cut a bucket a round; `n` rounds at most. -/
def relieve (p : Nat) (s : State) : Nat → Nat → Option Nat × State
  | 0, _ => (none, s)
  | n + 1, cut =>
    let r := pickVictim p cut s (handOrder p s) 0
    let s := (s.put (Reg.TIR_POOL_STATE_CUT p) cut).add (Reg.TIR_TIER_STAT_COUNT 15) r.2
    match r.1 with
    | some g => (some g, s)
    | none => if cut = 0 then (none, s.put (Reg.TIR_POOL_STATE_FRAME_WAIT p) 1) else relieve p s n (cut - 1)

end Sys2Proof.Machine
end

