-- ==== Sys2Proof/Machine/LadderOps.lean ====
section
/-!
DEFINITION. Sys2Proof/Machine/LadderOps.lean: the recovery ladder of a footing quarter (08_data_integrity.md R278 to R284, 07_footing_media.md R242, R243) and
the merge of an answered copy (R153, R279).
-/
namespace Sys2Proof.Machine

open Sys2Proof

/-! ### Where a quarter lies (R225, R226, R228, R229, R257) -/

/-- Boards that hold slots of a stripe: all, or all but the one missing from a narrow stripe. -/
def stripeBoards (e : Stripe) : List Nat := if e.narrow then (List.range 8).filter (· != e.absent) else List.range 8

/-- The board that holds quarter q of the granule whose first slot a locator names. -/
def quarterBoard (loc q : Nat) (s : State) : Nat :=
  let e := s.stripe (locStripe loc)
  let bs := stripeBoards e
  let n := bs.length - 1
  let i := bitsOf 33 3 loc + q
  let row := bitsOf 18 15 loc + i / n
  bs.getD ((row % bs.length + 1 + i % n) % bs.length) 0

/-- The sluice that reads quarter q of a granule. -/
def quarterSluice (g q : Nat) (s : State) : Nat :=
  match tfind g s.tir.xlt with
  | some e => 4 * quarterBoard e.locator q s + bitsOf 0 2 e.locator
  | none => 0

/-- Every other slot of the quarter's row is on a present board, so that step 2 may run (R243, R278, R284). -/
def rowPresent (g q : Nat) (s : State) : Bool :=
  match tfind g s.tir.xlt with
  | some e => (stripeBoards (s.stripe (locStripe e.locator))).all (fun b => b == quarterBoard e.locator q s || s.get (Reg.SLC_BOARD_STATE_STATE b) != 2)
  | none => false

/-- The read-level shift tried as number n: first the one remembered for the unit, then the others in ascending order (R242). -/
def shiftAt (g q n : Nat) (s : State) : Nat :=
  match tfind g s.tir.xlt with
  | some e =>
    let k := 8 * locStripe e.locator + quarterBoard e.locator q s
    let r := tget 0 k s.tir.shiftOf
    (if r = 0 then [1, 2, 3, 4, 5, 6, 7] else r :: [1, 2, 3, 4, 5, 6, 7].filter (· != r)).getD n 0
  | none => 0

/-- The shift that corrected a quarter is remembered for its unit (R242). -/
def rememberShift (g q shift : Nat) (s : State) : State :=
  match tfind g s.tir.xlt with
  | some e => s.onTir fun x => { x with shiftOf := tset 0 (8 * locStripe e.locator + quarterBoard e.locator q s) shift x.shiftOf }
  | none => s

/-! ### Merging an answered copy (R153 step 1, R279) -/

/-- Lines of a granule take answered bytes and marks; then each local record above `snap` is applied over them, in its order. -/
def mergeAnswer (g lines : Nat) (data : List Host.Cell) (poison snap : Nat) (s : State) : State :=
  let s := installLines g lines data poison s
  (granRecs s g).foldl (fun s r =>
    if r.applied && decide (r.seq > snap) then
      (List.range (r.data.length / 64)).foldl (fun s i => if bitOf (lineIdx (r.line + i)) lines then applyLine r i s else s) s
    else s) s

/-! ### The ladder (R278 to R284) -/

/-- The ladder that runs on a quarter. -/
def ladderOn (g q : Nat) (s : State) : Option Ladder := s.tir.ladders.find? (fun l => l.quarter == 4 * g + q)

/-- Change the ladder of a quarter. -/
def modLadder (g q : Nat) (f : Ladder → Ladder) (s : State) : State :=
  s.onTir fun x => { x with ladders := x.ladders.map (fun (l : Ladder) => if l.quarter = 4 * g + q then f l else l) }

/-- The ladder of a quarter is over. -/
def dropLadder (g q : Nat) (s : State) : State := s.onTir fun x => { x with ladders := x.ladders.filter (fun l => l.quarter != 4 * g + q) }

/-- Lines of a quarter that no cached copy holds valid: full-line writes have made the others valid (R171, R284). -/
def ladderLines (g q : Nat) (s : State) : Nat :=
  let v := (s.gran g).valid
  (List.range 256).foldl (fun m i => if bitOf i (quarterLines q) && !(bitOf i v) then m + 2 ^ i else m) 0

/-- A ladder ends well: the quarter is installed and its requests are served in arrival order (R281). -/
def ladderGood (g q : Nat) (s : State) : State := settle (installQuarter g q (dropLadder g q s))

/-- A ladder ends in poison: lines not written in full meanwhile are poisoned, a poison pack is queued, event 0x0305 (R282). -/
def ladderPoison (g q : Nat) (late : Bool) (s : State) : State :=
  let m := ladderLines g q s
  let ls := (List.range 256).filter (fun i => bitOf i m)
  let s := ls.foldl (fun s i => loseLine (g * 256 + i) s) s
  let s := (s.add (Reg.ECC_POISON_STAT_COUNT 0) ls.length).inc (Reg.ECC_LADDER_STAT_COUNT 4)
  let s := if late then s.inc (Reg.ECC_LADDER_STAT_COUNT 5) else s
  let loc := match tfind g s.tir.xlt with | some e => e.locator | none => 0
  let s := logUe 2 (quarterSluice g q s) true (loc % 2 ^ 48 + 2 ^ 48 * q) s
  ladderGood g q (queuePack g (raise 0x0305 g q s))

/-- Whether the twin may be asked for a granule's copy (R280). -/
def twinStep (g : Nat) (s : State) : Bool :=
  s.pair = .paired || s.pair = .catchingUp || (s.pair = .resyncing && !(isMarked s g))

/-- Step 3: the twin is asked in a STATE frame that names granule and quarter, or the ladder ends in poison (R279, R280). -/
def ladderAsk (g q : Nat) (s : State) : State :=
  if twinStep g s then
    linkSend "STATE" 0 (4 * g + q) (leBytes 8 (4 * g + q)) (modLadder g q (fun (l : Ladder) => { l with step := 3, asked := true }) s)
  else ladderPoison g q false s

/-- Step 2 where every other slot of the row is on a present board, step 3 otherwise (R243, R278). -/
def ladderRebuild (g q : Nat) (s : State) : State :=
  if rowPresent g q s then modLadder g q (fun (l : Ladder) => { l with step := 2 }) s else ladderAsk g q s

/-- A ladder starts on a quarter whose first decode failed; a second finding joins it (R278, R284). -/
def startLadder (g q : Nat) (s : State) : State :=
  if (ladderOn g q s).isSome then s
  else
    let chained := (s.tir.waiting.filter (fun r => lineGran r.line == g && lineQuarter r.line == q)).length
    let l : Ladder := { quarter := 4 * g + q, deadline := s.epoch + 2000, step := 1, shifts := 0, asked := false }
    let s := (s.onTir fun x => { x with ladders := x.ladders ++ [l] }).inc (Reg.ECC_LADDER_STAT_COUNT 0)
    let loc := match tfind g s.tir.xlt with | some e => e.locator | none => 0
    logUe 2 (quarterSluice g q s) false (loc % 2 ^ 48 + 2 ^ 48 * q) (s.add (Reg.ECC_LADDER_STAT_COUNT 6) chained)

/-- A read at the next shift has been decoded (R242, R278, R292): a success is remembered for the unit; seven failures end step 1. -/
def ladderShift (g q : Nat) (l : Ladder) (ok : Bool) (s : State) : State :=
  let sl := quarterSluice g q s
  let s := s.inc (Reg.SLC_CH_STAT_COUNT sl 5)
  if ok then
    let waited := bitOf q (s.gran g).fillQ
    let s := (rememberShift g q (shiftAt g q l.shifts s) (s.inc (Reg.SLC_CH_STAT_COUNT sl 6))).inc (Reg.ECC_LADDER_STAT_COUNT 1)
    ladderGood g q (if waited then s else queuePack g s)
  else if l.shifts + 1 < 7 then modLadder g q (fun (l : Ladder) => { l with shifts := l.shifts + 1 }) s
  else ladderRebuild g q (raise 0x0403 g q (modLadder g q (fun (l : Ladder) => { l with shifts := 7 }) s))

/-- The rebuild from the stripe has been checked as a codeword (R243, R281). -/
def ladderStripe (g q : Nat) (ok : Bool) (s : State) : State :=
  if ok && rowPresent g q s then
    ladderGood g q (queuePack g (raise 0x0404 g q ((s.inc (Reg.ECC_LADDER_STAT_COUNT 2)).inc (Reg.SLC_FTG_STAT_COUNT 0))))
  else ladderAsk g q s

/-- The twin's answer: the quarter's bytes, its poison marks by line of the quarter, and the number applied to the copy it read (R279, R281). -/
def ladderAnswer (g q poison snap : Nat) (data : List Byte) (s : State) : State :=
  match ladderOn g q s with
  | none => s
  | some l =>
    if l.step ≠ 3 || !l.asked then s
    else
      let m := ladderLines g q s
      let p := (poison % 2 ^ 64) * 2 ^ (64 * q)
      let cells := ((List.range 4096).zip (padTo 4096 data)).map (fun (e : Nat × Byte) => (4096 * q + e.1, e.2))
      let s := mergeAnswer g m cells p snap s
      let bad := (List.range 256).filter (fun i => bitOf i m && linePoisoned s (g * 256 + i))
      let s := bad.foldl (fun s i => raise 0x0305 g i (s.inc (Reg.ECC_POISON_STAT_COUNT 0))) s
      ladderGood g q (queuePack g (raise 0x0311 g q (s.inc (Reg.ECC_LADDER_STAT_COUNT 3))))

/-- The twin is lost: every outstanding request for its copy fails at once (R280, R284). -/
def ladderTwinLost (s : State) : State :=
  (s.tir.ladders.filter (fun l => l.asked)).foldl (fun s l => ladderPoison (l.quarter / 4) (l.quarter % 4) false s) s

end Sys2Proof.Machine
end

