-- ==== Sys2Proof/Machine/TwinOps.lean ====
section
/-!
DEFINITION. Sys2Proof/Machine/TwinOps.lean: shared operations on the pair: violations and fenced links, the declaration of loss and the takeover, entry to a
serving pair state, the join's settlement, catching up, and the planned split (R111 to R158, R521, R615, R616).
-/
namespace Sys2Proof.Machine

open Sys2Proof

/-! ### Links and violations (R127, R157) -/

/-- Register fields of a link's violation count and fence bit: 0 the cable, 1 port 4, 2 port 5. -/
def violCount (k : Nat) : Fld := if k = 0 then Reg.TWN_VIOL_CABLE else if k = 1 then Reg.TWN_VIOL_PORT4 else Reg.TWN_VIOL_PORT5
/-- The fence bit of a link. -/
def violFence (k : Nat) : Fld := if k = 0 then Reg.TWN_VIOL_CABLE_FENCED else if k = 1 then Reg.TWN_VIOL_PORT4_FENCED else Reg.TWN_VIOL_PORT5_FENCED
/-- The name of a link in event 0x0506 and LINK_UNFENCE: 0 the cable, 4 or 5 a port. -/
def linkName (k : Nat) : Nat := if k = 0 then 0 else 3 + k

/-- Count a violation against a link (R157). -/
def violate (k : Nat) (s : State) : State :=
  let s := s.addSat (violCount k) 1
  let s := if k = 0 then s else s.inc (Reg.TWN_PORT_STAT_COUNT (k - 1) 5)
  s.onTwn fun x => { x with viol := (k, s.epoch) :: x.viol.filter (fun e => decide (s.epoch < e.2 + 1000000)) }

/-- Violations a link has counted within the last 1 s. -/
def violsOf (k : Nat) (s : State) : Nat := (s.twn.viol.filter (fun e => e.1 == k && decide (s.epoch < e.2 + 1000000))).length

/-- TWN_STATE's port bits, and since when both ports are down (R129, R141). -/
def portSync (s : State) : State :=
  let up := fun (p : Nat) => b2n (s.get (Reg.TWN_PORT_STATE_LINK p) == 2)
  let s := (s.put Reg.TWN_STATE_PORT4_UP (up 0)).put Reg.TWN_STATE_PORT5_UP (up 1)
  downSync s

/-- A port carries nothing more: what it had not had acknowledged goes out on the other port; its LINK takes the value given (0 down, 3 fenced), and
event 0x0505 is raised (R127).  A key whose session ends is recorded as forgotten (R378). -/
def portGone (p link : Nat) (s : State) : State :=
  let left := (s.port p).resend
  let s := if s.get (Reg.TWN_PORT_STATE_LINK p) = 2 then jrnlLink s else s
  let s := s.put (Reg.TWN_PORT_STATE_LINK p) link
  let s := onPort p (fun (x : PortSt) => { x with resend := [], ahead := [], group := 0, rekeyAt := none, rxOld := none, rxNewAt := none, setup := false }) s
  let o := 1 - p
  let s := if portSends s o then
      left.foldl (fun s e => match e.2 with
        | .frame _ code reach seq data => if code = "PARITY" || code = "KEEPALIVE" || code = "RESEND" then s else sendOn o code reach seq data s
        | _ => s) s
    else s
  raise 0x0505 (4 + p) 0 (portSync s)

/-- Fence a link (R131, R157): a port is down, the cable is a cable fault (R140). -/
def fenceLink (k : Nat) (s : State) : State :=
  let s := s.put (violFence k) 1
  if k = 0 then
    (if s.flag Reg.TWN_STATE_CABLE_FAULT then s
     else raise 0x0504 1 0 ((s.put Reg.TWN_STATE_CABLE_FAULT 1).inc (Reg.TWN_HB_STAT_COUNT 3)))
  else portGone (k - 1) 3 s

/-- Return a fenced link to service: a port sets up its connection anew, the cable's fault clears when words have come for 100 µs (R140, R157). -/
def unfenceLink (k : Nat) (s : State) : State :=
  if s.get (violFence k) = 0 then s
  else
    let s := (s.put (violFence k) 0).onTwn fun x => { x with viol := x.viol.filter (fun e => e.1 != k) }
    let s := s.put (violCount k) 0
    if k = 0 then s.onTwn fun x => { x with runAt := s.epoch } else s.put (Reg.TWN_PORT_STATE_LINK (k - 1)) 0

/-! ### The generation and the twin's identity (R132, R133) -/

/-- Set the pair generation, recorded in the firmware store (R132). -/
def setGen (n : Nat) (s : State) : State :=
  let n := n % 2 ^ 64
  (s.put Reg.TWN_GEN_GEN n).onStore fun x => { x with gen := n }

/-- Record the twin's identity (R133). -/
def recordTwin (n : Nat) (s : State) : State := (s.put Reg.TWN_TWIN_ID_ID n).onStore fun x => { x with twinId := n }

/-- A join succeeds: both generations become one more than the higher, and the twin's identity is recorded (R132, R133). -/
def joinSucceeds (s : State) : State :=
  let g := Nat.max (s.get Reg.TWN_GEN_GEN) s.twn.twinGen + 1
  let s := setGen g (s.onTwn fun x => { x with twinGen := g % 2 ^ 64, joining := false, settled := false, twinSettled := false, waitingJoin := false, accept := false })
  match s.twn.hist with
  | some h => recordTwin h.identity s
  | none => s

/-! ### Entering a pair state that serves (R111, R151, R155, R521) -/

/-- Every ADOPTED reach becomes ACTIVE (R39, R155). -/
def adoptedActive (s : State) : State :=
  (List.range 4096).foldl (fun s n => if reachState s n = 3 then s.put (Reg.TIR_REACH_STATE n) 1 else s) s

/-- The end of RESYNC at the authoritative module: counted, event 0x050A, the void list cleared, reaches handed back when HANDBACK is 1 (R155, R616). -/
def resyncDone (s : State) : State :=
  let s := raise 0x050A 0 s.twn.rsyCount (s.inc (Reg.TWN_RSY_STAT_COUNT 3))
  let back := if s.flag Reg.TWN_CFG_HANDBACK then s.twn.owned else []
  let s := cubSync (s.onTwn fun x => { x with voids := [], voidWhole := [], streamed := [], twinPartial := [], owned := [], rsyCount := 0 })
  back.foldl (fun s n => if ownsReach s n && reachState s n == 1 then beginHandover n none s else s) s

/-- Take a serving pair state together with its mode (R111): PAIRED by reconciliation or at the end of RESYNC, RESYNCING at the authoritative module, SOLO. -/
def arrive (p : PairState) (s : State) : State :=
  let old := s.pair
  let s := (s.onTwn fun x => { x with entry := none, joining := false, reconciling := false }).onPwr fun x => { x with serveStop := false }
  let s := match p with
    | .paired =>
      let s := adoptedActive (joinSucceeds (setMode .paired (setPair .paired s)))
      let s := (s.put Reg.TWN_STATE_FENCE_OUT 0).onTwn fun x => { x with cub := [], coarse := [], partialG := [] }
      if old = .resyncing then resyncDone s else cubSync s
    | .resyncing =>
      let s := setMode .resync (setPair .resyncing s)
      let s := (s.onTwn fun x => { x with twinSettled := false, rsyCount := 0, streamed := [], twinPartial := [] }).inc (Reg.TWN_RSY_STAT_COUNT 2)
      let s := cubSync s
      raise 0x0509 0 (s.get Reg.TWN_CUB_MARKED) s
    | .solo => setMode .solo (setPair .solo s)
    | _ => s
  admitAll (settle (admitSync s))

/-- Enter a serving pair state, or wait in QUIESCED while a bit of SERVE_BLOCK is set, with event 0x0D03 once (R521). -/
def enterServing (p : PairState) (s : State) : State :=
  if s.mode = .quiesced && s.get Reg.MOD_STATE_SERVE_BLOCK != 0 then
    (if s.twn.entry = some p.code then s else raise 0x0D03 0 0 (s.onTwn fun x => { x with entry := some p.code }))
  else arrive p s

/-! ### The declaration of loss and the takeover (R139, R144, R146, R156) -/

/-- Mailbox commands that needed the twin: they complete with TWIN_UNREACHABLE, but for a provisioning whose REACH record is held here (R44, R470). -/
def dropTwinCommands (s : State) : State :=
  let s := dropTwinWork s
  let s := match s.twn.split with
    | some (some m, _) => if s.get Reg.TWN_STATE_LOSS_CAUSE = 7 then s else refuse m .twinUnreachable noDetail s
    | _ => s
  reachOpsSync s

/-- This module fences itself while it goes on running: provisionings whose REACH record is held here take effect first (R117, R470). -/
def fenceNow (s : State) : State := fenceSelf (reachOpsSync (dropTwinWork s))

/-- The twin is declared lost (R139, R144 steps 1 and 2): the cause and the epoch are recorded, the generation goes up, frames from the twin are no longer acted
on, PAIR_FENCE_OUT is asserted but under LINK_AND_CABLE, and the fence margin starts.  A spill, a declaration under way and a module that neither mirrors
nor was told to start alone declare nothing (R143, R158, R615). -/
def declareLost (cause : Nat) (full : Bool) (s : State) : State :=
  if s.twn.margin || s.mode = .spill || s.pwr.spill.isSome || !(s.mirrors || cause == 7) then s
  else
    let keep := s.pair = .resyncing
    let s := (s.put Reg.TWN_TKO_EPOCH_EPOCH s.epoch).put Reg.TWN_STATE_LOSS_CAUSE cause
    let s := setGen (s.get Reg.TWN_GEN_GEN + 1) s
    let s := s.onTwn fun x => { x with deaf := true, margin := true, tkoFull := full, tkoKeep := keep, arbWon := false, joining := false, hist := none, reconciling := false, entry := none }
    let s := raise 0x0502 cause s.epoch s
    let s := if cause = 6 then s else (s.put Reg.TWN_STATE_FENCE_OUT 1).send (.line "PAIR_FENCE_OUT" true)
    let s := ladderTwinLost (dropTwinCommands s)
    match s.twn.split with
    | some (_, true) => s.onTwn fun x => { x with split := none }
    | _ => s

/-- Whether a reach is adopted by the sweep (R40, R44): the twin's persistent reaches, and every reach in handover. -/
def adopts (s : State) (n : Nat) : Bool :=
  !(volatileReach s n) && (reachState s n == 2 || (reachState s n == 1 && !(ownsReach s n)))

/-- The sweep of the reach table: the twin's persistent reaches become ADOPTED and this module their owner, ADOPT_SEQ takes LAST_SEQ, the twin's volatile
reaches become LOST (R40, R42). -/
def sweepReaches (s : State) : State :=
  (List.range 4096).foldl (fun s n =>
    if adopts s n then
      let last := s.get (Reg.TIR_REACH_SEQ_LAST_SEQ n)
      let s := ((s.put (Reg.TIR_REACH_STATE n) 3).put (Reg.TIR_REACH_OWNER n) s.pos).put (Reg.TIR_REACH_LOCAL_OWNED n) 1
      let s := s.put (Reg.TIR_REACH_ADOPT_SEQ_SEQ n) last
      s.onCis fun x => { x with assigned := tset 0 n (Nat.max last (tget 0 n x.assigned)) x.assigned }
    else if volatileReach s n && reachState s n == 1 && !(ownsReach s n) then s.put (Reg.TIR_REACH_STATE n) 4
    else s) s

/-- Enter a VOID in the void list, or mark its reach voided whole when the list is full (R616). -/
def listVoid (reach seq : Nat) (x : TwnSt) : TwnSt :=
  if x.voids.length < 65536 then { x with voids := x.voids ++ [(reach, seq)] }
  else if x.voidWhole.contains reach then x else { x with voidWhole := x.voidWhole ++ [reach] }

/-- Append the VOID record of a number that no record here carries (R93): held and visible at once, drawn from the journal reserve (R99). -/
def appendVoid (reach seq : Nat) (s : State) : State :=
  place { Rec.blank .void with reach := reach, seq := seq, origin := s.pos, held := true, visible := true } s

/-- Numbers of a reach, above what is applied and below `top`, for which no record is here. -/
def missingBelow (n top : Nat) (s : State) : List Nat :=
  let a := appliedTo s n
  let have' := fun (k : Nat) => s.cis.recs.any (fun r => (r.isData || r.kind = RecKind.void) && r.reach == n && r.seq == k && r.held) ||
    s.cis.waitApp.any (fun r => r.isData && r.reach == n && r.seq == k)
  ((List.range (top - (a + 1))).map (fun i => a + 1 + i)).filter (fun k => !(have' k))

/-- The VOID records of a takeover (R93, R616). -/
def takeoverVoids (adopted : List Nat) (s : State) : State :=
  adopted.foldl (fun s n =>
    (missingBelow n (s.get (Reg.TIR_REACH_SEQ_LAST_SEQ n)) s).foldl (fun s k => appendVoid n k (s.onTwn (listVoid n k))) s) s

/-- The gap flags (R56, R57): GAP_UNMIRRORED with its count on the windows through which completed LOCAL records went, GAP_POSSIBLE_LOSS on the windows
over an adopted reach with a LOCAL window at the twin; event 0x0507. -/
def gapFlags (unacked : List Rec) (adopted : List Nat) (s : State) : State :=
  let lost := unacked.filter (fun r => r.isLocal && r.held && r.last && r.origin == s.pos)
  let u := (lost.map Rec.window).eraseDups.filter (fun w => (tfind w s.win).isSome)
  let overlaps := fun (w : Window) => (reachSpan w.base w.len).any (fun n => adopted.contains n && s.get (Reg.TIR_REACH_TWIN_LOCAL n) == 1)
  let l := (s.win.filter (fun e => overlaps e.2)).map Prod.fst
  let s := u.foldl (fun s w =>
    modWindow w (fun (x : Window) => { x with gapU := true, unmir := satAt 0xFFFFFFFF (x.unmir + (lost.filter (fun r => r.window == w)).length) }) s) s
  let s := l.foldl (fun s w => modWindow w (fun (x : Window) => { x with gapL := true }) s) s
  let n := (u ++ l).eraseDups.length
  if n = 0 then s else raise 0x0507 n lost.length s

/-- Forwarded writes that the twin has not returned: this module sequences them as owner; an atomic begins again (R44, R94). -/
def resequence (s : State) : State :=
  let waits := s.cis.waitOps.filter (fun w => !w.fwd.isEmpty)
  waits.foldl (fun s w =>
    match w.op.atomic with
    | some _ => startOp w.op (s.onCis fun x => { x with waitOps := x.waitOps.filter (· != w) })
    | none =>
      let s := w.fwd.foldl (fun s n => (sequenceReach w.op none s.pos n s).put (Reg.TIR_REACH_FWD_PENDING n) 0) s
      let parts := w.parts ++ w.fwd.map (fun n => (n, assignedTo s n))
      s.onCis fun x => { x with waitOps := x.waitOps.map (fun (y : WaitOp) => if y = w then { y with fwd := [], parts := parts } else y) }) s

/-- TWN_TKO_INFO as one number, the detail of event 0x0503. -/
def tkoInfo (s : State) : Nat :=
  s.get Reg.TWN_TKO_INFO_DURATION + 2 ^ 16 * s.get Reg.TWN_TKO_INFO_ADOPTED + 2 ^ 29 * s.get Reg.TWN_TKO_INFO_LOST +
    2 ^ 42 * s.get Reg.TWN_TKO_INFO_VOIDS + 2 ^ 58 * s.get Reg.TWN_TKO_INFO_CAUSE

/-- Takeover steps 3 to 5 (R144): reaches swept, gaps closed by VOID records, gap flags, unacknowledged granules marked, every held record visible. -/
def takeoverReaches (s : State) : State :=
  let adopted := (List.range 4096).filter (adopts s)
  let unacked := unackedRecs s
  let s := sweepReaches s
  let s := takeoverVoids adopted s
  let s := gapFlags unacked adopted s
  let s := unacked.foldl (fun s r => if r.held then markGran (lineGran r.line) s else s) s
  let s := s.onTwn fun x => { x with owned := adopted }
  s.onCis fun x => { x with recs := x.recs.map (fun (r : Rec) => if r.held then { r with visible := true } else r), heldFwd := [] }

/-- The fence margin is over: steps 3 to 6 of R144; a planned split takes step 6 alone (R150), the loss of a catching-up module keeps the bitmap (R156). -/
def takeoverEnd (s : State) : State :=
  let full := s.twn.tkoFull
  let lost := ((List.range 4096).filter (fun n => volatileReach s n && reachState s n == 1 && !(ownsReach s n))).length
  let adopted := ((List.range 4096).filter (adopts s)).length
  let voids := s.get (Reg.TIR_CST_STAT_COUNT 5)
  let s := s.onTwn fun x => if x.tkoKeep then { x with streamed := [], twinPartial := [] } else { x with cub := [], coarse := [], voids := [], voidWhole := [] }
  let s := if full then takeoverReaches s else s
  let made := s.get (Reg.TIR_CST_STAT_COUNT 5) - voids
  let s := s.put Reg.TWN_TKO_INFO_DURATION (satAt 0xFFFF ((s.epoch - s.get Reg.TWN_TKO_EPOCH_EPOCH) * 100))
  let s := (s.put Reg.TWN_TKO_INFO_ADOPTED (if full then adopted else 0)).put Reg.TWN_TKO_INFO_LOST (if full then lost else 0)
  let s := (s.put Reg.TWN_TKO_INFO_VOIDS (satAt 0xFFFF made)).put Reg.TWN_TKO_INFO_CAUSE (s.get Reg.TWN_STATE_LOSS_CAUSE)
  let s := (s.onTwn fun x => { x with margin := false }).put Reg.TIR_CST_STATE_TWIN_ADMIT 3
  let s := arrive .solo (cubSync s)
  let s := if full then resequence s else s
  let s := raise 0x0503 0 (tkoInfo s) s
  let s := match s.twn.split with
    | some (some m, false) => complete m [] s
    | _ => s
  let s := match s.twn.soloMbx with
    | some m => complete m [] s
    | none => s
  admitAll (settle (s.onTwn fun x => { x with split := none, soloMbx := none }))

/-! ### Histories and the join (R133 to R137) -/

/-- Persistent reaches that are provisioned. -/
def provisioned (s : State) : List Nat := (List.range 4096).filter (fun n => reachState s n != 0 && reachState s n != 4 && !(volatileReach s n))

/-- This module's pair state at its last stop, as R134 compares it. -/
def ownStop (s : State) : Nat := if s.twn.before = PairState.unpaired.code then s.store.stopState else s.twn.before

/-- This module's restore counts as failed (R134). -/
def restoreFailed (s : State) : Bool := s.get Reg.MOD_STATE_RESTORE == 3 && !s.twn.served

/-- The history this module sends in JOINING, as a CATCHUP_MAP frame carries it (R121, R134), with its LOCAL windows' reaches (R57). -/
def sendHistory (s : State) : State :=
  let head := leBytes 8 s.store.identity ++ leBytes 8 (s.get Reg.TWN_GEN_GEN) ++ leBytes 1 (ownStop s) ++
    leBytes 1 (s.get Reg.MOD_STATE_RESTORE + 4 * b2n s.twn.served) ++ leBytes 8 (s.get Reg.TWN_TWIN_ID_ID)
  let body := (provisioned s).flatMap (fun n => leBytes 2 (n + 4096 * b2n (reachState s n == 3) + 8192 * s.get (Reg.TIR_REACH_OWNER n)) ++
    leBytes 8 (s.get (Reg.TIR_REACH_SEQ_LAST_SEQ n)) ++ leBytes 8 (s.get (Reg.TIR_REACH_ADOPT_SEQ_SEQ n)))
  let s := linkSend "CATCHUP_MAP" 0 0 (head ++ body) s
  ((provisioned s).filter (fun n => localOpen s n)).foldl (fun s n => tellReach n s) s

/-- Mark every granule of a reach: its regions whole (R148, R616). -/
def markReach (n : Nat) (s : State) : State :=
  let mine := (List.range 1024).map (fun i => n * 1024 + i)
  cubSync (s.onTwn fun x => { x with cub := x.cub.filter (fun g => granReach g != n), coarse := x.coarse.filter (fun r => r / 1024 != n) ++ mine })

/-- Mark every provisioned granule (R133, R134, R137). -/
def markAllGrans (s : State) : State := (provisioned s).foldl (fun s n => markReach n s) s

/-- The module may join (R133, R212, R536): QUIESCED or serving alone, in a pair state that joins, its restore outcome known. -/
def mayJoin (s : State) : Bool :=
  (s.mode = .quiesced || s.mode = .solo) && (s.pair = .unpaired || s.pair = .fenced || s.pair = .catchingUp || s.pair = .solo) &&
    s.get Reg.MOD_STATE_RESTORE != 0 && s.twn.entry.isNone && !s.twn.barred && !s.twn.margin && !s.twn.joining

/-- Start the join: links return to service, frames from the twin are acted on again, the history is sent (R133, R134, R157); a serving SOLO module keeps its
pair state until the join settles. -/
def startJoin (s : State) : State :=
  let s := unfenceLink 2 (unfenceLink 1 (unfenceLink 0 s))
  let b := s.get Reg.TWN_STATE_PAIR_STATE
  let s := s.onTwn fun x => { x with before := b, joining := true, deaf := false, waitingJoin := false, hist := none, reconciling := false, expect := [], expectG := [],
                                     covered := [], halves := [], settled := false, twinSettled := false }
  sendHistory (if s.pair = .solo then s else setPair .joining s)

/-- Windows of a module that is to catch up are CLOSED (R55). -/
def closeWindows (s : State) : State :=
  let ids := s.win.map Prod.fst
  let waiting := s.win.flatMap (fun e => e.2.waiters.map (fun m => (m, e.2.offered)))
  let s := { s with win := s.win.map (fun (e : Nat × Window) => (e.1, { e.2 with state := 3, inFlight := 0, offered := false, waiters := [] })) }
  let s := waiting.foldl (fun s e => if e.2 then refuse e.1 .revoked noDetail s else complete e.1 [] s) s
  ids.foldl (fun s id => match tfind id s.win with
    | some w => if w.gapU || w.gapL then s else freeWindow id s
    | none => s) s

/-- Discard the records of a reach that a test names from the cistern of a module that catches up: counted, their granules marked, event 0x0508 with the lowest
and highest number (R136, R137). -/
def discardRecs (n : Nat) (f : Rec → Bool) (s : State) : State :=
  let gone := s.cis.recs.filter (fun r => r.isData && !r.retired && r.reach == n && f r)
  match gone.map Rec.seq with
  | [] => s
  | q :: qs =>
    let lo := qs.foldl Nat.min q
    let hi := qs.foldl Nat.max q
    let s := gone.foldl (fun s r => markGran (lineGran r.line) s) s
    let s := s.add (Reg.TWN_RSY_STAT_COUNT 1) gone.length
    let s := retireWhere (fun r => r.isData && r.reach == n && f r) s
    raise 0x0508 n (lo % 2 ^ 48 + 2 ^ 48 * (hi % 2 ^ 48)) s

/-- The catching-up module takes the authoritative history of the reaches (R136, R137): records beyond ADOPT_SEQ are discarded, with `all` every record beyond
LAST_SEQ; ownership and the numbers follow; records not yet applied leave their granules to the stream. -/
def followHistory (h : TwinHist) (all : Bool) (s : State) : State :=
  h.reaches.foldl (fun s (e : TwinReach) =>
    let n := e.reach
    if volatileReach s n then s
    else
      let s := if e.adopted then discardRecs n (fun r => decide (r.seq > e.adopt)) s else if all then discardRecs n (fun r => decide (r.seq > e.last)) s else s
      let left := s.cis.recs.filter (fun r => r.isData && !r.retired && !r.applied && r.reach == n)
      let s := left.foldl (fun s r => markGran (lineGran r.line) s) s
      let s := s.onCis fun x =>
        { x with recs := x.recs.map (fun (r : Rec) => if r.isData && r.reach == n then { r with applied := true, visible := true } else r),
                 applied := tset 0 n e.last x.applied, assigned := tset 0 n e.last x.assigned, acked := tset 0 n e.last x.acked }
      let s := s.put (Reg.TIR_REACH_SEQ_LAST_SEQ n) e.last
      let s := (s.put (Reg.TIR_REACH_OWNER n) e.owner).put (Reg.TIR_REACH_LOCAL_OWNED n) (b2n (e.owner == s.pos))
      s.put (Reg.TIR_REACH_STATE n) (if reachState s n = 0 then 0 else 1)) s

/-- The bitmap this module adds marks from, as CATCHUP_MAP frames carry it (R151). -/
def sendMap (s : State) : State :=
  let s := linkSend "CATCHUP_MAP" 1 0 (s.twn.cub.flatMap (leBytes 5)) s
  linkSend "CATCHUP_MAP" 2 0 (s.twn.coarse.flatMap (leBytes 3)) s

/-- The void list as CATCHUP_MAP frames carry it (R616). -/
def sendVoids (s : State) : State :=
  let s := linkSend "CATCHUP_MAP" 3 0 (s.twn.voids.flatMap (fun e => leBytes 8 e.1 ++ leBytes 8 e.2)) s
  linkSend "CATCHUP_MAP" 4 0 (s.twn.voidWhole.flatMap (leBytes 2)) s

/-- The join settles with this module catching up (R55, R136, R146, R151): CATCHING_UP, or FENCED until PAIR_FENCE_IN reads deasserted. -/
def settleCatching (full all : Bool) (s : State) : State :=
  match s.twn.hist with
  | none => s
  | some h =>
    let s := followHistory h all (closeWindows s)
    let s := if full then markAllGrans s else s
    let s := s.onTwn fun x => { x with joining := false, settled := true, reconciling := false, entry := none }
    let s := if s.mode = .solo then setMode .quiesced s else s
    let s := if s.flag Reg.TWN_STATE_FENCE_IN then setPair .fenced s
      else setPair .catchingUp (s.onTwn fun x => { x with settled := false })
    admitSync (cubSync (sendMap s))

/-- The join settles with this module authoritative: PAIR_FENCE_OUT is released, the map and the void list are sent, and RESYNCING waits for the twin's report
of FENCED 0 (R146, R151). -/
def settleAuthority (full : Bool) (s : State) : State :=
  let s := if full then markAllGrans s else s
  let s := s.twn.voidWhole.foldl (fun s n => markReach n s) s
  let s := if s.flag Reg.TWN_STATE_FENCE_OUT then (s.put Reg.TWN_STATE_FENCE_OUT 0).send (.line "PAIR_FENCE_OUT" false) else s
  let s := s.onTwn fun x => { x with joining := false, twinSettled := true }
  sendVoids (sendMap (cubSync s))

/-- Both modules claim the history: CONTESTED, nothing is served (R137). -/
def contest (s : State) : State :=
  let s := s.onTwn fun x => { x with joining := false, reconciling := false, entry := none }
  setMode .quiesced (setPair .contested s)

/-- What the comparison of R133 and R134 decides: 0 contested, 1 this module catches up, 2 with every granule marked, 3 the twin catches up, 4 with every granule
marked, 5 reconcile. -/
def joinVerdict (h : TwinHist) (s : State) : Nat :=
  let myGen := s.get Reg.TWN_GEN_GEN
  let twinStrange := s.get Reg.TWN_TWIN_ID_ID != 0 && s.get Reg.TWN_TWIN_ID_ID != h.identity
  let iStrange := h.twinOf != 0 && h.twinOf != s.store.identity
  let fa := restoreFailed s
  let fb := h.restore == 3 && !h.served
  let sa := ownStop s
  let alone := fun (x : Nat) => x == 5 || x == 4 || x == 7
  if twinStrange && iStrange then 0
  else if iStrange then 2
  else if twinStrange then 4
  else if fa && fb then 0
  else if fa then 2
  else if fb then 4
  else if myGen < h.gen then 1
  else if h.gen < myGen then 3
  else if sa = 3 && h.stop != 3 then 1
  else if h.stop = 3 && sa != 3 then 3
  else if alone sa || alone h.stop || sa == 3 then 0
  else 5

/-! ### Reconciliation (R135) -/

/-- The twin's highest number of a reach, by its history. -/
def twinLast (h : TwinHist) (n : Nat) : Nat := match h.reaches.find? (fun e => e.reach == n) with | some e => e.last | none => 0

/-- Whether this module holds a number, in its cistern or retired (R135). -/
def holdsNumber (s : State) (n k : Nat) : Bool :=
  decide (k ≤ appliedTo s n) || s.cis.recs.any (fun r => r.isData && r.reach == n && r.seq == k && r.held)

/-- GRANULE frames of a granule: two halves with its snapshot number S and the poison mask of their 128 lines in front of the data (R121, R153, R267). -/
def sendGranule (g : Nat) (s : State) : State :=
  let snap := snapOf s g
  let bytes := readBytes s.tir.home (g * 16384) 16384
  let pois := granPoison s g
  let half := fun (i : Nat) => leBytes 8 snap ++ leBytes 16 (pois / 2 ^ (128 * i) % 2 ^ 128) ++ (bytes.drop (8192 * i)).take 8192
  linkSend "GRANULE" 1 g (half 1) (linkSend "GRANULE" 0 g (half 0) s)

/-- Send what the twin lacks of a number: the records while they are in the cistern, otherwise the footed granules of the reach above the twin's highest number. -/
def supply (h : TwinHist) (n k : Nat) (s : State) : State :=
  let rs := s.cis.recs.filter (fun r => r.isData && !r.retired && r.reach == n && r.seq == k)
  if rs.isEmpty then
    ((s.tir.xlt.map Prod.fst).filter (fun g => granReach g == n && (match footedCopy s g with | some f => decide (f.snap > twinLast h n) | none => false))).foldl
      (fun s g => if s.twn.streamed.contains g then s else sendGranule g (s.onTwn fun x => { x with streamed := x.streamed ++ [g] })) s
  else rs.foldl (fun s r => linkSend "RECORDS" n k (recFull r) s) s

/-- Numbers of a reach that this module lacks up to `top`. -/
def lacking (n top : Nat) (s : State) : List Nat :=
  let a := appliedTo s n
  ((List.range (top - a)).map (fun i => a + 1 + i)).filter (fun k => !(holdsNumber s n k))

/-- Reconcile one reach: send what the twin lacks, close by VOID what neither holds, and wait for the rest (R135). -/
def reconcileReach (h : TwinHist) (lacks retired : List (Nat × Nat)) (s : State) (n : Nat) : State :=
  let tl := twinLast h n
  let ml := s.get (Reg.TIR_REACH_SEQ_LAST_SEQ n)
  let twinHas := fun (k : Nat) => decide (k ≤ tl) && !(lacks.contains (n, k))
  let mine := lacking n (Nat.max tl ml) s
  let theirs := (lacks.filter (fun e => e.1 == n)).map Prod.snd ++ (List.range (ml - tl)).map (fun i => tl + 1 + i)
  let s := theirs.foldl (fun s k => if holdsNumber s n k then supply h n k s else s) s
  let s := (mine.filter (fun k => !(twinHas k))).foldl (fun s k => appendVoid n k s) s
  let want := (mine.filter twinHas).map (fun k => (n, k))
  s.onTwn fun x => { x with expect := x.expect ++ want.filter (fun e => !(retired.contains e)), covered := x.covered ++ want.filter (fun e => retired.contains e) }

/-- Reconciliation ends when everything awaited has come: numbers that granules covered are passed over, everything held becomes visible and is applied, and both
modules enter PAIRED without RESYNC (R135). -/
def reconcileSync (s : State) : State :=
  if !(s.twn.reconciling && s.twn.expect.isEmpty && s.twn.expectG.isEmpty) then s
  else
    let s := s.twn.covered.foldl (fun s e => appendVoid e.1 e.2 s) s
    let s := s.twn.covered.foldl (fun s e =>
      if e.2 > s.get (Reg.TIR_REACH_SEQ_LAST_SEQ e.1) then s.put (Reg.TIR_REACH_SEQ_LAST_SEQ e.1) e.2 else s) s
    let s := s.onTwn fun x => { x with covered := [], streamed := [], reconciling := false }
    let s := s.onCis fun x => { x with recs := x.recs.map (fun (r : Rec) => if r.held then { r with visible := true } else r) }
    enterServing .paired (applyAll s)

/-- Reconcile every reach (R135). -/
def reconcile (h : TwinHist) (lacks retired : List (Nat × Nat)) (grans : List Nat) (s : State) : State :=
  let s := s.onTwn fun x => { x with reconciling := true, expect := [], expectG := grans, covered := [], streamed := [] }
  reconcileSync ((provisioned s).foldl (reconcileReach h lacks retired) s)

/-! ### The planned split (R150) -/

/-- Tell the twin how a split stands, in a STATE frame. -/
def sendSplit (flag : Nat) (s : State) : State := linkSend "STATE" 2 flag [BitVec.ofNat 8 flag] s

/-- This module departs: it admits no more host operations, and hands its persistent reaches over (R150 steps 1 and 2). -/
def beginDepart (mbx : Option Nat) (s : State) : State :=
  let s := sendSplit 8 (s.onTwn fun x => { x with split := some (mbx, true) })
  ((provisioned s).filter (fun n => ownsReach s n && (reachState s n == 1 || reachState s n == 3))).foldl (fun s n => beginHandover n none s) s

/-- The departing module is done: nothing in flight, every reach handed over, every LOCAL record acknowledged; it reports so and is fenced (R150 steps 3 and 4). -/
def splitSync (s : State) : State :=
  match s.twn.split with
  | some (_, true) =>
    if s.cis.tickets.isEmpty && s.twn.handovers.isEmpty && (unackedRecs s).isEmpty && (provisioned s).all (fun n => !(ownsReach s n)) then
      fenceSelf (sendSplit 16 s)
    else s
  | _ => s

end Sys2Proof.Machine
end

