-- ==== Sys2Proof/Machine/Twin.lean ====
section
/-!
DEFINITION. Sys2Proof/Machine/Twin.lean: the pair cable, the loss of the twin, the takeover, joins and RESYNC, and the pair commands of mailbox group 0x06
(R111 to R117, R132 to R156, R457, R466).
-/
namespace Sys2Proof.Machine

open Sys2Proof

/-! ### The pair cable (R113 to R117, R140) -/

/-- Set TWN_STATE.CABLE_FAULT, with event 0x0504 (R113, R140). -/
def setCableFault (s : State) : State :=
  if s.flag Reg.TWN_STATE_CABLE_FAULT then s
  else raise 0x0504 1 0 ((s.put Reg.TWN_STATE_CABLE_FAULT 1).inc (Reg.TWN_HB_STAT_COUNT 3))

/-- The twin reports itself fenced: the loser of an arbitration, the departing module of a split, or a twin lost with cause TWIN_FENCED (R139, R141, R150). -/
def twinFenced (s : State) : State :=
  if !s.mirrors then s
  else match s.twn.split with
    | some (_, false) => declareLost 7 false s
    | _ => declareLost (if s.twn.arbWon then 5 else 2) true s

/-- The twin reports a power failure (R139, R158): nothing once this module has declared its own. -/
def twinPf (s : State) : State := if s.pwr.pfOut || s.mode = .spill then s else declareLost 3 true s

/-- What the twin's status means: FENCED and PF under R139; FENCED 0 lets the authoritative module of a settled join enter RESYNCING (R146, R151). -/
def twinStatus (fenced pf : Bool) (s : State) : State :=
  if fenced then twinFenced s
  else if pf then twinPf s
  else if s.twn.twinSettled && !s.mirrors && (s.pair = .joining || s.pair = .solo || s.pair = .contested) then enterServing .resyncing s
  else s

/-- A word with a good comma and CRC and a new slot number is counted, and its slot remembered (R115). -/
def wordHeard (slot : Nat) (s : State) : State := (s.inc (Reg.TWN_HB_STAT_COUNT 0)).onTwn fun x => { x with lastSlot := some slot }

/-- A valid word from the twin: when it came and since when words come without a gap, HELD_PROGRESS and since when it stands, TWIN_MODE (R139, R140). -/
def wordNoted (mode : Nat) (cableFault : Bool) (slot held : Nat) (s : State) : State :=
  let gap := decide (s.epoch > s.twn.wordAt + 1)
  let moved := held % 65536 != s.twn.twinHeld
  ((wordHeard slot s).onTwn fun x => { x with wordAt := s.epoch, runAt := if gap then s.epoch else x.runAt, twinHeld := held % 65536,
                                              heldAt := if moved then s.epoch else x.heldAt, twinCf := cableFault }).put Reg.TWN_STATE_TWIN_MODE mode

/-- A heartbeat word arrives; `ok` says whether its comma, symbols and CRC are correct (R115).  A word with this module's own position is ignored but for R113;
under a cable fault the status of words is not used (R140); a valid word updates TWIN_MODE, TWIN_DEGRADED and HELD_PROGRESS (R139). -/
def execHeartbeatWordReceived (ok : Bool) (mode pos : Nat) (fenced degraded pf cableFault : Bool) (slot held : Nat) (s : State) : Out :=
  onUp s fun s =>
    if !ok || s.twn.lastSlot == some slot then violate 0 (s.inc (Reg.TWN_HB_STAT_COUNT 2))
    else if pos % 2 = s.pos then violate 0 (setCableFault (wordHeard slot s))
    else if s.flag Reg.TWN_VIOL_CABLE_FENCED then wordHeard slot s
    else
      let t := wordNoted mode cableFault slot held s
      if s.flag Reg.TWN_STATE_CABLE_FAULT then t else twinStatus fenced pf (t.put Reg.TWN_STATE_TWIN_DEGRADED (b2n degraded))

/-- PAIR_FENCE_IN has been high for 100 ns: the module fences itself; ignored under a cable fault, and without effect in SPILL (R116, R117, R140). -/
def execPairFenceInAssert (s : State) : Out :=
  onUp s fun s =>
    let t := s.put Reg.TWN_STATE_FENCE_IN 1
    if s.flag Reg.TWN_STATE_CABLE_FAULT || s.pair = .fenced || !(s.serving || s.mode = .quiesced) then t
    else fenceNow t

/-- PAIR_FENCE_IN has been low for 100 ns: once a join has settled with this module catching up it leaves FENCED for CATCHING_UP (R116, R146); any other
release changes nothing. -/
def execPairFenceInDeassert (s : State) : Out :=
  onUp s fun s =>
    let t := s.put Reg.TWN_STATE_FENCE_IN 0
    if s.pair = .fenced && s.twn.settled && !(s.flag Reg.TWN_STATE_CABLE_FAULT) then
      admitSync (cubSync (setPair .catchingUp (t.onTwn fun x => { x with settled := false })))
    else t

/-- PAIR_PF_IN has been high for 100 ns: the twin is declared lost with cause PF_NOTICE, unless this module has declared its own failure, is catching up or has a
cable fault (R139, R140, R143, R158). -/
def execPairPfInAssert (s : State) : Out :=
  onUp s fun s =>
    let t := s.put Reg.TWN_STATE_PF_IN 1
    if s.flag Reg.TWN_STATE_CABLE_FAULT then t else twinPf t

/-- PAIR_INPUT_PULSE: a pulse of FENCE_IN, or of PF_IN, under 100 ns is ignored and counted (R116, R157). -/
def execPairInputPulse (pf : Bool) (s : State) : Out :=
  onUp s fun s => violate 0 (s.inc (Reg.TWN_HB_STAT_COUNT (if pf then 5 else 4)))

/-- CABLE_FAULT_SET: 4.0 µs without a valid word while a frame came within the last 2.0 µs (R140). -/
def execCableFaultSet (s : State) : Out :=
  onUp s fun s => if s.epoch ≥ s.twn.wordAt + 4 && decide (s.epoch ≤ s.twn.frameAt + 2) then setCableFault s else s

/-- CABLE_FAULT_CLEAR: valid words have been received for 100 µs; the lines and the status then count again (R140). -/
def execCableFaultClear (s : State) : Out :=
  onUp s fun s =>
    if s.flag Reg.TWN_STATE_CABLE_FAULT && !(s.flag Reg.TWN_VIOL_CABLE_FENCED) && decide (s.epoch ≥ s.twn.runAt + 100) && decide (s.epoch ≤ s.twn.wordAt + 1) then
      let t := raise 0x0504 0 0 (s.put Reg.TWN_STATE_CABLE_FAULT 0)
      if s.flag Reg.TWN_STATE_FENCE_IN && s.pair != .fenced && (s.serving || s.mode = .quiesced) then fenceNow t
      else if s.flag Reg.TWN_STATE_PF_IN then twinPf t
      else if s.pair = .fenced && s.twn.settled && !(s.flag Reg.TWN_STATE_FENCE_IN) then
        admitSync (cubSync (setPair .catchingUp (t.onTwn fun x => { x with settled := false })))
      else t
    else s

/-! ### The loss of the twin (R139 to R146) -/

/-- No valid word and no valid frame for 4.0 µs (R139, R615). -/
def silent (s : State) : Bool := decide (s.epoch ≥ s.twn.wordAt + 4) && decide (s.epoch ≥ s.twn.frameAt + 4)

/-- HB_TIMEOUT: the twin is declared lost; under a cable fault R142 decides instead (R139, R143). -/
def execHbTimeout (s : State) : Out :=
  onUp s fun s => if silent s && !(s.flag Reg.TWN_STATE_CABLE_FAULT) then declareLost 1 true s else s

/-- STALL: HELD_PROGRESS has not changed for 8.0 µs while a record sent to the twin is unacknowledged (R139). -/
def execStall (s : State) : Out :=
  onUp s fun s =>
    if decide (s.epoch ≥ s.twn.heldAt + 8) && (unackedRecs s).any (fun r => decide (s.epoch ≥ r.epoch + 8)) then declareLost 4 true s else s

/-- MIRROR_PATH_ARBITRATION: both Rilram ports have been down for 4.0 µs while words go on in both directions: the DEGRADED module loses, otherwise the one at
position 1; the loser fences itself, the winner awaits its FENCED word (R141). -/
def execMirrorPathArbitration (s : State) : Out :=
  onUp s fun s =>
    match s.twn.downAt with
    | some t =>
      if s.mirrors && decide (s.epoch ≥ t + 4) && decide (s.epoch < s.twn.wordAt + 4) && !(s.flag Reg.TWN_STATE_CABLE_FAULT) && !s.twn.twinCf && !s.twn.margin then
        let mine := s.flag Reg.TWN_STATE_DEGRADED
        let its := s.flag Reg.TWN_STATE_TWIN_DEGRADED
        if (mine && !its) || (mine == its && s.pos == 1) then fenceNow s
        else s.onTwn fun x => { x with arbWon := true }
      else s
    | none => s

/-- LINK_AND_CABLE: a cable fault and no valid frame for 4.0 µs: position 1 fences itself; for 6.0 µs: position 0 declares its twin lost (R142). -/
def execLinkAndCable (s : State) : Out :=
  onUp s fun s =>
    if !(s.flag Reg.TWN_STATE_CABLE_FAULT) || !s.mirrors || s.twn.margin then s
    else if s.pos = 1 then (if s.epoch ≥ s.twn.frameAt + 4 then fenceNow s else s)
    else if s.epoch ≥ s.twn.frameAt + 6 then declareLost 6 true s else s

/-- FENCE_MARGIN_END: the 1.0 µs margin is over and the takeover runs to SOLO (R144 steps 3 to 6). -/
def execFenceMarginEnd (s : State) : Out :=
  onUp s fun s => if s.twn.margin && s.epoch ≥ s.get Reg.TWN_TKO_EPOCH_EPOCH + 1 then takeoverEnd s else s

/-! ### Joining (R132 to R138, R615) -/

/-- JOIN_START: heartbeats and a keyed Rilram port are there; `identity` is the twin's: the join starts without command for a known twin under AUTO_REJOIN,
otherwise it waits for PAIR_JOIN_ACCEPT, with event 0x050B (R133). -/
def execJoinStart (identity : Nat) (s : State) : Out :=
  onUp s fun s =>
    if !(mayJoin s) || s.get Reg.TWN_STATE_TWIN_MODE = 0 || !(portSends s 0 || portSends s 1) || s.flag Reg.TWN_STATE_CABLE_FAULT then s
    else if s.twn.accept || (s.flag Reg.TWN_CFG_AUTO_REJOIN && s.get Reg.TWN_TWIN_ID_ID == identity) then startJoin s
    else if s.twn.waitingJoin then s
    else raise 0x050B 0 identity (s.onTwn fun x => { x with waitingJoin := true })

/-- JOIN_ABANDON: a JOINING module that has heard nothing for 4.0 µs returns to the pair state it held before, everything else as it was (R615). -/
def execJoinAbandon (s : State) : Out :=
  onUp s fun s =>
    if s.twn.joining && (s.pair = .joining || s.pair = .solo) && silent s then
      let t := s.onTwn fun x => { x with joining := false, reconciling := false, entry := none, hist := none }
      if s.pair = .joining then setPair (PairState.ofCode s.twn.before) t else t
    else s

/-- JOIN_SETTLE: the histories are compared (R133, R134).  For a reconciliation `lacks` names the numbers up to the twin's LAST_SEQ that the twin does not hold,
`retired` those it holds only in its footing, `grans` the granules it sends for them (R135). -/
def execJoinSettle (lacks retired : List (Nat × Nat)) (grans : List Nat) (s : State) : Out :=
  onUp s fun s =>
    match s.twn.hist with
    | none => s
    | some h =>
      if !s.twn.joining || s.twn.reconciling || s.twn.entry.isSome || s.twn.twinSettled then s
      else match joinVerdict h s with
        | 0 => contest s
        | 1 => settleCatching false false s
        | 2 => settleCatching true true s
        | 3 => settleAuthority false s
        | 4 => settleAuthority true s
        | _ => reconcile h lacks retired grans s

/-! ### RESYNC (R151 to R155) -/

/-- The stream is within RSY_SHARE percent of 200 GB/s over the last 100 µs, and the catching-up module admits (R154). -/
def mayStream (s : State) : Bool :=
  decide (windowBytes s.epoch s.twn.streamBytes + 16384 ≤ s.get Reg.TWN_CFG_RSY_SHARE * 200000) && decide (s.get Reg.TIR_CST_STATE_TWIN_ADMIT < 2)

/-- The granule the stream takes next: partial copies at the twin first, then ascending (R153). -/
def nextStream (s : State) : Option Nat :=
  let free := fun (g : Nat) => !(s.twn.streamed.contains g)
  match s.twn.twinPartial.find? (fun g => free g && isMarked s g) with
  | some g => some g
  | none =>
    let one := (s.twn.cub.filter free).foldl (fun (m : Option Nat) g => match m with | some k => some (Nat.min k g) | none => some g) none
    let region := s.twn.coarse.foldl (fun (m : Option Nat) r => match m with | some k => some (Nat.min k r) | none => some r) none
    let first := region.bind (fun r => ((List.range 4096).map (fun i => r * 4096 + i)).find? free)
    match one, first with
    | some a, some b => some (Nat.min a b)
    | some a, none => some a
    | none, b => b

/-- RESYNC_STREAM: a marked granule is snapshotted under its move lock and sent as two GRANULE frames; a held lock makes the next try wait (R25, R153, R154). -/
def execResyncStream (s : State) : Out :=
  onUp s fun s =>
    if s.pair ≠ .resyncing || s.twn.margin || !(mayStream s) then s
    else match nextStream s with
      | none => s
      | some g =>
        let e := s.gran g
        if e.lock.isSome || !e.waiters.isEmpty then s
        else
          let s := sendGranule g (s.onTwn fun x => { x with streamed := x.streamed ++ [g], rsyCount := x.rsyCount + 1,
                                                            streamBytes := (s.epoch, 16384) :: x.streamBytes.filter (fun b => decide (s.epoch < b.1 + 100)) })
          s.inc (Reg.TWN_RSY_STAT_COUNT 0)

/-- RESYNC_END: nothing is marked, streamed or partial any more: both modules enter PAIRED (R155), the catching-up one when SERVE_BLOCK lets it (R521). -/
def execResyncEnd (s : State) : Out :=
  onUp s fun s =>
    let clean := s.twn.cub.isEmpty && s.twn.coarse.isEmpty
    if s.twn.margin then s
    else if s.pair = .resyncing && clean && s.twn.streamed.isEmpty then arrive .paired s
    else if s.pair = .catchingUp && clean && s.twn.partialG.isEmpty && s.twn.merged.isEmpty && s.twn.hist.isSome && !s.twn.deaf then enterServing .paired s
    else s

/-! ### Mailbox group 0x06 (R137, R138, R150, R157, R457) -/

/-- PAIR_STATUS: 64 bytes, whose layout the spec does not give (R457). -/
def execPairStatus (m : Nat) (s : State) : Out := onCmd m 0x0604 s (completeFree m 64)

/-- PAIR_JOIN_ACCEPT: a join that waits starts; otherwise the next one may (R133). -/
def execPairJoinAccept (m : Nat) (s : State) : Out :=
  onCmd m 0x0605 s fun s =>
    if !(mayJoin s) then refuse m .wrongMode noDetail s
    else
      let s := complete m [] (s.onTwn fun x => { x with accept := true })
      if s.twn.waitingJoin && (portSends s 0 || portSends s 1) && s.get Reg.TWN_STATE_TWIN_MODE != 0 then startJoin s else s

/-- PAIR_SPLIT: byte 0 names the departing module by its position; refused with WRONG_MODE when the pair is not PAIRED (R150). -/
def execPairSplit (m : Nat) (s : State) : Out :=
  onCmd m 0x0606 s fun s =>
    let p := reqNat s m 0 1
    if p > 1 then refuse m .badField (atPayload 0) s
    else if !(s.pair = .paired && s.mode = .paired) || s.twn.margin then refuse m .wrongMode noDetail s
    else if s.twn.split.isSome then refuseBusy m s
    else if p = s.pos then splitSync (beginDepart (some m) s)
    else sendSplit 4 (s.onTwn fun x => { x with split := some (some m, false), owned := (provisioned s).filter (fun n => !(ownsReach s n)) })

/-- The named module of a CONTESTED pair is authoritative; the other catches up with every granule marked (R137). -/
def resolveTo (authPos : Nat) (s : State) : State :=
  if s.pair ≠ .contested then s
  else if authPos = s.pos then settleAuthority true s
  else settleCatching true true s

/-- PAIR_RESOLVE: byte 0 names the authoritative module by its position (R137). -/
def execPairResolve (m : Nat) (s : State) : Out :=
  onCmd m 0x0607 s fun s =>
    let p := reqNat s m 0 1
    if p > 1 then refuse m .badField (atPayload 0) s
    else if s.pair ≠ .contested then refuse m .wrongMode noDetail s
    else resolveTo p (complete m [] (linkSend "CATCHUP_MAP" 5 p [BitVec.ofNat 8 p] s))

/-- SOLO_START: the takeover with cause COMMAND, or the way back to mode SOLO (R138, R520). -/
def execSoloStart (m : Nat) (s : State) : Out :=
  onCmd m 0x0608 s fun s =>
    if s.mode ≠ .quiesced then refuse m .wrongMode noDetail s
    else if s.pair = .catchingUp || s.get Reg.MOD_STATE_RESTORE == 0 || s.get Reg.TWN_STATE_TWIN_MODE != 0 then refuse m .notPermitted noDetail s
    else if !(s.pair = .unpaired || s.pair = .fenced || s.pair = .contested || s.pair = .solo) then refuse m .wrongMode noDetail s
    else if s.get Reg.MOD_STATE_SERVE_BLOCK ≠ 0 then refuse m .wrongMode noDetail s
    else if s.pair = .solo then complete m [] (arrive .solo s)
    else declareLost 7 true (s.onTwn fun x => { x with soloMbx := some m, margin := false })

/-- LINK_UNFENCE: byte 0 names the link as event 0x0506 does: 0 the cable, 4 or 5 a port (R157). -/
def execLinkUnfence (m : Nat) (s : State) : Out :=
  onCmd m 0x0609 s fun s =>
    let k := reqNat s m 0 1
    if k = 0 then complete m [] (unfenceLink 0 s)
    else if k = 4 || k = 5 then complete m [] (portSync (unfenceLink (k - 3) s))
    else refuse m .badField (atPayload 0) s

end Sys2Proof.Machine
end

