-- ==== Sys2Proof/Machine/Rilram.lean ====
section
/-!
DEFINITION. Sys2Proof/Machine/Rilram.lean: the Rilram link (R118 to R131, R157): sending, the header checks, delivery in FRAME_SEQ order, what each frame type
does, keys, ports.
-/
namespace Sys2Proof.Machine

open Sys2Proof

/-! ### Records from the twin (R88 to R93, R124, R135, R157) -/

/-- An ACK entry for a record that is applied already (R90). -/
def ackAgain (n : Nat) (s : State) : State :=
  s.onTwn fun x => { x with ackDue := x.ackDue.filter (fun e => e.1 != n) ++ [(n, appliedTo s n)] }

/-- The owner's record of a number replaces one of different content that is not retired: the discarded one is counted, its lines are rebuilt from the footing and
the records that remain (R135). -/
def replaceRec (w : WireRec) (old : Rec) (s : State) : State :=
  let s := (s.onCis fun x => { x with recs := x.recs.map (fun (r : Rec) => if r.pos = old.pos then { r with retired := true } else r) }).inc (Reg.TWN_RSY_STAT_COUNT 1)
  let s := modGran (lineGran old.line) (fun (e : Gran) => { e with cistern := e.cistern - 1 }) s
  let was := old.applied
  let s := place { recOfWire w true with held := true, visible := true, applied := was } s
  if was then
    let g := lineGran old.line
    let m := (old.lines.map lineIdx).foldl (fun m i => m + 2 ^ i) 0
    match footedCopy s g with
    | some f => mergeAnswer g m f.data f.poison f.snap s
    | none => mergeAnswer g m [] 0 0 s
  else s

/-- A record that the twin sends (R88, R90, R91, R135, R157). -/
def recvRecord (p : Nat) (s : State) (w : WireRec) : State :=
  let n := w.reach
  let isReach := w.kind == 5
  if !(w.kind == 1 || w.kind == 2 || w.kind == 3 || isReach) then s
  else if !(s.mirrors || s.pair = .catchingUp || s.twn.reconciling) then s
  else if !s.twn.reconciling && ((ownsReach s n && !isReach) || w.mirror) then violate (p + 1) s
  else if w.seq > s.get (Reg.TIR_REACH_SEQ_LAST_SEQ n) + 65536 then violate (p + 1) s
  else
    let s := s.onTwn fun x => { x with expect := x.expect.filter (fun e => !(e == (n, w.seq) && w.last)) }
    if isReach then append (recOfWire w true) false s
    else match s.cis.recs.find? (fun r => r.isData && !r.retired && r.reach == n && r.seq == w.seq && r.part == w.part) with
      | some old =>
        if s.twn.reconciling && !(ownsReach s n) && recFull { old with pos := 0 } != recFull { recOfWire w old.mirror with epoch := old.epoch, ticket := old.ticket, port := old.port }
        then replaceRec w old s else if old.applied then ackAgain n s else s
      | none =>
        if w.seq ≤ appliedTo s n then ackAgain n s
        else if s.cis.waitApp.any (fun r => r.reach == n && r.seq == w.seq && r.part == w.part) then s
        else
          let s := if ownsReach s n then s.onCis fun x => { x with assigned := tset 0 n (Nat.max w.seq (tget 0 n x.assigned)) x.assigned } else s
          append (recOfWire w true) false s

/-! ### FORWARD and RETURN (R21, R43, R72, R92) -/

/-- The atomic a FORWARD carries: operation (0 compare-swap, 1 fetch-add, 2 write), home address, operands. -/
def atomicOf : List Nat → Option AtomicOp
  | [op, addr, a, b] => some (if op = 0 then .compareSwap addr a b else if op = 1 then .fetchAdd addr a else .write addr a)
  | _ => none

/-- The piece of a write that a record carries. -/
def pieceOf (w : WireRec) : Piece :=
  { line := w.line, full := w.kind == 1, mask := w.mask, poison := w.poison, data := w.data.map (BitVec.ofNat 8) }

/-- A FORWARD of a write or atomic: sequenced by the owner; kept while the reach is in handover; returned without a record, naming the new owner, once the reach has
passed (R21, R43, R72). -/
def recvForward (ticket window cls : Nat) (recs : List WireRec) (atomic : List Nat) (s : State) : State :=
  let a := atomicOf atomic
  let pieces := recs.map pieceOf
  let reach := match a, pieces with
    | some x, _ => x.addr / 2 ^ 36
    | none, q :: _ => lineReach q.line
    | none, [] => 0
  let op : WriteOp := { ticket := ticket, src := .twin ticket, window := window, cls := cls, tenant := 0, port := (recs.head?.map WireRec.port).getD 8, pieces := pieces, atomic := a, gpf := false }
  if !s.mirrors then s
  else if !(ownsReach s reach) then linkSend "RETURN" reach ticket [BitVec.ofNat 8 (1 - s.pos)] s
  else if inHandover s reach then s.onCis fun x => { x with heldFwd := x.heldFwd ++ [op] }
  else match a with
    | some x => request { ticket := ticket, src := .twin ticket, line := x.addr / 64, window := window, tenant := 0, cls := cls, atomic := some x, chained := false, noPromote := false } s
    | none => sequenceReach op none (1 - s.pos) reach s

/-- A RETURN: the owner's records of a forwarded write, which this module appends and waits to hold and apply; or no record: an atomic that changed nothing completes
with the value, and a write whose reach has become this module's own is sequenced here (R43, R73, R92). -/
def recvReturn (ticket reach newOwner : Nat) (recs : List WireRec) (value : Nat) (refused : Bool) (s : State) : State :=
  match s.cis.waitOps.find? (fun w => w.op.ticket == ticket && w.fwd.contains reach) with
  | none => s
  | some w =>
    let s := s.sub (Reg.TIR_REACH_FWD_PENDING reach) 1
    match recs with
    | q :: _ =>
      let s := recs.foldl (fun s r => if r.seq ≤ appliedTo s reach then s else append (recOfWire r true) false s) s
      let w' : WaitOp := { w with fwd := w.fwd.filter (· != reach), parts := w.parts ++ [(reach, q.seq)], answer := if w.op.atomic.isSome then leBytes 8 value else w.answer }
      s.onCis fun x => { x with waitOps := x.waitOps.map (fun (y : WaitOp) => if y = w then w' else y) }
    | [] =>
      if newOwner = s.pos && !refused then
        (match w.op.atomic with
         | some _ => startOp w.op (s.onCis fun x => { x with waitOps := x.waitOps.filter (· != w) })
         | none =>
           let s := sequenceReach w.op none s.pos reach s
           let w' : WaitOp := { w with fwd := w.fwd.filter (· != reach), parts := w.parts ++ [(reach, assignedTo s reach)] }
           s.onCis fun x => { x with waitOps := x.waitOps.map (fun (y : WaitOp) => if y = w then w' else y) })
      else
        let s := s.onCis fun x => { x with waitOps := x.waitOps.filter (· != w) }
        answer w.op.src refused (if refused then [] else leBytes 8 value) (finishOp w.op.src w.op.ticket w.op.window s)

/-! ### STATE, HANDOVER and REACH_CTL (R37, R43, R57, R97, R140, R150, R279) -/

/-- Answer the twin's request for its copy of a quarter: S, the poison mask in its 128-bit form, and the plaintext (R267, R279). -/
def answerAsk (s : State) (k : Nat) : State :=
  let g := k / 4
  let q := k % 4
  let data := readBytes s.tir.home (g * 16384 + q * 4096) 4096
  linkSend "STATE" 3 k (leBytes 8 k ++ leBytes 8 (snapOf s g) ++ leBytes 16 (granPoison s g / 2 ^ (64 * q) % 2 ^ 64) ++ data) s

/-- A STATE frame: the twin's admission state, DEGRADED flag and LOCAL window flags; its requests for and answers of copies; its status under a cable fault; a
planned split (R57, R97, R140, R150, R279). -/
def recvState (adm degraded flags : Nat) (locals : List (Nat × Bool)) (asks : List Nat) (copies : List (Nat × Nat × Nat × List Nat)) (s : State) : State :=
  let s := (s.put Reg.TIR_CST_STATE_TWIN_ADMIT adm).put Reg.TWN_STATE_TWIN_DEGRADED degraded
  let s := locals.foldl (fun s e => s.put (Reg.TIR_REACH_TWIN_LOCAL e.1) (b2n e.2)) s
  let s := asks.foldl answerAsk s
  let s := copies.foldl (fun s c => ladderAnswer (c.1 / 4) (c.1 % 4) c.2.1 c.2.2.1 (c.2.2.2.map (BitVec.ofNat 8)) s) s
  let s := admitAll (settle (admitSync s))
  let s := if s.flag Reg.TWN_STATE_CABLE_FAULT then twinStatus (bitOf 0 flags) (bitOf 1 flags) s else s
  if bitOf 2 flags && s.pair = .paired && s.twn.split.isNone then splitSync (beginDepart none s)
  else if bitOf 3 flags && s.pair = .paired && s.twn.split.isNone then
    s.onTwn fun x => { x with split := some (none, false), owned := (provisioned s).filter (fun n => !(ownsReach s n)) }
  else if bitOf 4 flags && s.pair = .paired && s.twn.split.isSome then declareLost 7 false s
  else s

/-- A HANDOVER frame: step 0 asks the owner to begin, step 3 passes the last number to the new owner, step 4 says that the new owner has it (R43). -/
def recvHandover (n step seq : Nat) (s : State) : State :=
  if s.pair ≠ .paired then s
  else if step = 0 then
    (if ownsReach s n && (reachState s n == 1 || reachState s n == 3) then beginHandover n none s else s)
  else if step = 3 then
    (if ownsReach s n then s
     else
       let s := s.onCis fun x => { x with assigned := tset 0 n seq x.assigned, acked := tset 0 n seq x.acked }
       let s := (s.put (Reg.TIR_REACH_OWNER n) s.pos).put (Reg.TIR_REACH_LOCAL_OWNED n) 1
       endHandover n seq (linkSend "HANDOVER" n seq [4] s))
  else if step = 4 then splitSync (endHandover n seq s)
  else s

/-- A REACH_CTL frame: the twin provisions (0) or releases (1) a reach, or reports (2, 3) that it holds the record of this module's (R37, R41). -/
def recvReachCtl (n action kind owner : Nat) (s : State) : State :=
  if action ≥ 2 then
    reachOpsSync (s.onTwn fun x => { x with reachOps := x.reachOps.map (fun (o : ReachOp) => if o.reach = n && o.action + 2 == action && o.mbx.isSome then { o with twin := true } else o) })
  else if kind = 1 then
    (if action = 0 then (if reachState s n = 0 then provisionReach n 1 owner s else s)
     else if volatileReach s n && !(ownsReach s n) then releaseReach n s else s)
  else
    let o : ReachOp := { reach := n, action := action, kind := 0, owner := owner, mbx := none, own := false, twin := true }
    let s := s.onTwn fun x => { x with reachOps := x.reachOps ++ [o] }
    let s := if action = 1 then s.put (Reg.TIR_REACH_STATE n) 5 else s
    append (reachRec n action 0 owner true s) false s

/-! ### CATCHUP_MAP and GRANULE (R134 to R137, R148, R151 to R153, R616) -/

/-- JOINING or RESYNC, where CATCHUP_MAP and GRANULE frames belong (R157): a join under way or settled, a RESYNC. -/
def mapsAllowed (s : State) : Bool :=
  s.twn.joining || s.twn.settled || s.twn.twinSettled || s.pair = .joining || s.pair = .resyncing || s.pair = .catchingUp || s.pair = .contested

/-- The twin's history (R134): kept for the settlement, answered with this module's own; a module that catches up takes the numbers on (R151). -/
def recvHistory (h : TwinHist) (s : State) : State :=
  let first := s.twn.hist.isNone
  let s := s.onTwn fun x => { x with hist := some h, twinGen := h.gen }
  if s.pair = .catchingUp then followHistory h false s
  else if first && s.twn.joining then sendHistory s else s

/-- Marks of the twin's bitmap are added to this module's (R151). -/
def recvMap (grans regions : List Nat) (s : State) : State :=
  let s := regions.foldl (fun s r => if s.twn.coarse.contains r then s
    else s.onTwn fun x => { x with coarse := x.coarse ++ [r], cub := x.cub.filter (fun g => granRegion g != r) }) s
  cubSync (grans.foldl (fun s g => markGran g s) s)

/-- The authoritative module's void list: records it voided are discarded here, with a reach voided whole every one up to ADOPT_SEQ (R136, R616). -/
def recvVoids (entries : List (Nat × Nat)) (whole : List Nat) (s : State) : State :=
  let s := (entries.map Prod.fst).eraseDups.foldl (fun s n => discardRecs n (fun r => entries.contains (n, r.seq)) s) s
  whole.foldl (fun s n =>
    let top := match s.twn.hist with | some h => (match h.reaches.find? (fun e => e.reach == n) with | some e => e.adopt | none => 0) | none => 0
    markReach n (discardRecs n (fun r => decide (r.seq ≤ top)) s)) s

/-- A streamed granule is whole: bytes of records above S stay, the rest takes the streamed value; the drain packs it (R135, R153). -/
def mergeGranule (g snap poison : Nat) (data : List Byte) (s : State) : State :=
  let cells := (List.range 16384).zip (padTo 16384 data)
  let s := if (s.gran g).cached then s else match allocFloor g allLines 0 0 s with
    | some s => s
    | none => frameWait 1 s
  let s := mergeAnswer g allLines cells poison snap s
  let s := modGran g (fun (e : Gran) => { e with loftValid := if e.loft then allLines else 0, floorValid := if e.floor then allLines else 0, fillQ := 0 }) s
  let s := s.onTwn fun x => { x with merged := tins g snap x.merged, partialG := x.partialG.filter (· != g), halves := x.halves.filter (fun h => h.1 != g),
                                     expectG := x.expectG.filter (· != g) }
  reconcileSync (queuePack g s)

/-- One half of a granule arrives with the poison mask of its 128 lines; with the other half the granule is merged (R121, R153, R267). -/
def recvGranule (g half snap poison : Nat) (data : List Nat) (s : State) : State :=
  let bytes := padTo 8192 (data.map (BitVec.ofNat 8))
  match s.twn.halves.find? (fun h => h.1 == g && h.2.1 != half) with
  | some (_, h, p, other) =>
    let mask := if h = 0 then p + 2 ^ 128 * (poison % 2 ^ 128) else poison % 2 ^ 128 + 2 ^ 128 * p
    mergeGranule g snap mask (if h = 0 then other ++ bytes else bytes ++ other) s
  | none => s.onTwn fun x => { x with halves := x.halves.filter (fun h => h.1 != g) ++ [(g, half, poison % 2 ^ 128, bytes)] }

/-- Granules footed and journalled at the twin leave the bitmap (R153). -/
def recvGranuleAck (grans : List Nat) (s : State) : State :=
  if s.pair ≠ .resyncing then s
  else grans.foldl (fun s g =>
    clearGran g (s.onTwn fun x => { x with streamed := x.streamed.filter (· != g), twinPartial := x.twinPartial.filter (· != g) })) s

/-- An ACK entry, a number never sent counted against its port (R124, R157). -/
def ackFrom (p : Nat) (e : Nat × Nat) (s : State) : State :=
  if e.2 > Nat.max (assignedTo s e.1) (s.get (Reg.TIR_REACH_SEQ_LAST_SEQ e.1)) then violate (p + 1) s else ackEntry e s

/-! ### Delivery (R120, R123, R126, R130, R157) -/

/-- Send again every frame from a number onwards, unchanged (R126). -/
def resendFrom (p k : Nat) (s : State) : State :=
  ((s.port p).resend.filter (fun e => decide (k ≤ e.1))).foldl (fun s e => (s.send e.2).inc (Reg.TWN_PORT_STAT_COUNT p 0)) s

/-- The effect of a frame that is delivered in its order (R121); from a declaration to the next join frames are not acted on (R144). -/
def deliverBody (p : Nat) (b : FrameBody) (s : State) : State :=
  match b with
  | .keepalive | .setup _ _ _ => s
  | .resend k => resendFrom p k s
  | .rekey inst =>
    let old := s.get (Reg.TWN_PORT_KEY_RX_INSTANCE p)
    (onPort p (fun (x : PortSt) => { x with rxOld := some (old, x.rxCounter), rxNewAt := none, rxCounter := 0 }) s).put (Reg.TWN_PORT_KEY_RX_INSTANCE p) inst
  | _ =>
    if s.twn.deaf then s
    else match b with
      | .records rs => reconcileSync (settle (rs.foldl (recvRecord p) s))
      | .forward t w c rs a => settle (recvForward t w c rs a s)
      | .ret t n o rs v r => admitAll (settle (recvReturn t n o rs v r s))
      | .ack es => splitSync (handoverSync (settle (es.foldl (fun s e => ackFrom p e s) s)))
      | .status a d _ f l q c => recvState a d f l q c s
      | .handover n k q => admitAll (settle (recvHandover n k q s))
      | .reachCtl n a k o => recvReachCtl n a k o s
      | .history h => if mapsAllowed s then recvHistory h s else violate (p + 1) s
      | .resolve a => resolveTo a s
      | .catchupMap g r => if mapsAllowed s then recvMap g r s else violate (p + 1) s
      | .voidList e w => if mapsAllowed s then recvVoids e w s else violate (p + 1) s
      | .granule g h sn po d => if mapsAllowed s then recvGranule g h sn po d s else violate (p + 1) s
      | .granuleAck g => recvGranuleAck g s
      | _ => s

/-- How far a FRAME_SEQ lies ahead of the next one expected, in 32-bit arithmetic; numbers already passed lie 2^31 and more ahead. -/
def seqAhead (p seq : Nat) (s : State) : Nat := (seq + 2 ^ 32 - (s.port p).rxSeq % 2 ^ 32) % 2 ^ 32

/-- Deliver kept frames while the next number is among them. -/
def deliverKept (p : Nat) : Nat → State → State
  | 0, s => s
  | n + 1, s =>
    match (s.port p).ahead.find? (fun e => e.1 == (s.port p).rxSeq) with
    | none => s
    | some e =>
      let s := onPort p (fun (x : PortSt) => { x with ahead := x.ahead.filter (fun y => y.1 != e.1), rxSeq := (x.rxSeq + 1) % 2 ^ 32 }) s
      deliverKept p n (deliverBody p e.2 s)

/-- The first violation of R157 that a frame's header shows; a KEY_INSTANCE may be the current one or, until 100 µs after the first frame under it, the previous
one (R130). -/
def headerFault (h : FrameHdr) (sealed genFree : Bool) (s : State) : Option Nat :=
  let p := h.port % 2
  let q := s.port p
  let cur := h.instance32 == s.get (Reg.TWN_PORT_KEY_RX_INSTANCE p)
  let recent := match q.rxNewAt with | some t => decide (s.epoch < t + 100) | none => true
  let old := match q.rxOld with | some (i, _) => h.instance32 == i && recent | none => false
  let least := if cur then q.rxCounter else match q.rxOld with | some (_, c) => c | none => 0
  if sealed && !h.tagOk then some 0
  else if h.version ≠ 1 then some 1
  else if sealed && !(cur || old) then some 2
  else if sealed && decide (h.counter < least) then some 3
  else if 4096 ≤ seqAhead p h.frameSeq s then some 4
  else if h.overCredit || decide (h.length > 9000) then some 5
  else if !genFree && s.twn.hist.isSome && h.genLow != s.twn.twinGen % 2 ^ 32 then some 6
  else none

/-- Send a RESEND frame naming the first missing number (R126, R157). -/
def askResend (p : Nat) (s : State) : State :=
  (sendOn p "RESEND" 0 (s.port p).rxSeq [] s).inc (Reg.TWN_PORT_STAT_COUNT p 3)

/-- A CATCHUP_MAP history or resolution, whose generation is not compared (R132). -/
def genFree : FrameBody → Bool
  | .history _ => true
  | .resolve _ => true
  | _ => false

/-- A connection-setup frame. -/
def setupBody : FrameBody → Bool
  | .setup _ _ _ => true
  | _ => false

/-- Frames of a resend store that an ACK_SEQ does not acknowledge (R126). -/
def unacknowledged (ackSeq : Nat) (l : List (Nat × Msg)) : List (Nat × Msg) := l.filter (fun e => decide ((ackSeq + 2 ^ 32 - e.1) % 2 ^ 32 ≥ 2 ^ 31))

/-- A frame whose header is right is taken: counted, its epoch kept, its credits and ACK_SEQ used, its body kept for delivery; a sealed frame in order moves the replay
counter of its key instance (R123, R126, R130). -/
def frameTaken (h : FrameHdr) (sealed : Bool) (b : FrameBody) (s : State) : State :=
  let p := h.port % 2
  let cur := h.instance32 == s.get (Reg.TWN_PORT_KEY_RX_INSTANCE p)
  let inOrder := sealed && h.frameSeq == (s.port p).rxSeq
  let t := (s.inc (Reg.TWN_PORT_STAT_COUNT p 1)).onTwn fun x => { x with frameAt := s.epoch }
  onPort p (fun (x : PortSt) =>
    { x with credit := h.credits * 256, resend := unacknowledged h.ackSeq x.resend,
             rekeyAt := if (unacknowledged h.ackSeq x.resend).any (fun e => match e.2 with | .frame _ c _ _ _ => c == "REKEY" | _ => false) then x.rekeyAt else none,
             rxCounter := if inOrder && cur then h.counter + 1 else x.rxCounter,
             rxOld := if inOrder && !cur then x.rxOld.map (fun o => (o.1, h.counter + 1)) else x.rxOld,
             rxNewAt := if sealed && cur && x.rxOld.isSome then x.rxNewAt.orElse (fun _ => some s.epoch) else x.rxNewAt,
             ahead := x.ahead ++ [(h.frameSeq, b)] }) t

/-- A frame with a violation in its header is discarded (R157); one too far ahead is asked for again (R126). -/
def frameRefused (p v : Nat) (s : State) : State :=
  let t := if v = 0 then s.inc (Reg.TWN_PORT_STAT_COUNT p 4) else s
  violate (p + 1) (if v = 4 && s.get (Reg.TWN_PORT_STATE_LINK p) == 2 then askResend p t else t)

/-- Receive a frame: its header is checked, a number already accepted is discarded, ACK_SEQ releases the resend store, and the body is delivered in FRAME_SEQ order
(R120, R123, R126, R157). -/
def receive (h : FrameHdr) (sealed : Bool) (b : FrameBody) (s : State) : State :=
  let p := h.port % 2
  let link := s.get (Reg.TWN_PORT_STATE_LINK p)
  if !(link == 2 || (setupBody b && link == 1)) then s
  else if (decide (2 ^ 31 ≤ seqAhead p h.frameSeq s) || (s.port p).ahead.any (fun e => e.1 == h.frameSeq)) && (!sealed || h.tagOk) then s
  else match headerFault h sealed (genFree b) s with
    | some v => frameRefused p v s
    | none => deliverKept p ((s.port p).ahead.length + 1) (frameTaken h sealed b s)

/-- A sealed frame arrives while every island runs. -/
def onFrame (h : FrameHdr) (b : FrameBody) (s : State) : Out := onUp s (receive h true b)

/-! ### The frame rows -/

/-- KEEPALIVE_FRAME (R122). -/
def execKeepaliveFrame (h : FrameHdr) (s : State) : Out := onFrame h .keepalive s
/-- RECORDS_FRAME (R90). -/
def execRecordsFrame (h : FrameHdr) (recs : List WireRec) (s : State) : Out := onFrame h (.records recs) s
/-- FORWARD_FRAME (R21). -/
def execForwardFrame (h : FrameHdr) (ticket window cls : Nat) (recs : List WireRec) (atomic : List Nat) (s : State) : Out :=
  onFrame h (.forward ticket window cls recs atomic) s
/-- RETURN_FRAME (R92). -/
def execReturnFrame (h : FrameHdr) (ticket reach newOwner : Nat) (recs : List WireRec) (value : Nat) (refused : Bool) (s : State) : Out :=
  onFrame h (.ret ticket reach newOwner recs value refused) s
/-- ACK_FRAME (R124). -/
def execAckFrame (h : FrameHdr) (entries : List (Nat × Nat)) (s : State) : Out := onFrame h (.ack entries) s
/-- RESEND_FRAME (R126). -/
def execResendFrame (h : FrameHdr) (fromSeq : Nat) (s : State) : Out := onFrame h (.resend fromSeq) s
/-- STATE_FRAME (R97, R57, R279). -/
def execStateFrame (h : FrameHdr) (adm degraded portsOk flags : Nat) (locals : List (Nat × Bool)) (asks : List Nat)
    (copies : List (Nat × Nat × Nat × List Nat)) (s : State) : Out :=
  onFrame h (.status adm degraded portsOk flags locals asks copies) s
/-- HANDOVER_FRAME (R43). -/
def execHandoverFrame (h : FrameHdr) (reach step seq : Nat) (s : State) : Out := onFrame h (.handover reach step seq) s
/-- REACH_CTL_FRAME (R37). -/
def execReachCtlFrame (h : FrameHdr) (reach action kind owner : Nat) (s : State) : Out := onFrame h (.reachCtl reach action kind owner) s
/-- CATCHUP_MAP_FRAME: a history, a resolution, bitmap pages or the void list (R134, R137, R151, R616). -/
def execCatchupMapFrame (h : FrameHdr) (body : FrameBody) (s : State) : Out :=
  match body with
  | .history _ | .resolve _ | .catchupMap _ _ | .voidList _ _ => onFrame h body s
  | _ => onUp s (violate (h.port % 2 + 1))
/-- GRANULE_FRAME (R153). -/
def execGranuleFrame (h : FrameHdr) (gran half snap poison : Nat) (data : List Nat) (s : State) : Out := onFrame h (.granule gran (half % 2) snap poison data) s
/-- GRANULE_ACK_FRAME (R153). -/
def execGranuleAckFrame (h : FrameHdr) (grans : List Nat) (s : State) : Out := onFrame h (.granuleAck grans) s
/-- REKEY_FRAME (R130). -/
def execRekeyFrame (h : FrameHdr) (newInstance : Nat) (s : State) : Out := onFrame h (.rekey newInstance) s

/-- PARITY_FRAME: a frame that the group allows to be rebuilt, with a good tag, is accepted as if received; a loss that cannot be rebuilt is asked for again (R125,
R126). -/
def execParityFrame (h : FrameHdr) (rebuilt : Option (FrameHdr × FrameBody)) (s : State) : Out :=
  onUp s fun s =>
    let p := h.port % 2
    if s.get (Reg.TWN_PORT_STATE_LINK p) ≠ 2 then s
    else
      let t := receive h false .keepalive s
      match rebuilt with
      | some (h', b) =>
        if h'.tagOk && h'.port % 2 == p && (headerFault h' true true t).isNone then receive h' true b (t.inc (Reg.TWN_PORT_STAT_COUNT p 2)) else askResend p t
      | none => if (t.port p).ahead.isEmpty then t else askResend p t

/-- A port is keyed: its keys take their instances and their first blocks are reserved, its link is up; event 0x0505 (R128, R376). -/
def portKeyed (p inst : Nat) (s : State) : State :=
  let q := s.free 32
  let s := ((q.2.put (Reg.TWN_PORT_KEY_TX_INSTANCE p) q.1).put (Reg.TWN_PORT_KEY_RX_INSTANCE p) inst).put (Reg.TWN_PORT_REKEY_TX_FRAMES p) 0
  let s := (s.put (Reg.TWN_PORT_STATE_LINK p) 2).put (Reg.TWN_PORT_STATE_BLOCK_WAIT p) 0
  let s := onPort p (fun (x : PortSt) => { x with counter := 0, counterEnd := 9 * 2 ^ 24, rxCounter := 0, rxOld := none, rxNewAt := none, setup := false, keyAt := s.epoch }) s
  raise 0x0505 (4 + p) 0 (portSync (jrnlLink (s.add (Reg.CPH_STAT_COUNT 5) 9)))

/-- A connection-setup frame leaves a port (R128). -/
def sendSetup (p : Nat) (s : State) : State := (s.send (.frame (4 + p) "SETUP" 0 0 [])).inc (Reg.TWN_PORT_STAT_COUNT p 0)

/-- SETUP_FRAME: the SPDM messages of connection setup; after the last one, with mutual authentication, the port is keyed: its keys take fresh instances and their
first blocks are reserved (R128, R376). -/
def execSetupFrame (h : FrameHdr) (last : Bool) (inst : Nat) (ok : Bool) (s : State) : Out :=
  onUp s fun s =>
    let p := h.port % 2
    if s.get (Reg.TWN_PORT_STATE_LINK p) ≠ 1 then s
    else
      let t := receive h false (.setup last inst ok) s
      if !ok then portGone p 0 t else if last then portKeyed p inst t else sendSetup p t

/-! ### Sending rows -/

/-- TWIN_SEND: a record of an own reach leaves as RECORDS while mirroring is in force, a request for the twin's reach as FORWARD; nothing else may be sent (R91,
R120, R123). -/
def execTwinSend (w : WireRec) (s : State) : Out :=
  onUp s fun s =>
    let r := recOfWire w false
    let own := ownsReach s w.reach
    (if !s.mirrors || s.twn.margin || !(r.isData || r.kind = .reach) then s
      else if own then linkSend "RECORDS" w.reach w.seq (recFull r) s
      else if r.isData then linkSend "FORWARD" w.reach w.ticket (recFull r) s else s).send (.prim "TWIN_SEND" 0 w.ticket)

/-- KEEPALIVE_SEND: a port that has sent nothing for 1.0 µs (R122). -/
def execKeepaliveSend (p : Nat) (s : State) : Out := onUp s fun s => if portSends s (p % 2) then sendOn (p % 2) "KEEPALIVE" 0 0 [] s else s

/-- PARITY_FRAME_SEND: 200 ns after the first frame of an unfinished group (R125). -/
def execParityFrameSend (p : Nat) (s : State) : Out :=
  onUp s fun s => if portSends s (p % 2) && (s.port (p % 2)).group > 0 then sendParity (p % 2) s else s

/-- ACK_FRAME_SEND: the entries that are due leave in one ACK frame (R124). -/
def execAckFrameSend (s : State) : Out :=
  onUp s fun s =>
    if s.twn.ackDue.isEmpty || !(portSends s 0 || portSends s 1) then s
    else
      let body := s.twn.ackDue.flatMap (fun e => leBytes 2 e.1 ++ leBytes 8 e.2)
      linkSend "ACK" 0 0 body (s.onTwn fun x => { x with ackDue := [] })

/-! ### Keys (R130, R131) -/

/-- REKEY_DUE: after 2^40 frames or REKEY_HOURS the direction takes the next key instance and sends under it; the record of its blocks
is programmed, and the one that says the old instance is forgotten (R130, R376, R378). -/
def execRekeyDue (p : Nat) (s : State) : Out :=
  onUp s fun s =>
    let p := p % 2
    let due := decide (s.get (Reg.TWN_PORT_REKEY_TX_FRAMES p) ≥ 2 ^ 40) || decide (s.epoch ≥ (s.port p).keyAt + s.get Reg.TWN_CFG_REKEY_HOURS * 3600000000)
    if !(portSends s p) || !due || (s.port p).rekeyAt.isSome then s
    else
      let inst := (s.get (Reg.TWN_PORT_KEY_TX_INSTANCE p) + 1) % 2 ^ 32
      let t := ((sendOn p "REKEY" 0 inst (leBytes 4 inst) s).put (Reg.TWN_PORT_KEY_TX_INSTANCE p) inst).put (Reg.TWN_PORT_REKEY_TX_FRAMES p) 0
      jrnlLink (jrnlLink ((onPort p (fun (x : PortSt) => { x with rekeyAt := some s.epoch, keyAt := s.epoch, counter := 0, counterEnd := 9 * 2 ^ 24 }) t).add
        (Reg.CPH_STAT_COUNT 5) 9))

/-- REKEY_RETRY: a rekey not complete 1 ms after it started is tried again (R131). -/
def execRekeyRetry (p : Nat) (s : State) : Out :=
  onUp s fun s =>
    let p := p % 2
    match (s.port p).rekeyAt with
    | some t =>
      if portSends s p && decide (s.epoch ≥ t + 1000) then
        sendOn p "REKEY" 0 (s.get (Reg.TWN_PORT_KEY_TX_INSTANCE p)) (leBytes 4 (s.get (Reg.TWN_PORT_KEY_TX_INSTANCE p))) (onPort p (fun (x : PortSt) => { x with rekeyAt := some s.epoch }) s)
      else s
    | none => s

/-- OLD_KEY_DROP: 100 µs after the first frame under the new key instance the previous one is dropped (R130). -/
def execOldKeyDrop (p : Nat) (s : State) : Out :=
  onUp s fun s =>
    match (s.port (p % 2)).rxNewAt with
    | some t => if s.epoch ≥ t + 100 then onPort (p % 2) (fun (x : PortSt) => { x with rxOld := none, rxNewAt := none }) s else s
    | none => s

/-- KEY_USE_LIMIT: 2^41 frames or 25 hours under one key instance: the port is fenced, event 0x0E01 (R131). -/
def execKeyUseLimit (p : Nat) (s : State) : Out :=
  onUp s fun s =>
    let p := p % 2
    if s.get (Reg.TWN_PORT_STATE_LINK p) = 2 &&
        (decide (s.get (Reg.TWN_PORT_REKEY_TX_FRAMES p) ≥ 2 ^ 41) || decide (s.epoch ≥ (s.port p).keyAt + 25 * 3600000000)) then
      fenceLink (p + 1) (raise 0x0E01 (4 + p) 0 s)
    else s

/-! ### Ports (R118, R119, R127, R157) -/

/-- RILRAM_PORT_DOWN (R127). -/
def execRilramPortDown (p : Nat) (s : State) : Out :=
  onUp s fun s =>
    let p := p % 2
    if s.get (Reg.TWN_PORT_STATE_LINK p) = 0 || s.get (Reg.TWN_PORT_STATE_LINK p) = 3 then s else portGone p 0 s

/-- RILRAM_PORT_UP: the cable delay, in tenths of a nanosecond, is measured: above 55 ns the port is refused; with the ports crossed both are (R118, R119); otherwise
connection setup begins (R128). -/
def execRilramPortUp (p delay : Nat) (crossed : Bool) (s : State) : Out :=
  onUp s fun s =>
    let p := p % 2
    if s.get (Reg.TWN_PORT_STATE_LINK p) ≠ 0 then s
    else if crossed then
      raise 0x0505 (4 + p) 0 (portSync ((((s.put (Reg.TWN_PORT_STATE_CROSSED 0) 1).put (Reg.TWN_PORT_STATE_CROSSED 1) 1).put (Reg.TWN_PORT_STATE_LINK 0) 0).put (Reg.TWN_PORT_STATE_LINK 1) 0))
    else if delay > 550 then raise 0x0505 (4 + p) 0 s
    else
      sendSetup p (onPort p (fun (_ : PortSt) => { PortSt.init with setup := true }) ((s.put (Reg.TWN_PORT_STATE_CROSSED p) 0).put (Reg.TWN_PORT_STATE_LINK p) 1))

/-- RILRAM_VIOLATION_LIMIT: 16 violations within 1 s fence the link (0 the cable, 1 port 4, 2 port 5), event 0x0506 (R157). -/
def execRilramViolationLimit (k : Nat) (s : State) : Out :=
  onUp s fun s =>
    let k := k % 3
    if decide (violsOf k s ≥ 16) && !(s.flag (violFence k)) then fenceLink k (raise 0x0506 (linkName k) 0 s) else s

end Sys2Proof.Machine
end

