-- ==== Sys2Proof/Machine/YardOps.lean ====
section
/-!
DEFINITION. Sys2Proof/Machine/YardOps.lean: shared operations on the yard's pools and the ditches (12_yard_and_ditches.md R388 to R405), and the fence of a
loft stack (R81 to R83, R184, R409).
-/
namespace Sys2Proof.Machine

open Sys2Proof

/-! ### Pools (R388 to R395) -/

/-- Buffers of a pool since bring-up. -/
def poolCount (s : State) (p : Nat) : Nat := s.inForce (Reg.YRD_POOL_CFG_COUNT p)
/-- Buffers a pool can grant: handle 0 is never granted (R391). -/
def poolGrants (s : State) (p : Nat) : Nat := poolCount s p - (if p = 0 then 1 else 0)
/-- Whether a pool is LOST. -/
def poolLost (s : State) (p : Nat) : Bool := s.flag (Reg.YRD_POOL_STATE_LOST p)
/-- Buffers held of a pool. -/
def poolHeld (s : State) (p : Nat) : Nat := (s.yrd.bufs.filter (fun e => e.1 / 2 ^ 28 == p)).length

/-- YRD_POOL_STATE.FREE and LOW_FREE of a pool as its buffers stand. -/
def yardSync (p : Nat) (s : State) : State :=
  let f := poolGrants s p - poolHeld s p
  let s := s.put (Reg.YRD_POOL_STATE_FREE p) f
  if f < s.get (Reg.YRD_POOL_STATE_LOW_FREE p) then s.put (Reg.YRD_POOL_STATE_LOW_FREE p) f else s

/-- The lowest free index of a pool, as a handle; none when the pool is empty. -/
def poolPick (p : Nat) (s : State) : Option Nat :=
  let h := tnext (p * 2 ^ 28 + (if p = 0 then 1 else 0)) s.yrd.bufs
  if h < p * 2 ^ 28 + poolCount s p then some h else none

/-- The smallest class whose buffers hold a size (R393). -/
def classFor (size : Nat) : Nat := if size ≤ 256 then 0 else if size ≤ 4096 then 1 else if size ≤ 65536 then 2 else 3

/-- ALLOC's pool and handle: the lowest-numbered pool of the class that the group may use and that is neither empty nor LOST (R390, R393). -/
def allocPick (size group : Nat) (s : State) : Option Nat :=
  ((List.range 4).map (fun i => 4 * classFor size + i)).findSome? (fun p =>
    if decide (group < 7) && bitOf group (s.get (Reg.YRD_POOL_CTL_USERS p)) && !(poolLost s p) then poolPick p s else none)

/-- Owner IDs that name a holder (R391). -/
def ownerValid (o : Nat) : Bool :=
  decide (o < 0x200) || o == 0x200 || (decide (0x210 ≤ o) && decide (o < 0x238)) || (decide (0x300 ≤ o) && decide (o < 0x320)) ||
    (decide (0x320 ≤ o) && decide (o < 0x326)) || o == 0x330 || (decide (0x340 ≤ o) && decide (o < 0x348))

/-- Record a refusal of FREE or HANDOVER in YRD_FAULT_LOG, with its count and event (R395). -/
def yardFault (handle caller : Nat) (st : St) (s : State) : State :=
  let p := handle / 2 ^ 28 % 16
  let s := ((s.put Reg.YRD_FAULT_LOG_HANDLE handle).put Reg.YRD_FAULT_LOG_CALLER caller).put Reg.YRD_FAULT_LOG_STATUS st.code
  if st = .doubleFree then raise 0x0901 handle caller (s.inc (Reg.YRD_STAT_COUNT p 3))
  else raise 0x0902 handle caller (s.inc (Reg.YRD_STAT_COUNT p 4))

/-- The checks of R395 on a handle, in order; `owner` is HANDOVER's new owner. -/
def handleCheck (handle caller : Nat) (owner : Option Nat) (s : State) : Option St :=
  let p := handle / 2 ^ 28 % 16
  if handle = 0 || poolCount s p == 0 || owner.any (fun o => !(ownerValid o)) then some .badField
  else if handle % 2 ^ 28 ≥ poolCount s p then some .bounds
  else match tfind handle s.yrd.bufs with
    | none => some .doubleFree
    | some o =>
      if o ≠ caller then some .notOwner
      else if owner.isSome && poolLost s p then some .mediaFailed
      else none

/-- Free a held buffer. -/
def freeBuf (handle : Nat) (s : State) : State :=
  let p := handle / 2 ^ 28 % 16
  yardSync p ((s.onYrd fun x => { x with bufs := tdel handle x.bufs }).inc (Reg.YRD_STAT_COUNT p 1))

/-! ### Queues and cells (R397 to R405) -/

/-- A fixed queue: open from bring-up (R398). -/
def queueFixed (q : Nat) : Bool :=
  decide (q < 0xA) || (decide (0x10 ≤ q) && decide (q < 0x36)) || (decide (0x100 ≤ q) && decide (q < 0x4000))

/-- MAX_CELLS of a fixed queue (R398). -/
def fixedMax (q : Nat) : Nat :=
  if q < 8 then 16384 else if q < 0xA then 65536 else if q < 0x30 then 8192 else if q < 0x36 then 16384 else Config.imageCells q

/-- A fixed queue that holds nothing. -/
def fixedQueue (q : Nat) : DQueue :=
  { state := 1, consumer := (Config.fixedConsumer q).1 % 65536, notice := (Config.fixedConsumer q).2 % 2 ^ 32, maxCells := fixedMax q, packets := [], part := false,
    opens := [] }

/-- A queue that is OPEN or CLOSING. -/
def State.queue (s : State) (q : Nat) : Option DQueue :=
  match tfind q s.yrd.queues with
  | some x => some x
  | none => if queueFixed q && s.yrd.started then some (fixedQueue q) else none

/-- Cells of a queue, open packets included. -/
def DQueue.cells (x : DQueue) : Nat := (x.packets.foldl (fun n p => n + p.length) 0) + (x.opens.foldl (fun n p => n + p.2.length) 0)

/-- The half of the loft cell store a cell lies in; none for an on-die cell (R397). -/
def cellHalf (c : Nat) : Option Nat := if c < 65536 then none else some ((c - 65536) / 2097152)

/-- The two stacks that hold the loft cells: those without a cistern copy at bring-up (R397). -/
def cellStacks (s : State) : List Nat := (List.range 4).filter (fun n => !((stackPair (s.inForce Reg.TIR_CST_CFG_STACKS)).contains n))

/-- The next free cell: on-die first, then the loft's halves that are not lost (R397). -/
def cellPick (s : State) : Option Nat :=
  let c := tnext 0 s.yrd.cells
  if c < 65536 then some c
  else if !(s.yrd.lost.contains 0) && decide (c < 65536 + 2097152) then some c
  else
    let d := tnext (65536 + 2097152) s.yrd.cells
    if !(s.yrd.lost.contains 1) && decide (d < 4259840) then some d else none

/-- Free cells in all. -/
def cellsFree (s : State) : Nat := s.get Reg.DQM_STATE_ONDIE_FREE + s.get Reg.DQM_STATE_LOFT_FREE

/-- Packets open module-wide. -/
def openPackets (s : State) : Nat := s.yrd.queues.foldl (fun n e => n + e.2.opens.length) 0

/-- DQM_STATE and DQM_STATE2 as the cells and the queues stand (R397, R405): 16,176 fixed queues. -/
def ditchSync (s : State) : State :=
  if !s.yrd.started then s
  else
    let die := (s.yrd.cells.filter (fun e => decide (e.1 < 65536))).length
    let loft := s.yrd.cells.length - die
    let s := (s.put Reg.DQM_STATE_ONDIE_FREE (65536 - die)).put Reg.DQM_STATE_LOFT_FREE (4194304 - 2097152 * s.yrd.lost.length - loft)
    let s := s.put Reg.DQM_STATE_LOW (b2n (decide (cellsFree s < s.get Reg.DQM_CFG_LOW_CELLS)))
    (s.put Reg.DQM_STATE2_QUEUES_OPEN (16176 + (s.yrd.queues.filter (fun e => !(queueFixed e.1))).length)).put Reg.DQM_STATE2_OPEN_PACKETS (openPackets s)

/-- Rate-limited events of the cell store (R405). -/
def cellEvents (s : State) : State :=
  let s := if cellsFree s < s.get Reg.DQM_CFG_LOW_CELLS then raiseRl 0x0904 0 (cellsFree s) s else s
  if cellsFree s = 0 then raiseRl 0x0905 0 0 s else s

/-- Write a queue back; an idle fixed queue is not listed. -/
def putQueue (q : Nat) (x : DQueue) (s : State) : State :=
  s.onYrd fun y => { y with queues := if queueFixed q && decide (x = fixedQueue q) then tdel q y.queues else tins q x y.queues }

/-- Free the cells of a list. -/
def freeCells (cs : List DCell) (s : State) : State := s.onYrd fun y => { y with cells := cs.foldl (fun m c => tdel c.num m) y.cells }

/-- A queue that is CLOSING and empty is CLOSED (R404). -/
def closeQueue (q : Nat) (s : State) : State :=
  match tfind q s.yrd.queues with
  | some x => if x.state = 2 ∧ x.packets.isEmpty ∧ x.opens.isEmpty then s.onYrd fun y => { y with queues := tdel q y.queues } else s
  | none => s

/-- Drop a caller's open packet for a queue: its cells are free (R403). -/
def dropOpen (q caller : Nat) (s : State) : Nat × State :=
  match s.queue q with
  | none => (0, s)
  | some x =>
    match x.opens.find? (fun e => e.1 == caller) with
    | none => (0, s)
    | some e =>
      let s := freeCells e.2 (putQueue q { x with opens := x.opens.filter (fun o => o.1 != caller) } s)
      let s := (s.inc (Reg.DQM_STAT_COUNT 5)).add (Reg.DQM_STAT_COUNT 7) e.2.length
      (e.2.length, ditchSync (closeQueue q s))

/-- Pools full and queues empty, as bring-up places them (R388, R398). -/
def startYard (s : State) : State :=
  let s := s.onYrd fun _ => { YrdSt.init with started := true }
  ditchSync ((List.range 16).foldl (fun s p =>
    ((s.put (Reg.YRD_POOL_STATE_LOST p) 0).put (Reg.YRD_POOL_STATE_LOW_FREE p) (poolGrants s p)).put (Reg.YRD_POOL_STATE_FREE p) (poolGrants s p)) s)

/-! ### A fenced loft stack (R81 to R83, R184, R409) -/

/-- Bytes of a stack that a cistern copy may take: what is left beside the pools, the cells and the metadata, the loft frames being evicted (R81, R82). -/
def roomFor (s : State) (n : Nat) : Nat :=
  stackCap s n * 16384 + (if (cisternStacks s).contains n then s.effBytes else 0) + (34078720 + s.inForce Reg.TIR_LOFT_CFG_META_GIB * 2 ^ 30) / 4

/-- Choose the stack of the new copy: the lowest-numbered healthy one beside the survivor with room; with none COPIES is 2 and the module DEGRADED (R81, R82). -/
def seekCopy (survivor : Nat) (s : State) : State :=
  let s := s.onCis fun x => { x with survivor := some survivor, newStack := none, roomMade := false }
  match (List.range 4).find? (fun n => n != survivor && stackUp s n && decide (roomFor s n ≥ s.effBytes)) with
  | some n => (s.onCis fun x => { x with newStack := some n }).put Reg.TIR_CST_STATE_COPIES 1
  | none => raise 0x0307 survivor 2 (s.put Reg.TIR_CST_STATE_COPIES 2)

/-- The cistern when stack n is fenced (R81 to R83). -/
def cisternFence (n : Nat) (s : State) : State :=
  let copies := s.get Reg.TIR_CST_STATE_COPIES
  if !((cisternStacks s).contains n) then s
  else if copies = 0 then
    (match (cisternStacks s).find? (fun k => k != n) with
     | some k => seekCopy k s
     | none => failStop s)
  else if s.cis.survivor = some n then failStop s
  else seekCopy (s.cis.survivor.getD 0) s

/-- The ditches when a half of the loft cells is lost: every packet with a cell there leaves its queue, every cell there is free (R409). -/
def ditchFence (h : Nat) (s : State) : State :=
  let hit := fun (p : List DCell) => p.any (fun c => cellHalf c.num == some h)
  let s := s.yrd.queues.foldl (fun s e =>
    let x := e.2
    let gone := (x.packets.filter hit).flatten ++ ((x.opens.filter (fun o => hit o.2)).map Prod.snd).flatten
    let headGone := match x.packets with | p :: _ => hit p | [] => false
    let s := freeCells gone s
    closeQueue e.1 (putQueue e.1 { x with packets := x.packets.filter (fun p => !(hit p)), opens := x.opens.filter (fun o => !(hit o.2)), part := x.part && !headGone } s)) s
  ditchSync (s.onYrd fun y => { y with lost := if y.lost.contains h then y.lost else y.lost ++ [h] })

/-- A loft stack is fenced: the cistern goes on with the surviving copy, loft copies on the stack are dropped, its pools are LOST and its cells freed, the pools
are recomputed (R81 to R83, R163, R184, R409, R484). -/
def fenceStack (n : Nat) (s : State) : State :=
  let s := unitFault (30 + n) s
  let s := cisternFence n s
  let gone := (s.tir.dir.filter (fun e => e.2.loft && e.2.loftStack == n)).map Prod.fst
  let s := gone.foldl (fun s g => loseCopy 0 g s) s
  let s := (List.range 16).foldl (fun s p => if s.inForce (Reg.YRD_POOL_CFG_STACK p) = n ∧ poolCount s p > 0 then s.put (Reg.YRD_POOL_STATE_LOST p) 1 else s) s
  let s := if (cellStacks s).head? = some n then ditchFence 0 s else if (cellStacks s).getLast? = some n then ditchFence 1 s else s
  settle (degradedSync (poolSync (raise 0x0907 n 0 s)))

end Sys2Proof.Machine
end

