-- ==== Sys2Proof/Machine/Cipher.lean ====
section
/-!
DEFINITION. Sys2Proof/Machine/Cipher.lean: key slots, submissions, the counter journal, jobs and cores of the cipher complex (11_cipher_complex.md; R468, R457).
-/
namespace Sys2Proof.Machine

open Sys2Proof

/-! ### The counter journal (R376 to R378) -/

/-- Write the latest record of a key ID. -/
def jrnlPut (id : Nat) (k : JKey) (s : State) : State := jrnlSync ((jrnlWord s).onStore fun x => { x with jkeys := tins id k x.jkeys })

/-- First counter value of the block that is never reserved (R377). -/
def spentPoint : Nat := 2 ^ 64 - 2 ^ 24

/-- The block that is never reserved (R377). -/
def lastBlock : Nat := 2 ^ 40 - 1

/-- Change a slot. -/
def modSlot (n : Nat) (f : CSlot → CSlot) (s : State) : State := s.onCph fun x => { x with slots := tmod n f x.slots }

/-- A key that has used up its block moves into the next that is reserved for it (R376). -/
def CSlot.moveInto (k : CSlot) : CSlot :=
  if k.counter < k.limit then k
  else match k.ahead with
    | b :: bs => { k with counter := b * 2 ^ 24, limit := (b + 1) * 2 ^ 24, ahead := bs }
    | [] => k

/-- The key's next encryption takes a counter value (R374, R376). -/
def CSlot.take (k : CSlot) : CSlot := CSlot.moveInto { k with counter := k.counter + 1 }

/-- Jobs on a slot. -/
def jobsOn (n : Nat) (s : State) : List (Nat × CJob) := s.cph.jobs.filter (fun e => e.2.slot == n)

/-- A slot to be cleared is cleared once no job is queued on it; the command that waits completes (R371). -/
def clearSync (n : Nat) (s : State) : State :=
  match tfind n s.cph.slots with
  | some k =>
    (match k.clearing with
     | some m =>
       if (jobsOn n s).isEmpty then
         let t := s.onCph fun x => { x with slots := tdel n x.slots }
         if m < 40 then complete m [] t else t
       else s
     | none => s)
  | none => s

/-! ### Mailbox commands of group 0x09 -/

/-- A key enters a slot; its instance and its blocks come with its first record (R376). -/
def loadSlot (n keyId mode m : Nat) (s : State) : State :=
  s.onCph fun x => { x with slots := tins n { keyId := keyId, inst := 0, mode := mode, counter := 0, limit := 0, ahead := [], loader := some m, clearing := none } x.slots }

/-- The first record of a loaded key: its instance, from the module's count at its first load, and the first block never reserved, with two ahead; the block 2^40 - 1 is
never among them (R374, R376, R377).  A key that was forgotten meanwhile leaves the slot. -/
def firstRecord (slot : Nat) (k : CSlot) (m : Nat) (s : State) : State :=
  let old : JKey := match tfind k.keyId s.store.jkeys with
    | some j => j
    | none => { inst := s.store.jInst, next := 0, spent := false, forgotten := false }
  if old.spent || old.forgotten || decide (old.next ≥ lastBlock) then
    let t := s.onCph fun x => { x with slots := tdel slot x.slots }
    if m < 40 then refuse m .keySpent noDetail (t.inc (Reg.CPH_STAT_COUNT 7)) else t
  else
    let next := Nat.min (old.next + 3) lastBlock
    let s := if (tfind k.keyId s.store.jkeys).isNone then s.onStore fun x => { x with jInst := (x.jInst + 1) % 2 ^ 32 } else s
    let s := jrnlPut k.keyId { old with next := next } s
    let s := modSlot slot (fun (x : CSlot) =>
      { x with inst := old.inst, counter := old.next * 2 ^ 24, limit := (old.next + 1) * 2 ^ 24, ahead := [old.next + 1, old.next + 2].filter (fun b => decide (b < next)), loader := none })
      (s.add (Reg.CPH_STAT_COUNT 5) (next - old.next))
    if m < 40 then complete m (leBytes 8 k.keyId ++ leBytes 4 old.inst ++ leBytes 4 0) s else s

/-- A further record of a loaded key that holds fewer than two blocks ahead: the next block never reserved is its own (R376). -/
def nextRecord (slot : Nat) (k : CSlot) (s : State) : State :=
  match tfind k.keyId s.store.jkeys with
  | none => s
  | some j =>
    if j.spent || j.forgotten || decide (j.next ≥ lastBlock) || decide (k.ahead.length ≥ 2) then s
    else modSlot slot (fun (x : CSlot) => CSlot.moveInto { x with ahead := x.ahead ++ [j.next] }) ((jrnlPut k.keyId { j with next := j.next + 1 } s).inc (Reg.CPH_STAT_COUNT 5))

/-- KEY_LOAD: `unwraps` says whether the wrapped key passes its integrity check under the session key, `keyId` is the key ID of R370.  The command completes when the first
record is read back (R369, R374, R376 to R378, R468). -/
def execKeyLoad (m : Nat) (unwraps : Bool) (keyId : Nat) (s : State) : Out :=
  onCmd m 0x0901 s fun s =>
    let n := reqNat s m 0 2 % 16384
    let mode := reqNat s m 2 1 % 4
    let size := reqNat s m 3 1
    let sess := reqNat s m 4 1
    if n < 4120 then refuse m .notPermitted (atPayload 0) s
    else if (tfind n s.cph.slots).isSome then refuse m .badField (atPayload 0) s
    else if size > 1 then refuse m .badField (atPayload 3) s
    else if sess < 8 || sess > 15 || !(s.sess.any (fun e => e.2.secured && e.2.keyPair / 2 == sess / 2)) then refuse m .badField (atPayload 4) s
    else if !unwraps then refuse m .authFailed noDetail s
    else match tfind keyId s.store.jkeys with
      | some k =>
        if k.spent || k.forgotten || decide (k.next ≥ lastBlock) then refuse m .keySpent noDetail (s.inc (Reg.CPH_STAT_COUNT 7)) else loadSlot n keyId mode m s
      | none => if s.store.jkeys.length ≥ 16384 then refuse m .noResource noDetail s else loadSlot n keyId mode m s

/-- COUNTER_BLOCK_RECORDED: a reservation record is programmed and read back: slots 0 and 2 are the sending directions of Rilram ports 4 and 5, which hold eight blocks ahead
and send again (R129); an application slot holds two, its first record three (R376). -/
def execCounterBlockRecorded (slot : Nat) (s : State) : Out :=
  onUp s fun s =>
    if slot = 0 || slot = 2 then
      let p := slot / 2
      let q := s.port p
      if s.get (Reg.TWN_PORT_STATE_LINK p) = 2 && decide (q.counterEnd < q.counter / 2 ^ 24 * 2 ^ 24 + 9 * 2 ^ 24) && decide (q.counterEnd < spentPoint) then
        let s := onPort p (fun (x : PortSt) => { x with counterEnd := x.counterEnd + 2 ^ 24 }) (jrnlLink s)
        portSync ((s.put (Reg.TWN_PORT_STATE_BLOCK_WAIT p) 0).inc (Reg.CPH_STAT_COUNT 5))
      else s
    else match tfind slot s.cph.slots with
      | none => s
      | some k =>
        match k.loader with
        | some m => firstRecord slot k m s
        | none => nextRecord slot k s

/-- KEY_CLEAR: the slot in bytes 0–1 is cleared once its queued jobs have completed (R371). -/
def execKeyClear (m : Nat) (s : State) : Out :=
  onCmd m 0x0902 s fun s =>
    let n := reqNat s m 0 2 % 16384
    if n < 4120 then refuse m .notPermitted (atPayload 0) s
    else match tfind n s.cph.slots with
      | none => complete m [] s
      | some k => if k.clearing.isSome || k.loader.isSome then refuseBusy m s else clearSync n (modSlot n (fun (x : CSlot) => { x with clearing := some m }) s)

/-- KEY_FORGET: the key ID in bytes 0–7 is recorded as forgotten, with event 0x0804 (R378). -/
def execKeyForget (m : Nat) (s : State) : Out :=
  onCmd m 0x0903 s fun s =>
    let id := reqNat s m 0 8
    match tfind id s.store.jkeys with
    | none => refuse m .badField (atPayload 0) s
    | some k => complete m [] (raise 0x0804 id 0 (jrnlPut id { k with forgotten := true } s))

/-- SLOT_STATUS: 32 bytes, whose layout the spec does not give (R457). -/
def execSlotStatus (m : Nat) (s : State) : Out := onCmd m 0x0905 s (completeFree m 32)

/-! ### Submissions (R372 to R375) -/

/-- A field of a descriptor: `n` bytes from `off`. -/
def descNat (d : List Byte) (off n : Nat) : Nat := leNat ((d.drop off).take n)

/-- The checks of R373 on the descriptor and the slot, before and after the handles' own. -/
def cipherFieldCheck (d : List Byte) (s : State) : Option St :=
  let mode := descNat d 0 1 / 2 % 8
  let len := descNat d 4 4
  let aad := descNat d 8 2
  let slot := descNat d 2 2 % 16384
  if len = 0xFFFFFFFF ∨ aad = 0xFFFF ∨ mode > 3 then some .badField
  else if len > 2097152 ∨ aad > 512 ∨ (mode = 0 ∧ len % 16 ≠ 0) then some .badLength
  else if slot < 4120 then some .notPermitted
  else match tfind slot s.cph.slots with
    | none => some .notPermitted
    | some k => if k.mode ≠ mode || k.clearing.isSome || k.limit = 0 then some .notPermitted else none

/-- The handles of a submission: owned by the caller, then large enough (R373); the access to a buffer of a LOST pool fails (R409). -/
def cipherHandleCheck (d : List Byte) (caller : Nat) (s : State) : Option St :=
  let len := descNat d 4 4
  let aad := descNat d 8 2
  let uses := [(descNat d 12 4, len), (descNat d 16 4, len)] ++ (if aad = 0 then [] else [(descNat d 20 4, aad)])
  if uses.any (fun e => (tfind e.1 s.yrd.bufs) != some caller) then some .notOwner
  else if uses.any (fun e => decide (e.2 > yardClassBytes (e.1 / 2 ^ 28 % 16))) then some .bounds
  else if uses.any (fun e => poolLost s (e.1 / 2 ^ 28 % 16)) then some .mediaFailed
  else none

/-- The key's own checks (R373 to R377): spent, no reserved counter value, entropy. -/
def cipherKeyCheck (d : List Byte) (s : State) : Option St :=
  let mode := descNat d 0 1 / 2 % 8
  let enc := descNat d 0 1 % 2 == 0
  match tfind (descNat d 2 2 % 16384) s.cph.slots with
  | none => some .notPermitted
  | some k =>
    let j := match tfind k.keyId s.store.jkeys with | some j => j | none => { inst := 0, next := 0, spent := false, forgotten := false }
    if enc && (mode == 1 || mode == 2) && decide (k.counter ≥ k.limit) && decide (j.next ≥ lastBlock) then some .keySpent
    else if enc && (j.spent || j.forgotten) then some .keySpent
    else if enc && (mode == 1 || mode == 2) && decide (k.counter ≥ k.limit) then some .busy
    else if enc && (mode == 0 || mode == 3) && !(s.flag Reg.CPH_STATE_ENTROPY_OK) then some .noResource
    else none

/-- What a refusal for the key counts and raises (R376, R377). -/
def cipherRefused (d : List Byte) (st : St) (s : State) : State :=
  let slot := descNat d 2 2 % 16384
  if st = .busy then raise 0x0803 slot 0 (s.inc (Reg.CPH_STAT_COUNT 6))
  else if st = .keySpent then
    (match tfind slot s.cph.slots with
     | some k => (match tfind k.keyId s.store.jkeys with
        | some j => if j.spent || j.forgotten then s else raise 0x0804 k.keyId 0 (jrnlPut k.keyId { j with spent := true } s)
        | none => s)
     | none => s).inc (Reg.CPH_STAT_COUNT 7)
  else s

/-- The 16 IV bytes of an encryption (R374), as a little-endian number of the bytes in order: instance and counter big-endian for GCM and CTR, 128 DRBG bits otherwise. -/
def cipherIv (mode inst counter : Nat) (s : State) : Nat × State :=
  let be := fun (n v : Nat) => (leBytes n v).reverse
  if mode = 2 then (leNat (be 4 inst ++ be 8 counter ++ be 4 0), s)
  else if mode = 1 then (leNat (be 4 inst ++ be 8 counter ++ be 4 1), s)
  else
    let q := s.free 128
    (q.1, q.2.inc (Reg.CPH_STAT_COUNT 8))

/-- KiB of hold space a job takes (R383). -/
def holdKib (j : CJob) : Nat := if j.mode = 2 && j.decrypt then (j.data.length + 1023) / 1024 else 0

/-- Hold space in use. -/
def holdUsed (s : State) : Nat := (s.cph.jobs.filter (fun e => e.2.started)).foldl (fun n e => n + holdKib e.2) 0

/-- CPH_STATE.HOLD_KIB as the jobs stand. -/
def holdSync (s : State) : State := s.put Reg.CPH_STATE_HOLD_KIB (holdUsed s)

/-- The yard buffers a descriptor names (R372). -/
def jobBufs (d : List Byte) : List Nat := [descNat d 12 4, descNat d 16 4] ++ (if descNat d 8 2 = 0 then [] else [descNat d 20 4])

/-- Queue a checked job under the lowest free number; a GCM decryption starts only when the hold has room (R366, R374, R383). -/
def queueJob (d data aad : List Byte) (mbx : Option Nat) (s : State) : Nat × State :=
  let mode := descNat d 0 1 / 2 % 8
  let dec := descNat d 0 1 % 2 == 1
  let slot := descNat d 2 2 % 16384
  let k := match tfind slot s.cph.slots with | some k => k | none => { keyId := 0, inst := 0, mode := mode, counter := 0, limit := 0, ahead := [], loader := none, clearing := none }
  let iv := if dec then (descNat d 24 16, s) else cipherIv mode k.inst k.counter s
  let s := if !dec && (mode == 1 || mode == 2) then modSlot slot CSlot.take iv.2 else iv.2
  let j : CJob := { mbx := mbx, decrypt := dec, mode := mode, slot := slot, dst := descNat d 16 4, bufs := if mbx.isSome then [] else jobBufs d, iv := iv.1, tag := descNat d 40 16, aad := aad, data := data, started := true }
  let room := decide (holdUsed s + holdKib j ≤ 8192)
  let n := tnext 0 s.cph.jobs
  let s := if room then s else s.inc (Reg.CPH_STAT_COUNT 11)
  (n, holdSync (s.onCph fun x => { x with jobs := tins n { j with started := room } x.jobs }))

/-- Bytes of a yard buffer. -/
def yardBytes (s : State) (handle n : Nat) : List Byte := readBytes s.yrd.mem (handle * 2 ^ 21) n

/-- CIPHER_SUBMISSION: the primitive's 64 B descriptor, from a thread; a refused one reads and writes nothing (R372, R373). -/
def execCipherSubmission (caller : Nat) (desc : List Nat) (s : State) : Out :=
  onUp s fun s =>
    let d := padTo 64 (desc.map (BitVec.ofNat 8))
    match ((cipherFieldCheck d s).orElse fun _ => cipherHandleCheck d caller s).orElse fun _ => cipherKeyCheck d s with
    | some st => (cipherRefused d st s).send (.prim "CIPHER_SUBMIT" st.code 0)
    | none =>
      let q := queueJob d (yardBytes s (descNat d 12 4) (descNat d 4 4)) (yardBytes s (descNat d 20 4) (descNat d 8 2)) none s
      q.2.send (.prim "CIPHER_SUBMIT" 0 q.1)

/-- CIPHER_SUBMIT: the same descriptor from a mailbox, its data and additional data following it (R372, R373, R457). -/
def execCipherSubmit (m : Nat) (s : State) : Out :=
  onCmd m 0x0904 s fun s =>
    let d := reqBytes s m 0 64
    let len := descNat d 4 4
    let aad := descNat d 8 2
    match (cipherFieldCheck d s).orElse fun _ => if s.get (Mb.length m) ≠ 64 + len + aad then some .badLength else cipherKeyCheck d s with
    | some st => completeW m st (if st = .busy then 0xFFFF else 0) noDetail false [] (cipherRefused d st s)
    | none => (queueJob d (reqBytes s m 64 len) (reqBytes s m (64 + len) aad) (some m) s).2

/-! ### Jobs and cores (R366, R383 to R385) -/

/-- Jobs that wait for hold space start while there is room, in the order of their numbers (R383). -/
def startHeld (s : State) : State :=
  holdSync ((s.cph.jobs.filter (fun e => !e.2.started)).foldl (fun s e =>
    if holdUsed s + holdKib e.2 ≤ 8192 then s.onCph fun x => { x with jobs := tmod e.1 (fun (j : CJob) => { j with started := true }) x.jobs } else s) s)

/-- CPH_STATE.CORES, and what follows from fewer than four (R385, R520). -/
def coreSync (s : State) : State :=
  let n := coresInService s
  let s := setBlock 5 (decide (n < 4)) (s.put Reg.CPH_STATE_CORES n)
  if n < 4 && s.mode ≠ .bringup && s.mode ≠ .recovery then failStop (raise 0x080A 0 n s) else s

/-- Map a core out: recorded, with event 0x0801, or 0x0802 at bring-up (R384). -/
def mapCoreOut (c cause : Nat) (s : State) : State :=
  let s := (s.put (Reg.CPH_CORE_CTL_MAP_OUT c) 1).onStore fun x => { x with mapOutC := tins c cause x.mapOutC }
  let s := ((s.put (Reg.CPH_CORE_STATE_STATE c) 2).put (Reg.CPH_CORE_STATE_CAUSE c) cause).addSat (Reg.CPH_CORE_STATE_FAULTS c) 1
  coreSync (raise (if cause = 1 then 0x0802 else 0x0801) c cause s)

/-- The output of a job: its data ciphered under the key of its slot (R374). -/
def jobOutput (j : CJob) (s : State) : List Byte :=
  padTo j.data.length (Config.cipher (j.mode + 8 * b2n j.decrypt) (match tfind j.slot s.cph.slots with | some k => k.keyId | none => 0) j.iv j.data)

/-- The tag of a GCM encryption (R374). -/
def jobTag (j : CJob) (s : State) : Nat :=
  if j.mode = 2 && !j.decrypt then
    leNat (Config.cipher 16 (match tfind j.slot s.cph.slots with | some k => k.keyId | none => 0) j.iv (j.aad ++ j.data)) % 2 ^ 128
  else 0

/-- A job's completion report: status, IV and tag (R372). -/
def jobReport (j : CJob) (st : St) (s : State) : List Byte :=
  leBytes 8 st.code ++ leBytes 16 (if j.decrypt then 0 else j.iv) ++ leBytes 16 (jobTag j s) ++ leBytes 8 0

/-- Whether a job fails its tag: a GCM decryption (R374). -/
def tagBad (j : CJob) (tagOk : Bool) : Bool := j.mode == 2 && j.decrypt && !tagOk

/-- A job ends (R372, R383, R409): with a buffer of a LOST pool MEDIA_FAILED, a GCM decryption with a bad tag AUTH_FAILED, both with nothing written; every other one with
its output in DST or in the mailbox. -/
def finishJob (job : Nat) (j : CJob) (tagOk : Bool) (s : State) : State :=
  let bad := tagBad j tagOk
  let lost := j.bufs.any (fun h => poolLost s (h / 2 ^ 28 % 16))
  let t := s.onCph fun x => { x with jobs := tdel job x.jobs }
  let t := if bad then raiseRl 0x0805 j.slot 0 (t.inc (Reg.CPH_STAT_COUNT 3))
    else if lost then t
    else match j.mbx with
      | none => t.onYrd fun x => { x with mem := writeBytes (j.dst * 2 ^ 21) (jobOutput j s) x.mem }
      | some _ => t
  let t := (t.inc (Reg.CPH_STAT_COUNT 0)).add (Reg.CPH_STAT_COUNT (if j.decrypt then 2 else 1)) j.data.length
  let t := t.add (Reg.CPH_CLASS_STAT_COUNT 3) j.data.length
  let t := match j.mbx with
    | some m => if m ≥ 40 then t else if bad then refuse m .authFailed noDetail t else complete m (jobReport j .done s ++ jobOutput j s) t
    | none =>
      let st := if lost then St.mediaFailed else if bad then .authFailed else .done
      t.send (.cipher job st.code (jobReport j st s))
  clearSync j.slot (startHeld t)

/-- CIPHER_JOB_DONE: in SPILL the jobs of class 3 stand still (R367); a core's datapath check that fired maps the core out and the job is run again (R384); otherwise the job ends (R372, R383). -/
def execCipherJobDone (job : Nat) (tagOk : Bool) (coreFault : Option Nat) (s : State) : Out :=
  onUp s fun s =>
    match tfind job s.cph.jobs with
    | none => s
    | some j =>
      if !j.started || s.mode = .spill then s
      else match coreFault with
        | some c => mapCoreOut (c % 16) 3 (s.inc (Reg.CPH_STAT_COUNT 4))
        | none => finishJob job j tagOk s

/-- KAT_DUE: the test of one core: in a serving mode of a core in service, or of a core whose MAP_OUT a frame has cleared; a failure maps the core out (R384). -/
def execKatDue (core : Nat) (pass : Bool) (s : State) : Out :=
  onUp s fun s =>
    let c := core % 16
    let st := s.get (Reg.CPH_CORE_STATE_STATE c)
    if st = 3 then
      let s := s.inc (Reg.CPH_STAT_COUNT 9)
      if pass then
        coreSync ((s.put (Reg.CPH_CORE_STATE_STATE c) 0).onStore fun x => { x with mapOutC := tdel c x.mapOutC })
      else mapCoreOut c 2 s
    else if !s.serving || st = 2 then s
    else
      let s := s.inc (Reg.CPH_STAT_COUNT 9)
      if pass then s else mapCoreOut c 2 s

/-- ENTROPY_HEALTH_FAIL: event 0x0809; DRBG output stops (R375). -/
def execEntropyHealthFail (s : State) : Out :=
  onUp s fun s => raise 0x0809 0 0 (s.put Reg.CPH_STATE_ENTROPY_OK 0)

/-- ENTROPY_HEALTH_PASS: DRBG output resumes (R375). -/
def execEntropyHealthPass (s : State) : Out := onUp s fun s => s.put Reg.CPH_STATE_ENTROPY_OK 1

end Sys2Proof.Machine
end

