-- ==== Sys2Proof/Machine/Drain.lean ====
section
/-!
DEFINITION. Sys2Proof/Machine/Drain.lean: the drain, the resaw, wear relocation and the row groups they program (03_cistern.md R101 to R107, 05_tiers.md
R188 to R193, 07_footing_media.md R230 to R250).  A lane is 16 × channel index + die; a stripe is named by lane × 4096 + unit.
-/
namespace Sys2Proof.Machine

open Sys2Proof

/-! ### The drain (R101 to R104) -/

/-- Whether the drain may take a granule: a record of it is applied and not retired, it is not being packed, its copy is whole, and no partial copy of
it waits for the stream (R101, R152). -/
def packable (g : Nat) (s : State) : Bool :=
  let e := s.gran g
  !(s.tir.packs.any (fun p => p.granule == g)) && !(s.twn.partialG.contains g) && e.fillQ == 0 && !(s.tir.rebuilds.contains g) &&
    !(e.lock.any (fun l => l.kind = LockKind.drainSnap)) && !(e.waiters.any (fun l => l.kind = LockKind.drainSnap))

/-- The granule the drain takes next: a queued repair or poison pack's first, otherwise that of the oldest applied unretired data record, in a serving
mode only while the fill is above FLOOR (R101, R283). -/
def nextPack (s : State) : Option Nat :=
  match s.tir.packQ.find? (fun g => packable g s) with
  | some g => some g
  | none =>
    let floor := s.get Reg.TIR_DRN_CFG_FLOOR
    let busy := s.mode = .quiesced && s.pair ≠ .catchingUp || decide (s.get Reg.TIR_CST_OCC_BYTES * 100 > s.effBytes * floor)
    if busy then
      (s.cis.recs.find? (fun r => r.isData && !r.retired && r.applied && packable (lineGran r.line) s)).map (fun r => lineGran r.line)
    else none

/-- DRAIN_PACK_START on a lane: the oldest granule is taken; in a reach in RELEASING its records retire without a program; otherwise it is snapshotted
under the move lock, waiting for the lock where it is held, and its row group's tokens are requested (R25, R101 to R103, R191, R283). -/
def execDrainPackStart (lane : Nat) (s : State) : Out :=
  onUp s fun s =>
    if !(drainModes s) || !(laneUsed s lane) then s
    else match nextPack s with
      | none => s
      | some g =>
        if reachState s (granReach g) = 5 then
          let n := ((granRecs s g).filter Rec.applied).length
          (retireGran g (snapOf s g) s).add (Reg.TIR_DRN_STAT_COUNT 5) n
        else match takeSlot 2 s with
          | none => s
          | some (slot, s1) =>
            let e := s1.gran g
            if e.lock.isSome || !e.waiters.isEmpty then (takeLock g { kind := .drainSnap, holder := slot } s1).2
            else
              let kind := packKind g s1
              match startPack g kind slot lane s1 with
              | some s2 => s2
              | none => packWaits g s

/-- The pack of a granule, by phase. -/
def packAt (g phase : Nat) (s : State) : Option Pack := s.tir.packs.find? (fun p => p.granule == g && p.phase == phase && p.kind != 3 && p.kind != 4)

/-- A pack leaves: its slot is given back. -/
def endPack (p : Pack) (s : State) : State :=
  let s := packSync (s.onTir fun x => { x with packs := x.packs.filter (· != p) })
  if p.kind = 4 then s else giveSlot p.slot s

/-- A confirmed pack takes its effect: its locator is journalled, the granule is footed, its records up to the snapshot retire; a repair pack is counted, a granule of the
stream is acknowledged to the twin (R25, R26, R88, R104 to R106, R283). -/
def confirmPack (g : Nat) (p : Pack) (s : State) : State :=
  let old := (tfind g s.tir.xlt).map XltEnt.locator
  let bytes := ((granRecs s g).filter (fun r => r.applied && decide (r.seq ≤ p.snap))).foldl (fun n r => n + r.data.length) 0
  let s := journal g p.locator p.gen (moveLive old p.locator s)
  let s := modGran g (fun (e : Gran) => { e with footed := true }) s
  let s := retireGran g p.snap (wrapHeld g s)
  let s := (s.inc (Reg.TIR_DRN_STAT_COUNT 0)).add (Reg.TIR_DRN_STAT_COUNT 1) bytes
  let s := s.onCis fun x => { x with drained := (s.epoch, bytes) :: x.drained.filter (fun e => decide (s.epoch < e.1 + 100)) }
  let s := if p.kind = 1 then s.inc (if p.poison = 0 then Reg.ECC_LADDER_STAT_COUNT 7 else Reg.ECC_POISON_STAT_COUNT 1) else s
  let s := if p.kind = 2 then
      linkSend "GRANULE_ACK" 0 g [] (clearGran g (s.onTwn fun x => { x with merged := tdel g x.merged }))
    else s
  let s := s.onTir fun x => { x with packQ := x.packQ.filter (· != g) }
  checkpointDue (p.locator % 4 * 16 + p.locator / 4 % 16) (endPack p s)

/-- PACK_CONFIRMED: translation, FOOTED, retirement of the records up to the snapshot's number, checkpoints that are due (R25, R26, R88, R104 to R106,
R283).  The pack of a reach released meanwhile leaves a stale copy. -/
def execPackConfirmed (g : Nat) (s : State) : Out :=
  onUp s fun s =>
    match packAt g 1 s with
    | none => s
    | some p =>
      if reachState s (granReach g) = 0 then endPack p s else confirmPack g p s

/-- PACK_PROGRAM_FAILED: the granule is packed again at a new location on a lane; its records stay unretired (R107, R238). -/
def execPackProgramFailed (g lane : Nat) (s : State) : Out :=
  onUp s fun s =>
    match packAt g 2 s with
    | none => s
    | some p =>
      if !(laneUsed s lane) then s
      else
        let s1 := (s.onTir fun x => { x with packs := x.packs.filter (· != p) }).inc (Reg.TIR_DRN_STAT_COUNT 2)
        match startPack g p.kind p.slot lane s1 with
        | some s2 => s2
        | none => packWaits g s

/-- A confirmed checkpoint: the page's entries, its number and its place are kept; XLATE records it covers may retire (R26, R106). -/
def confirmCheckpoint (page : Nat) (p : Pack) (s : State) : State :=
  let s := s.onMed fun x =>
    { x with ckpt := p.entries.foldl (fun m e => tins e.granule e m) (x.ckpt.filter (fun e => e.1 / 1024 != page)),
             ckptSeq := tset 0 page p.gen x.ckptSeq, ckptLoc := tins page p.locator x.ckptLoc }
  retireXlates ((endPack p s).inc (Reg.TIR_DRN_STAT_COUNT 4))

/-- CHECKPOINT_CONFIRMED: the page's translation is footed and the XLATE records it covers may retire (R26, R106). -/
def execCheckpointConfirmed (page : Nat) (s : State) : Out :=
  onUp s fun s =>
    match s.tir.packs.find? (fun p => p.granule == 2 ^ 34 + page && p.kind == 4 && p.phase == 1) with
    | none => s
    | some p => confirmCheckpoint page p s

/-! ### Row groups (R230, R239, R245, R246) -/

/-- The sluice of board b on a lane. -/
def laneSluice (b lane : Nat) : Nat := 4 * b + lane / 16

/-- Count k of every sluice a lane's operation runs on, one per present board. -/
def countLane (lane k : Nat) (s : State) : State :=
  (List.range 8).foldl (fun s b => if s.get (Reg.SLC_BOARD_STATE_STATE b) = 2 then s else s.inc (Reg.SLC_CH_STAT_COUNT (laneSluice b lane) k)) s

/-- ROW_GROUP_PAD_TIMEOUT: an unfilled row group is padded and programmed, 20 µs after its first slot (R230). -/
def execRowGroupPadTimeout (lane unit group : Nat) (s : State) : Out :=
  onUp s fun s =>
    match findGroup lane unit group s with
    | none => s
    | some g =>
      if g.issued || decide (s.epoch < g.started + 20) then s
      else
        (s.add (Reg.SLC_FTG_STAT_COUNT 6) (groupSlots g.narrow - g.used)).onTir fun x => { x with groups := x.groups.map (fun (y : RowGrp) => if y = g then { y with issued := true } else y) }

/-- A stripe will not serve any more: it is evacuated, and RETIRED once nothing live is left on it (R246, R247). -/
def evacuate (key : Nat) (s : State) : State :=
  let e := s.stripe key
  if e.state = 4 then s
  else if e.live = 0 then
    let s := setStripe key { e with state := 4 } s
    let s := s.inc (Reg.SLC_FTG_STAT_COUNT 2)
    if s.get Reg.SLC_FTG_SPACE_OP_NOW < s.get Reg.SLC_FTG_CFG_MIN_OP then raise 0x040C 0 (s.get Reg.SLC_FTG_SPACE_OP_NOW) s else s
  else
    let s := if e.state = 3 then s else closeStripe key s
    s.onTir fun x => { x with evacs := if x.evacs.contains key then x.evacs else x.evacs ++ [key] }

/-- A unit of a stripe on board b has gone bad: a spare of its die takes its place, recorded before it is used, or, with none left, the stripe is
evacuated and retired (R245, R246). -/
def badUnit (b key : Nat) (s : State) : State :=
  let lane := key / 4096
  let die := 16 * laneSluice b lane + lane % 16
  let used := tget 0 die s.med.spares
  if used < 74 then
    let s := (s.onMed fun x => { x with spares := tset 0 die (used + 1) x.spares }).inc (Reg.SLC_FTG_STAT_COUNT 1)
    raise 0x0405 (laneSluice b lane) key s
  else evacuate key (raise 0x0406 (laneSluice b lane) key s)

/-- What the packs of a confirmed group leave on the media (R104, R227). -/
def storeGroup (g : RowGrp) (s : State) : State :=
  (s.tir.packs.filter (fun p => inGroup g p.locator && p.kind != 4)).foldl (fun s p =>
    s.onMed fun x => { x with stored := tins p.locator { granule := p.granule, gen := p.gen, snap := p.snap, poison := p.poison, data := p.data } x.stored }) s

/-- A program or an erase of a row group is over: its suspensions are forgotten, an armed injection on its channel is spent, its tokens are returned. -/
def programEnded (lane : Nat) (g : RowGrp) (s : State) : State :=
  let s := s.onTir fun x => { x with suspends := x.suspends.filter (fun e => e.1 % 16 != lane % 16 || e.1 / 16 % 4 != lane / 16) }
  let s := match s.tir.inject with
    | some (2, u, _) => if u % 4 = lane / 16 then (s.onTir fun x => { x with inject := none }).put Reg.ECC_INJECT_ARM 0 else s
    | _ => s
  hgReturn (groupName g) s

/-- PROGRAM_STATUS of a row group whose tokens are held: 0 every page reports success, 1 the unit of board `board` fails, 2 a page-state table refuses it
(R230, R240, R245, R255).  The tokens are returned; packs of a failed group are packed again. -/
def execProgramStatus (lane unit group result board : Nat) (s : State) : Out :=
  onUp s fun s =>
    match findGroup lane unit group s with
    | none => s
    | some g =>
      if !(programming g s) then s
      else
        let key := stripeKey lane unit
        let sl := laneSluice (board % 8) lane
        let t := programEnded lane g s
        if result = 0 then hgWaitSync (groupPhase g 1 (storeGroup g (countLane lane 1 t)))
        else if result = 1 then
          hgWaitSync (badUnit (board % 8) key (closeStripe key (groupPhase g 2 (raise 0x0401 sl key (t.inc (Reg.SLC_CH_STAT_COUNT sl 3))))))
        else hgWaitSync (groupPhase g 2 (raise 0x040A sl key (t.inc (Reg.SLC_CH_STAT_COUNT sl 8))))

/-! ### The resaw and wear relocation (R188 to R193, R249) -/

/-- TIR_RSW_STATE.STATE: idle, running, urgent. -/
def resawSync (s : State) : State :=
  s.put Reg.TIR_RSW_STATE_STATE (if s.tir.rswVictim.isNone && decide (s.get Reg.TIR_RSW_STATE_STATE = 0) then 0 else if resawUrgent s then 2 else 1)

/-- The closed stripe with the fewest live granules, the one closed earliest among equals (R189). -/
def resawVictim (s : State) : Option Nat :=
  let cs := s.med.stripes.filter (fun e => e.2.state == 3 && stripeInUse s e.1 && !(s.tir.evacs.contains e.1) && !(s.tir.erases.contains e.1) && s.tir.wearVictim != some e.1)
  (cs.foldl (fun (b : Option (Nat × Stripe)) e => match b with
    | none => some e
    | some c => if e.2.live < c.2.live ∨ (e.2.live = c.2.live ∧ e.2.stamp < c.2.stamp) then some e else some c) none).map Prod.fst

/-- Checkpoint pages that lie in a stripe are written afresh (R190). -/
def renewCheckpoints (key lane : Nat) (s : State) : State :=
  ((s.med.ckptLoc.filter (fun e => locStripe e.2 == key)).map Prod.fst).foldl (fun s p => startCheckpoint p lane s) s

/-- The resaw runs: free stripes below START, or below STOP once it runs (R188). -/
def resawOn (s : State) : Bool :=
  let p := freePermille s
  decide (p < 10 * s.get Reg.TIR_RSW_CFG_START) || (s.get Reg.TIR_RSW_STATE_STATE != 0 && decide (p < 10 * s.get Reg.TIR_RSW_CFG_STOP))

/-- The resaw takes a victim; checkpoint pages that lie in it are written afresh (R189, R190). -/
def takeVictim (k : Nat) (s : State) : State :=
  let s := s.onTir fun x => { x with rswVictim := some k, rswXlate := [] }
  renewCheckpoints k (k / 4096) (s.put Reg.TIR_RSW_STATE_STATE (if resawUrgent s then 2 else 1))

/-- RESAW_START: below START, or on the way to STOP, the resaw takes a victim (R188, R189). -/
def execResawStart (s : State) : Out :=
  onUp s fun s =>
    if !(drainModes s) || s.tir.rswVictim.isSome then s
    else if !(resawOn s) then s.put Reg.TIR_RSW_STATE_STATE 0
    else match resawVictim s with
      | none => s
      | some k => takeVictim k s

/-- A relocation's pack of a granule. -/
def relocPack (g : Nat) (s : State) : Option Pack := s.tir.packs.find? (fun p => p.granule == g && p.kind == 3)

/-- The quarters of a granule are copied unchanged to an open stripe of a lane, with their generation (R190); `poisoned` marks lines the ladder could not
recover (R192). -/
def beginReloc (g lane slot : Nat) (e : XltEnt) (poisoned : Nat) (s : State) : Option State :=
  (placeGran g lane true s).map fun (r : Nat × State) =>
    let st := (tfind e.locator s.med.stored).getD { granule := g, gen := e.gen, snap := 0, poison := 0, data := [] }
    let p : Pack := { granule := g, kind := 3, gen := e.gen, snap := st.snap, poison := st.poison ||| poisoned, data := st.data, locator := r.1, slot := slot,
                      old := e.locator, entries := [], phase := 0 }
    packSync (r.2.onTir fun x => { x with packs := x.packs ++ [p] })

/-- The compare of R190 under the move lock: the translation still names the old location, and the new one is journalled; or the new copy is stale. -/
def endReloc (p : Pack) (s : State) : State :=
  let g := p.granule
  let same := (tfind g s.tir.xlt).any (fun e => e.locator == p.old)
  let wear := s.tir.wearVictim == some (locStripe p.old)
  let evac := s.tir.evacs.contains (locStripe p.old)
  let s := endPack p s
  if same then
    let n := s.cis.journal
    let s := journal g p.locator p.gen (moveLive (some p.old) p.locator s)
    let s := s.onTir fun x => { x with rswXlate := x.rswXlate ++ [n] }
    let s := if p.poison = 0 then s else s.inc (Reg.TIR_RSW_STAT_COUNT 3)
    let s := if wear then s.inc (Reg.SLC_FTG_STAT_COUNT 3) else if evac then s.inc (Reg.SLC_FTG_STAT_COUNT 4) else s.inc (Reg.TIR_RSW_STAT_COUNT 0)
    if evac && (s.stripe (locStripe p.old)).live == 0 then
      evacuate (locStripe p.old) (s.onTir fun x => { x with evacs := x.evacs.filter (· != locStripe p.old) })
    else s
  else s.inc (Reg.TIR_RSW_STAT_COUNT 1)

/-- Stripes whose granules are to be moved. -/
def movesOut (s : State) (key : Nat) : Bool := s.tir.rswVictim == some key || s.tir.wearVictim == some key || s.tir.evacs.contains key

/-- RESAW_RELOCATE: a live granule of a stripe that is being emptied is copied to a lane's open stripe under a move slot; once that program is confirmed, the
compare of R190 runs under the granule's move lock, waiting for it where it is held (R177, R181, R190, R192, R193). -/
def execResawRelocate (g lane poisoned : Nat) (s : State) : Out :=
  onUp s fun s =>
    if !(drainModes s) || !(laneUsed s lane) then s
    else match relocPack g s with
      | some p =>
        if p.phase = 1 then
          let e := s.gran g
          if e.lock.isSome then (if e.waiters.any (fun l => l.kind = LockKind.resaw) then s else (takeLock g { kind := .resaw, holder := p.slot } s).2)
          else endReloc p s
        else if p.phase = 2 then
          let s1 := s.onTir fun x => { x with packs := x.packs.filter (· != p) }
          (beginReloc g lane p.slot { granule := g, locator := p.old, gen := p.gen } p.poison s1).getD s
        else s
      | none =>
        match tfind g s.tir.xlt with
        | none => s
        | some e =>
          if !(movesOut s (locStripe e.locator)) then s
          else match takeSlot 3 s with
            | none => s
            | some (slot, s1) => (beginReloc g lane slot e (poisoned % 2 ^ 256) s1).getD s

/-- A stripe that is being emptied may be erased: nothing live is left in it, its XLATE records are held, its checkpoint pages are written afresh, no relocation from it
runs and no erase of it has been asked for (R190). -/
def eraseReady (key : Nat) (s : State) : Bool :=
  (s.tir.rswVictim == some key || s.tir.wearVictim == some key) && (s.stripe key).live == 0 &&
    s.tir.rswXlate.all (fun n => s.cis.recs.all (fun r => !(r.kind = RecKind.xlate && r.seq == n) || r.held)) && !(s.tir.erases.contains key) &&
    !(s.med.ckptLoc.any (fun e => locStripe e.2 == key)) && !(s.tir.packs.any (fun p => p.kind == 3 && locStripe p.old == key))

/-- RESAW_ERASE: with nothing live left in the victim, its XLATE records held and its checkpoint pages written afresh, the erase of its eight units asks
for its tokens (R190, R191, R239, R501). -/
def execResawErase (key : Nat) (s : State) : Out :=
  onUp s fun s =>
    if !(eraseReady key s) then s
    else
      let r := hgRequest { owner := .erase key, h0 := resawUrgent s && s.tir.rswVictim == some key, tokens := 16 } s
      let t := r.2.onTir fun x => { x with erases := x.erases ++ [key] }
      if r.1 = 0 then t
      else if r.1 = 1 then (t.put Reg.TIR_RSW_STATE_HG_WAIT 1).inc (Reg.TIR_RSW_STAT_COUNT 4)
      else t.onTir fun x => { x with erases := x.erases.filter (· != key) }

/-- A stripe is erased: FREE, one erase more, nothing stored on it (R232). -/
def erased (key : Nat) (s : State) : State :=
  let gone := s.med.stored.filter (fun e => locStripe e.1 == key)
  let freed := (gone.filter (fun e => reachState s (granReach e.2.granule) == 0)).length
  let e := s.stripe key
  let s := setStripe key { Stripe.free with erases := e.erases + 1 } s
  (s.onMed fun x => { x with stored := x.stored.filter (fun e => locStripe e.1 != key) }).add (Reg.TIR_RSW_STAT_COUNT 5) freed

/-- The resaw or the wear relocation is done with a stripe; the resaw goes idle at STOP (R188, R249). -/
def stripeDone (key : Nat) (s : State) : State :=
  let s := if s.tir.rswVictim = some key then
      (s.onTir fun x => { x with rswVictim := none, rswXlate := [] }).inc (Reg.TIR_RSW_STAT_COUNT 2)
    else s.onTir fun x => { x with wearVictim := if x.wearVictim = some key then none else x.wearVictim }
  if freePermille s ≥ 10 * s.get Reg.TIR_RSW_CFG_STOP then s.put Reg.TIR_RSW_STATE_STATE 0 else resawSync s

/-- The erase of a stripe is over: its tokens are returned, its sluices count it, a unit near its rated endurance is told once, and the stripe is free (R232, R250). -/
def eraseEnded (key : Nat) (nearEnd : Bool) (s : State) : State :=
  let s := countLane (key / 4096) 2 (hgReturn (.erase key) (s.onTir fun x => { x with erases := x.erases.filter (· != key) }))
  erased key (if nearEnd && !(s.med.worn.contains key) then raise 0x040E (key / 4096 / 16) key (s.onMed fun x => { x with worn := key :: x.worn }) else s)

/-- The unit of board b failed its erase (R245, R255). -/
def eraseFailed (b key : Nat) (s : State) : State :=
  let sl := laneSluice b (key / 4096)
  badUnit b key (raise 0x0402 sl key (s.inc (Reg.SLC_CH_STAT_COUNT sl 4)))

/-- ERASE_STATUS of a stripe whose erase holds its tokens: `bad` names the board whose unit failed, none when all report success; `nearEnd` says that a
unit's count reached 90 % of the rated endurance, which its parameter page gives (R245, R246, R250, R255). -/
def execEraseStatus (key : Nat) (bad : Option Nat) (nearEnd : Bool) (s : State) : Out :=
  onUp s fun s =>
    if !(s.tir.erases.contains key) || !(hgHolds s (.erase key)) then s
    else
      let t := eraseEnded key nearEnd s
      hgWaitSync (stripeDone key (match bad with | none => t | some b => eraseFailed (b % 8) key t))

/-- Wear relocation is due: the spread exceeds SPREAD, the resaw is idle and PERIOD_S has passed (R249). -/
def wearDue (s : State) : Bool :=
  let spread := s.get Reg.SLC_WEAR_STATE_MAX_ERASES - s.get Reg.SLC_WEAR_STATE_MIN_ERASES
  decide (s.get Reg.SLC_WEAR_CFG_SPREAD < spread) && s.get Reg.TIR_RSW_STATE_STATE == 0 && s.tir.wearVictim.isNone && drainModes s &&
    (s.med.wearAt == 0 || decide (s.med.wearAt + s.get Reg.SLC_WEAR_CFG_PERIOD_S * 1000000 ≤ s.epoch))

/-- The closed stripe with the fewest erases (R249). -/
def wearPick (s : State) : Option Nat :=
  ((s.med.stripes.filter (fun e => e.2.state == 3 && stripeInUse s e.1)).foldl (fun (b : Option (Nat × Nat)) e => match b with
    | none => some (e.1, e.2.erases)
    | some (k, n) => if e.2.erases < n then some (e.1, e.2.erases) else some (k, n)) none).map Prod.fst

/-- WEAR_RELOCATION: the closed stripe with the fewest erases is to be moved out and freed (R249). -/
def execWearRelocation (s : State) : Out :=
  onUp s fun s =>
    if !(wearDue s) then s
    else match wearPick s with
      | none => s
      | some k => renewCheckpoints k (k / 4096) ((s.onTir fun x => { x with wearVictim := some k }).onMed fun x => { x with wearAt := s.epoch })

/-- SUSPEND_DONE: an operation on a die is suspended for demand reads, while it has been suspended fewer than SUSPEND_MAX times (R237). -/
def execSuspendDone (sluice die : Nat) (s : State) : Out :=
  onUp s fun s =>
    let k := 16 * (sluice % 32) + die % 16
    let n := tget 0 k s.tir.suspends
    if n ≥ s.get (Reg.SLC_CH_CFG_SUSPEND_MAX (sluice % 32)) then s
    else (s.onTir fun x => { x with suspends := tset 0 k (n + 1) x.suspends }).inc (Reg.SLC_CH_STAT_COUNT (sluice % 32) 7)

end Sys2Proof.Machine
end

