-- ==== Sys2Proof/Machine/Footing.lean ====
section
/-!
DEFINITION. Sys2Proof/Machine/Footing.lean: quarter reads and the ladder's deadline, dies, channels and media boards, the format (07_footing_media.md R219 to
R261, R278).
-/
namespace Sys2Proof.Machine

open Sys2Proof

/-! ### Quarter reads -/

/-- QUARTER_READ_DONE: a read of quarter q of a granule has been decoded: the first read of a quarter, the retry or the stripe rebuild that its ladder waits
for (R242, R243, R266, R278, R281). -/
def execQuarterReadDone (g q : Nat) (ok : Bool) (s : State) : Out :=
  onUp s fun s =>
    let q := q % 4
    let t := s.inc (Reg.SLC_CH_STAT_COUNT (quarterSluice g q s) 0)
    match ladderOn g q s with
    | none => if ok || !(bitOf q (s.gran g).fillQ) then t else startLadder g q t
    | some l =>
      if s.epoch ≥ l.deadline then ladderPoison g q true t
      else if l.step = 1 then ladderShift g q l ok t
      else if l.step = 2 then ladderStripe g q ok t
      else t

/-- LADDER_DEADLINE: 2 ms after the first decode the quarter is poisoned (R278, R282). -/
def execLadderDeadline (g q : Nat) (s : State) : Out :=
  onUp s fun s =>
    match ladderOn g (q % 4) s with
    | none => s
    | some l => if s.epoch < l.deadline then s else ladderPoison g (q % 4) true s

/-! ### Dies, channels and boards (R247, R255 to R260) -/

/-- Every erase under way is abandoned; its stripe is erased anew later (R256). -/
def abandonErases (s : State) : State :=
  let ks := s.tir.erases
  ks.foldl (fun s k => hgDrop (.erase k) s) (s.onTir fun x => { x with erases := [] })

/-- Row groups that still take slots are padded and programmed, and every open stripe is closed (R256). -/
def padAndClose (s : State) : State :=
  let fills := s.tir.groups.filter (fun g => !g.issued)
  let s := fills.foldl (fun s g => s.add (Reg.SLC_FTG_STAT_COUNT 6) (groupSlots g.narrow - g.used)) s
  let s := s.onTir fun x => { x with groups := x.groups.map (fun (g : RowGrp) => { g with issued := true }) }
  (s.med.stripes.filter (fun e => e.2.state == 1 || e.2.state == 2)).foldl (fun s e => closeStripe e.1 s) s

/-- Fewer than seven boards ONLINE or REBUILDING: SERVE_BLOCK bit 6 and the action of R258. -/
def boardsCheck (s : State) : State :=
  let few := decide (boardsServing s < 7)
  let s := setBlock 6 few s
  if few then failStop s else s

/-- A board is ABSENT, event 0x0408; without a release its row groups in flight are repeated (R256 to R258). -/
def boardAbsent (b : Nat) (surprise : Bool) (s : State) : State :=
  let s := ((s.put (Reg.SLC_BOARD_STATE_STATE b) 2).put (Reg.SLC_BOARD_STATE_SURPRISE b) (b2n surprise)).put (Reg.SLC_BOARD_STATE_REBUILD_LEFT b) 0
  let s := raise 0x0408 b (b2n surprise) (s.onMed fun x => { x with rebuildQ := [] })
  let s := if surprise then s.tir.groups.foldl (fun s g => failGroup g s) s else s
  boardsCheck (if surprise then (s.med.stripes.filter (fun e => e.2.state == 1 || e.2.state == 2)).foldl (fun s e => closeStripe e.1 s) s else s)

/-- A lane's stripes are given up: a stripe with live granules is evacuated, every other is RETIRED (R246, R247). -/
def retireLane (lane : Nat) (s : State) : State :=
  let keys := ((List.range (3650 - 2 * spillUnits s)).map (fun i => stripeKey lane (2 * spillUnits s + i)))
  let busy := keys.filter (fun k => decide ((s.stripe k).live > 0))
  let idle := keys.filter (fun k => decide ((s.stripe k).live = 0 ∧ (s.stripe k).state ≠ 4))
  let s := (s.tir.groups.filter (fun g => g.lane == lane)).foldl (fun s g => failGroup g s) s
  let s := s.onMed fun x =>
    { x with stripes := idle.foldl (fun m k => tins k { (tget (Stripe.fresh x.eraseBase) k m) with state := 4 } m) x.stripes }
  let s := busy.foldl (fun s k => evacuate k s) (stripeSync (s.add (Reg.SLC_FTG_STAT_COUNT 2) idle.length))
  if s.get Reg.SLC_FTG_SPACE_OP_NOW < s.get Reg.SLC_FTG_CFG_MIN_OP then raise 0x040C 0 (s.get Reg.SLC_FTG_SPACE_OP_NOW) s else s

/-- DIE_TIMEOUT: a die is failed; the stripes with a unit on it are evacuated and retired (R247, R255). -/
def execDieTimeout (sluice die : Nat) (s : State) : Out :=
  onUp s fun s =>
    let c := sluice % 32
    let d := die % 16
    let old := s.get (Reg.SLC_CH_STATE_DIES_FAILED c)
    if bitOf d old then s
    else retireLane (16 * (c % 4) + d) (raise 0x0407 c d (s.put (Reg.SLC_CH_STATE_DIES_FAILED c) (setBit old d true)))

/-- A sluice's unit is FAILED (R483). -/
def sluiceFailed (c : Nat) (s : State) : State := (unitFault (34 + c) (s.put (Reg.SLC_CH_STATE_STATE c) 2)).put (Reg.FRM_UNIT_STATE_STATE (34 + c)) 5

/-- CHANNEL_TRAINING_FAIL: the channel is FAILED and its board is treated as removed without release (R255). -/
def execChannelTrainingFail (sluice : Nat) (s : State) : Out :=
  onUp s fun s =>
    let c := sluice % 32
    let t := raise 0x040F c 0 (sluiceFailed c s)
    if s.get (Reg.SLC_BOARD_STATE_STATE (c / 4)) = 2 then t else boardAbsent (c / 4) true t

/-- BOARD_SURPRISE_ABSENT: all channels of a board fail at once without a release (R256). -/
def execBoardSurpriseAbsent (b : Nat) (s : State) : Out :=
  onUp s fun s =>
    let b := b % 8
    if s.get (Reg.SLC_BOARD_STATE_STATE b) = 2 then s
    else boardAbsent b true ((List.range 4).foldl (fun s k => sluiceFailed (4 * b + k) s) s)

/-- BOARD_RELEASE: open stripes are padded and closed, erases are abandoned, the board is ABSENT and the command completes (R256, R467).  A board that is
ABSENT already stays so. -/
def execBoardRelease (m : Nat) (s : State) : Out :=
  onCmd m 0x0801 s fun s =>
    let b := reqNat s m 0 1 % 8
    if (List.range 8).any (fun o => o != b && s.get (Reg.SLC_BOARD_STATE_STATE o) != 0) then refuse m .notPermitted (atPayload 0) s
    else if s.get (Reg.SLC_BOARD_STATE_STATE b) = 2 then complete m [] s
    else complete m [] (boardAbsent b false ((List.range 4).foldl (fun s k => s.put (Reg.SLC_CH_STATE_STATE (4 * b + k)) 0) (abandonErases (padAndClose s))))

/-- CLOSED wide stripes, which a new board must be rebuilt for (R260). -/
def toRebuild (s : State) : List Nat := (s.med.stripes.filter (fun e => e.2.state == 3 && !e.2.narrow)).map Prod.fst

/-- A board is taken in: new remap tables with the factory-bad units `bad` (stripe keys), spillway units erased, REBUILDING (R244, R259, R260). -/
def admitBoard (b : Nat) (dies : List Nat) (bad : List Nat) (s : State) : State :=
  let mine := fun (k : Nat) => k / 16 / 4 == b
  let s := s.onMed fun x =>
    { x with spares := bad.foldl (fun m k =>
               let d := 16 * laneSluice b (k / 4096) + k / 4096 % 16
               tset 0 d (tget 0 d m + 1) m) (x.spares.filter (fun e => !(mine e.1))) }
  let s := s.add (Reg.SLC_FTG_STAT_COUNT 1) bad.length
  let s := (List.range 4).foldl (fun s k =>
    let c := 4 * b + k
    let s := ((s.put (Reg.SLC_CH_STATE_STATE c) 1).put (Reg.SLC_CH_STATE_MISMATCH c) 0).put (Reg.SLC_CH_STATE_DIES_FAILED c) 0
    let s := (s.put (Reg.SLC_CH_STATE_DIE_PROFILE c) (s.get (Reg.SLC_CH_CFG_PROFILE c))).put (Reg.SLC_CH_STATE_DIES_PRESENT c) (dies.getD k 0xFFFF)
    unitServing (34 + c) s) s
  let q := toRebuild s
  let s := s.onMed fun x => { x with rebuildQ := q }
  let s := ((s.put (Reg.SLC_BOARD_STATE_STATE b) 4).put (Reg.SLC_BOARD_STATE_SURPRISE b) 0).put (Reg.SLC_BOARD_STATE_REBUILD_LEFT b) q.length
  setBlock 6 (decide (boardsServing s < 7)) s

/-- BOARD_ADMIT: the checks of R259 in order; `fault` is what training and identification give: 0 nothing, 1 a channel fails training, 2 a die fails R222,
3 a position in use is not populated; `place` is 16 × channel + die (R259, R467). -/
def execBoardAdmit (m fault place : Nat) (dies bad : List Nat) (s : State) : Out :=
  onCmd m 0x0802 s fun s =>
    let b := reqNat s m 0 1 % 8
    let c := 4 * b + place / 16 % 4
    if !(s.serving || s.mode = .quiesced) then refuse m .wrongMode noDetail s
    else if bitOf 3 (s.get Reg.MOD_STATE_SERVE_BLOCK) then refuse m .wrongMode noDetail s
    else if s.get (Reg.SLC_BOARD_STATE_STATE b) ≠ 2 then refuse m .notPermitted (atPayload 0) s
    else if fault = 1 then refuse m .mediaFailed (atPayload 0) (raise 0x040F c 0 (sluiceFailed c s))
    else if fault = 2 then refuse m .mediaFailed (atPayload 0) (raise 0x040B c (place % 16) (s.put (Reg.SLC_CH_STATE_MISMATCH c) 1))
    else if fault = 3 then refuse m .mediaFailed (atPayload 0) (raise 0x040B c (place % 16) s)
    else complete m [] (admitBoard b dies bad s)

/-- BOARD_REBUILD_DONE: every stripe that was to be rebuilt and was not erased first is; the board is ONLINE, event 0x0409 (R260). -/
def execBoardRebuildDone (b : Nat) (s : State) : Out :=
  onUp s fun s =>
    let b := b % 8
    if s.get (Reg.SLC_BOARD_STATE_STATE b) ≠ 4 then s
    else
      let n := (s.med.rebuildQ.filter (fun k => (s.stripe k).state == 3)).length
      let s := (s.onMed fun x => { x with rebuildQ := [] }).add (Reg.SLC_FTG_STAT_COUNT 5) n
      raise 0x0409 b n ((s.put (Reg.SLC_BOARD_STATE_STATE b) 0).put (Reg.SLC_BOARD_STATE_REBUILD_LEFT b) 0)

/-! ### Format and status (R252, R261) -/

/-- The footing is online: formatted, every board present, four die positions at least common to all channels (R220, R261). -/
def footingReady (s : State) : Bool :=
  s.med.formatted && decide (boardsServing s = 8) && decide (dieCount s ≥ 4)

/-- Every unit is erased, the remap tables are built with the factory-bad units of each die, u and REACH_LIMIT are fixed; the logbook's store is empty and
the clean-stop record is programmed (R252, R261, R535, R567). -/
def formatFooting (bad : List Nat) (s : State) : State :=
  let u := unitsFor (dieCount s * 32)
  let s := s.onMed fun x =>
    { x with formatted := true, slot0 := none, slot1 := none, stored := [], ckpt := [], ckptSeq := [], ckptLoc := [], worn := [], rebuildQ := [], stamp := 0,
             eraseBase := x.eraseBase + 1, spares := bad.foldl (fun m d => tset 0 d (tget 0 d m + 1) m) [],
             stripes := x.stripes.foldl (fun m e => tset (Stripe.fresh (x.eraseBase + 1)) e.1 (Stripe.fresh (e.2.erases + 1)) m) [] }
  let s := s.onTir fun x => { x with rswVictim := none, wearVictim := none, evacs := [], erases := [], groups := [], packs := [] }
  let s := ((s.onMed fun x => { x with units := u, restored := none }).put Reg.SLC_SPILLWAY_UNITS_PER_SLOT u).add (Reg.SLC_FTG_STAT_COUNT 1) bad.length
  let s := stripeSync (spillwaySync s)
  let s := stripeSync (s.put Reg.TIR_HAS_CFG_REACH_LIMIT (reachLimit s))
  let s := evrSync (s.onEvr fun x => { x with store := [] })
  let s := setBlock 3 (!(footingReady s)) (s.onStore fun x => { x with cleanStop := some s.med.spillNo })
  if footingReady s then evrSync (s.put Reg.EVR_STATE_STORE_ONLINE 1) else s

/-- FOOTING_FORMAT: in QUIESCED, with no persistent reach provisioned; `bad` lists the dies (16 × sluice + die) of factory-bad units (R244, R261).  The
response's layout is not in the spec. -/
def execFootingFormat (m : Nat) (bad : List Nat) (s : State) : Out :=
  onCmd m 0x0803 s fun s =>
    if !(s.mode = .quiesced) then refuse m .wrongMode noDetail s
    else if reachesOf 0 s > 0 then refuse m .notPermitted noDetail s
    else completeFree m 16 (formatFooting bad s)

/-- FOOTING_STATUS: 256 bytes, whose layout the spec does not give (R457). -/
def execFootingStatus (m : Nat) (s : State) : Out := onCmd m 0x0804 s (completeFree m 256)

end Sys2Proof.Machine
end

