-- ==== Sys2Proof/Machine/Foreman.lean ====
section
/-!
DEFINITION. Sys2Proof/Machine/Foreman.lean: the foreman's watchdogs, hot restart and exception queue (R427 to R433).
-/
namespace Sys2Proof.Machine

open Sys2Proof

/-- Discard every OPEN or FITTED frame, with event 0x0C04 where there is one (R482). -/
def discardFrames (s : State) : State :=
  let gone := s.frm.frames.filter (fun e => decide (e.2.state ≠ 3))
  if gone.isEmpty then s
  else
    let s := s.onFrm fun x => { x with frames := x.frames.filter (fun e => decide (e.2.state = 3)) }
    raise 0x0C04 0 gone.length ((gone.foldl (fun s e => frameSync e.1 s) s).add (Reg.FRM_STAT_COUNT 5) gone.length)

/-- Foreman commands accepted and not completed: queued or running, not fast-lane (R432). -/
def acceptedForeman (s : State) : List Nat :=
  (s.mbx.running ++ s.mbx.queue).filter (fun m => s.get (Reg.MBX_STATE_FAST m) == 0)

/-- A bay becomes EMPTY: no image, no command waits on it any more (R418, JNB_BAY_IMAGE). -/
def emptyBay (b : Nat) (s : State) : State :=
  let s := s.onJnb fun x => { x with compat := tdel b x.compat, masks := tdel b x.masks, waiters := x.waiters.filter (fun e => e.1 != b) }
  ((s.put (Reg.JNB_BAY_STATE_STATE b) 0).put (Reg.JNB_BAY_IMAGE_VERSION b) 0).put (Reg.JNB_BAY_IMAGE_DIGEST b) 0

/-- Bays LOADING or TESTING return to EMPTY (R435). -/
def dropLoads (s : State) : State :=
  (List.range 8).foldl (fun s b =>
    if s.get (Reg.JNB_BAY_STATE_STATE b) = 1 || s.get (Reg.JNB_BAY_STATE_STATE b) = 2 then emptyBay b s else s) s

/-- No waiter any more: a mailbox whose command a hot restart aborts. -/
def keepWaiter (acc : List Nat) (w : Option Nat) : Option Nat := w.filter (fun m => !(acc.contains m))

/-- The waiter of work that goes on for a command a hot restart aborts: a number that is no mailbox's. -/
def goneWaiter (acc : List Nat) (w : Option Nat) : Option Nat := w.map (fun m => if acc.contains m then m + 64 else m)

/-- The work of the commands that a hot restart aborts goes on, and answers no mailbox (R432); a ROM routine of the store ends with the
foreman cores' reset, its sector not verified. -/
def forgetWaiters (acc : List Nat) (s : State) : State :=
  let s := s.onFrm fun x => { x with frames := x.frames.map (fun e => (e.1, { e.2 with waiter := keepWaiter acc e.2.waiter })) }
  let s := s.onJnb fun x => { x with waiters := x.waiters.filter (fun e => !(acc.contains e.2)) }
  let s := { s with win := s.win.map (fun (e : Nat × Window) => (e.1, { e.2 with waiters := e.2.waiters.filter (fun m => !(acc.contains m)) })) }
  let s := s.onRdm fun x => { x with qps := x.qps.map (fun (e : Nat × Qp) => (e.1, { e.2 with destroyer := e.2.destroyer.filter (fun m => !(acc.contains m)) })) }
  let s := s.onCph fun x => { x with
    slots := x.slots.map (fun (e : Nat × CSlot) => (e.1, { e.2 with loader := goneWaiter acc e.2.loader, clearing := goneWaiter acc e.2.clearing })),
    jobs := x.jobs.map (fun (e : Nat × CJob) => (e.1, { e.2 with mbx := goneWaiter acc e.2.mbx })) }
  let s := s.onTwn fun x => { x with
    handovers := x.handovers.map (fun h => (h.1, h.2.1, keepWaiter acc h.2.2)),
    reachOps := x.reachOps.map (fun (o : ReachOp) => { o with mbx := goneWaiter acc o.mbx }),
    split := x.split.map (fun p => (keepWaiter acc p.1, p.2)), soloMbx := keepWaiter acc x.soloMbx }
  let s := s.onPwr fun x => { x with testMbx := keepWaiter acc x.testMbx, modeMbx := keepWaiter acc x.modeMbx }
  let s := s.onStore fun x => { x with opMbx := none }
  (s.put Reg.FST_STATE_OP 0).put Reg.FST_OP_WORDS_LEFT 0

/-- A hot restart of the foreman (R432): the auto-responder takes the mailboxes, accepted commands are to be ABORTED, staged frames are
discarded, loads are dropped. -/
def hotRestart (s : State) : State :=
  let acc := acceptedForeman s
  let s := s.onMbx fun x => { x with aborting := x.aborting ++ acc, queue := x.queue.filter (fun m => !(acc.contains m)) }
  let s := (forgetWaiters acc s).onFmn fun x => { x with restartAt := s.epoch }
  let s := ((s.put Reg.FMN_STATE_STATE 2).put Reg.FMN_STATE_RESPONDER 1).put Reg.FMN_STATE_GRACE 1
  dropLoads (discardFrames (s.inc (Reg.FMN_STAT_COUNT 3)))

/-- The restart has ended: accepted commands complete with ABORTED (R432). -/
def endRestart (s : State) : State :=
  let acc := s.mbx.aborting.filter (fun m => decide (s.get (Reg.MBX_STATE_STATE m) = 1 ∨ s.get (Reg.MBX_STATE_STATE m) = 2))
  let s := acc.foldl (fun s m => completeW m .aborted 0 noDetail false [] s) s
  let s := s.onMbx fun x => { x with aborting := [] }
  raise 0x0A08 0 0 (queueSync (((s.put Reg.FMN_STATE_STATE 0).put Reg.FMN_STATE_RESPONDER 0).put Reg.FMN_STATE_GRACE 0))

/-- FMN_WDT_KICK: the watchdog restarts; the first kick of a restarted foreman ends the hot restart (R431, R432). -/
def execFmnWdtKick (s : State) : Out :=
  onUp s fun s => if s.get Reg.FMN_STATE_STATE = 2 then endRestart s else s

/-- The foreman is lost for good: the module fences itself, or serving alone stops and spills, and RECOVERY follows; event 0x0A09
(R431, R526). -/
def foremanLost (s : State) : State :=
  let s := raise 0x0A09 0 0 s
  let s := if s.alone then spillOnInput .recovery s.mode.code s else if s.spills then preReset .recovery s else enterRecovery s
  s.put Reg.FMN_STATE_GRACE 0

/-- One expiry, counted with those of the last 60 s (R431): the first restarts the foreman with event 0x0A07, a second ends in RECOVERY. -/
def expiry (cause : Nat) (s : State) : State :=
  let recent := s.fmn.expiries.filter (fun e => decide (s.epoch < e + 60000000))
  let s := s.onFmn fun x => { x with expiries := s.epoch :: recent }
  let s := (s.put Reg.FMN_STATE_EXPIRIES (recent.length + 1)).inc (Reg.FMN_STAT_COUNT (if cause = 1 then 2 else 5))
  let s := (s.put Reg.FMN_RESTART_LOG_EPOCH s.epoch).put Reg.FMN_RESTART_LOG_CAUSE cause
  if recent.isEmpty then hotRestart (raise 0x0A07 0 0 s) else foremanLost s

/-- The watchdog counts: not held in SPILL, STANDBY and RECOVERY, not paused by a store operation (R431). -/
def watchdogRuns (s : State) : Bool := s.answers && !(s.mode = .recovery) && !(s.get Reg.FMN_STATE_STATE == 1)

/-- WATCHDOG_EXPIRY (R431). -/
def execWatchdogExpiry (s : State) : Out := .next (if watchdogRuns s then expiry 1 s else s)

/-- GRACE_END: the 2 s grace ends before the restart completes (R431). -/
def execGraceEnd (s : State) : Out :=
  .next (if watchdogRuns s && s.get Reg.FMN_STATE_STATE = 2 then foremanLost s else s)

/-- LOCKSTEP_MISMATCH: event 0x0A0B, then as a watchdog expiry (R427, R435). -/
def execLockstepMismatch (s : State) : Out :=
  .next (if s.answers && !(s.mode = .recovery) then expiry 2 (raise 0x0A0B 0 0 s) else s)

/-- FMN_STATE.EXC_QUEUED as the queue stands. -/
def excSync (s : State) : State := s.put Reg.FMN_STATE_EXC_QUEUED s.fmn.exc.length

/-- EXCEPTION_POST: a notice joins the queue of 4,096, or is dropped, counted, and event 0x0A0C raised with subject 0 (R430). -/
def execExceptionPost (bay subject : Nat) (s : State) : Out :=
  onUp s fun s =>
    let s := s.inc (Reg.JNB_STAT_COUNT bay 4)
    if s.fmn.exc.length < 4096 then excSync (s.onFmn fun x => { x with exc := x.exc ++ [subject] })
    else raiseRl 0x0A0C 0 subject (s.inc (Reg.FMN_STAT_COUNT 7))

/-- EXCEPTION_HANDLE: the foreman, when it runs, handles the oldest notice (R430). -/
def execExceptionHandle (s : State) : Out :=
  onUp s fun s => match s.fmn.exc with
    | _ :: rest => if s.get Reg.FMN_STATE_STATE = 0 then excSync ((s.onFmn fun x => { x with exc := rest }).inc (Reg.FMN_STAT_COUNT 6)) else s
    | [] => s

end Sys2Proof.Machine
end

