-- ==== Sys2Proof/Machine/Joiners.lean ====
section
/-!
DEFINITION. Sys2Proof/Machine/Joiners.lean: joinery steps and their work lists, bays and the rolling update, joiner faults and map-out
(13_joiners_and_foreman.md, R412 to R426, R469).
-/
namespace Sys2Proof.Machine

open Sys2Proof

/-! ### Bays and work lists (R417, R418, R423) -/

/-- State of bay b (R418). -/
def bayState (s : State) (b : Nat) : Nat := s.get (Reg.JNB_BAY_STATE_STATE b)
/-- IMAGE_VERSION of bay b. -/
def bayImage (s : State) (b : Nat) : Nat := s.get (Reg.JNB_BAY_IMAGE_VERSION b)
/-- Ready steps of bay b. -/
def readyOf (s : State) (b : Nat) : Nat := (s.jnb.ready.filter (fun t => t.bay == b)).length
/-- Joiners of bay b that are not mapped out. -/
def bayJoiners (s : State) (b : Nat) : Nat :=
  (List.range 8).foldl (fun v j => if s.flag (Reg.JNB_JOINER_STATE_MAPPED_OUT b j) then v else v + 2 ^ j) 0

/-- JNB_BAY_STATE.READY as the work lists stand. -/
def readySync (s : State) : State := (List.range 8).foldl (fun s b => s.put (Reg.JNB_BAY_STATE_READY b) (satAt 0xFFFF (readyOf s b))) s

/-- JNB_BAY_STATE.JOINERS: the joiners of an IN_SERVICE bay that are not mapped out. -/
def joinersPut (s : State) : State :=
  (List.range 8).foldl (fun s b => s.put (Reg.JNB_BAY_STATE_JOINERS b) (if bayState s b = 3 then bayJoiners s b else 0)) s

/-- The joiners in service, and what a fall below 56 or 32 of them means (R426): DEGRADED with event 0x0A0D; event 0x0A0E, and the module stops as for
too few boards. -/
def joinerSync (s : State) : State :=
  let before := joinersInService s
  let s := joinersPut s
  let now := joinersInService s
  let s := if before ≥ 56 ∧ now < 56 then raise 0x0A0D 0 now s else s
  let s := setBlock 4 (decide (now < 32)) (degradedSync s)
  if before ≥ 32 ∧ now < 32 then failStop (raise 0x0A0E 0 now s) else s

/-- The bays that take the steps of an operation under an image: IN_SERVICE with that image and in the mask, or the image's last bay, DRAINING (R417, R423). -/
def baysFor (s : State) (image mask : Nat) : List Nat :=
  let up := (List.range 8).filter (fun b => bayState s b == 3 && bayImage s b == image && bitOf b mask)
  if up.isEmpty && !((List.range 8).any (fun b => bayState s b == 3 && bayImage s b == image))
  then (List.range 8).filter (fun b => bayState s b == 4 && bayImage s b == image) else up

/-- The bay with the fewest ready steps, the lowest-numbered among equals (R417). -/
def leastReady (s : State) : List Nat → Option Nat
  | [] => none
  | b :: bs =>
    match leastReady s bs with
    | none => some b
    | some c => if readyOf s b ≤ readyOf s c then some b else some c

/-- Ready steps and joiners in service of an image's IN_SERVICE bays (R423). -/
def imageLoad (s : State) (image : Nat) : Nat × Nat :=
  let bs := (List.range 8).filter (fun b => bayState s b == 3 && bayImage s b == image)
  (bs.foldl (fun n b => n + readyOf s b) 0, bs.foldl (fun n b => n + popCount 8 (s.get (Reg.JNB_BAY_STATE_JOINERS b))) 0)

/-- The image under which a new operation starts: the fewest ready steps per joiner in service; that of the lowest bay among equals (R423). -/
def pickImage (s : State) : List Nat → Option Nat
  | [] => none
  | b :: bs =>
    match pickImage s bs with
    | none => some (bayImage s b)
    | some v =>
      let x := imageLoad s (bayImage s b)
      let y := imageLoad s v
      if x.1 * y.2 ≤ y.1 * x.2 then some (bayImage s b) else some v

/-- Post a step of an operation to a bay's work list (R417); with no eligible bay it stays with the operation. -/
def postStep (op entry image mask : Nat) (s : State) : State :=
  match leastReady s (baysFor s image mask) with
  | none => s
  | some b => readySync (s.onJnb fun x => { x with ready := x.ready ++ [{ op := op, entry := entry, image := image, bay := b, mask := mask }] })

/-- Move the steps on a bay's work list to other eligible bays, counted there (R419). -/
def moveSteps (b : Nat) (s : State) : State :=
  let mine := s.jnb.ready.filter (fun t => t.bay == b)
  readySync (mine.foldl (fun s t =>
    match leastReady s ((baysFor s t.image t.mask).filter (· != b)) with
    | none => s
    | some c =>
      (s.onJnb fun x => { x with ready := x.ready.filter (fun u => !(u.op == t.op && u.bay == b)) ++ [{ t with bay := c }] }).inc (Reg.JNB_STAT_COUNT c 1)) s)

/-! ### Running steps (R413 to R416) -/

/-- Bytes that a step wrote into yard buffers: handle, offset, bytes. -/
def storeBytes (l : List (Nat × Nat × List Nat)) (s : State) : State :=
  l.foldl (fun s e => s.onYrd fun x => { x with mem := writeBytes (e.1 * 2 ^ 21 + e.2.1) ((e.2.2.map (BitVec.ofNat 8)).take (2 ^ 21 - e.2.1)) x.mem }) s

/-- A step of an operation on bay b under an image commits its effects and ends: the operation's next step is posted, or it is over (R413, R414). -/
def runStep (b op entry image mask : Nat) (more : Bool) (stores : List (Nat × Nat × List Nat)) (s : State) : State :=
  let s := (storeBytes stores s).inc (Reg.JNB_STAT_COUNT b 0)
  if more then postStep op entry image mask (s.onJnb fun x => { x with ops := tins op image x.ops })
  else s.onJnb fun x => { x with ops := tdel op x.ops }

/-- STEP_RUN: a thread of the bay runs the operation's ready step, or the first step of a new operation, up to a waiting primitive or the handler's end.
`entry` and `mask` are those of the step that follows. -/
def execStepRun (op entry mask : Nat) (more : Bool) (stores : List (Nat × Nat × List Nat)) (s : State) : Out :=
  onUp s fun s =>
    match s.jnb.ready.find? (fun t => t.op == op) with
    | some t => runStep t.bay op entry t.image mask more stores (readySync (s.onJnb fun x => { x with ready := x.ready.filter (fun u => u.op != op) }))
    | none =>
      let image := match tfind op s.jnb.ops with
        | some v => some v
        | none => pickImage s ((List.range 8).filter (fun b => bayState s b == 3))
      match image with
      | none => s
      | some v => match leastReady s (baysFor s v mask) with
        | none => s
        | some b => runStep b op entry v mask more stores s

/-! ### The step budget (R415, R435) -/

/-- A granule's lock is released because the step that held it was abandoned: a fill's quarters go on arriving; an eviction is queued again, a pack
starts again (R435). -/
def loseLock (g : Nat) (l : Lock) (s : State) : State :=
  let s := dropLock g s
  match l.kind with
  | .fill => s
  | .demotion | .dropLoft =>
    giveSlot l.holder ((modGran g (fun (e : Gran) => { e with loftPend := e.loft }) s).onTir fun x => { x with ageQ := x.ageQ ++ [(g, true)] })
  | .dropFloor =>
    giveSlot l.holder ((modGran g (fun (e : Gran) => { e with floorPend := e.floor }) s).onTir fun x => { x with ageQ := x.ageQ ++ [(g, false)] })
  | .drainSnap =>
    let again := s.tir.packs.any (fun p => p.granule == g && p.kind == 1)
    let s := s.onTir fun x => { x with packs := x.packs.filter (fun p => !(p.granule == g && p.slot == l.holder)),
                                       packQ := if again && !(x.packQ.contains g) then x.packQ ++ [g] else x.packQ }
    giveSlot l.holder s
  | _ => giveSlot l.holder s

/-- Release the locks an operation holds: those of a ticket's fills, or those of a move slot. -/
def loseLocks (op : Nat) (s : State) : State :=
  (s.tir.dir.filterMap (fun e => match e.2.lock with
    | some l => if (l.kind = LockKind.fill) = (op < 65536) ∧ l.holder = op % 65536 then some (e.1, l) else none
    | none => none)).foldl (fun s e => loseLock e.1 e.2 s) s

/-- The requester of an operation that ends ABORTED sees the refusal form of its interface (R415): poison on a read, a completion of a discarded write,
a remote operational error of a QP. -/
def abortAnswer (src : Src) (isRead : Bool) (s : State) : State :=
  match src with
  | .cxl p l t => respond p l t (if isRead then "MemData poison" else "Cmp") [] s
  | .doe p l => respond p l 0 "Internal Error" [] s
  | .twin t => linkSend "RETURN" 0 t [BitVec.ofNat 8 0x80] s
  | .prim n => s.send (.prim "TIER_READ" St.aborted.code n)
  | _ => s

/-- The operation that holds a ticket ends ABORTED: what it had sequenced stays in the cistern and is applied (R415). -/
def abortTicket (t : Nat) (s : State) : State :=
  let msgs := s.rdm.qps.flatMap (fun e => (e.2.msgs.filter (fun m => m.ticket == some t)).map (fun m => (e.1, m)))
  let s := msgs.foldl (fun s (e : Nat × RMsg) => failReq e.1 e.2.psn St.aborted.code e.2.kind e.2.window e.2.off s) s
  let rdma := fun (x : Src) => match x with | .rdma _ _ _ => true | _ => false
  let reads := s.tir.waiting.filter (fun r => r.ticket == t && !(rdma r.src))
  let ops := (s.cis.admitQ ++ s.cis.waitOps.map (fun w => w.op)).filter (fun o => o.ticket == t && !(rdma o.src))
  let s := s.onTir fun x => { x with waiting := x.waiting.filter (fun r => !(r.ticket == t && !(rdma r.src))) }
  let s := s.onCis fun x => { x with admitQ := x.admitQ.filter (fun o => !(o.ticket == t && !(rdma o.src))),
                                     waitOps := x.waitOps.filter (fun w => !(w.op.ticket == t && !(rdma w.op.src))) }
  let s := reads.foldl (fun s r => abortAnswer r.src r.atomic.isNone (finishOp r.src r.ticket r.window s)) s
  ops.foldl (fun s o => abortAnswer o.src false (finishOp o.src o.ticket o.window s)) s

/-- The entries over their step budget within the last 1 s. -/
def recentBudgets (s : State) : List (Nat × Nat) := s.fmn.budgets.filter (fun e => decide (s.epoch < e.2 + 1000000))

/-- An operation whose step is over its budget leaves the work lists; the step is counted as abandoned and as over budget, with event 0x0A03; its locks are
released and it ends ABORTED (R415, R435). -/
def abandonStep (bay op entry : Nat) (s : State) : State :=
  let s := s.onFmn fun x => { x with budgets := (entry, s.epoch) :: recentBudgets s }
  let s := s.onJnb fun x => { x with ready := x.ready.filter (fun u => u.op != op), ops := tdel op x.ops }
  let s := ((readySync s).inc (Reg.JNB_STAT_COUNT bay 2)).inc (Reg.JNB_STAT_COUNT bay 3)
  let s := loseLocks op (raise 0x0A03 entry op s)
  if op < 65536 then abortTicket op s else s

/-- STEP_BUDGET_EXCEEDED: the step is abandoned, its locks are released and its operation ends ABORTED, with event 0x0A03; an entry over its limit within 1 s
raises event 0x0A0C, rate-limited with the entry as its subject (R415, R435). -/
def execStepBudgetExceeded (bay op entry : Nat) (s : State) : Out :=
  onUp s fun s =>
    let n := ((recentBudgets s).filter (fun e => e.1 == entry)).length + 1
    let t := abandonStep bay op entry s
    settle (if n ≥ s.get Reg.JNB_CFG_FAULT_LIMIT then raiseRl 0x0A0C entry n t else t)

/-! ### Joiner faults and the periodic test (R425, R435) -/

/-- A joiner is mapped out for a cause: recorded in the firmware store and in its registers (R425). -/
def mapOutJoiner (j cause : Nat) (s : State) : State :=
  let b := j / 8
  let k := j % 8
  let s := s.onStore fun x => { x with mapOutJ := tins j cause x.mapOutJ }
  ((s.put (Reg.JNB_JOINER_STATE_MAPPED_OUT b k) 1).put (Reg.JNB_JOINER_STATE_CAUSE b k) cause).put (Reg.JNB_JOINER_CTL_MAP_OUT b k) 1

/-- A joiner's check fires or its test fails: counted and mapped out, with event 0x0A01, or 0x0A02 at bring-up (R425). -/
def faultJoiner (j cause : Nat) (s : State) : State :=
  let s := s.addSat (Reg.JNB_JOINER_STATE_FAULTS (j / 8) (j % 8)) 1
  joinerSync (raise (if cause = 1 then 0x0A02 else 0x0A01) j cause (mapOutJoiner j cause s))

/-- JOINER_FAULT: joiner 0–63, its cause (1 bring-up test, 2 periodic test, 3 datapath check) and how many running steps were abandoned; they run again
from their start on other joiners. -/
def execJoinerFault (joiner cause abandoned : Nat) (s : State) : Out :=
  onUp s fun s =>
    if joiner ≥ 64 ∨ s.flag (Reg.JNB_JOINER_STATE_MAPPED_OUT (joiner / 8) (joiner % 8)) then s
    else faultJoiner joiner (if cause = 1 ∨ cause = 2 then cause else 3) (s.add (Reg.JNB_STAT_COUNT (joiner / 8) 2) (Nat.min abandoned 8))

/-- The test of a joiner whose MAP_OUT a frame has cleared: it serves again, or is mapped out with cause 2 (R425). -/
def retestJoiner (j : Nat) (passes : Bool) (s : State) : State :=
  let s := s.onJnb fun x => { x with retest := x.retest.filter (· != j) }
  if passes then
    let s := s.onStore fun x => { x with mapOutJ := tdel j x.mapOutJ }
    joinerSync ((s.put (Reg.JNB_JOINER_STATE_MAPPED_OUT (j / 8) (j % 8)) 0).put (Reg.JNB_JOINER_STATE_CAUSE (j / 8) (j % 8)) 0)
  else faultJoiner j 2 s

/-- JOINER_TEST_DUE: the test that ends a map-out; else, in serving modes, every 10 × TEST_PERIOD_S seconds, one joiner in service tests itself; a failure maps it out with cause 2. -/
def execJoinerTestDue (joiner : Nat) (passes : Bool) (s : State) : Out :=
  onUp s fun s =>
    if s.jnb.retest.contains joiner then retestJoiner joiner passes s
    else if !s.serving ∨ joiner ≥ 64 ∨ !(bitOf (joiner % 8) (s.get (Reg.JNB_BAY_STATE_JOINERS (joiner / 8)))) then s
    else if s.epoch < s.jnb.testAt + s.get Reg.JNB_CFG_TEST_PERIOD_S * 10000000 then s
    else
      let t := s.onJnb fun x => { x with testAt := s.epoch }
      if passes then t else faultJoiner joiner 2 t

/-! ### Loading and draining bays (R418 to R424, R469) -/

/-- The mailbox that waits on a bay's load or drain, which no longer waits. -/
def bayWaiter (b : Nat) (s : State) : Option Nat × State := (tfind b s.jnb.waiters, s.onJnb fun x => { x with waiters := tdel b x.waiters })

/-- The bays in service. -/
def baysUp (s : State) : List Nat := (List.range 8).filter (fun b => bayState s b == 3)

/-- The first check of R422 that a load fails; none when it passes. -/
def loadCheck (b : Nat) (back : Bool) (i : JoinImage) (s : State) : Option St :=
  if bayState s b ≠ 0 then some .wrongMode
  else if !i.fits then some .badLength
  else if !i.sigOk then some .authFailed
  else if back && !(s.flag Reg.FRM_POLICY_ALLOW_ROLLBACK) then some .notPermitted
  else if !back && (baysUp s).any (fun c => decide (i.version < bayImage s c)) then some .notPermitted
  else if (baysUp s).any (fun c => decide (bayImage s c < i.compat) || decide (i.version < tget 0 c s.jnb.compat)) then some .notPermitted
  else if i.recVersion ≠ 1 then some .notPermitted
  else none

/-- A bay takes a new image and is LOADING: its image registers, and the joinery measurement (R418, R530). -/
def beginLoad (b : Nat) (i : JoinImage) (s : State) : State :=
  let s := s.onJnb fun x => { x with compat := tins b i.compat x.compat, masks := tins b i.masks x.masks }
  let s := ((s.put (Reg.JNB_BAY_STATE_STATE b) 1).put (Reg.JNB_BAY_IMAGE_VERSION b) i.version).put (Reg.JNB_BAY_IMAGE_DIGEST b) i.digest
  s.put (Reg.MOD_MEAS_DIGEST 2) (Config.extend (s.get (Reg.MOD_MEAS_DIGEST 2)) i.digest)

/-- JOINERY_LOAD: the checks of R422 in order; then the bay is LOADING, and the command completes when the load and its test end. -/
def execJoineryLoad (m : Nat) (image : JoinImage) (s : State) : Out :=
  onCmd m 0x0E01 s fun s =>
    let b := reqNat s m 0 1 % 8
    let index := reqNat s m 4 4
    if index < 2 ∨ index > 5 then refuse m .badField (atPayload 4) s
    else if bayState s b = 1 ∨ bayState s b = 2 then refuseBusy m s
    else match loadCheck b (bitOf 0 (reqNat s m 1 1)) image s with
      | some st => refuse m st noDetail (if st = .authFailed then raise 0x0A06 b index s else s)
      | none => (beginLoad b image s).onJnb fun x => { x with waiters := tins b m x.waiters }

/-- Complete a command whose refusing status the spec does not name: one of the refusals of R456, open (notes/assumptions/4.md). -/
def refuseOpen (m : Nat) (s : State) : State :=
  let r := s.free 16
  let code := 2 + r.1 % 26
  ((refuse m .mediaFailed noDetail r.2).put (Mb.status m) code).put (Reg.MBX_STATE_STATUS m) code

/-- BAY_LOAD_DONE: the load alone has ended (TESTING), or the test as well: IN_SERVICE with the joiners that are not mapped out and event 0x0A05, or EMPTY on a
failure; the command that waits completes. -/
def execBayLoadDone (bay : Nat) (tested ok : Bool) (s : State) : Out :=
  onUp s fun s =>
    if bay ≥ 8 ∨ (bayState s bay ≠ 1 ∧ bayState s bay ≠ 2) then s
    else
      let w := bayWaiter bay s
      if !ok then
        let s := emptyBay bay w.2
        match w.1 with | some m => refuseOpen m s | none => s
      else if !tested then s.put (Reg.JNB_BAY_STATE_STATE bay) 2
      else
        let s := joinerSync (raise 0x0A05 bay (bayImage s bay) (w.2.put (Reg.JNB_BAY_STATE_STATE bay) 3))
        match w.1 with | some m => complete m (padTo 8 (leBytes 4 (bayImage s bay))) s | none => s

/-- A class of work would have no eligible bay in service without bay b (R419). -/
def leavesNone (b : Nat) (s : State) : Bool :=
  let others := (baysUp s).filter (· != b)
  others.isEmpty || others.any (fun o => (tget [] o s.jnb.masks).any (fun mask => !(others.any (fun c => bayImage s c == bayImage s o && bitOf c mask))))

/-- A DRAINING bay may become EMPTY: no step of it is left, and, where it was the last of its image, no operation under that image (R419, R423). -/
def drained (b : Nat) (s : State) : Bool :=
  readyOf s b == 0 &&
    ((baysUp s).any (fun c => bayImage s c == bayImage s b) || !(s.jnb.ops.any (fun e => e.2 == bayImage s b)))

/-- BAY_DRAIN: refused while another bay is DRAINING, LOADING or TESTING or where no eligible bay would be left; else DRAINING with event 0x0A04, its steps moved
(R419, R420); a bay that is EMPTY has nothing to drain. -/
def execBayDrain (m : Nat) (s : State) : Out :=
  onCmd m 0x0E02 s fun s =>
    let b := reqNat s m 0 1 % 8
    let st := bayState s b
    if st = 1 ∨ st = 2 ∨ st = 4 then refuseBusy m s
    else if st = 0 then complete m [] s
    else if (List.range 8).any (fun c => c != b && bayState s c != 0 && bayState s c != 3) then refuse m .notPermitted noDetail s
    else if leavesNone b s then refuse m .notPermitted noDetail s
    else
      let s := (raise 0x0A04 b (bayImage s b) (s.put (Reg.JNB_BAY_STATE_STATE b) 4)).onJnb fun x => { x with waiters := tins b m x.waiters }
      joinerSync (moveSteps b s)

/-- BAY_EMPTY: the command that waits completes (R419, R423). -/
def execBayEmpty (bay : Nat) (s : State) : Out :=
  onUp s fun s =>
    if bay ≥ 8 ∨ bayState s bay ≠ 4 ∨ !(drained bay s) then s
    else
      let w := bayWaiter bay s
      let s := emptyBay bay w.2
      match w.1 with | some m => complete m [] s | none => s

/-- BAY_STATUS: 64 B whose layout the spec does not give (notes/assumptions/6.md). -/
def execBayStatus (m : Nat) (s : State) : Out := onCmd m 0x0E03 s fun s => completeFree m 64 s

end Sys2Proof.Machine
end

