-- ==== Sys2Proof/Machine/Cxl.lean ====
section
/-!
DEFINITION. Sys2Proof/Machine/Cxl.lean: the CXL host ports: messages, refusals and violations, links and decoders, windows, extents and DC regions, Global Persistent
Flush, the device commands of a logical device and the FM API (09_cxl_host_ports.md; R462, R463, R614).
-/
namespace Sys2Proof.Machine

open Sys2Proof

/-! ### Messages (R302, R312, R321) -/

/-- Requests of a port's tag outstanding: in a queue, waiting, or not yet completed (R321). -/
def tagBusy (p tag : Nat) (s : State) : Bool :=
  let mine := fun (x : Src) => match x with | .cxl q _ t => q == p && t == tag | _ => false
  s.hpt.req.any (fun m => m.port == p && m.tag == tag) || s.hpt.rwd.any (fun m => m.port == p && m.tag == tag) ||
    s.tir.waiting.any (fun r => mine r.src) || s.cis.admitQ.any (fun o => mine o.src) || s.cis.waitOps.any (fun w => mine w.op.src)

/-- A message arrives on a port that carries it: a violation is counted and the message discarded, a read answered with poison (R321); otherwise it joins its queue
and what can leave the queues leaves them. -/
def arriveMsg (m : HMsg) (s : State) : State :=
  if !(portCarries m.port s) then s
  else
    let queued := if m.kind = 0 then (s.hpt.req.filter (fun x => x.port == m.port)).length else (s.hpt.rwd.filter (fun x => x.port == m.port)).length
    let credits := if m.kind = 0 then s.get (Reg.HPT_CRD_CFG_REQ m.port) else s.get (Reg.HPT_CRD_CFG_RWD m.port)
    if m.ld ≥ s.get (Reg.HPT_PORT_CFG_LD_COUNT m.port) ∨ tagBusy m.port m.tag s = true then
      let s := hostViolation m.port s
      if m.kind = 0 then respond m.port m.ld m.tag "MemData poison" [] s else s
    else if queued ≥ credits then hostViolation m.port s
    else if m.kind = 2 ∧ m.mask % 2 ^ 64 = 0 then respond m.port m.ld m.tag "Cmp" [] (hostViolation m.port s)
    else settle (queueLens (s.onHpt fun x => if m.kind = 0 then { x with req := x.req ++ [m] } else { x with rwd := x.rwd ++ [m] }))

/-- MEM_RD: MemRd or MemRdData of the line at a host address (R302, R303, R305). -/
def execMemRd (port ld tag hpa : Nat) (s : State) : Out :=
  .next (arriveMsg { port := port, ld := ld, tag := tag, kind := 0, dpa := decodeHpa port ld hpa s, mask := 0, poison := false, data := [] } s)

/-- MEM_WR: a full-line write (R302). -/
def execMemWr (port ld tag hpa : Nat) (poison : Bool) (data : List Nat) (s : State) : Out :=
  .next (arriveMsg { port := port, ld := ld, tag := tag, kind := 1, dpa := decodeHpa port ld hpa s, mask := 0, poison := poison,
                     data := padTo 64 (data.map (BitVec.ofNat 8)) } s)

/-- MEM_WR_PTL: a byte-enabled write; all-zero enables are a violation answered with Cmp (R302, R321). -/
def execMemWrPtl (port ld tag hpa mask : Nat) (poison : Bool) (data : List Nat) (s : State) : Out :=
  .next (arriveMsg { port := port, ld := ld, tag := tag, kind := 2, dpa := decodeHpa port ld hpa s, mask := mask % 2 ^ 64, poison := poison,
                     data := padTo 64 (data.map (BitVec.ofNat 8)) } s)

/-- A speculative read that is not served: counted, no response (R318). -/
def specDrop (port : Nat) (s : State) : State := s.inc (Reg.HPT_STAT_COUNT port 2)

/-- A speculative read that R318 refuses: counted as a refusal and dropped. -/
def specRefused (port ld k : Nat) (s : State) : State :=
  let t := raiseRl 0x0605 (ldNum port ld) k (specDrop port (s.inc (Reg.HPT_REFUSE_STAT_COUNT port k)))
  if s.evr.buf.any (fun r => r.isFor 0x0605 (ldNum port ld)) then t else noteLd (ldNum port ld) 0x0605 k t

/-- A MemSpecRd as a message. -/
def specMsg (port ld hpa : Nat) (s : State) : HMsg :=
  { port := port, ld := ld, tag := 0, kind := 0, dpa := decodeHpa port ld hpa s, mask := 0, poison := false, data := [] }

/-- MEM_SPEC_RD: served without a response when a ticket is free, otherwise dropped (R302, R318). -/
def execMemSpecRd (port ld hpa : Nat) (s : State) : Out :=
  .next (if !(portCarries port s) then s
    else if ld ≥ s.get (Reg.HPT_PORT_CFG_LD_COUNT port) then hostViolation port s
    else
      match portRefusal (specMsg port ld hpa s) s with
      | .inl k => specRefused port ld k s
      | .inr (id, w) =>
        if s.departing then specDrop port s
        else match takeTicket port s with
          | some (t, u) => settle (startRead (specMsg port ld hpa s) (.spec port) t id w u)
          | none => specDrop port s)

/-- MEM_INV: MemInv, MemInvNT or MemClnEvct is answered with Cmp at once (R302). -/
def execMemInv (port ld tag : Nat) (s : State) : Out :=
  .next (if portCarries port s then
    (if ld ≥ s.get (Reg.HPT_PORT_CFG_LD_COUNT port) then hostViolation port s else respond port ld tag "Cmp" [] s) else s)

/-- CXL_VIOLATION: a violation the link logic finds; `read` answers it with poison, `ur` as PCIe's Unsupported Request or Completer Abort, neither discards it (R321). -/
def execCxlViolation (port ld tag : Nat) (read ur : Bool) (s : State) : Out :=
  .next (if portCarries port s then
    let s := hostViolation port s
    if read then respond port ld tag "MemData poison" [] s else if ur then respond port ld tag "Unsupported Request" [] s else s
  else s)

/-- CXL_VIOLATION_LIMIT: 16 violations within 1 s fence the link: it is taken down and held down, with event 0x0606 (R321). -/
def execCxlViolationLimit (port : Nat) (s : State) : Out :=
  .next (if portCarries port s && decide (hostViolsOf port s ≥ 16) then
    settle (linkLost port (notePort port 0x0606 0 (raise 0x0606 port 0 (unitFault port (s.put (Reg.HPT_LINK_STATE_FENCED port) 1)))))
  else s)

/-- HDM_DECODE: the primitive's answer is the home address of a DPA, or the status of R318's window cases (R305, R416). -/
def execHdmDecode (port ld dpa : Nat) (s : State) : Out :=
  onUp s fun s =>
    match windowAt port ld dpa s with
    | none => s.send (.prim "HDM_DECODE" St.bounds.code 0)
    | some (_, w) =>
      if w.offered then s.send (.prim "HDM_DECODE" St.bounds.code 0)
      else if w.state ≠ 1 then s.send (.prim "HDM_DECODE" St.revoked.code 0)
      else s.send (.prim "HDM_DECODE" 0 (w.base + (dpa - w.dpa)))

/-! ### Global Persistent Flush (R62, R63, R315) -/

/-- GPF_PHASE1: acknowledged at once (R62). -/
def execGpfPhase1 (port : Nat) (s : State) : Out :=
  .next (if portCarries port s then respond port 0 0 "GPF phase 1 response" [] (s.onHpt fun x => { x with gpf1 := port :: x.gpf1.filter (· != port) }) else s)

/-- A ticket from the port's reserve, outside admission (R315): the lowest free one. -/
def forceTicket (p : Nat) (s : State) : Nat × State :=
  let n := tnext 0 s.cis.tickets
  (n, ticketSync p (s.onCis fun x => { x with tickets := tins n p x.tickets }))

/-- Every write of the port's RwD queue takes a ticket and goes on into the top 3 % (R63, R315). -/
def gpfIssue (p : Nat) (s : State) : State :=
  let ms := s.hpt.rwd.filter (fun m => m.port == p)
  let s := s.onHpt fun x => { x with rwd := x.rwd.filter (fun m => m.port != p) }
  queueLens (ms.foldl (fun s m => match portRefusal m s with
    | .inl k => refuseMsg m k s
    | .inr (id, w) => let q := forceTicket p s; startWrite m q.1 id w true q.2) s)

/-- Tickets of the port's persistent-class writes that have not reached their completion point (R62). -/
def gpfTickets (p : Nat) (s : State) : List Nat :=
  let mine := fun (x : Src) => match x with | .cxl q _ _ => q == p | .doe q _ => q == p | _ => false
  ((s.cis.waitOps.map (fun w => w.op)) ++ s.cis.admitQ).filterMap (fun o => if mine o.src && decide (o.cls ≠ 2) then some o.ticket else none)

/-- The phase-2 message of a port: before phase 1 it is a violation; the queued writes of a module that completes take tickets and go on (R63, R315, R321). -/
def gpfTaken (port : Nat) (s : State) : State :=
  let s := if s.hpt.gpf1.contains port then s else hostViolation port s
  let s := s.onHpt fun x => { x with gpf1 := x.gpf1.filter (· != port) }
  if s.completes then gpfIssue port s else s

/-- The flush of a port waits for its writes; appends that already waited for room go into the part kept for the flush (R62, R63). -/
def gpfAwait (port : Nat) (ts : List Nat) (s : State) : State :=
  let s := s.onCis fun x => { x with gpf := x.gpf.filter (fun e => e.1 != port) ++ [(port, ts)] }
  let due := s.cis.waitApp.filter (fun r => ts.contains r.ticket)
  due.foldl (fun s r => place r s) (s.onCis fun x => { x with waitApp := x.waitApp.filter (fun r => !(ts.contains r.ticket)) })

/-- GPF_PHASE2: answered once every write that holds a ticket at its receipt has reached its completion point, VOLATILE writes aside; before phase 1 it is a violation, answered
alike (R62, R63, R315, R321). -/
def execGpfPhase2 (port : Nat) (s : State) : Out :=
  .next (if portCarries port s then
    let t := gpfTaken port s
    settle (gpfSync ((gpfAwait port (gpfTickets port t) t).put (Reg.HPT_PORT_STATE_GPF_P2 port) 1))
  else s)

/-! ### Links (R296, R299, R303, R320, R322) -/

/-- A port's link is up at a rate and a width, in FLIT mode at 64 GT/s; event 0x0604 (R296, R322). -/
def linkTrained (port r w : Nat) (s : State) : State :=
  let s := ((s.put (Reg.HPT_LINK_STATE_RATE port) r).put (Reg.HPT_LINK_STATE_WIDTH port) w).put (Reg.HPT_LINK_STATE_FLIT port) (b2n (r == 3))
  notePort port 0x0604 0 (raise 0x0604 port 0 s)

/-- HOST_LINK_UP: the port trains at a rate (1–3) and width (0–2) within what it is configured for, in FLIT mode at 64 GT/s; event 0x0604, and 0x0601 when below its configuration; a link
that fails to train stays down with event 0x0601 (R296, R299, R322).  A fenced link, a port held in reset and a unit out of service stay down (R321, R606). -/
def execHostLinkUp (port rate width ltssm : Nat) (s : State) : Out :=
  onUp s fun s =>
    if port ≥ 8 ∨ s.mode = .spill ∨ s.get (Reg.HPT_LINK_STATE_RATE port) ≠ 0 ∨ s.get (Reg.HPT_LINK_STATE_FENCED port) = 1 ∨
        s.get (Reg.HPT_LINK_STATE_PERST port) = 1 ∨ s.get (Reg.FRM_UNIT_STATE_STATE port) = 3 then s
    else
      let r := Nat.min (rate % 4) (s.get (Reg.HPT_PORT_CFG_MAX_RATE port))
      let w := Nat.min width (s.get (Reg.HPT_PORT_CFG_MAX_WIDTH port))
      let t := s.put (Reg.HPT_LINK_STATE_LTSSM port) ltssm
      if r = 0 then notePort port 0x0601 0 (raise 0x0601 port 0 t)
      else if r < s.get (Reg.HPT_PORT_CFG_MAX_RATE port) ∨ w < s.get (Reg.HPT_PORT_CFG_MAX_WIDTH port) then
        notePort port 0x0601 (r + 4 * w) (raise 0x0601 port (r + 4 * w) (linkTrained port r w t))
      else linkTrained port r w t

/-- HOST_LINK_DOWN (R320). -/
def execHostLinkDown (port : Nat) (s : State) : Out :=
  .next (if portCarries port s then settle (linkLost port s) else s)

/-- HPN_PERST_ASSERT: the port is held in reset; its link goes down as R320 says, once (R320, R606). -/
def execHpnPerstAssert (port : Nat) (s : State) : Out :=
  onLive s fun s =>
    if port ≥ 8 then s
    else
      let was := s.get Reg.GLB_DISCRETES_PERST_N
      let t := if bitOf port was then s.put Reg.GLB_DISCRETES_PERST_N (was - 2 ^ port) else s
      if !s.up || s.mode = .spill || s.get (Reg.HPT_LINK_STATE_PERST port) = 1 then t
      else settle (linkLost port (t.put (Reg.HPT_LINK_STATE_PERST port) 1))

/-- HPN_PERST_RELEASE: the port may train (R606). -/
def execHpnPerstRelease (port : Nat) (s : State) : Out :=
  onLive s fun s =>
    if port ≥ 8 then s
    else
      let was := s.get Reg.GLB_DISCRETES_PERST_N
      let t := if bitOf port was then s else s.put Reg.GLB_DISCRETES_PERST_N (was + 2 ^ port)
      if s.up then t.put (Reg.HPT_LINK_STATE_PERST port) 0 else t

/-- DPA at which the range of decoder i begins: after the range of the decoder committed before it, and its skip (R303; notes/assumptions/31.md). -/
def decoderDpa (n i skip : Nat) (s : State) : Nat :=
  ((List.range i).foldl (fun a j => match tfind (4 * n + j) s.hpt.decoders with | some d => d.dpa + d.size / d.ways | none => a) 0) + skip

/-- What R303 allows of decoder i of logical device n whose range begins at a DPA: its ways, granularity and alignment, and no overlap with another decoder. -/
def decoderGood (n i base size ways gran dpa : Nat) (s : State) : Bool :=
  let others := (List.range 4).filterMap (fun j => if j = i then none else tfind (4 * n + j) s.hpt.decoders)
  (ways == 1 || ways == 2 || ways == 4 || ways == 8) &&
    (gran == 256 || gran == 512 || gran == 1024 || gran == 2048 || gran == 4096 || gran == 8192 || gran == 16384) &&
    base % (ways * 2 ^ 28) == 0 && size % (ways * 2 ^ 28) == 0 &&
    !(others.any (fun d => decide (d.dpa < dpa + size / ways) && decide (dpa < d.dpa + d.size / d.ways)))

/-- Decoder i of a logical device is committed. -/
def setDecoder (port ld i : Nat) (d : HdmDec) (s : State) : State :=
  let key := 4 * ldNum port ld + i
  let bits := s.get (Reg.HPT_LD_STATE_DECODERS port ld)
  (s.onHpt fun x => { x with decoders := tins key d x.decoders, errs := x.errs.filter (· != key) }).put (Reg.HPT_LD_STATE_DECODERS port ld)
    (if bitOf i bits then bits else bits + 2 ^ i)

/-- Decoder i of a logical device is not committed: Error Not Committed, event 0x0602. -/
def refuseDecoder (port ld i : Nat) (s : State) : State :=
  let n := ldNum port ld
  let bits := s.get (Reg.HPT_LD_STATE_DECODERS port ld)
  let t := s.onHpt fun x => { x with decoders := tdel (4 * n + i) x.decoders, errs := (4 * n + i) :: x.errs.filter (· != 4 * n + i) }
  noteLd n 0x0602 i (raise 0x0602 n i (t.put (Reg.HPT_LD_STATE_DECODERS port ld) (if bitOf i bits then bits - 2 ^ i else bits)))

/-- HDM_DECODER_COMMIT: a decoder outside what R303 allows gets Error Not Committed, with event 0x0602. -/
def execHdmDecoderCommit (port ld i base size ways gran skip : Nat) (s : State) : Out :=
  .next (if portCarries port s && decide (ld < s.get (Reg.HPT_PORT_CFG_LD_COUNT port)) && decide (i < 4) then
    let dpa := decoderDpa (ldNum port ld) i skip s
    if decoderGood (ldNum port ld) i base size ways gran dpa s then setDecoder port ld i { base := base, size := size, ways := ways, gran := gran, dpa := dpa } s
    else refuseDecoder port ld i s
  else s)

/-! ### Windows (R306, R311, R462, R463) -/

/-- A window may be opened on this module: it does not catch up (R55), it is past bring-up and not held in RECOVERY. -/
def opensWindows (s : State) : Bool := (s.serving || s.mode = .quiesced) && !(s.pair = .catchingUp) && !(s.pair = .joining && s.twn.settled)

/-- Windows of a logical device (R305). -/
def ldWindows (port ld : Nat) (s : State) : List (Nat × Window) := s.win.filter (fun e => !e.2.rdma && e.2.binding == cxlBinding port ld)

/-- A DPA range overlaps a window of the logical device. -/
def dpaTaken (port ld dpa len : Nat) (s : State) : Bool := (ldWindows port ld s).any (fun e => decide (e.2.dpa < dpa + len) && decide (dpa < e.2.dpa + e.2.len))

/-- The fields of the 48 B request of R462, as a window. -/
def windowRequest (m : Nat) (extent : Bool) (s : State) : Window :=
  { state := if extent then 0 else 1, cls := reqNat s m 2 1 % 4, rights := reqNat s m 3 1 % 8, rdma := false, gapU := false, gapL := false, tenant := reqNat s m 4 2 % 1024,
    binding := cxlBinding (reqNat s m 0 1 % 8) (reqNat s m 1 1 % 16), base := reqNat s m 16 8, len := reqNat s m 24 8, inFlight := 0, unmir := 0, extent := extent,
    offered := extent, dpa := reqNat s m 8 8, region := if extent then reqNat s m 6 1 % 8 else 0, since := s.epoch, asked := false, waiters := if extent then [m] else [] }

/-- CXL_WINDOW_OPEN: the checks of R47 and R306 in order, then the window is OPEN. -/
def execCxlWindowOpen (m : Nat) (s : State) : Out :=
  onCmd m 0x0401 s fun s =>
    let port := reqNat s m 0 1 % 8
    let ld := reqNat s m 1 1 % 16
    let w := windowRequest m false s
    let gib := s.get (Reg.HPT_LD_STATE_STATIC_GIB port ld)
    if !(opensWindows s) then refuse m .wrongMode noDetail s
    else match windowCheck (2 ^ 28) w.cls w.base w.len 16 24 2 s with
      | some (st, d) => refuse m st d s
      | none =>
        if ld ≥ s.get (Reg.HPT_PORT_CFG_LD_COUNT port) then refuse m .badField (atPayload 1) s
        else if w.dpa % 2 ^ 28 ≠ 0 ∨ w.dpa + w.len > gib * 2 ^ 30 then refuse m .bounds (atPayload 8) s
        else if dpaTaken port ld w.dpa w.len s then refuse m .badField (atPayload 8) s
        else if (ldWindows port ld s).length ≥ 16384 then refuse m .noResource noDetail s
        else
          let id := tnext 0 s.win
          complete m (leBytes 4 id ++ leBytes 12 0) (openWindow id w s)

/-- CXL_WINDOW_CLOSE: a static window; complete when CLOSED (R311, R463). -/
def execCxlWindowClose (m : Nat) (s : State) : Out :=
  onCmd m 0x0402 s fun s =>
    let id := reqNat s m 0 4 % 2 ^ 22
    match tfind id s.win with
    | none => refuse m .badField (atPayload 0) s
    | some w =>
      if w.rdma || w.extent then refuse m .badField (atPayload 0) s
      else if w.state = 3 then complete m [] s
      else startClose id (some m) s

/-- Clear a window's gap flags and count: the flags and the count before; a CLOSED window is then FREE (R49, R59, R463). -/
def gapAck (m : Nat) (rdma : Bool) (s : State) : State :=
  let id := reqNat s m 0 4 % 2 ^ 22
  match tfind id s.win with
  | none => refuse m .badField (atPayload 0) s
  | some w =>
    if w.rdma != rdma || w.offered then refuse m .badField (atPayload 0) s
    else
      let t := modWindow id (fun (w : Window) => { w with gapU := false, gapL := false, unmir := 0 }) s
      complete m (leBytes 1 (b2n w.gapU + 2 * b2n w.gapL) ++ leBytes 3 0 ++ leBytes 4 w.unmir ++ leBytes 8 0) (if w.state = 3 then freeWindow id t else t)

/-- CXL_GAP_ACK (R59, R463). -/
def execCxlGapAck (m : Nat) (s : State) : Out := onCmd m 0x0405 s (gapAck m false)

/-- WINDOW_STATUS: the descriptor of R75 (R463). -/
def execWindowStatus (m : Nat) (s : State) : Out :=
  onCmd m 0x0481 s fun s =>
    let id := reqNat s m 0 4 % 2 ^ 22
    match tfind id s.win with
    | none => refuse m .badField (atPayload 0) s
    | some w => if w.offered then refuse m .badField (atPayload 0) s else complete m (descriptor id w) s

/-- What WINDOW_LIST returns from a window number on. -/
def windowListBytes (first : Nat) (s : State) : List Byte :=
  let ws := (s.win.filter (fun e => decide (e.1 ≥ first) && !e.2.offered)).take 511
  leBytes 2 ws.length ++ leBytes 6 0 ++ ws.flatMap (fun e => (descriptor e.1 e.2).take 8)

/-- WINDOW_LIST: windows that are not FREE from the WINDOW_ID in bytes 0–3 on, at most 511 (the request's and the entries' layout: notes/assumptions/32.md; R457). -/
def execWindowList (m : Nat) (s : State) : Out :=
  onCmd m 0x0409 s fun s =>
    complete m (windowListBytes (reqNat s m 0 4 % 2 ^ 22) s) s

/-! ### Static capacity, DC regions, extents (R304, R308 to R310, R614) -/

/-- STATIC_CAPACITY_SET (R614). -/
def execStaticCapacitySet (m : Nat) (s : State) : Out :=
  onCmd m 0x0407 s fun s =>
    let port := reqNat s m 0 1 % 8
    let ld := reqNat s m 1 1 % 16
    let gib := reqNat s m 4 2
    if ld ≥ s.get (Reg.HPT_PORT_CFG_LD_COUNT port) then refuse m .badField (atPayload 1) s
    else if (ldWindows port ld s).any (fun e => !e.2.extent && decide (e.2.dpa + e.2.len > gib * 2 ^ 30)) then refuse m .notPermitted noDetail s
    else complete m [] (s.put (Reg.HPT_LD_STATE_STATIC_GIB port ld) gib)

/-- A DC region of a logical device takes its base, length and kind, or goes away with length 0; a changed kind is told by the CDAT's change flag (R304, R307, R308). -/
def setRegion (port ld r base len : Nat) (pers share : Bool) (s : State) : State :=
  let n := ldNum port ld
  let key := 8 * n + r
  let old := tfind key s.hpt.regions
  let s := s.onHpt fun x => { x with regions := if len = 0 then tdel key x.regions else tins key { base := base, len := len, persistent := pers, shareable := share } x.regions }
  let on := s.hpt.regions.filter (fun e => e.1 / 8 == n)
  let s := s.put (Reg.HPT_LD_STATE_REGIONS port ld) (on.foldl (fun v e => v + 2 ^ (e.1 % 8)) 0)
  let s := s.put (Reg.HPT_LD_STATE_PERSISTENT port ld) (on.foldl (fun v e => v + (if e.2.persistent then 2 ^ (e.1 % 8) else 0)) 0)
  if (old.map DcRegion.persistent) != some pers then s.onHpt fun x => { x with changed := n :: x.changed.filter (· != n) } else s

/-- DC_REGION_SET: a region's base, length and kind, while no window lies in it; length 0 takes the region away (R304, R307, R308; the request's layout and its
refusals: notes/assumptions/32.md). -/
def execDcRegionSet (m : Nat) (s : State) : Out :=
  onCmd m 0x0406 s fun s =>
    let port := reqNat s m 0 1 % 8
    let ld := reqNat s m 1 1 % 16
    let r := reqNat s m 6 1 % 8
    let base := reqNat s m 8 8
    let len := reqNat s m 24 8
    let pers := bitOf 0 (reqNat s m 2 1)
    if ld ≥ s.get (Reg.HPT_PORT_CFG_LD_COUNT port) then refuse m .badField (atPayload 1) s
    else if base % 2 ^ 28 ≠ 0 then refuse m .badField (atPayload 8) s
    else if len % 2 ^ 28 ≠ 0 then refuse m .badField (atPayload 24) s
    else if base < 2 ^ 48 * (r + 1) ∨ base + len > 2 ^ 48 * (r + 2) then refuse m .bounds (atPayload 8) s
    else if (ldWindows port ld s).any (fun e => e.2.extent && e.2.region == r) then refuse m .notPermitted noDetail s
    else
      complete m [] (setRegion port ld r base len pers (bitOf 1 (reqNat s m 2 1)) s)

/-- DCD_EXTENT_ADD: the checks of R47 and R309, then the offer is posted; the command completes when the offer ends (R309, R462). -/
def execDcdExtentAdd (m : Nat) (s : State) : Out :=
  onCmd m 0x0403 s fun s =>
    let port := reqNat s m 0 1 % 8
    let ld := reqNat s m 1 1 % 16
    let w := windowRequest m true s
    let n := ldNum port ld
    if !(opensWindows s) then refuse m .wrongMode noDetail s
    else match windowCheck (2 ^ 28) w.cls w.base w.len 16 24 2 s with
      | some (st, d) => refuse m st d s
      | none =>
        if ld ≥ s.get (Reg.HPT_PORT_CFG_LD_COUNT port) then refuse m .badField (atPayload 1) s
        else match tfind (8 * n + w.region) s.hpt.regions with
          | none => refuse m .bounds (atPayload 6) s
          | some r =>
            if w.dpa < r.base ∨ w.dpa + w.len > r.base + r.len then refuse m .bounds (atPayload 8) s
            else if w.dpa % 2 ^ 28 ≠ 0 then refuse m .badField (atPayload 8) s
            else if dpaTaken port ld w.dpa w.len s then refuse m .badField (atPayload 8) s
            else if r.persistent == (w.cls == 2) then refuse m .badField (atPayload 2) s
            else if (ldWindows port ld s).length ≥ 16384 then refuse m .noResource noDetail s
            else
              let id := tnext 0 s.win
              noteLd n 0x0001 id (openWindow id w s)

/-- An offer ends: refused by the host or not answered in time; the window is freed and the command completes, with event 0x0607 (R309). -/
def endOffer (id : Nat) (w : Window) (st : St) (s : State) : State :=
  let n := ldNum (w.binding % 8) (w.binding / 8)
  let s := freeWindow id s
  let s := w.waiters.foldl (fun s m => refuse m st noDetail s) s
  noteLd n 0x0607 id (raise 0x0607 n id s)

/-- The offered extent or accepted window a host names by its DPA range. -/
def extentNamed (port ld dpa len : Nat) (offered : Bool) (s : State) : Option (Nat × Window) :=
  s.win.find? (fun e => !e.2.rdma && e.2.binding == cxlBinding port ld && e.2.extent && e.2.offered == offered && e.2.dpa == dpa && e.2.len == len && decide (e.2.state ≤ 1))

/-- The oldest offer to a logical device. -/
def oldestOffer (port ld : Nat) (s : State) : Option (Nat × Window) :=
  match (ldWindows port ld s).filter (fun e => e.2.offered) with
  | [] => none
  | e :: es => some (es.foldl (fun a b => if b.2.since < a.2.since then b else a) e)

/-- An offered extent is accepted: its window is OPEN, and the command that offered it completes (R309, R462). -/
def acceptExtent (port ld dpa len : Nat) (s : State) : State :=
  match extentNamed port ld dpa len true s with
  | some (id, w) =>
    let s := modWindow id (fun (w : Window) => { w with state := 1, offered := false, waiters := [] }) s
    let s := tellLocal { w with state := 1 } { s with win := tins id w s.win } s
    w.waiters.foldl (fun s m => complete m (leBytes 4 id ++ leBytes 12 0) s) s
  | none => s

/-- ADD_DC_RESPONSE: the host accepts the extents it names, each one that was offered, or, naming none, rejects the oldest offer; an extent that was not offered fails the
command with Invalid Input, a violation (R309, R321). -/
def execAddDcResponse (port ld : Nat) (extents : List (Nat × Nat)) (s : State) : Out :=
  .next (if !(portCarries port s) then s
    else if extents.any (fun e => (extentNamed port ld e.1 e.2 true s).isNone) then respond port ld 0 "Invalid Input" [] (hostViolation port s)
    else if extents.isEmpty then
      match oldestOffer port ld s with
      | none => respond port ld 0 "Invalid Input" [] (hostViolation port s)
      | some e => respond port ld 0 "Success" [] (endOffer e.1 e.2 .revoked s)
    else respond port ld 0 "Success" [] (extents.foldl (fun s x => acceptExtent port ld x.1 x.2 s) s))

/-- OFFER_TIMEOUT: an offer unanswered for OFFER_MS is freed with TIMEOUT (R309). -/
def execOfferTimeout (id : Nat) (s : State) : Out :=
  onUp s fun s =>
    match tfind id s.win with
    | none => s
    | some w => if w.offered && decide (s.epoch ≥ w.since + 1000 * s.get (Reg.HPT_DCD_CFG_OFFER_MS (w.binding % 8))) then endOffer id w .timeout s else s

/-- An extent closes without the host: a Forced Capacity Release event, event 0x0608 (R310). -/
def forceRelease (id : Nat) (w : Window) (waiter : Option Nat) (s : State) : State :=
  let n := ldNum (w.binding % 8) (w.binding / 8)
  startClose id waiter (noteLd n 0x0003 id (raise 0x0608 n id s))

/-- DCD_EXTENT_RELEASE: the host is asked, or with FORCE the window closes without it; complete when CLOSED (R310, R463). -/
def execDcdExtentRelease (m : Nat) (s : State) : Out :=
  onCmd m 0x0404 s fun s =>
    let word := reqNat s m 0 4
    let id := word % 2 ^ 22
    match tfind id s.win with
    | none => refuse m .badField (atPayload 0) s
    | some w =>
      if w.rdma || !w.extent || w.offered then refuse m .badField (atPayload 0) s
      else if w.state = 3 then complete m [] s
      else if w.state = 2 then startClose id (some m) s
      else if bitOf 31 word then forceRelease id w (some m) s
      else
        let s := modWindow id (fun (w : Window) => { w with asked := true, since := if w.asked then w.since else s.epoch, waiters := w.waiters ++ [m] }) s
        if w.asked then s else noteLd (ldNum (w.binding % 8) (w.binding / 8)) 0x0002 id s

/-- RELEASE_TIMEOUT: a host that has not released within RELEASE_MS loses the extent by force (R310). -/
def execReleaseTimeout (id : Nat) (s : State) : Out :=
  onUp s fun s =>
    match tfind id s.win with
    | none => s
    | some w =>
      if w.asked && decide (w.state = 1) && decide (s.epoch ≥ w.since + 1000 * s.get (Reg.HPT_DCD_CFG_RELEASE_MS (w.binding % 8))) then forceRelease id w none s else s

/-- RELEASE_DYNAMIC_CAPACITY: each extent the host names goes to CLOSING; part of an extent fails the command with Invalid Input, a violation (R310, R321). -/
def execReleaseDynamicCapacity (port ld : Nat) (extents : List (Nat × Nat)) (s : State) : Out :=
  .next (if !(portCarries port s) then s
    else if extents.isEmpty || extents.any (fun e => (extentNamed port ld e.1 e.2 false s).isNone) then
      let part := extents.any (fun e => (extentNamed port ld e.1 e.2 false s).isNone && dpaTaken port ld e.1 e.2 s)
      respond port ld 0 "Invalid Input" [] (if part then hostViolation port s else s)
    else
      respond port ld 0 "Success" []
        (extents.foldl (fun s x => match extentNamed port ld x.1 x.2 false s with | some (id, _) => startClose id none s | none => s) s))

/-- HOST_LINK_UNFENCE: byte 0 names the port, whose link may train again (R321). -/
def execHostLinkUnfence (m : Nat) (s : State) : Out :=
  onCmd m 0x0408 s fun s =>
    let p := reqNat s m 0 1 % 8
    if s.get (Reg.HPT_LINK_STATE_FENCED p) = 0 then complete m [] s
    else complete m [] (unitServing p ((s.onHpt fun x => { x with viol := x.viol.filter (fun e => e.1 != p) }).put (Reg.HPT_LINK_STATE_FENCED p) 0))

/-! ### The device commands (R300) and CDAT (R307) -/

/-- A device command of a logical device of a port that carries it, answered at once. -/
def onLd (port ld : Nat) (s : State) (f : State → State) : Out :=
  .next (if portCarries port s && decide (ld < s.get (Reg.HPT_PORT_CFG_LD_COUNT port)) then f s else s)

/-- The capacities of a logical device's windows in bytes: volatile, persistent (R300, R301). -/
def ldCapacity (port ld : Nat) (s : State) : Nat × Nat :=
  (ldWindows port ld s).foldl (fun a e => if e.2.offered then a else if e.2.cls = 2 then (a.1 + e.2.len, a.2) else (a.1, a.2 + e.2.len)) (0, 0)

/-- What CDAT_READ returns: the change flag, then the kind and the figures of R307 for static capacity and for each configured DC region. -/
def cdatBytes (port ld : Nat) (s : State) : List Byte :=
  let n := ldNum port ld
  let gbs := (if s.get (Reg.HPT_LINK_STATE_RATE port) = 3 then 128 else if s.get (Reg.HPT_LINK_STATE_RATE port) = 2 then 64 else 32) /
    (if s.get (Reg.HPT_LINK_STATE_WIDTH port) = 2 then 1 else if s.get (Reg.HPT_LINK_STATE_WIDTH port) = 1 then 2 else 4)
  let entry := fun (pers : Bool) => leBytes 1 (b2n pers) ++ leBytes 4 380 ++ leBytes 4 (if pers then 1600 else 300) ++ leBytes 4 gbs
  leBytes 1 (b2n (s.hpt.changed.contains n)) ++ leBytes 1 8 ++ entry true ++
    (List.range 8).flatMap (fun r => match tfind (8 * n + r) s.hpt.regions with | some x => leBytes 1 r ++ entry x.persistent | none => [])

/-- CDAT_READ: the kind of each configured DC region and of static capacity, and the figures of R307 for persistent and volatile; the change flag is taken (R307). -/
def execCdatRead (port ld : Nat) (s : State) : Out :=
  onLd port ld s fun s =>
    respond port ld 0 "CDAT" (cdatBytes port ld s) (s.onHpt fun x => { x with changed := x.changed.filter (· != ldNum port ld) })

/-- Total, volatile and persistent capacity. -/
def identityBytes (c : Nat × Nat) : List Byte := leBytes 8 (c.1 + c.2) ++ leBytes 8 c.1 ++ leBytes 8 c.2

/-- IDENTIFY_MEMORY_DEVICE: volatile and persistent capacity of the logical device's windows (R300). -/
def execIdentifyMemoryDevice (port ld : Nat) (s : State) : Out :=
  onLd port ld s fun s => respond port ld 0 "Success" (identityBytes (ldCapacity port ld s)) s

/-- Opcodes of the commands a logical device supports, as CXL numbers them (R300). -/
def celOpcodes : List Nat :=
  [0x0100, 0x0101, 0x0102, 0x0103, 0x0300, 0x0301, 0x0400, 0x0401, 0x4000, 0x4200, 0x4300, 0x4302, 0x4800, 0x4801, 0x4802, 0x4803]

/-- GET_SUPPORTED_LOGS: the CEL and its length (R300). -/
def execGetSupportedLogs (port ld : Nat) (s : State) : Out :=
  onLd port ld s fun s => respond port ld 0 "Success" (leBytes 2 1 ++ leBytes 4 (4 * celOpcodes.length)) s

/-- The CEL: each opcode with an empty effect word. -/
def celBytes : List Byte := celOpcodes.flatMap (fun o => leBytes 2 o ++ leBytes 2 0)

/-- GET_LOG: the CEL (R300). -/
def execGetLog (port ld : Nat) (s : State) : Out := onLd port ld s (respond port ld 0 "Success" celBytes)

/-- The event records of a logical device, oldest first. -/
def ldEventBytes (port ld : Nat) (s : State) : List Byte :=
  let es := (s.hpt.events.filter (fun e => e.1 == ldNum port ld)).map Prod.snd
  leBytes 2 es.length ++ es.flatMap (fun e => leBytes 2 e.handle ++ leBytes 2 e.event ++ leBytes 8 e.detail ++ leBytes 8 e.epoch)

/-- GET_EVENT_RECORDS: the event records of the logical device, oldest first (R300). -/
def execGetEventRecords (port ld : Nat) (s : State) : Out :=
  onLd port ld s fun s => respond port ld 0 "Success" (ldEventBytes port ld s) s

/-- CLEAR_EVENT_RECORDS: the records named by handle, or all of the logical device's (R300). -/
def execClearEventRecords (port ld : Nat) (all : Bool) (handles : List Nat) (s : State) : Out :=
  onLd port ld s fun s =>
    let n := ldNum port ld
    respond port ld 0 "Success" [] (s.onHpt fun x => { x with events := x.events.filter (fun e => !(e.1 == n && (all || handles.contains e.2.handle))) })

/-- GET_EVENT_INTERRUPT_POLICY (R300). -/
def execGetEventInterruptPolicy (port ld : Nat) (s : State) : Out :=
  onLd port ld s fun s => respond port ld 0 "Success" (leBytes 4 (tget 0 (ldNum port ld) s.hpt.policy)) s

/-- SET_EVENT_INTERRUPT_POLICY (R300). -/
def execSetEventInterruptPolicy (port ld policy : Nat) (s : State) : Out :=
  onLd port ld s fun s => respond port ld 0 "Success" [] (s.onHpt fun x => { x with policy := tset 0 (ldNum port ld) (policy % 2 ^ 32) x.policy })

/-- A logical device's timestamp in ns: it runs on from its setting, 0 before one. -/
def ldStamp (port ld : Nat) (s : State) : Nat :=
  (match tfind (ldNum port ld) s.hpt.stamps with | some (v, e) => v + 1000 * (s.epoch - e) | none => 0) % 2 ^ 64

/-- GET_TIMESTAMP: the logical device's timestamp in ns, running on from its setting; 0 before one (R300). -/
def execGetTimestamp (port ld : Nat) (s : State) : Out :=
  onLd port ld s fun s => respond port ld 0 "Success" (leBytes 8 (ldStamp port ld s)) s

/-- SET_TIMESTAMP: kept per logical device; the epoch is not changed (R300). -/
def execSetTimestamp (port ld value : Nat) (s : State) : Out :=
  onLd port ld s fun s => respond port ld 0 "Success" [] (s.onHpt fun x => { x with stamps := tins (ldNum port ld) (value % 2 ^ 64, s.epoch) x.stamps })

/-- GET_HEALTH_INFO: media status and life used, in percent of the rated erases as the environment's verdict `life` gives it (R300, R319). -/
def execGetHealthInfo (port ld life : Nat) (s : State) : Out :=
  onLd port ld s fun s => respond port ld 0 "Success" (leBytes 1 (mediaStatus s) ++ leBytes 1 life) s

/-- Poisoned lines inside a logical device's windows, as DPA (R300). -/
def ldPoison (port ld : Nat) (s : State) : List Nat :=
  (ldWindows port ld s).flatMap (fun e => if e.2.offered then [] else (s.tir.poison.filter (fun p => decide (e.2.base ≤ p.1 * 64) && decide (p.1 * 64 < e.2.base + e.2.len))).map
    (fun p => e.2.dpa + (p.1 * 64 - e.2.base)))

/-- A poison list: up to 4,096 DPAs, with the overflow flag (R300). -/
def poisonBytes (l : List Nat) : List Byte :=
  leBytes 1 (b2n (decide (l.length > 4096))) ++ leBytes 2 (l.take 4096).length ++ (l.take 4096).flatMap (leBytes 8)

/-- GET_POISON_LIST: up to 4,096 DPAs, with the overflow flag (R300). -/
def execGetPoisonList (port ld : Nat) (s : State) : Out :=
  onLd port ld s fun s => respond port ld 0 "Success" (poisonBytes (ldPoison port ld s)) s

/-- CLEAR_POISON's write as a message: the full line of the DPA (R271). -/
def clearMsg (port ld dpa : Nat) (data : List Nat) : HMsg :=
  { port := port, ld := ld, tag := 0, kind := 1, dpa := some (dpa / 64 * 64), mask := 0, poison := false, data := padTo 64 (data.map (BitVec.ofNat 8)) }

/-- CLEAR_POISON: a full-line write of the supplied data through the window of the DPA (R271, R300); Busy while it is not admitted. -/
def execClearPoison (port ld dpa : Nat) (data : List Nat) (s : State) : Out :=
  onLd port ld s fun s =>
    let m := clearMsg port ld dpa data
    match portRefusal m s with
    | .inl _ => respond port ld 0 "Invalid Physical Address" [] s
    | .inr (id, w) =>
      if s.departing || (decide (w.cls ≠ 2) && !(mayAdmit (writeOf m 0 id w false) s)) then respond port ld 0 "Busy" [] s
      else match takeTicket port s with
        | none => respond port ld 0 "Busy" [] s
        | some (t, u) => settle (admitOp { (writeOf m t id w false) with src := .doe port ld } (beginAccess id u))

/-- The configured DC regions of a logical device (R304). -/
def dcConfigBytes (port ld : Nat) (s : State) : List Byte :=
  let rs := s.hpt.regions.filter (fun e => e.1 / 8 == ldNum port ld)
  leBytes 1 rs.length ++ rs.flatMap (fun e => leBytes 1 (e.1 % 8) ++ leBytes 8 e.2.base ++ leBytes 8 e.2.len ++ leBytes 8 (2 ^ 28) ++
    leBytes 1 (b2n e.2.persistent + 2 * b2n e.2.shareable))

/-- GET_DC_CONFIGURATION: the configured regions (R300, R304). -/
def execGetDcConfiguration (port ld : Nat) (s : State) : Out :=
  onLd port ld s fun s => respond port ld 0 "Success" (dcConfigBytes port ld s) s

/-- The accepted extents of a logical device that are not yet CLOSED, with their window IDs as tags (R309, R310). -/
def dcExtentBytes (port ld : Nat) (s : State) : List Byte :=
  let es := (ldWindows port ld s).filter (fun e => e.2.extent && !e.2.offered && decide (e.2.state ≤ 2))
  leBytes 4 es.length ++ es.flatMap (fun e => leBytes 8 e.2.dpa ++ leBytes 8 e.2.len ++ leBytes 4 e.1)

/-- GET_DC_EXTENT_LIST: the accepted extents that are not yet CLOSED, with their window IDs as tags (R300, R309, R310). -/
def execGetDcExtentList (port ld : Nat) (s : State) : Out :=
  onLd port ld s fun s => respond port ld 0 "Success" (dcExtentBytes port ld s) s

/-- CXL_UNSUPPORTED_OPCODE (R300). -/
def execCxlUnsupportedOpcode (port ld : Nat) (s : State) : Out := onLd port ld s fun s => respond port ld 0 "Unsupported" [] s

/-! ### The FM API (R301) -/

/-- An FM API command of a port that carries it. -/
def onFm (port : Nat) (s : State) (f : State → State) : Out := .next (if portCarries port s then f s else s)

/-- Total length of a logical device's windows. -/
def ldTotal (port ld : Nat) (s : State) : Nat := (ldCapacity port ld s).1 + (ldCapacity port ld s).2

/-- What GET_LD_INFO returns: the capacity and the number of logical devices. -/
def ldInfoBytes (port : Nat) (s : State) : List Byte :=
  let n := s.get (Reg.HPT_PORT_CFG_LD_COUNT port)
  leBytes 8 ((List.range n).foldl (fun a l => a + ldTotal port l s) 0) ++ leBytes 2 n

/-- GET_LD_INFO: the logical devices and their capacity (R301). -/
def execGetLdInfo (port : Nat) (s : State) : Out := onFm port s fun s => respond port 16 0 "Success" (ldInfoBytes port s) s

/-- What GET_LD_ALLOCATIONS returns: per logical device the total length of its windows. -/
def ldAllocBytes (port : Nat) (s : State) : List Byte :=
  let n := s.get (Reg.HPT_PORT_CFG_LD_COUNT port)
  leBytes 1 n ++ (List.range n).flatMap (fun l => leBytes 8 (ldTotal port l s))

/-- GET_LD_ALLOCATIONS: per logical device the total length of its windows (R301). -/
def execGetLdAllocations (port : Nat) (s : State) : Out := onFm port s fun s => respond port 16 0 "Success" (ldAllocBytes port s) s

/-- SET_LD_ALLOCATIONS: changes LD_COUNT while no window is bound to a logical device that would go; otherwise Busy (R301).  A count outside 1–16 is Invalid Input. -/
def execSetLdAllocations (port count : Nat) (s : State) : Out :=
  onFm port s fun s =>
    if count < 1 ∨ count > 16 then respond port 16 0 "Invalid Input" [] s
    else if (List.range 16).any (fun l => decide (l ≥ count) && !(ldWindows port l s).isEmpty) then respond port 16 0 "Busy" [] s
    else respond port 16 0 "Success" (leBytes 1 count) (s.put (Reg.HPT_PORT_CFG_LD_COUNT port) count)

/-- GET_QOS_CONTROL (R301). -/
def execGetQosControl (port : Nat) (s : State) : Out := onFm port s fun s => respond port 16 0 "Success" (leBytes 8 (tget 0 port s.hpt.qos)) s

/-- SET_QOS_CONTROL: the control word is kept (R301). -/
def execSetQosControl (port value : Nat) (s : State) : Out :=
  onFm port s fun s => respond port 16 0 "Success" [] (s.onHpt fun x => { x with qos := tset 0 port (value % 2 ^ 64) x.qos })

/-- GET_QOS_STATUS: the port's DevLoad as it stands (R301, R317). -/
def execGetQosStatus (port : Nat) (s : State) : Out := onFm port s fun s => respond port 16 0 "Success" (leBytes 1 (devLoad port s)) s

end Sys2Proof.Machine
end

