-- ==== Sys2Proof/Machine/Rdma.lean ====
section
/-!
DEFINITION. Sys2Proof/Machine/Rdma.lean: the RDMA service: packets of each operation, timers, contexts, congestion and pauses, links and violations, and the commands of
mailbox group 0x05 (10_rdma_service.md; R463 to R465).
-/
namespace Sys2Proof.Machine

open Sys2Proof

/-! ### Ports, violations (R357, R361 to R363) -/

/-- A port whose link carries packets (R361, R363). -/
def ethCarries (p : Nat) (s : State) : Bool :=
  s.up && !(s.mode = .spill) && !(s.mode = .recovery) && decide (p < 4) && decide (s.get (Reg.ETH_PORT_STATE_RATE p) ≠ 3) && !(s.flag (Reg.ETH_PORT_STATE_FENCED p))

/-- A violation on an RDMA port is counted (R363). -/
def ethViolation (p : Nat) (s : State) : State :=
  let s := s.onRdm fun x => { x with viol := (p, s.epoch) :: x.viol.filter (fun e => decide (s.epoch < e.2 + 1000000)) }
  (s.addSat (Reg.ETH_VIOL_CURRENT p) 1).addSat (Reg.ETH_VIOL_TOTAL p) 1

/-- Rate of a port in Gb/s. -/
def portGbps (p : Nat) (s : State) : Nat :=
  let r := if s.get (Reg.ETH_PORT_STATE_RATE p) = 3 then s.get (Reg.ETH_PORT_CFG_SPEED p) else s.get (Reg.ETH_PORT_STATE_RATE p)
  if r = 0 then 400 else if r = 1 then 200 else 100

/-! ### Contexts (R351, R352) -/

/-- A QP whose context is pinned in the cache: a message under way or a parked packet (R351). -/
def ctxPinned (q : Nat) (s : State) : Bool :=
  s.rdm.parked.any (fun p => p.qp == q) || (match tfind q s.rdm.qps with | some x => !x.msgs.isEmpty | none => false)

/-- Put a context into the cache, in the place of the one used longest ago that is not pinned; none: every entry is pinned. -/
def cacheIn (q : Nat) (s : State) : Option State :=
  if s.rdm.cache.contains q then some (s.onRdm fun x => { x with cache := q :: x.cache.filter (· != q) })
  else if s.rdm.cache.length < 16384 then some (s.onRdm fun x => { x with cache := q :: x.cache })
  else match s.rdm.cache.reverse.find? (fun c => !(ctxPinned c s)) with
    | some v => some (s.onRdm fun x => { x with cache := q :: x.cache.filter (· != v) })
    | none => none

/-! ### Checking a request (R331, R342, R344, R345) -/

/-- What the checks give: the window the message counts in (none for a message without one), RNR NAK of a kind (9 ring full, 10 admission, 12 no WAIT left), or
a refusal with its status and the window named. -/
inductive Checked where
  | pass (window : Option Nat)
  | rnr (k : Nat)
  | bad (st : St) (window : Option Nat) (viol : Bool)
deriving DecidableEq, Repr

/-- Whether the payload agrees with the operation and the path MTU (R331 check 3). -/
def payloadFits (p : RPkt) (mtu : Nat) : Bool :=
  let n := p.data.length
  if p.kind ≥ 3 then decide (n = 0)
  else if p.place = 0 then decide (n ≤ mtu) && (p.kind == 0 || decide (n = p.len))
  else decide (n = mtu) && (p.kind == 0 || decide (p.len > mtu))

/-- The ring of a QP for one more slot: BAD_FIELD without one, REVOKED, NOT_PERMITTED, RNR NAK when it is full (R344, R345, R364). -/
def checkRing (x : Qp) (s : State) : Checked :=
  match x.ring with
  | none => .bad .badField none false
  | some id =>
    match tfind id s.win with
    | none => .bad .revoked (some id) false
    | some w =>
      if tget 0 id s.rdm.variants ≠ x.variant ∨ w.state ≠ 1 then .bad .revoked (some id) false
      else if w.rights / 2 % 2 = 0 then .bad .notPermitted (some id) false
      else
        let g := ringOf id w s
        if g.next + g.reserved - ringCount w 0 s ≥ ringSlots w x.slotLog then .rnr 9 else .pass (some id)

/-- Checks 5 to 10 of R331 on the key. -/
def checkKey (x : Qp) (p : RPkt) (s : State) : Checked :=
  let id := p.key / 1024
  match tfind id s.win with
  | none => .bad .notPermitted none false
  | some w =>
    let whole := p.kind = 7 ∧ p.a / 2 % 2 = 1
    let n := if p.kind ≥ 4 ∧ p.kind ≤ 6 then 8 else p.len
    let right := if p.kind = 3 then decide (w.rights % 2 = 1) else if p.kind = 4 ∨ p.kind = 5 then decide (w.rights / 4 % 2 = 1)
      else if p.kind = 7 then decide (w.rights % 4 ≠ 0) else decide (w.rights / 2 % 2 = 1)
    if tget 0 id s.rdm.variants ≠ p.key % 1024 then .bad .notPermitted none false
    else if !w.rdma ∨ w.binding ≠ x.pd then .bad .notPermitted (some id) false
    else if w.state ≠ 1 then .bad .revoked (some id) false
    else if !right then .bad .notPermitted (some id) false
    else if !whole ∧ p.off + n > w.len then .bad .bounds (some id) false
    else if p.kind = 7 ∧ p.a % 2 = 1 ∧ w.cls = 2 then .bad .badField (some id) false
    else .pass (some id)

/-- The checks of R331 on the first packet of a message, in order. -/
def checkFirst (x : Qp) (p : RPkt) (s : State) : Checked :=
  let busy := (x.msgs.filter (fun m => m.kind == 3 || m.kind == 4 || m.kind == 5)).length
  let waits := s.rdm.qps.foldl (fun n e => n + (e.2.msgs.filter (fun m => m.kind == 8 && decide (m.stage < 3))).length) 0
  if s.fenced then .bad .twinUnreachable none false
  else if !s.serving || s.pwr.serveStop then .bad .wrongMode none false
  else if x.msgs.any (fun m => !m.whole) ∨ (p.kind ≥ 3 ∧ p.place ≠ 0) ∨ (p.kind = 2 ∧ p.place = 1) ∨ p.kind > 8 ∨ !(payloadFits p (mtuBytes x.mtu)) then .bad .protocolViolation none true
  else if (p.kind = 3 ∨ p.kind = 4 ∨ p.kind = 5) ∧ busy ≥ x.resources then .bad .protocolViolation none true
  else if (p.kind = 1 ∨ p.kind = 2 ∨ p.kind = 3 ∨ p.kind = 7) ∧ (p.len = 0xFFFFFFFF ∨ p.len > 2 ^ 31) then .bad .badField none false
  else if (p.kind = 4 ∨ p.kind = 5 ∨ p.kind = 6) ∧ p.off % 8 ≠ 0 then .bad .badField none false
  else if p.kind = 8 then (if p.a ≥ 65536 then .bad .badField none false else if waits ≥ 16384 then .rnr 12 else .pass none)
  else if p.kind = 0 then
    (if p.data.length + 64 > 2 ^ x.slotLog ∧ x.ring.isSome then .bad .badField x.ring false else checkRing x s)
  else
    let k := if p.len = 0 ∧ p.kind ≤ 3 then Checked.pass none else checkKey x p s
    match k with
    | .pass w => if p.kind = 2 ∧ p.place = 0 then (match checkRing x s with | .pass _ => .pass w | e => e) else .pass w
    | e => e

/-- RNR NAK of an arriving packet: it is not taken, and nothing later is until the requester comes back to it (R345, R347). -/
def rnrPacket (p : RPkt) (x : Qp) (k : Nat) (s : State) : State :=
  let s := if k < 12 then s.inc (Reg.RDM_NAK_STAT_COUNT k) else s
  rdmaSend p.qp x p.psn "RNR NAK" (leBytes 1 (s.get Reg.RDM_CFG_RNR_TIMER)) (modQp p.qp (fun (x : Qp) => { x with naked := true }) s)

/-- Reserve a slot of the QP's ring (R344). -/
def reserveSlot (x : Qp) (s : State) : State :=
  match x.ring.bind (fun i => (tfind i s.win).map (fun w => (i, w))) with
  | none => s
  | some (id, w) => let g := ringOf id w s; s.onRdm fun y => { y with rings := tins id { g with reserved := g.reserved + 1 } y.rings }

/-- A message begins: it takes its PSNs, counts in its window and waits for its start (R331, R341, R344). -/
def beginMsg (p : RPkt) (x : Qp) (window : Option Nat) (again : Bool) (s : State) : State :=
  let m0 : RMsg := { psn := p.psn, last := p.psn, msn := psnAdd x.nextMsn 1, kind := p.kind, window := window, off := if p.kind = 0 then 0 else p.off, len := p.len, imm := p.imm,
                     a := p.a, b := p.b, chunks := if p.kind ≤ 2 ∧ !p.data.isEmpty then [(0, p.data)] else [], got := p.data.length, whole := p.place == 0, since := s.epoch, begun := s.epoch,
                     ticket := none, stage := 0, issued := 0, back := 0, answer := [], sent := 0, slot := none, marks := [], again := again }
  let n := m0.psns x.mtu
  let m := { m0 with last := psnAdd p.psn (n - 1) }
  let s := match window with | some w => beginAccess w s | none => s
  let s := if p.kind = 0 ∨ (p.kind = 2 ∧ p.place = 0) then reserveSlot x s else s
  modQp p.qp (fun (x : Qp) => if again then { x with msgs := x.msgs ++ [m] }
    else { x with msgs := x.msgs ++ [m], epsn := psnAdd p.psn n, nextMsn := m.msn, naked := false }) s

/-- A later packet of the message that is open: in sequence, of its length, within its ring slot (R331, R344, R363); the last with an immediate takes a slot (R344). -/
def laterPacket (p : RPkt) (x : Qp) (m : RMsg) (s : State) : State :=
  let n := p.data.length
  let fail := fun (st : St) (viol : Bool) (s : State) => failReq p.qp p.psn st.code p.kind m.window m.off
    (dropMsgs p.qp (fun (y : RMsg) => y.psn == m.psn) (if viol then ethViolation p.port s else s))
  let kindOk := (m.kind == p.kind && m.kind != 2) || (m.kind == 1 && p.kind == 2 && p.place == 3)
  let sizeOk := (if p.place = 2 then decide (n = mtuBytes x.mtu) else decide (0 < n) && decide (n ≤ mtuBytes x.mtu)) &&
    (m.kind == 0 || (if p.place = 3 then decide (m.got + n = m.len) else decide (m.got + n < m.len)))
  if !kindOk || !sizeOk then fail .protocolViolation true s
  else if m.kind = 0 ∧ m.got + n + 64 > 2 ^ x.slotLog then fail .badField false s
  else
    let ring := if p.kind = 2 then checkRing x s else .pass none
    match ring with
    | .rnr k => rnrPacket p x k s
    | .bad st _ _ => fail st false s
    | .pass _ =>
      let s := if p.kind = 2 then reserveSlot x s else s
      let s := modMsg p.qp m.psn (fun (m : RMsg) =>
        { m with kind := p.kind, imm := p.imm, chunks := m.chunks ++ [(m.got, p.data)], got := m.got + n, last := p.psn, whole := p.place == 3, since := s.epoch }) s
      modQp p.qp (fun (x : Qp) => { x with epsn := psnAdd p.psn 1, naked := false }) s

/-- The packet with the expected PSN (R331, R334, R335). -/
def inOrder (p : RPkt) (x : Qp) (s : State) : State :=
  if p.place ≥ 2 then
    match x.msgs.find? (fun m => !m.whole) with
    | some m => laterPacket p x m s
    | none => failReq p.qp p.psn St.protocolViolation.code p.kind none p.off (ethViolation p.port s)
  else match checkFirst x p s with
    | .pass w => beginMsg p x w false s
    | .rnr k => rnrPacket p x k s
    | .bad st w viol =>
      let s := if viol then ethViolation p.port s else s
      failReq p.qp p.psn st.code p.kind w p.off (dropMsgs p.qp (fun (m : RMsg) => viol && !m.whole) s)

/-- A duplicate (R341): a READ is executed again, an atomic answered from its cache, anything else acknowledged once its original is. -/
def duplicate (p : RPkt) (x : Qp) (s : State) : State :=
  let s := s.inc (Reg.RDM_STAT_COUNT 9)
  if p.kind = 3 then
    (if x.msgs.any (fun m => m.psn == p.psn) then s
     else match (if p.len = 0 then Checked.pass none else checkKey x p s) with
       | .pass w => if s.fenced ∨ !s.serving ∨ s.pwr.serveStop then s else beginMsg p x w true s
       | .bad st w _ => failReq p.qp p.psn st.code p.kind w p.off s
       | .rnr _ => s)
  else if p.kind = 4 ∨ p.kind = 5 then
    (match x.atoms.find? (fun e => e.1 == p.psn) with
     | some (_, v) => rdmaSend p.qp x p.psn "ATOMIC response" (leBytes 8 v) s
     | none => s)
  else if x.msgs.any (fun m => decide (psnDiff p.psn m.psn < 2 ^ 23)) then s
  else rdmaSend p.qp x (match x.msgs with | m :: _ => psnAdd m.psn (2 ^ 24 - 1) | [] => psnAdd x.epsn (2 ^ 24 - 1)) "ACK" (leBytes 3 x.msn) s

/-- A CE mark is answered with a CNP, at most one per QP and interval: its peer QP, priority and DSCP stand in one number (R358). -/
def congestion (p : RPkt) (x : Qp) (s : State) : State :=
  let due := match x.cnpAt with | some e => decide (s.epoch ≥ e + s.get Reg.RDM_CC_CFG_CNP_INTERVAL_US) | none => true
  if p.ce && s.flag (Reg.ETH_PORT_CFG_ECN_EN x.port) && due then
    let t := (modQp p.qp (fun (x : Qp) => { x with cnpAt := some s.epoch }) s).inc (Reg.RDM_STAT_COUNT 11)
    (t.send (.eth x.port "CNP" (x.peerQp + 2 ^ 24 * s.get (Reg.ETH_PORT_CFG_CNP_PRIO x.port) + 2 ^ 27 * s.get (Reg.ETH_PORT_CFG_CNP_DSCP x.port)))).inc
      (Reg.ETH_PORT_STAT_COUNT x.port 1)
  else s

/-- A packet reaches its QP, whose context is on the die (R334, R341, R363). -/
def takePacket (p : RPkt) (s : State) : State :=
  match tfind p.qp s.rdm.qps with
  | none => ethViolation p.port s
  | some x =>
    if x.port ≠ p.port then ethViolation p.port s
    else if x.state ≠ 1 then s.inc (Reg.RDM_NAK_STAT_COUNT 11)
    else
      let s := congestion p x s
      let d := psnDiff p.psn x.epsn
      if d = 0 then inOrder p x s
      else if d < 2 ^ 23 then
        (if x.naked then s
         else rdmaSend p.qp x x.epsn "NAK PSN sequence error" [] ((modQp p.qp (fun (x : Qp) => { x with naked := true }) s).inc (Reg.RDM_STAT_COUNT 10)))
      else duplicate p x s

/-- A packet arrives on a port (R352, R357, R363): beyond 4 MiB of ingress it is discarded; without its context it is parked. -/
def arrivePacket (p : RPkt) (s : State) : State :=
  if !(ethCarries p.port s) then s
  else
    let s := s.inc (Reg.ETH_PORT_STAT_COUNT p.port 0)
    if ingressBytes p.port s + p.data.length > 4194304 then s.inc (Reg.ETH_PORT_STAT_COUNT p.port 6)
    else match tfind p.qp s.rdm.qps with
    | none => ethViolation p.port s
    | some x =>
      if x.port ≠ p.port then ethViolation p.port s
      else if s.rdm.cache.contains p.qp && !(s.rdm.parked.any (fun k => k.qp == p.qp)) then
        settle (takePacket p (s.onRdm fun y => { y with cache := p.qp :: y.cache.filter (· != p.qp) }))
      else if s.rdm.parked.length ≥ 8192 then raiseRl 0x0705 p.port 0 (s.inc (Reg.RDM_STAT_COUNT 8))
      else rdmSync (startFetches ((s.onRdm fun y => { y with parked := y.parked ++ [p] }).inc (Reg.RDM_STAT_COUNT 7)))

/-- A packet of a kind with its operands. -/
def rpkt (kind port qp psn place key off len : Nat) (imm : Option Nat) (a b : Nat) (ce : Bool) (data : List Nat) : RPkt :=
  { port := port, qp := qp, psn := psn % 2 ^ 24, kind := kind, place := place, key := key, off := off, len := len, imm := imm, a := a, b := b, ce := ce, data := data.map (BitVec.ofNat 8) }

/-- RDMA_SEND: a SEND packet, Only, First, Middle or Last (R344, R345). -/
def execRdmaSend (port qp psn place : Nat) (imm : Option Nat) (ce : Bool) (data : List Nat) (s : State) : Out :=
  .next (arrivePacket (rpkt 0 port qp psn place 0 0 0 imm 0 0 ce data) s)

/-- RDMA_WRITE: a WRITE packet; key, offset and DMA length are those of its message's RETH (R330, R338). -/
def execRdmaWrite (port qp psn place key off len : Nat) (ce : Bool) (data : List Nat) (s : State) : Out :=
  .next (arrivePacket (rpkt 1 port qp psn place key off len none 0 0 ce data) s)

/-- RDMA_WRITE_WITH_IMMEDIATE: an Only packet, or the Last of a WRITE (R344). -/
def execRdmaWriteWithImmediate (port qp psn place key off len imm : Nat) (ce : Bool) (data : List Nat) (s : State) : Out :=
  .next (arrivePacket (rpkt 2 port qp psn place key off len (some imm) 0 0 ce data) s)

/-- RDMA_READ (R338, R343). -/
def execRdmaRead (port qp psn key off len : Nat) (ce : Bool) (s : State) : Out := .next (arrivePacket (rpkt 3 port qp psn 0 key off len none 0 0 ce []) s)

/-- COMPARE_SWAP (R72, R73, R338). -/
def execCompareSwap (port qp psn key off cmp swap : Nat) (ce : Bool) (s : State) : Out :=
  .next (arrivePacket (rpkt 4 port qp psn 0 key off 8 none (cmp % 2 ^ 64) (swap % 2 ^ 64) ce []) s)

/-- FETCH_ADD (R72, R338). -/
def execFetchAdd (port qp psn key off value : Nat) (ce : Bool) (s : State) : Out :=
  .next (arrivePacket (rpkt 5 port qp psn 0 key off 8 none (value % 2 ^ 64) 0 ce []) s)

/-- ATOMIC_WRITE (R338). -/
def execAtomicWrite (port qp psn key off value : Nat) (ce : Bool) (s : State) : Out :=
  .next (arrivePacket (rpkt 6 port qp psn 0 key off 8 none (value % 2 ^ 64) 0 ce []) s)

/-- RDMA_FLUSH: of a range or the whole window, for global visibility or persistence (R64, R338). -/
def execRdmaFlush (port qp psn key off len : Nat) (persist whole ce : Bool) (s : State) : Out :=
  .next (arrivePacket (rpkt 7 port qp psn 0 key off len none (b2n persist + 2 * b2n whole) 0 ce []) s)

/-- WAIT: holds later requests of the QP until the counter reaches the threshold (R347). -/
def execRdmaWait (port qp psn counter threshold : Nat) (ce : Bool) (s : State) : Out :=
  .next (arrivePacket (rpkt 8 port qp psn 0 0 0 0 none counter (threshold % 2 ^ 64) ce []) s)

/-! ### Timers (R340, R348, R350, R355) -/

/-- WAIT_TIMEOUT: a WAIT unsatisfied for WAIT_TIMEOUT_US fails with TIMEOUT, with event 0x070A (R348). -/
def execWaitTimeout (qp psn : Nat) (s : State) : Out :=
  onUp s fun s =>
    match (tfind qp s.rdm.qps).bind (fun x => x.msgs.find? (fun m => m.psn == psn && m.kind == 8 && decide (m.stage < 3))) with
    | some m =>
      if s.mode = .spill ∨ s.epoch < m.since + s.get Reg.RDM_CFG_WAIT_TIMEOUT_US then s
      else settle (raise 0x070A qp m.a (failReq qp psn St.timeout.code 8 none 0 s))
    | none => s

/-- ADMISSION_WAIT_EXPIRY: the QP's first message that waits for admission has waited WAIT_US and is answered with RNR NAK (R355). -/
def execAdmissionWaitExpiry (qp : Nat) (s : State) : Out :=
  onUp s fun s =>
    match tfind qp s.rdm.qps with
    | none => s
    | some x =>
      match x.msgs.find? (fun m => m.stage == 0) with
      | none => s
      | some m =>
        if s.mode = .spill ∨ msgAdmission x m s = 0 ∨ !(mayStartMsg qp m (x.msgs.takeWhile (fun m => m.stage != 0)) s) ∨
            s.epoch < m.begun + s.get Reg.RDM_ADMIT_CFG_WAIT_US then s
        else settle (rnrNak qp m 10 s)

/-- ACK_COALESCE_EXPIRY: the ACK that is due is sent (R340). -/
def execAckCoalesceExpiry (qp : Nat) (s : State) : Out :=
  onUp s fun s => if s.mode = .spill then s else settle (sendAck qp true s)

/-- MESSAGE_ABANDON: in a CLOSING window, a message of several packets that has received none for 10 ms sends its QP to DRAINING with REVOKED, with event 0x070B; its access
ends (R350). -/
def execMessageAbandon (qp : Nat) (s : State) : Out :=
  onUp s fun s =>
    match (tfind qp s.rdm.qps).bind (fun x => x.msgs.find? (fun m => !m.whole)) with
    | none => s
    | some m =>
      let closing := match m.window.bind (fun i => tfind i s.win) with | some w => decide (w.state = 2) | none => false
      if s.mode = .spill || !closing || decide (s.epoch < m.since + 10000) then s
      else settle (raise 0x070B qp m.psn (failReq qp (psnAdd m.last 1) St.revoked.code m.kind m.window m.off (dropMsgs qp (fun (y : RMsg) => y.psn == m.psn) s)))

/-! ### Contexts (R352, R353) -/

/-- A QP's fetch is over and its packets leave the parking place. -/
def unpark (qp : Nat) (s : State) : State :=
  s.onRdm fun x => { x with fetching := x.fetching.filter (· != qp), parked := x.parked.filter (fun p => p.qp != qp) }

/-- CONTEXT_FETCHED: verdict 0 good, 1 one copy lost and rewritten, 2 both lost or the context uncorrectable: then the QP goes to ERROR without a NAK, with MEDIA_FAILED and event
0x0709, and its parked packets are FLUSHED; otherwise they are taken in their order (R352, R353, R364).  A context that finds every entry pinned waits. -/
def execContextFetched (qp verdict : Nat) (s : State) : Out :=
  onUp s fun s =>
    if !(s.rdm.fetching.contains qp) then s
    else
      let mine := s.rdm.parked.filter (fun p => p.qp == qp)
      if verdict ≥ 2 then settle (contextLost qp s)
      else match cacheIn qp (unpark qp s) with
        | none => s
        | some t => settle (rdmSync (startFetches (mine.foldl (fun s p => takePacket p s) t)))

/-! ### Congestion, pauses, neighbours (R323, R357 to R359, R363) -/

/-- CNP_RECEIVED: the QP's response rate is halved, down to RATE_MIN; a CNP for a QP without READ responses is a violation, ignored (R359, R363). -/
def execCnpReceived (port qp : Nat) (s : State) : Out :=
  .next (if !(ethCarries port s) then s
    else
      let t := s.inc (Reg.ETH_PORT_STAT_COUNT port 0)
      match tfind qp s.rdm.qps with
      | none => ethViolation port t
      | some x =>
        if x.port ≠ port || !(x.msgs.any (fun m => m.kind == 3)) then ethViolation port t
        else if !(s.flag (Reg.ETH_PORT_CFG_ECN_EN port)) then t
        else modQp qp (fun (x : Qp) => { x with rate := Nat.max (x.rate / 2) (s.get Reg.RDM_CC_CFG_RATE_MIN), cnpGot := s.epoch }) t)

/-- RATE_RECOVER: after RECOVER_US without a CNP the rate rises by RATE_STEP, up to the port rate (R359). -/
def execRateRecover (qp : Nat) (s : State) : Out :=
  onUp s fun s =>
    match tfind qp s.rdm.qps with
    | none => s
    | some x =>
      if s.epoch < x.cnpGot + s.get Reg.RDM_CC_CFG_RECOVER_US then s
      else modQp qp (fun (x : Qp) => { x with rate := Nat.min (x.rate + s.get Reg.RDM_CC_CFG_RATE_STEP) (portGbps x.port s), cnpGot := s.epoch }) s

/-- Responses a pause held leave in their order. -/
def releasePaused (port prio : Nat) (s : State) : State :=
  let s := s.onRdm fun x => { x with paused := x.paused.filter (fun e => !(e.1 == port && e.2.1 == prio)) }
  let out := s.rdm.heldOut.filter (fun e => e.1 == port && e.2.1 == prio)
  let s := s.onRdm fun x => { x with heldOut := x.heldOut.filter (fun e => !(e.1 == port && e.2.1 == prio)) }
  let s := out.foldl (fun s e => (s.send e.2.2).inc (Reg.ETH_PORT_STAT_COUNT port 1)) s
  s.put (Reg.ETH_PORT_STATE_PAUSED port) (b2n (s.rdm.paused.any (fun e => e.1 == port)))

/-- PFC_PAUSE_RECEIVED: a pause of a priority, or its release, for this port's responses (R357); ignored for 100 ms after a storm (R363). -/
def execPfcPauseReceived (port prio : Nat) (on : Bool) (s : State) : Out :=
  .next (if !(ethCarries port s) || !(s.flag (Reg.ETH_PORT_CFG_PFC_EN port)) then s
    else if !on then releasePaused port (prio % 8) s
    else if s.rdm.ignored.any (fun e => e.1 == port && e.2.1 == prio % 8 && decide (s.epoch < e.2.2)) || pausedNow port (prio % 8) s then s
    else (s.onRdm fun x => { x with paused := x.paused ++ [(port, prio % 8, s.epoch)] }).put (Reg.ETH_PORT_STATE_PAUSED port) 1)

/-- Pauses of a port and priority are ignored for 100 ms (R363). -/
def ignorePause (port prio : Nat) (s : State) : State :=
  s.onRdm fun x => { x with ignored := x.ignored.filter (fun e => !(e.1 == port && e.2.1 == prio)) ++ [(port, prio, s.epoch + 100000)] }

/-- PFC_STORM: a pause held over 100 ms is ignored for 100 ms, a violation with event 0x0708 (R363). -/
def execPfcStorm (port prio : Nat) (s : State) : Out :=
  .next (if ethCarries port s && s.rdm.paused.any (fun e => e.1 == port && e.2.1 == prio % 8 && decide (s.epoch > e.2.2 + 100000)) then
    releasePaused port (prio % 8) (raise 0x0708 port (prio % 8) (ethViolation port (ignorePause port (prio % 8) s)))
  else s)

/-- An address is one of the port's own (R323). -/
def ownAddress (port : Nat) (v6 : Bool) (addr : Nat) (s : State) : Bool :=
  if v6 then (List.range 4).any (fun i => s.get (Reg.ETH_PORT_IP6_ADDR port i) == addr) else s.get (Reg.ETH_PORT_IP4_ADDR port) == addr

/-- ARP_REQUEST: ARP or neighbour discovery for one of the port's own addresses is answered (R323). -/
def execArpRequest (port : Nat) (v6 : Bool) (addr : Nat) (s : State) : Out :=
  .next (if !(ethCarries port s) || addr = 0 then s
    else
      let t := s.inc (Reg.ETH_PORT_STAT_COUNT port 0)
      if ownAddress port v6 addr s then (t.send (.eth port (if v6 then "Neighbour Advertisement" else "ARP reply") addr)).inc (Reg.ETH_PORT_STAT_COUNT port 1) else t)

/-! ### Violations and links (R362, R363) -/

/-- RDMA_VIOLATION: a packet the headers of which are wrong: with `nak`, on a QP in RTR of the port, it is answered with NAK, invalid request; otherwise discarded (R363). -/
def execRdmaViolation (port qp _psn : Nat) (nak : Bool) (s : State) : Out :=
  .next (if !(ethCarries port s) then s
    else
      let t := ethViolation port (s.inc (Reg.ETH_PORT_STAT_COUNT port 0))
      match tfind qp s.rdm.qps with
      | some x =>
        if nak && x.state == 1 && x.port == port then
          settle (failReq qp x.epsn St.protocolViolation.code 9 none 0 (dropMsgs qp (fun (m : RMsg) => !m.whole) t))
        else t
      | none => t)

/-- A port's link is lost: QPs keep their states, held responses are lost with their pause (R362). -/
def ethLinkLost (p : Nat) (s : State) : State :=
  let s := s.onRdm fun x => { x with paused := x.paused.filter (fun e => e.1 != p), heldOut := x.heldOut.filter (fun e => e.1 != p) }
  let s := ((s.put (Reg.ETH_PORT_STATE_RATE p) 3).put (Reg.ETH_PORT_STATE_PAUSED p) 0).put (Reg.ETH_PORT_STATE_PAUSING p) 0
  raise 0x0701 p 0 (s.inc (Reg.ETH_PORT_STAT_COUNT p 7))

/-- RDMA_VIOLATION_LIMIT: 16 violations in 1 s fence the port, with event 0x0707 (R363). -/
def execRdmaViolationLimit (port : Nat) (s : State) : Out :=
  .next (if ethCarries port s && decide ((s.rdm.viol.filter (fun e => e.1 == port && decide (s.epoch < e.2 + 1000000))).length ≥ 16) then
    ethLinkLost port (raise 0x0707 port 0 (unitFault (8 + port) (s.put (Reg.ETH_PORT_STATE_FENCED port) 1)))
  else s)

/-- RDMA_PORT_LINK_DOWN (R362). -/
def execRdmaPortLinkDown (port : Nat) (s : State) : Out := .next (if ethCarries port s then ethLinkLost port s else s)

/-- RDMA_PORT_LINK_UP: the link trains at a rate code (0 400GbE, 1 200GbE, 2 100GbE) no faster than configured; event 0x0702.  A fenced port and a unit out of service stay
down, and so do all in STANDBY and RECOVERY (R323, R361, R363). -/
def execRdmaPortLinkUp (port rate : Nat) (s : State) : Out :=
  onUp s fun s =>
    if port ≥ 4 ∨ s.mode = .spill ∨ s.mode = .recovery ∨ s.get (Reg.ETH_PORT_STATE_RATE port) ≠ 3 ∨ s.flag (Reg.ETH_PORT_STATE_FENCED port) = true ∨
        s.get (Reg.FRM_UNIT_STATE_STATE (8 + port)) = 3 then s
    else raise 0x0702 port 0 (s.put (Reg.ETH_PORT_STATE_RATE port) (Nat.min 2 (Nat.max rate (s.get (Reg.ETH_PORT_CFG_SPEED port)))))

/-! ### Commands of mailbox group 0x05 (R328, R329, R333, R334, R346, R349, R362 to R365, R463 to R465) -/

/-- RDMA objects are made in QUIESCED and the serving modes. -/
def makesRdma (s : State) : Bool := s.serving || s.mode = .quiesced

/-- PD_CREATE: bytes 0–3 name a report window in [21:0] when [31] is set; the answer is the domain's number (R328, R336; notes/assumptions/33.md). -/
def execPdCreate (m : Nat) (s : State) : Out :=
  onCmd m 0x0501 s fun s =>
    let word := reqNat s m 0 4
    let id := word % 2 ^ 22
    let named := bitOf 31 word
    if !(makesRdma s) then refuse m .wrongMode noDetail s
    else if named && !(match tfind id s.win with | some w => w.rdma && w.state == 1 && w.rights / 2 % 2 == 1 | none => false) then refuse m .badField (atPayload 0) s
    else if s.rdm.pds.length ≥ 65536 then refuse m .noResource noDetail s
    else
      let n := tnext 0 s.rdm.pds
      complete m (leBytes 4 n ++ leBytes 4 0) (s.onRdm fun x => { x with pds := tins n (if named then some id else none) x.pds })

/-- PD_DESTROY: a domain that has no QP and no window (R328). -/
def execPdDestroy (m : Nat) (s : State) : Out :=
  onCmd m 0x0502 s fun s =>
    let n := reqNat s m 0 4
    if (tfind n s.rdm.pds).isNone then refuse m .badField (atPayload 0) s
    else if s.rdm.qps.any (fun e => e.2.pd == n) || s.win.any (fun e => e.2.rdma && e.2.binding == n) then refuse m .notPermitted noDetail s
    else complete m [] (s.onRdm fun x => { x with pds := tdel n x.pds })

/-- The first refusal of QP_CREATE (R333, R344, R465). -/
def qpCheck (m : Nat) (s : State) : Option (St × Nat) :=
  let port := reqNat s m 2 1 % 4
  let mtu := reqNat s m 3 1 % 4
  let res := reqNat s m 4 1 % 32
  let own := reqNat s m 42 1
  let ring := reqNat s m 44 4
  let slot := reqNat s m 48 1
  let ctr := reqNat s m 52 4 % 2 ^ 17
  let pd := reqNat s m 0 2
  if !(makesRdma s) then some (.wrongMode, noDetail)
  else if (tfind pd s.rdm.pds).isNone then some (.badField, atPayload 0)
  else if res < 1 ∨ res > 16 then some (.badField, atPayload 4)
  else if mtu > s.get (Reg.ETH_PORT_CFG_MAX_MTU port) then some (.badField, atPayload 3)
  else if own > 4 ∨ (if own = 0 then s.get (Reg.ETH_PORT_IP4_ADDR port) else s.get (Reg.ETH_PORT_IP6_ADDR port (own - 1))) = 0 then some (.badField, atPayload 42)
  else if bitOf 31 ring && (decide (slot < 8) || decide (slot > 16)) then some (.badField, atPayload 48)
  else if ctr > 65536 then some (.badField, atPayload 52)
  else if bitOf 31 ring then
    (match tfind (ring % 2 ^ 22) s.win with
     | none => some (.badField, atPayload 44)
     | some w =>
       if !w.rdma || w.state != 1 then some (.badField, atPayload 44)
       else if w.binding != pd || w.rights / 2 % 2 == 0 then some (.notPermitted, atPayload 44)
       else if w.cls = 1 then some (.badField, atPayload 44)
       else if s.rdm.qps.length ≥ 1048576 then some (.noResource, noDetail)
       else none)
  else if s.rdm.qps.length ≥ 1048576 then some (.noResource, noDetail)
  else none

/-- The QP that a request of R465 asks for, in RTR. -/
def newQp (m : Nat) (s : State) : Qp :=
  let ring := reqNat s m 44 4
  let id := ring % 2 ^ 22
  let port := reqNat s m 2 1 % 4
  { state := 1, port := port, mtu := reqNat s m 3 1 % 4, resources := reqNat s m 4 1 % 32, pd := reqNat s m 0 2, vlan := reqNat s m 5 3, dscp := reqNat s m 8 1 % 64,
    peerMac := reqNat s m 10 6, peerQp := reqNat s m 16 4 % 2 ^ 24, peerIp := reqNat s m 24 16, entropy := reqNat s m 40 2, ownAddr := reqNat s m 42 1,
    ring := if bitOf 31 ring then some id else none, variant := tget 0 id s.rdm.variants, slotLog := reqNat s m 48 1, counter := reqNat s m 52 4 % 2 ^ 17,
    epsn := reqNat s m 20 4 % 2 ^ 24, msn := 0, nextMsn := 0, rate := portGbps port s, naked := false, msgs := [], fail := none, ackDue := 0, atoms := [],
    report := leBytes 64 0, cnpAt := none, cnpGot := s.epoch, destroyer := [], destroyed := false }

/-- QP_CREATE: the QP goes straight to RTR (R333, R465). -/
def execQpCreate (m : Nat) (s : State) : Out :=
  onCmd m 0x0503 s fun s =>
    match qpCheck m s with
    | some (st, d) => refuse m st d s
    | none =>
      let n := tnext 0 s.rdm.qps
      let t := s.onRdm fun y => { y with qps := tins n (newQp m s) y.qps }
      complete m (leBytes 4 n ++ leBytes 4 0) (rdmSync ((cacheIn n t).getD t))

/-- QP_MODIFY: the QP in bytes 0–3 moves to the port in byte 4 and the peer MAC address in bytes 8–13; nothing else changes (R362; notes/assumptions/33.md). -/
def execQpModify (m : Nat) (s : State) : Out :=
  onCmd m 0x0504 s fun s =>
    let n := reqNat s m 0 4 % 2 ^ 20
    match tfind n s.rdm.qps with
    | none => refuse m .badField (atPayload 0) s
    | some _ => complete m [] (modQp n (fun (x : Qp) => { x with port := reqNat s m 4 1 % 4, peerMac := reqNat s m 8 6 }) s)

/-- A request that has not started, or a WAIT that is pending (R335, R364). -/
def RMsg.idles (m : RMsg) : Bool := m.stage == 0 || (m.kind == 8 && decide (m.stage < 3))

/-- QP_ERROR and QP_DESTROY begin alike: from RTR, requests that have not started and pending WAITs are dropped as FLUSHED, the rest run on (R335, R364). -/
def errorQp (n m : Nat) (destroy : Bool) (s : State) : State :=
  match tfind n s.rdm.qps with
  | none => refuse m .badField (atPayload 0) s
  | some x =>
    let idle := x.msgs.filter RMsg.idles
    let s := if x.state = 1 then
        modQp n (fun (x : Qp) => { x with state := 2 }) (dropMsgs n RMsg.idles (s.add (Reg.RDM_NAK_STAT_COUNT 11) (idle.foldl (fun a y => a + if y.kind = 3 then 1 else y.psns x.mtu) 0)))
      else s
    settle (rdmSync (modQp n (fun (x : Qp) => { x with destroyer := x.destroyer ++ [m], destroyed := x.destroyed || destroy }) s))

/-- QP_ERROR: the QP in bytes 0–3 goes to DRAINING and then ERROR without a NAK; complete in ERROR (R335). -/
def execQpError (m : Nat) (s : State) : Out := onCmd m 0x0505 s fun s => errorQp (reqNat s m 0 4 % 2 ^ 20) m false s

/-- QP_DESTROY: first as QP_ERROR, then the QP is FREE (R334). -/
def execQpDestroy (m : Nat) (s : State) : Out := onCmd m 0x0506 s fun s => errorQp (reqNat s m 0 4 % 2 ^ 20) m true s

/-- RDMA_GAP_ACK (R59, R463). -/
def execRdmaGapAck (m : Nat) (s : State) : Out := onCmd m 0x0507 s (gapAck m true)

/-- COUNTER_SET: the counter in bytes 0–3 takes the value in bytes 8–15 (R346; notes/assumptions/33.md). -/
def execCounterSet (m : Nat) (s : State) : Out :=
  onCmd m 0x0508 s fun s =>
    let c := reqNat s m 0 4
    if c ≥ 65536 then refuse m .badField (atPayload 0) s
    else settle (complete m [] (s.onRdm fun x => { x with counters := tset 0 c (reqNat s m 8 8) x.counters }))

/-- COUNTER_READ: the value of the counter in bytes 0–3 (R346). -/
def execCounterRead (m : Nat) (s : State) : Out :=
  onCmd m 0x0584 s fun s =>
    let c := reqNat s m 0 4
    if c ≥ 65536 then refuse m .badField (atPayload 0) s else complete m (leBytes 8 (tget 0 c s.rdm.counters)) s

/-- RDMA_PORT_UNFENCE: byte 0 names the port, whose link may come up again (R363). -/
def execRdmaPortUnfence (m : Nat) (s : State) : Out :=
  onCmd m 0x0509 s fun s =>
    let p := reqNat s m 0 1 % 4
    if s.get (Reg.ETH_PORT_STATE_FENCED p) = 0 then complete m [] s
    else complete m [] (unitServing (8 + p) ((s.onRdm fun x => { x with viol := x.viol.filter (fun e => e.1 != p) }).put (Reg.ETH_PORT_STATE_FENCED p) 0))

/-- The window that a request of R464 asks for, OPEN. -/
def rdmaWindow (m : Nat) (s : State) : Window :=
  { state := 1, cls := reqNat s m 2 1 % 4, rights := reqNat s m 3 1 % 8, rdma := true, gapU := false, gapL := false, tenant := reqNat s m 4 2 % 1024,
    binding := reqNat s m 0 2, base := reqNat s m 8 8, len := reqNat s m 16 8, inFlight := 0, unmir := 0, extent := false, offered := false, dpa := 0, region := 0,
    since := s.epoch, asked := false, waiters := [] }

/-- RDMA_WINDOW_OPEN: R47, then the protection domain; the answer is the window and its remote key (R329, R330, R464). -/
def execRdmaWindowOpen (m : Nat) (s : State) : Out :=
  onCmd m 0x0581 s fun s =>
    let w := rdmaWindow m s
    if !(opensWindows s) then refuse m .wrongMode noDetail s
    else match windowCheck 64 w.cls w.base w.len 8 16 2 s with
      | some (st, d) => refuse m st d s
      | none =>
        if (tfind w.binding s.rdm.pds).isNone then refuse m .badField (atPayload 0) s
        else
          let id := tnext 0 s.win
          let t := openWindow id w (s.onRdm fun x => { x with rings := tdel id x.rings })
          complete m (leBytes 4 id ++ leBytes 4 (id * 1024 + tget 0 id t.rdm.variants) ++ leBytes 8 0) t

/-- RDMA_WINDOW_CLOSE: by remote key; complete when CLOSED (R349, R464). -/
def execRdmaWindowClose (m : Nat) (s : State) : Out :=
  onCmd m 0x0582 s fun s =>
    let key := reqNat s m 0 4
    let id := key / 1024
    match tfind id s.win with
    | none => refuse m .badField (atPayload 0) s
    | some w =>
      if !w.rdma || tget 0 id s.rdm.variants != key % 1024 then refuse m .badField (atPayload 0) s
      else if w.state = 3 then complete m [] s
      else startClose id (some m) s

/-- The QP descriptor of R337. -/
def qpDescriptor (n : Nat) (x : Qp) (s : State) : List Byte :=
  leBytes 4 (n + x.state * 2 ^ 20 + x.port * 2 ^ 22 + x.mtu * 2 ^ 24 + x.resources * 2 ^ 26 + b2n (s.rdm.cache.contains n) * 2 ^ 31) ++ leBytes 4 x.pd ++ leBytes 4 x.epsn ++
    leBytes 4 x.msn ++ leBytes 4 (match x.ring with | some w => w + 2 ^ 31 | none => 0) ++ leBytes 4 x.counter ++ leBytes 4 x.rate ++
    leBytes 4 (s.rdm.parked.filter (fun p => p.qp == n)).length ++ x.report.take 32

/-- QP_STATUS (R337, R465). -/
def execQpStatus (m : Nat) (s : State) : Out :=
  onCmd m 0x0583 s fun s =>
    let n := reqNat s m 0 4 % 2 ^ 20
    match tfind n s.rdm.qps with
    | none => refuse m .badField (atPayload 0) s
    | some x => complete m (qpDescriptor n x s) s

end Sys2Proof.Machine
end

