-- ==== Sys2Proof/Machine/Store.lean ====
section
/-!
DEFINITION. Sys2Proof/Machine/Store.lean: the firmware store (18_firmware_store.md): word programs, erases, images, commit markers, the
protected regions and the logs' compaction.
-/
namespace Sys2Proof.Machine

open Sys2Proof

/-! ### Sectors and words (R541, R544, R545) -/

/-- First logical sector and size in sectors of a store index (R541). -/
def indexSectors (i : Nat) : Nat × Nat :=
  if i = 0 then (4, 256) else if i = 1 then (260, 256) else if i < 6 then (516 + 64 * (i - 2), 64)
  else if i = 6 then (916, 8) else (924, 4)

/-- Byte address of an offset within an index. -/
def indexAddr (i off : Nat) : Nat := (indexSectors i).1 * 65536 + off

/-- A stored word as the number of its complement: bits that read 0 (R541). -/
def wordZeros (s : State) (addr : Nat) : Nat := leNat (readBytes s.store.bytes addr 32)

/-- Mark a sector suspect, with event 0x0B03 (R546). -/
def markSuspect (sector : Nat) (s : State) : State :=
  if s.store.suspect.contains sector then s
  else storeSync (raise 0x0B03 sector 0 (s.onStore fun x => { x with suspect := sector :: x.suspect }))

/-- Program one word (R544): `data` is the word's 256-bit value; `fails` says that its read-back differs. -/
def programWord (addr data : Nat) (fails : Bool) (s : State) : St × State :=
  let sector := addr / 65536
  let zeros := wordZeros s addr
  if s.store.unverified.contains sector || s.store.dead.contains sector then
    (.notErased, raise 0x0B01 sector addr (s.inc (Reg.FST_STAT_COUNT 2)))
  else if data &&& zeros ≠ 0 then (.notErased, raise 0x0B01 sector addr (s.inc (Reg.FST_STAT_COUNT 2)))
  else if data + zeros = 2 ^ 256 - 1 then (.done, s)
  else if tget 0 addr s.store.programs ≥ 2 then (.programLimit, raise 0x0B02 sector addr (s.inc (Reg.FST_STAT_COUNT 3)))
  else
    let s := s.onStore fun x =>
      { x with bytes := writeBytes addr (leBytes 32 (2 ^ 256 - 1 - data)) x.bytes, programs := tset 0 addr (tget 0 addr x.programs + 1) x.programs }
    let s := s.inc (Reg.FST_STAT_COUNT 1)
    if fails then (.mediaFailed, markSuspect sector s) else (.done, s)

/-- Program words in order from an address; the first failure ends with the failing word's number (R555). -/
def programWords (fail : Option Nat) : Nat → Nat → List Nat → State → St × Nat × State
  | i, _, [], s => (.done, i, s)
  | i, addr, w :: ws, s =>
    match programWord addr w (fail == some i) s with
    | (.done, s') => programWords fail (i + 1) (addr + 32) ws s'
    | (st, s') => (st, i, s')

/-- An erased sector: all ones, program counts zeroed, erase count up by one, event 0x0B0B at 9,000 (R545, R548). -/
def eraseSector (sector : Nat) (s : State) : State :=
  let inSector := fun (a : Nat) => a / 65536 == sector
  let n := tget 0 sector s.store.erases + 1
  let s := s.onStore fun x =>
    { x with bytes := x.bytes.filter (fun c => !(inSector c.1)), programs := x.programs.filter (fun c => !(inSector c.1)),
             erases := tset 0 sector n x.erases, unverified := x.unverified.filter (· != sector), suspect := x.suspect.filter (· != sector) }
  let s := storeSync (s.inc (Reg.FST_STAT_COUNT 0))
  if n = 9000 then raise 0x0B0B sector 0 s else s

/-- A sector becomes grown bad: the lowest free spare takes its place, or none remains (R548, R549). -/
def growBad (sector : Nat) (s : State) : State :=
  let s := s.onStore fun x => { x with badErase := sector :: x.badErase, suspect := x.suspect.filter (· != sector) }
  if s.store.spares > 0 then
    storeSync (raise 0x0B04 sector 0 ((eraseSector sector (s.onStore fun x => { x with spares := x.spares - 1 })).inc (Reg.FST_STAT_COUNT 5)))
  else storeSync (raise 0x0B05 sector 0 (s.onStore fun x => { x with dead := sector :: x.dead }))

/-- The foreman is held by a store operation (R431, R543): 1 erase, 2 program, 3 verify. -/
def holdForeman (op sector words m : Nat) (s : State) : State :=
  let s := ((s.put Reg.FST_STATE_OP op).put Reg.FST_STATE_SECTOR sector).put Reg.FST_OP_ELAPSED_US 0
  ((s.put Reg.FST_OP_WORDS_LEFT words).put Reg.FMN_STATE_STATE 1).onStore fun x => { x with opMbx := some m, opSector := sector }

/-- The ROM routine ends and the foreman returns to what ran before. -/
def releaseForeman (s : State) : State :=
  let s := ((s.put Reg.FST_STATE_OP 0).put Reg.FST_OP_WORDS_LEFT 0).onStore fun x => { x with opMbx := none }
  (s.put Reg.FMN_STATE_STATE (if s.mode = .recovery then 3 else 0)).put Reg.FMN_STATE_RESPONDER 0

/-- The active half of a log has room for 16 sectors of 2,048 words. -/
def logHalf : Nat := 16 * 2048

/-- Append words to the configuration log; a full half is compacted into the other (R551). -/
def appendCfg (n : Nat) (s : State) : State :=
  if s.store.cfgWords + n ≤ logHalf then s.onStore fun x => { x with cfgWords := x.cfgWords + n }
  else raise 0x0B0A 1 0 ((s.onStore fun x => { x with cfgWords := x.cfg.length + n }).inc (Reg.FST_STAT_COUNT 6))

/-- An operation of the store that ran over its time: event 0x0A0A, its sector marked suspect, or grown bad if it was suspect, and its command
refused with TIMEOUT (R433, R546). -/
def opAborted (sec : Nat) (suspect : Bool) (mbx : Option Nat) (s : State) : State :=
  let s := raise 0x0A0A sec 0 ((s.inc (Reg.FST_STAT_COUNT 4)).inc (Reg.FMN_STAT_COUNT 4))
  let s := if suspect then growBad sec s else markSuspect sec s
  match mbx with
  | some m => refuse m .timeout noDetail (releaseForeman s)
  | none => releaseForeman s

/-- STORE_OP_TIMEOUT: after 450 ms the operation is aborted, its sector marked suspect, or grown bad on a second expiry, and the command
completes with TIMEOUT (R433, R546). -/
def execStoreOpTimeout (s : State) : Out :=
  onUp s fun s =>
    if s.get Reg.FST_STATE_OP = 0 then s
    else
      opAborted s.store.opSector (s.store.suspect.contains s.store.opSector) s.store.opMbx s

/-! ### The commands of group 0x0A -/

/-- The words of an IMAGE_WRITE payload, from payload byte 16 (R555). -/
def imageWords (m w : Nat) (s : State) : List Nat := (List.range w).map (fun i => reqNat s m (16 + 32 * i) 32)

/-- Whether the index is locked (R552). -/
def indexLocked (i : Nat) (s : State) : Bool :=
  (i == 6 && !(s.flag Reg.FST_STATE_UNLOCK6)) || (i == 7 && !(s.flag Reg.FST_STATE_UNLOCK7))

/-- The checks of R555 ahead of the words. -/
def imageWriteCheck (i off w : Nat) (erase : Bool) (s : State) : Option (St × Nat) :=
  let mk := newestMarker s
  if i > 7 then some (.badField, 0)
  else if i < 2 ∧ i = mk.slot then some (.notPermitted, 0)
  else if 2 ≤ i ∧ i < 6 ∧ i = mk.joinery then some (.notPermitted, 0)
  else if off % 32 ≠ 0 ∨ (erase ∧ off % 65536 ≠ 0) then some (.badField, 4)
  else if off + 32 * w > (indexSectors i).2 * 65536 then some (.bounds, 4)
  else if indexLocked i s then some (.storeLocked, 0)
  else if s.store.dead.any (fun d => indexAddr i off / 65536 ≤ d && d ≤ (indexAddr i off + 32 * w - 1) / 65536) then some (.mediaFailed, 4)
  else none

/-- The state FST_IMAGE gives an index that has been written: UNVERIFIED with its container's version (R553). -/
def imageSync (i : Nat) (s : State) : State :=
  if i > 5 then s
  else
    let word := fun (off n : Nat) => 256 ^ n - 1 - leNat (readBytes s.store.bytes (indexAddr i off) n)
    let s := (s.put (Reg.FST_IMAGE_VERSION i) (word 8 4)).put (Reg.FST_IMAGE_SECVER i) (word 12 4)
    s.put (Reg.FST_IMAGE_STATE i) 1

/-- Program the words of the waiting IMAGE_WRITE and complete it (R555). -/
def finishImageWrite (m : Nat) (failWord : Option Nat) (s : State) : State :=
  let i := reqNat s m 0 1
  let w := (s.get (Mb.length m) - 16) / 32
  let r := programWords failWord 0 (indexAddr i (reqNat s m 4 4)) (imageWords m w s) s
  let s := releaseForeman (imageSync i r.2.2)
  if r.1 = .done then complete m [] s else refuse m r.1 (atPayload (16 + 32 * r.2.1)) s

/-- IMAGE_WRITE: without ERASE the words are programmed; with it the sector's erase holds the foreman first and the words follow when it
ends (R543, R555).  `failWord` is the word whose read-back differs, if one does. -/
def execImageWrite (m : Nat) (failWord : Option Nat) (s : State) : Out :=
  onCmd m 0x0A02 s fun s =>
    let i := reqNat s m 0 1
    let off := reqNat s m 4 4
    let erase := bitOf 0 (reqNat s m 1 1)
    let w := (s.get (Mb.length m) - 16) / 32
    match imageWriteCheck i off w erase s with
    | some (st, b) => refuse m st (atPayload b) s
    | none =>
      if s.store.opMbx.isSome then s
      else if erase then
        let sec := indexAddr i off / 65536
        holdForeman 1 sec w m (s.onStore fun x => { x with unverified := sec :: x.unverified.filter (· != sec) })
      else finishImageWrite m failWord s

/-- STORE_ERASE_DONE: the erase ends.  Read back as all ones the sector is verified, its suspect mark cleared, and the command's words are
programmed; otherwise a suspect sector is grown bad and the command completes MEDIA_FAILED, any other stays not verified (R545 to R548). -/
def execStoreEraseDone (ok : Bool) (failWord : Option Nat) (s : State) : Out :=
  onUp s fun s =>
    if s.get Reg.FST_STATE_OP ≠ 1 || s.mode = .spill then s
    else
      let sec := s.store.opSector
      match s.store.opMbx with
      | none => releaseForeman s
      | some m =>
        if ok then finishImageWrite m failWord (eraseSector sec s)
        else if s.store.suspect.contains sec then refuse m .mediaFailed (atPayload 4) (releaseForeman (growBad sec s))
        else refuse m .notErased (atPayload 4) (releaseForeman (raise 0x0B01 sec 0 s))

/-- Program a commit marker naming a slot and a joinery position (R554, R556). -/
def commitMarker (i version : Nat) (s : State) : State :=
  let old := newestMarker s
  let mk : Marker :=
    if i < 2 then { seq := old.seq + 1, slot := i, joinery := old.joinery, sunVer := version, joinVer := old.joinVer }
    else { seq := old.seq + 1, slot := old.slot, joinery := i, sunVer := old.sunVer, joinVer := version }
  storeSync (s.onStore fun x => { x with markers := mk :: x.markers, markerWords := x.markerWords + 1 })

/-- IMAGE_COMMIT: the container, the digest and the signature (the environment's verdict), the security version, then a marker (R556). -/
def execImageCommit (m : Nat) (sigOk markerOk : Bool) (s : State) : Out :=
  onCmd m 0x0A03 s fun s =>
    let i := reqNat s m 0 1
    let word := fun (off n : Nat) => 256 ^ n - 1 - leNat (readBytes s.store.bytes (indexAddr i off) n)
    if i > 5 then refuse m .badField (atPayload 0) s
    else if word 4 1 ≠ (if i < 2 then 1 else 2) then refuse m .badField (atPayload 0) s
    else if word 0 4 ≠ 0x4E53484B || !sigOk then refuse m .authFailed (atPayload 0) (raise 0x0B07 i 0 (s.put (Reg.FST_IMAGE_STATE i) 3))
    else if i < 2 ∧ word 12 4 < s.store.minSecVer then refuse m .notPermitted (atPayload 0) (raise 0x0B07 i 0 s)
    else if !markerOk then refuse m .mediaFailed noDetail s
    else
      let s := commitMarker i (word 8 4) ((imageSync i s).put (Reg.FST_IMAGE_STATE i) 2)
      complete m (leBytes 4 (word 8 4) ++ leBytes 4 (newestMarker s).seq) (raise 0x0B06 i (newestMarker s).seq s)

/-- HOT_RESTART: the active slot is verified, the command completes DONE and the foreman restarts; AUTH_FAILED restarts nothing (R557). -/
def execHotRestart (m : Nat) (verifies : Bool) (s : State) : Out :=
  onCmd m 0x0A04 s fun s =>
    if !(s.serving || s.mode = .quiesced) then refuse m .wrongMode noDetail s
    else if !verifies then refuse m .authFailed noDetail s
    else hotRestart (complete m [] s)

/-- REGION_UNLOCK: a digest comparison unlocks index 6 or 7 until the next module reset (R552). -/
def execRegionUnlock (m : Nat) (digestMatches : Bool) (s : State) : Out :=
  onCmd m 0x0A05 s fun s =>
    let i := reqNat s m 0 1
    if i ≠ 6 ∧ i ≠ 7 then refuse m .badField (atPayload 0) s
    else if s.store.unlockFail ≥ 3 then refuse m .notPermitted noDetail s
    else if digestMatches then complete m [] (raise 0x0B08 i 0 (s.put (if i = 6 then Reg.FST_STATE_UNLOCK6 else Reg.FST_STATE_UNLOCK7) 1))
    else refuse m .authFailed (atPayload 8)
      (raise 0x0B09 i 0 ((s.onStore fun x => { x with unlockFail := x.unlockFail + 1 }).inc (Reg.FST_STAT_COUNT 7)))

/-- The response of STORE_STATUS (R558). -/
def storeStatusBytes (s : State) : List Byte :=
  leBytes 1 (s.get Reg.FST_STATE_ACTIVE_SLOT) ++ leBytes 1 (s.get Reg.FST_STATE_BOOT_JOINERY) ++
    leBytes 1 (s.get Reg.FST_STATE_UNLOCK6 + 2 * s.get Reg.FST_STATE_UNLOCK7 + 4 * b2n (s.get Reg.FST_STATE_OP != 0)) ++
    leBytes 1 s.store.unlockFail ++ leBytes 4 (s.get Reg.FST_MARKER_SEQ) ++ leBytes 8 (readAt s 0x500008) ++
    (List.range 6).flatMap (fun i => leBytes 8 (readAt s (0x500020 + 8 * i)))

/-- STORE_STATUS (R558). -/
def execStoreStatus (m : Nat) (s : State) : Out := onCmd m 0x0A01 s fun s => complete m (storeStatusBytes s) s

end Sys2Proof.Machine
end

