-- ==== Sys2Proof/Machine/Yard.lean ====
section
/-!
DEFINITION. Sys2Proof/Machine/Yard.lean: the yard's and the ditches' primitives, the lock pairs, the inspection commands and the fence of a loft stack
(12_yard_and_ditches.md R388 to R411).
-/
namespace Sys2Proof.Machine

open Sys2Proof

/-! ### The yard -/

/-- ALLOC: a buffer of the smallest class that holds `size`; `size` is a 32-bit number (R393). -/
def execYardAlloc (size caller group : Nat) (s : State) : Out :=
  onUp s fun s =>
    let size := size % 2 ^ 32
    if size = 2 ^ 32 - 1 then s.send (.prim "ALLOC" St.badField.code 0)
    else if size = 0 ∨ size > 2097152 then s.send (.prim "ALLOC" St.badLength.code 0)
    else match allocPick size group s with
      | none =>
        let p := 4 * classFor size
        (raiseRl 0x0903 p group (s.inc (Reg.YRD_STAT_COUNT p 2))).send (.prim "ALLOC" St.poolEmpty.code 0)
      | some h =>
        let p := h / 2 ^ 28
        let s := yardSync p ((s.onYrd fun x => { x with bufs := tins h (caller % 65536) x.bufs }).inc (Reg.YRD_STAT_COUNT p 0))
        s.send (.prim "ALLOC" 0 h)

/-- FREE (R395). -/
def execYardFree (handle caller : Nat) (s : State) : Out :=
  onUp s fun s =>
    match handleCheck handle caller none s with
    | none => (freeBuf handle s).send (.prim "FREE" 0 0)
    | some st => (if st = .doubleFree || st = .notOwner then yardFault handle caller st s else s).send (.prim "FREE" st.code 0)

/-- HANDOVER: the buffer belongs to the new owner from now on (R395). -/
def execYardHandover (handle caller owner : Nat) (s : State) : Out :=
  onUp s fun s =>
    match handleCheck handle caller (some owner) s with
    | none => ((s.onYrd fun x => { x with bufs := tins handle owner x.bufs }).inc (Reg.YRD_STAT_COUNT (handle / 2 ^ 28 % 16) 5)).send (.prim "HANDOVER" 0 0)
    | some st => (if st = .doubleFree || st = .notOwner then yardFault handle caller st s else s).send (.prim "HANDOVER" st.code 0)

/-- Everything an owner holds is freed and its open packets are dropped; the number of buffers freed (R392, R406). -/
def reclaimOwner (owner : Nat) (s : State) : Nat × State :=
  let hs := (s.yrd.bufs.filter (fun e => e.2 == owner)).map Prod.fst
  let s := hs.foldl (fun s h => freeBuf h s) s
  let qs := (s.yrd.queues.filter (fun e => e.2.opens.any (fun o => o.1 == owner))).map Prod.fst
  let s := qs.foldl (fun s q => (dropOpen q owner s).2) s
  (hs.length, if hs.isEmpty && qs.isEmpty then s else raise 0x0908 owner hs.length s)

/-- RECLAIM: the foreman's primitive, carried by the mailbox command with the owner in bytes 0–1; the count of buffers freed (R392). -/
def execReclaim (m : Nat) (s : State) : Out :=
  onCmd m 0x0E04 s fun s =>
    let r := reclaimOwner (reqNat s m 0 2) s
    complete m (leBytes 8 r.1) r.2

/-- YARD_INSPECT: 32 bytes, whose layout the spec does not give (R457). -/
def execYardInspect (m : Nat) (s : State) : Out := onCmd m 0x0E81 s (completeFree m 32)

/-! ### The ditches -/

/-- A notice to the queue's notice target (R401). -/
def postNotice (q : Nat) (x : DQueue) (p : List DCell) (s : State) : State :=
  s.send (.prim "NOTICE" x.notice (q + 65536 * (p.foldl (fun n c => n + c.data.length) 0) + 2 ^ 40 * p.length))

/-- Append a cell to a caller's open packet; at EOP the packet is linked whole, with a notice (R399, R401). -/
def appendCell (q caller : Nat) (x : DQueue) (c : Nat) (data : List Byte) (sop eop : Bool) (s : State) : State :=
  let cur := if sop then [] else match x.opens.find? (fun e => e.1 == caller) with | some e => e.2 | none => []
  let p := cur ++ [{ num := c, data := data }]
  let others := x.opens.filter (fun e => e.1 != caller)
  let s := s.onYrd fun y => { y with cells := tins c q y.cells }
  let s := if c < 65536 then s else s.inc (Reg.DQM_STAT_COUNT 2)
  let s := match s.tir.inject with
    | some (3, 17, _) => (s.onTir fun y => { y with inject := none }).put Reg.ECC_INJECT_ARM 0
    | _ => s
  if eop then
    ditchSync (postNotice q x p ((putQueue q { x with packets := x.packets ++ [p], opens := others } s).inc (Reg.DQM_STAT_COUNT 0)))
  else ditchSync (putQueue q { x with opens := others ++ [(caller, p)] } s)

/-- ENQ: the checks of R400 in order. -/
def execDitchEnq (q caller : Nat) (data : List Nat) (sop eop : Bool) (s : State) : Out :=
  onUp s fun s =>
    let ans := fun (st : St) (s : State) => s.send (.prim "ENQ" st.code 0)
    match s.queue q with
    | none => ans .badField s
    | some x =>
      let mine := x.opens.find? (fun e => e.1 == caller)
      if x.state ≠ 1 then ans .badField s
      else if sop == mine.isSome then ans .badField s
      else if data.length = 0 ∨ data.length > 256 then ans .badLength s
      else if sop && decide (openPackets s ≥ 16384) then ans .noResource (s.inc (Reg.DQM_STAT_COUNT 4))
      else if mine.any (fun e => decide (e.2.length ≥ 4096)) then ans .badLength (raise 0x0906 q caller (dropOpen q caller s).2)
      else if x.cells ≥ x.maxCells then ans .noResource (s.inc (Reg.DQM_STAT_COUNT 4))
      else match cellPick s with
        | none => ans .poolEmpty (cellEvents (raiseRl 0x0903 0x10 q (s.inc (Reg.DQM_STAT_COUNT 3))))
        | some c => ans .done (cellEvents (appendCell q caller x c (data.map (BitVec.ofNat 8)) sop eop s))

/-- The head cell of a queue's head packet is delivered and freed, with the marks of R402: first and last of its packet, lines that did not decode (R277, R399). -/
def deliverCell (q : Nat) (x : DQueue) (c : DCell) (cs : List DCell) (rest : List (List DCell)) (bad : Nat) (s : State) : State :=
  let s := if bad % 16 = 0 then s
    else if c.num < 65536 then raise 0x0310 17 c.num (s.inc (Reg.ECC_ONDIE_STAT_COUNT 1))
    else raise 0x0302 ((cellStacks s).getD ((cellHalf c.num).getD 0) 0) c.num s
  let s := freeCells [c] s
  let s := if cs.isEmpty then (putQueue q { x with packets := rest, part := false } s).inc (Reg.DQM_STAT_COUNT 1)
           else putQueue q { x with packets := cs :: rest, part := true } s
  (ditchSync (closeQueue q s)).send (.prim "DEQ" 0 (c.data.length + 2 ^ 9 * b2n (!x.part) + 2 ^ 10 * b2n cs.isEmpty + 2 ^ 11 * (bad % 16) + 2 ^ 32 * leNat c.data))

/-- DEQ: the next cell of the head packet for the queue's consumer; `bad` marks the 64 B lines of the cell that do not decode and are delivered poisoned
(R277, R399, R402). -/
def execDitchDeq (q caller bad : Nat) (s : State) : Out :=
  onUp s fun s =>
    match s.queue q with
    | none => s.send (.prim "DEQ" St.badField.code 0)
    | some x =>
      if x.state ≠ 1 then s.send (.prim "DEQ" St.badField.code 0)
      else if caller ≠ x.consumer then (raise 0x0902 q caller s).send (.prim "DEQ" St.notOwner.code 0)
      else match x.packets with
        | [] => s.send (.prim "DEQ" 0 (2 ^ 16))
        | [] :: _ => s
        | (c :: cs) :: rest => deliverCell q x c cs rest bad s

/-- DROP_REMAINDER: the caller's open packet, or as consumer the rest of the packet it is part-way through (R403). -/
def execDropRemainder (q caller : Nat) (s : State) : Out :=
  onUp s fun s =>
    match s.queue q with
    | none => s.send (.prim "DROP_REMAINDER" St.badField.code 0)
    | some x =>
      if x.opens.any (fun e => e.1 == caller) then
        let r := dropOpen q caller s
        r.2.send (.prim "DROP_REMAINDER" 0 r.1)
      else if caller = x.consumer ∧ x.part = true then
        match x.packets with
        | p :: rest =>
          let s := freeCells p (putQueue q { x with packets := rest, part := false } s)
          let s := (s.inc (Reg.DQM_STAT_COUNT 6)).add (Reg.DQM_STAT_COUNT 7) p.length
          (ditchSync (closeQueue q s)).send (.prim "DROP_REMAINDER" 0 p.length)
        | [] => s.send (.prim "DROP_REMAINDER" 0 0)
      else s.send (.prim "DROP_REMAINDER" 0 0)

/-- QOPEN: the lowest CLOSED queue of 0x8000–0xFFFF, for a consumer with a notice target and MAX_CELLS (R398, R399). -/
def execQopen (consumer notice maxCells : Nat) (s : State) : Out :=
  onUp s fun s =>
    if maxCells = 0 ∨ maxCells > 4194304 then s.send (.prim "QOPEN" St.badField.code 0)
    else
      let q := tnext 0x8000 s.yrd.queues
      if q > 0xFFFF then s.send (.prim "QOPEN" St.noResource.code 0)
      else
        let x : DQueue := { state := 1, consumer := consumer % 65536, notice := notice % 2 ^ 32, maxCells := maxCells, packets := [], part := false, opens := [] }
        (ditchSync (putQueue q x s)).send (.prim "QOPEN" 0 q)

/-- A queue is closed: open packets are dropped, linked ones freed (R404). -/
def closeNow (q : Nat) (x : DQueue) (s : State) : State :=
  let s := x.opens.foldl (fun s e => (dropOpen q e.1 s).2) (putQueue q { x with state := 2 } s)
  ditchSync (freeCells x.packets.flatten (s.onYrd fun y => { y with queues := tdel q y.queues }))

/-- QCLOSE by the consumer or the foreman: open packets are dropped, linked ones freed, the queue CLOSED (R404). -/
def execQclose (q caller : Nat) (s : State) : Out :=
  onUp s fun s =>
    match s.queue q with
    | none => s.send (.prim "QCLOSE" St.badField.code 0)
    | some x =>
      if caller ≠ x.consumer ∧ caller ≠ 0x200 then (raise 0x0902 q caller s).send (.prim "QCLOSE" St.notOwner.code 0)
      else if queueFixed q then s.send (.prim "QCLOSE" St.notPermitted.code 0)
      else (closeNow q x s).send (.prim "QCLOSE" 0 x.packets.flatten.length)

/-- The descriptor of R411. -/
def ditchBytes (q : Nat) (s : State) : List Byte :=
  let x := (s.queue q).getD { state := 0, consumer := 0, notice := 0, maxCells := 0, packets := [], part := false, opens := [] }
  leBytes 4 (q + 65536 * x.state + 2 ^ 18 * b2n (queueFixed q)) ++ leBytes 2 x.consumer ++ leBytes 2 x.opens.length ++ leBytes 4 x.cells ++
    leBytes 4 x.maxCells ++ leBytes 4 x.packets.length ++ leBytes 4 ((x.packets.flatten.head?.map DCell.num).getD 0) ++
    leBytes 4 ((x.packets.flatten.getLast?.map DCell.num).getD 0) ++ leBytes 4 x.notice

/-- DITCH_INSPECT: the queue in bytes 0–1 (R411). -/
def execDitchInspect (m : Nat) (s : State) : Out :=
  onCmd m 0x0E82 s fun s => complete m (ditchBytes (reqNat s m 0 2) s) s

/-! ### Lock pairs (R407, R408) -/

/-- The drain side takes a FULL bank whose other bank is EMPTY; then the fill side takes an EMPTY bank while more data waits; the two waits follow. -/
def lockPairStep (n : Nat) (more : Bool) (s : State) : State :=
  let a := Reg.DQM_LP_STATE_BANK0 n
  let b := Reg.DQM_LP_STATE_BANK1 n
  let s := if s.get a = 2 ∧ s.get b = 0 then (s.put a 3).inc (Reg.DQM_LP_STAT_SWAPS n)
           else if s.get b = 2 ∧ s.get a = 0 then (s.put b 3).inc (Reg.DQM_LP_STAT_SWAPS n) else s
  let s := if more && s.get a != 1 && s.get b != 1 then (if s.get a = 0 then s.put a 1 else if s.get b = 0 then s.put b 1 else s) else s
  let s := s.put (Reg.DQM_LP_STATE_FILL_WAIT n) (b2n (decide (s.get a ≥ 2) && decide (s.get b ≥ 2)))
  s.put (Reg.DQM_LP_STATE_DRAIN_WAIT n) (b2n (s.get a != 2 && s.get b != 2))

/-- LOCK_PAIR_FILL_DONE: the FILLING bank, or the EMPTY one that was filled, is FULL; `more` says that the fill side has more to fill (R407, R408). -/
def execLockPairFillDone (n : Nat) (more : Bool) (s : State) : Out :=
  onUp s fun s =>
    let n := n % 38
    let a := Reg.DQM_LP_STATE_BANK0 n
    let b := Reg.DQM_LP_STATE_BANK1 n
    let s := if s.get a = 1 then s.put a 2 else if s.get b = 1 then s.put b 2 else if s.get a = 0 then s.put a 2 else if s.get b = 0 then s.put b 2 else s
    lockPairStep n more s

/-- LOCK_PAIR_DRAIN_DONE: the transfer has finished and its bank is EMPTY (R238, R408). -/
def execLockPairDrainDone (n : Nat) (more : Bool) (s : State) : Out :=
  onUp s fun s =>
    let n := n % 38
    let a := Reg.DQM_LP_STATE_BANK0 n
    let b := Reg.DQM_LP_STATE_BANK1 n
    let s := if s.get a = 3 then s.put a 0 else if s.get b = 3 then s.put b 0 else s
    lockPairStep n more s

/-- LOFT_STACK_FENCED (R81 to R83, R184, R409). -/
def execLoftStackFenced (n : Nat) (s : State) : Out :=
  onUp s fun s => if unitState s (30 + n % 4) = 3 || unitState s (30 + n % 4) = 5 then s else fenceStack (n % 4) s

end Sys2Proof.Machine
end

