-- ==== Sys2Proof/Machine/Frames.lean ====
section
/-!
DEFINITION. Sys2Proof/Machine/Frames.lean: frames, dry-fit and peg, the units taken out of service and brought back (15_frames_and_live_change.md R471 to R490,
R461, R107, R221, R313, R389).
-/
namespace Sys2Proof.Machine

open Sys2Proof

/-! ### Staged bits (R461, R472) -/

/-- Bits of a register whose fields have an access code that a test names. -/
def accessBits (r : RegDef) (p : Access → Bool) : Nat := r.fields.foldl (fun m f => if p f.access then m + (2 ^ f.width - 1) * 2 ^ f.lo else m) 0

/-- The lowest bit of an entry's 32-bit word within its register. -/
def entryShift (e : FrmEntry) (base : Nat) : Nat := 8 * (e.off - base)

/-- The bits an entry stages, in place in its register. -/
def entryMask (e : FrmEntry) (base : Nat) : Nat := e.mask * 2 ^ entryShift e base

/-- Whether a mask covers a field. -/
def maskHits (m : Nat) (f : FieldDef) : Bool := m / 2 ^ f.lo % 2 ^ f.width != 0

/-- Put an entry's staged bits into the registers: its RW and RWL fields under MASK. -/
def applyEntry (e : FrmEntry) (s : State) : State :=
  match regAt e.off with
  | none => s
  | some (r, base) =>
    let m := entryMask e base
    let w := regValue s r base
    let v := (w - (w &&& m)) + ((e.value * 2 ^ entryShift e base) &&& m)
    r.fields.foldl (fun s f =>
      if (f.access = .rw || f.access = .rwl) && maskHits m f then s.put ⟨base * 512 + f.lo, f.width, f.reset⟩ (v / 2 ^ f.lo % 2 ^ f.width) else s) s

/-- The fields an entry stages: the register's first offset, the instance's offset, the field. -/
def stagedFields (e : FrmEntry) : List (Nat × Nat × FieldDef) :=
  match regAt e.off with
  | none => []
  | some (r, base) => (r.fields.filter (fun f => (f.access = .rw || f.access = .rwl) && maskHits (entryMask e base) f)).map (fun f => (r.off, base, f))

/-- SCHEDULED frames by target epoch, then by number. -/
def scheduled (s : State) : List (Nat × Frame) :=
  (s.frm.frames.filter (fun e => e.2.state == 3)).foldl (fun l e =>
    l.takeWhile (fun x => decide (x.2.target ≤ e.2.target)) ++ [e] ++ l.dropWhile (fun x => decide (x.2.target ≤ e.2.target))) []

/-- The proposed state: the values in force, overlaid with those of every other SCHEDULED frame in target-epoch order, then with this frame's (R473). -/
def proposed (f : Nat) (x : Frame) (s : State) : State :=
  let before := ((scheduled s).filter (fun e => e.1 != f)).flatMap (fun e => e.2.entries)
  (before ++ x.entries).foldl (fun s e => applyEntry e s) s

/-! ### Dry-fit: ranges, relations, sums (R473 checks 2 to 4) -/

/-- A field whose register map states a range narrower than its width: the register's first offset, the field's lowest bit, least and greatest value. -/
structure FieldRange where
  off : Nat
  lo  : Nat
  min : Nat
  max : Nat
deriving DecidableEq, Repr

/-- Ranges of frame-written fields, part 1 (GLB_MGT_CFG.TCP_PORT to TIR_SWP_CFG.STREAM_RUN). -/
def rangeTable1 : List FieldRange :=
  [⟨0x100, 0, 1, 65535⟩, ⟨0x40000, 0, 5, 1000⟩, ⟨0x40000, 10, 1, 46⟩, ⟨0x80018, 0, 7, 30⟩, ⟨0x80100, 0, 20, 300⟩, ⟨0x80100, 9, 200, 360⟩,
   ⟨0x80100, 18, 0, 2000⟩, ⟨0x80200, 0, 80, 95⟩, ⟨0xC0000, 0, 1, 60⟩, ⟨0x140000, 0, 1024, 1048576⟩, ⟨0x180000, 0, 1, 12⟩, ⟨0x1C0000, 0, 1, 32⟩,
   ⟨0x1C0000, 8, 1, 15⟩, ⟨0x1C0400, 0, 0, 84⟩, ⟨0x1C0400, 8, 1, 4095⟩, ⟨0x1E0004, 16, 1, 254⟩, ⟨0x1E0008, 0, 1, 254⟩, ⟨0x1E0008, 16, 64, 4096⟩,
   ⟨0x1E000C, 0, 100, 60000⟩, ⟨0x1E000C, 20, 2, 15⟩]

/-- Ranges of frame-written fields, part 2 (TIR_LOFT_CFG.META_GIB to RDM_CC_CFG.RATE_STEP). -/
def rangeTable2 : List FieldRange :=
  [⟨0x1E0010, 0, 2, 16⟩, ⟨0x1E0800, 24, 5, 60⟩, ⟨0x1E0804, 0, 1, 4096⟩, ⟨0x200000, 8, 16, 96⟩, ⟨0x200004, 0, 1, 168⟩, ⟨0x200004, 8, 1, 168⟩,
   ⟨0x200004, 16, 1, 90⟩, ⟨0x240000, 0, 1, 15⟩, ⟨0x240000, 4, 1, 15⟩, ⟨0x240000, 8, 1, 15⟩, ⟨0x240000, 12, 1, 15⟩, ⟨0x240000, 16, 10, 4000⟩,
   ⟨0x280000, 0, 1, 255⟩, ⟨0x280000, 16, 10, 4000⟩, ⟨0x280004, 0, 1, 1000⟩, ⟨0x280008, 16, 1, 65535⟩, ⟨0x28000C, 0, 1, 255⟩,
   ⟨0x28000C, 8, 1, 255⟩, ⟨0x28000C, 16, 1, 100⟩, ⟨0x28000C, 24, 1, 100⟩]

/-- Ranges of frame-written fields, part 3 (HPT_PORT_CFG.LD_COUNT to JNB_CFG.FAULT_LIMIT). -/
def rangeTable3 : List FieldRange :=
  [⟨0x300000, 0, 1, 16⟩, ⟨0x300000, 9, 1, 3⟩, ⟨0x300000, 11, 0, 2⟩, ⟨0x300004, 16, 1, 65535⟩, ⟨0x300008, 0, 64, 1024⟩, ⟨0x300008, 16, 64, 1024⟩,
   ⟨0x300200, 0, 10, 60000⟩, ⟨0x300200, 16, 10, 60000⟩, ⟨0x380000, 0, 0, 2⟩, ⟨0x380000, 16, 0, 2⟩, ⟨0x380060, 0, 256, 3840⟩, ⟨0x480000, 4, 1, 31⟩,
   ⟨0x4C0000, 0, 50, 500⟩, ⟨0x4C0000, 20, 10, 90⟩, ⟨0x4C0004, 0, 50, 5000⟩, ⟨0x4C0004, 16, 60, 65535⟩, ⟨0x540000, 8, 5, 90⟩,
   ⟨0x540000, 16, 1, 24⟩, ⟨0x588000, 0, 256, 65535⟩, ⟨0x588000, 16, 1, 255⟩]

/-- Ranges of frame-written fields, part 4 (JNB_CFG.TEST_PERIOD_S to FMN_CFG.WDT_MS). -/
def rangeTable4 : List FieldRange :=
  [⟨0x588000, 24, 1, 255⟩, ⟨0x600000, 0, 1, 1000⟩]

/-- Every stated range. -/
def fieldRanges : List FieldRange := rangeTable1 ++ rangeTable2 ++ rangeTable3 ++ rangeTable4

/-- Whether the proposed value of a staged field lies in the range its register map states (check 2). -/
def inRange (s : State) (x : Nat × Nat × FieldDef) : Bool :=
  let v := tget x.2.2.reset (x.2.1 * 512 + x.2.2.lo) s.regs
  match fieldRanges.find? (fun r => r.off == x.1 && r.lo == x.2.2.lo) with
  | none => true
  | some r => decide (r.min ≤ v) && decide (v ≤ r.max)

/-- What a check found: its status, and the offsets of the registers it is about. -/
abbrev Finding := Option (St × List Nat)

/-- A relation that must hold in the proposed state. -/
def must (ok : Bool) (st : St) (offs : List Nat) : Finding := if ok then none else some (st, offs)

/-- The first finding of a list of checks. -/
def firstOf : List Finding → Finding
  | [] => none
  | some x :: _ => some x
  | none :: l => firstOf l

/-- Check 3: relations within one block, in the proposed state (R179, R188, R221, R313, R354, R500). -/
def relationCheck (s : State) : Finding :=
  firstOf ([must (decide (s.get Reg.MBX_ENABLE_ENABLE / 2 ^ 32 % 16 ≠ 0)) .badField [0x20200],
    must (decide (s.get Reg.PWR_HG_CFG_RESERVE ≤ s.get Reg.PWR_HG_CFG_HEAVY_W * 20)) .badField [0x80100],
    must (decide (s.get Reg.TIR_EVICT_CFG_LOFT_STOP > s.get Reg.TIR_EVICT_CFG_LOFT_START)) .badField [0x1E0004],
    must (decide (s.get Reg.TIR_EVICT_CFG2_FLOOR_STOP > s.get Reg.TIR_EVICT_CFG2_FLOOR_START)) .badField [0x1E0008],
    must (decide (s.get Reg.TIR_RSW_CFG_STOP > s.get Reg.TIR_RSW_CFG_START) && decide (1 ≤ s.get Reg.TIR_RSW_CFG_URGENT) &&
      decide (s.get Reg.TIR_RSW_CFG_URGENT < s.get Reg.TIR_RSW_CFG_START)) .badField [0x1E0800],
    must (decide (s.get Reg.RDM_TKT_CFG_RESERVE ≤ s.get Reg.RDM_TKT_CFG_LIMIT)) .badField [0x280008]] ++
    (List.range 8).map (fun p => must (decide (s.get (Reg.HPT_CRD_CFG_REQ p) + s.get (Reg.HPT_CRD_CFG_RWD p) ≤ s.get (Reg.HPT_TKT_CFG_RESERVE p)) &&
      decide (s.get (Reg.HPT_TKT_CFG_RESERVE p) ≤ s.get (Reg.HPT_TKT_CFG_LIMIT p))) .badField [0x300004 + 0x10000 * p, 0x300008 + 0x10000 * p]) ++
    (List.range 4).map (fun p => must (decide (s.get (Reg.ETH_PFC_CFG_XON_KIB p) < s.get (Reg.ETH_PFC_CFG_XOFF_KIB p))) .badField [0x380060 + 0x10000 * p]) ++
    (List.range 4).map (fun k => must ((List.range 8).all (fun b => s.get (Reg.SLC_CH_CFG_PROFILE (k + 4 * b)) == s.get (Reg.SLC_CH_CFG_PROFILE k))) .badField
      ((List.range 8).map (fun b => 0x480000 + 0x2000 * (k + 4 * b)))))

/-- Bytes of the yard pools that a test names, at the proposed counts. -/
def yardBytesOf (s : State) (p : Nat → Bool) : Nat :=
  ((List.range 16).filter p).foldl (fun n k => n + s.get (Reg.YRD_POOL_CFG_COUNT k) * yardClassBytes k) 0

/-- Whether the carve-outs of loft stack n fit in its 32 GiB at the proposed settings (R163, R389). -/
def stackFits (s : State) (n : Nat) : Bool :=
  let cistern := (stackPair (s.get Reg.TIR_CST_CFG_STACKS)).contains n
  decide ((if cistern then s.get Reg.TIR_CST_CFG_SIZE_GIB * 2 ^ 30 else 2 ^ 29) + yardBytesOf s (fun p => s.get (Reg.YRD_POOL_CFG_STACK p) == n) +
    (34078720 + s.get Reg.TIR_LOFT_CFG_META_GIB * 2 ^ 30) / 4 ≤ 2 ^ 35)

/-- The registers of the yard pools. -/
def yardOffs : List Nat := (List.range 16).map (fun p => 0x100000 + 0x10 * p)

/-- Check 4: sums across blocks (R163, R313, R354, R389). -/
def sumCheck (s : State) : Finding :=
  firstOf [must (decide ((List.range 8).foldl (fun n p => n + s.get (Reg.HPT_TKT_CFG_RESERVE p)) (s.get Reg.RDM_TKT_CFG_RESERVE) ≤ 65536)) .noResource
      (0x280008 :: (List.range 8).map (fun p => 0x300004 + 0x10000 * p)),
    must ((List.range 4).all (fun c => decide ((List.range 4).foldl (fun n i => n + s.get (Reg.YRD_POOL_CFG_COUNT (4 * c + i))) 0 > 0))) .noResource yardOffs,
    must (decide (s.get (Reg.YRD_POOL_CFG_COUNT 0) ≥ 2)) .noResource yardOffs,
    must (decide (yardBytesOf s (fun _ => true) ≤ 2 ^ 33)) .noResource yardOffs,
    must ((List.range 4).all (stackFits s)) .noResource (yardOffs ++ [0x1C0000, 0x1E0010])]

/-! ### Dry-fit: the state checks (R473 checks 5 and 6, R485) -/

/-- Class of a serviceable unit (R483): 0 host ports, 1 Ethernet ports, 2 floor channels, 3 loft stacks, 4 sluices. -/
def unitClass (u : Nat) : Nat := if u < 8 then 0 else if u < 14 then 1 else if u < 30 then 2 else if u < 34 then 3 else 4

/-- Another unit of the class is moving: its state is none of SERVING, OUT and FAILED, or a frame gives it an action it has not taken. -/
def unitMoving (before s : State) (u : Nat) : Bool :=
  let st := unitState before u
  (st != 0 && st != 3 && st != 5) || (before.get (Reg.FRM_UNIT_CTL_ACTION u) != s.get (Reg.FRM_UNIT_CTL_ACTION u))

/-- Frames of channel c that R487 moves, and whether they fit in the free frames of the other channels, volatile copies in pairs of channels in service
that do not use c. -/
def evacFits (s : State) (c : Nat) : Bool :=
  let share := (floorCarve s - reachesOf 1 s * 8388608) / Nat.max 1 (chansPopulated s)
  let vol := reachesOf 1 s * 8388608 / Nat.max 1 (chansPopulated s)
  let held := (s.tir.dir.filter (fun e => e.2.floor && !e.2.pinned && e.2.floorChannel == c && !e.2.loft && decide (e.2.cistern > 0))).length
  let free := fun (k : Nat) => if chanUp s k && k != c then chanCap s k - usedOn s 1 k else 0
  let pairs := (List.range 8).foldl (fun n k => if k = c % 8 then n else n + Nat.min (free k) (free (k + 8))) 0
  decide (share + 2 * vol + held ≤ (List.range 16).foldl (fun n k => n + free k) 0) && decide (vol ≤ pairs)

/-- Check 5 for one unit with the action proposed for it (R485). -/
def unitCheck (before s : State) (u : Nat) : Finding :=
  let a := s.get (Reg.FRM_UNIT_CTL_ACTION u)
  let k := unitClass u
  let offs := [0x41000 + 4 * u]
  let others := (List.range 66).filter (fun v => v != u && unitClass v == k)
  if a = 3 ∨ (a = 2 ∧ k ≠ 2 ∧ k ≠ 3) then some (.notPermitted, offs)
  else if a = before.get (Reg.FRM_UNIT_CTL_ACTION u) then none
  else firstOf [must (!(others.any (unitMoving before s))) .notPermitted offs,
    must (!(a == 2 && others.any (fun v => unitState before v == 3 || unitState before v == 5))) .notPermitted offs,
    must (!(a == 2 && !(s.flag Reg.FRM_POLICY_ALLOW_OUT))) .notPermitted offs,
    must (!(a == 1 && (u == 12 || u == 13) && before.get (Reg.TWN_PORT_STATE_LINK (13 - u)) != 2)) .notPermitted offs,
    must (!(a == 1 && k == 4 && (List.range 8).any (fun b => before.get (Reg.SLC_BOARD_STATE_STATE b) != 0))) .notPermitted offs,
    must (!(a == 2 && k == 3 && before.get Reg.TIR_CST_STATE_COPIES != 0)) .notPermitted offs,
    must (!(a == 2 && k == 2 && !(evacFits before (u - 14)))) .noResource offs]

/-- The units whose ACTION an entry list stages. -/
def stagedUnits (es : List FrmEntry) : List Nat :=
  (es.flatMap stagedFields).filterMap (fun x => if x.1 = 0x41000 then some ((x.2.1 - 0x41000) / 4) else none)

/-- The banks that a frame sets to ENABLE 1 while they are not INVALIDATED (R215). -/
def benchBad (es : List FrmEntry) (s : State) : List Nat :=
  ((es.flatMap stagedFields).filterMap (fun x => if x.1 = 0x181000 then some ((x.2.1 - 0x181000) / 64) else none)).filter (fun b =>
    s.get (Reg.BCH_BANK_CTL_ENABLE b) == 1 && s.get (Reg.BCH_BANK_STATE_INVALIDATED b) == 0)

/-- Check 6: the cistern's occupancy against a lowered size (R107), the bench (R215). -/
def moduleCheck (es : List FrmEntry) (before s : State) : Finding :=
  let size := s.get Reg.TIR_CST_CFG_SIZE_GIB
  let eff := Nat.min size (before.get Reg.TIR_CST_LIMIT_LIMIT_GIB)
  firstOf [must (!(decide (size < before.get Reg.TIR_CST_CFG_SIZE_GIB) && decide (occBytes before * 10 > 6 * eff * 2 ^ 30))) .noResource [0x1C0000],
    must (benchBad es s).isEmpty .notPermitted ((benchBad es s).map (fun b => 0x181000 + 64 * b))]

/-- Check 1: the mode. -/
def modeCheck (s : State) : Finding := must (s.mode = .quiesced || s.serving) .wrongMode []

/-- The state checks on the proposed state (R473, R479); check 1 comes with them (R482). -/
def stateChecks (f : Nat) (x : Frame) (s : State) : Finding :=
  let p := proposed f x s
  firstOf ([modeCheck s] ++ (stagedUnits x.entries).map (unitCheck s p) ++ [moduleCheck x.entries s p])

/-- Every check of R473, in order. -/
def fitChecks (f : Nat) (x : Frame) (s : State) : Finding :=
  let p := proposed f x s
  firstOf ([modeCheck s] ++ (x.entries.flatMap stagedFields).map (fun y => must (inRange p y) .badField [y.2.1]) ++ [relationCheck p, sumCheck p] ++
    (stagedUnits x.entries).map (unitCheck s p) ++ [moduleCheck x.entries s p])

/-- The report of a failing check: status, index of the first entry it is about, that entry's OFFSET (R461). -/
def fitReport (x : Frame) (st : St) (offs : List Nat) : List Byte :=
  let hit := fun (e : FrmEntry) => match regAt e.off with | some (_, base) => offs.contains base | none => false
  let i := (x.entries.findIdx? hit).getD 0
  padTo 16 (leBytes 2 st.code ++ leBytes 2 i ++ leBytes 4 ((x.entries.map FrmEntry.off).getD i 0))

/-- A failing bench check raises event 0x0343 (R215). -/
def benchEvent (x : Frame) (f : Nat) (s : State) : State := (benchBad x.entries (proposed f x s)).foldl (fun s b => raise 0x0343 b 0 s) s

/-! ### The frame commands (R461, R471 to R477) -/

/-- Change a frame and its registers. -/
def putFrame (f : Nat) (x : Frame) (s : State) : State := frameSync f (s.onFrm fun y => { y with frames := tins f x y.frames })

/-- A frame becomes FREE. -/
def freeFrame (f : Nat) (s : State) : State := frameSync f (s.onFrm fun y => { y with frames := tdel f y.frames })

/-- FRAME_OPEN: the lowest free frame, or NO_RESOURCE. -/
def execFrameOpen (m : Nat) (s : State) : Out :=
  onCmd m 0x0301 s fun s =>
    match tfree s.frm.frames 0 8 with
    | none => refuse m .noResource noDetail s
    | some f => complete m (leBytes 8 f) ((putFrame f { Frame.free with state := 1, opener := m } s).inc (Reg.FRM_STAT_COUNT 0))

/-- The n entries of a FRAME_STAGE request. -/
def stageEntries (s : State) (m n : Nat) : List FrmEntry :=
  (List.range n).map (fun i => { off := reqNat s m (8 + 16 * i) 4, mask := reqNat s m (12 + 16 * i) 4, value := reqNat s m (16 + 16 * i) 4 })

/-- The refusal of one entry staged into frame f: its OFFSET, its register, its bits, another frame's staging (R461, R475, R481). -/
def entryRefusal (f : Nat) (e : FrmEntry) (s : State) : Option St :=
  if e.off % 4 ≠ 0 then some .badField
  else if e.off ≥ 0x4000000 then some .bounds
  else match regAt e.off with
    | none => some .notPermitted
    | some (r, base) =>
      let m := entryMask e base
      let ok := accessBits r (fun a => a = .rw || a = .rwl)
      if ok = 0 ∨ (directLevel 0 e.off).isSome ∨ m &&& ok ≠ m then some .notPermitted
      else if s.flag Reg.FRM_POLICY_LOCKED ∧ m &&& accessBits r (fun a => a = .rwl) ≠ 0 then some .notPermitted
      else if s.frm.frames.any (fun y => y.1 != f && y.2.entries.any (fun o => o.off == e.off && (o.mask &&& e.mask) != 0)) then some .frameConflict
      else none

/-- The first entry of a list that frame f refuses, and why (R461). -/
def stageRefusal (f : Nat) (es : List FrmEntry) (s : State) : Option (Nat × St) :=
  (List.range es.length).findSome? (fun i => ((es.drop i).head?.bind (fun e => entryRefusal f e s)).map (fun st => (i, st)))

/-- FRAME_STAGE: all of its entries or none; a dry-fit is voided (R461, R474). -/
def execFrameStage (m : Nat) (s : State) : Out :=
  onCmd m 0x0302 s fun s =>
    let f := reqNat s m 0 1
    let n := reqNat s m 2 2
    match tfind f s.frm.frames with
    | none => refuse m .badField (atPayload 0) s
    | some x =>
      if x.state = 3 then refuse m .badField (atPayload 0) s
      else if s.get (Mb.length m) ≠ 8 + 16 * n then refuse m .badLength 8 s
      else
        let es := stageEntries s m n
        match stageRefusal f es s with
        | some (i, st) => refuse m st (atPayload (8 + 16 * i)) s
        | none =>
          if x.entries.length + n > 1024 then refuse m .noResource noDetail s
          else complete m (leBytes 8 (x.entries.length + n)) (putFrame f { x with state := 1, entries := x.entries ++ es } s)

/-- FRAME_DRYFIT (R461, R473, R474). -/
def execFrameDryfit (m : Nat) (s : State) : Out :=
  onCmd m 0x0303 s fun s =>
    let f := reqNat s m 0 1
    match tfind f s.frm.frames with
    | none => refuse m .badField (atPayload 0) s
    | some x =>
      if x.state = 3 then refuse m .badField (atPayload 0) s
      else match fitChecks f x s with
        | none => complete m (List.replicate 16 0) ((putFrame f { x with state := 2, status := 0 } s).inc (Reg.FRM_STAT_COUNT 1))
        | some (st, offs) =>
          let s := (putFrame f { x with status := st.code } (benchEvent x f s)).inc (Reg.FRM_STAT_COUNT 2)
          completeW m .dryfitFailed 0 noDetail false (fitReport x st offs) (raiseRl 0x0C03 f st.code s)

/-- FRAME_PEG: the frame is SCHEDULED for its target epoch, or for the earliest allowed, and the command waits (R461, R475, R477). -/
def execFramePeg (m : Nat) (s : State) : Out :=
  onCmd m 0x0304 s fun s =>
    let f := reqNat s m 0 1
    let earliest := s.epoch + s.get Reg.FRM_CFG_LEAD_US
    let target := if reqNat s m 8 8 = 0 then earliest else reqNat s m 8 8
    match tfind f s.frm.frames with
    | none => refuse m .badField (atPayload 0) s
    | some x =>
      if x.state = 3 then refuse m .badField (atPayload 0) s
      else if x.state ≠ 2 then refuse m .dryfitFailed noDetail s
      else if target < earliest then refuse m .badField (atPayload 8) s
      else if (frameIslands x).any (fun i => decide (generations s i ≥ 8)) then refuse m .noResource noDetail s
      else putFrame f { x with state := 3, target := target, waiter := some m, checked := false } s

/-- FRAME_DISCARD (R461). -/
def execFrameDiscard (m : Nat) (s : State) : Out :=
  onCmd m 0x0305 s fun s =>
    let f := reqNat s m 0 1
    match tfind f s.frm.frames with
    | none => refuse m .badField (atPayload 0) s
    | some x => if x.state = 3 then refuse m .badField (atPayload 0) s else complete m [] ((freeFrame f s).inc (Reg.FRM_STAT_COUNT 5))

/-- The 32 bytes of FRAME_STATUS. -/
def frameBytes (x : Frame) : List Byte :=
  padTo 32 (leBytes 2 x.state ++ leBytes 2 x.entries.length ++ leBytes 4 x.status ++ leBytes 8 x.target ++ leBytes 8 x.opener)

/-- FRAME_STATUS: state, entries, last dry-fit, epoch, opener (R471). -/
def execFrameStatus (m : Nat) (s : State) : Out :=
  onCmd m 0x0306 s fun s =>
    let f := reqNat s m 0 1
    if f ≥ 8 then refuse m .badField (atPayload 0) s
    else
      let x := (tfind f s.frm.frames).getD Frame.free
      complete m (frameBytes x) s

/-! ### The peg (R476 to R482) -/

/-- PEG_RECHECK: from epoch E − 1 the state checks run again; a failure abandons the peg, with event 0x0C02 (R479). -/
def execPegRecheck (f : Nat) (s : State) : Out :=
  onUp s fun s =>
    match tfind f s.frm.frames with
    | none => s
    | some x =>
      if x.state ≠ 3 ∨ x.checked = true ∨ s.epoch + 1 < x.target then s
      else match stateChecks f x s with
        | none => putFrame f { x with checked := true } s
        | some (st, offs) =>
          let t := raise 0x0C02 f st.code ((freeFrame f s).inc (Reg.FRM_STAT_COUNT 4))
          match x.waiter with
          | some m => completeW m .dryfitFailed 0 noDetail false (fitReport x st offs) t
          | none => t

/-- The fields whose new value acts only from the next bring-up: register offset and lowest bit (R478). -/
def deferredFields : List (Nat × Nat) := [(0x1C0000, 6), (0x1E0010, 0), (0x100000, 0), (0x100000, 28), (0x4C0000, 0)]

/-- Keep the values that act until the next bring-up for the fields of R478 that a frame changes. -/
def deferFields (es : List FrmEntry) (s : State) : State :=
  (es.flatMap stagedFields).foldl (fun s x =>
    if deferredFields.contains (x.1, x.2.2.lo) then
      let key := x.2.1 * 512 + x.2.2.lo
      if (tfind key s.frm.deferred).isSome then s else s.onFrm fun y => { y with deferred := tins key (tget x.2.2.reset key s.regs) y.deferred }
    else s) s

/-- What a peg of JNB_JOINER_CTL.MAP_OUT does: set, the joiner is mapped out with cause 4; cleared, it is to be tested again (R425). -/
def pegJoiner (j : Nat) (s : State) : State :=
  let out := s.flag (Reg.JNB_JOINER_STATE_MAPPED_OUT (j / 8) (j % 8))
  if s.flag (Reg.JNB_JOINER_CTL_MAP_OUT (j / 8) (j % 8)) then
    (if out then s else joinerSync (raise 0x0A01 j 4 (mapOutJoiner j 4 s)))
  else if out then (s.onStore fun x => { x with mapOutJ := tdel j x.mapOutJ }).onJnb fun x => { x with retest := if x.retest.contains j then x.retest else x.retest ++ [j] }
  else s

/-- What a peg of CPH_CORE_CTL.MAP_OUT does: set, the core is mapped out with cause 4; cleared, it is TESTING (R384). -/
def pegCore (c : Nat) (s : State) : State :=
  let st := s.get (Reg.CPH_CORE_STATE_STATE c)
  if s.flag (Reg.CPH_CORE_CTL_MAP_OUT c) then (if st = 2 ∨ st = 3 then s else mapCoreOut c 4 s)
  else if st = 2 then (s.put (Reg.CPH_CORE_STATE_STATE c) 3).onStore fun x => { x with mapOutC := tdel c x.mapOutC } else s

/-- What a peg of BCH_BANK_CTL.ENABLE does: 1 puts the bank in service and INVALIDATED to 0; 0 starts its write-back (R214, R215, R217). -/
def pegBank (b : Nat) (s : State) : State :=
  if s.get (Reg.BCH_BANK_CTL_ENABLE b) = 1 then
    ((s.put (Reg.BCH_BANK_STATE_STATE b) 1).put (Reg.BCH_BANK_STATE_INVALIDATED b) 0).put (Reg.BCH_BANK_STATE_AUTO_DISABLED b) 0
  else if s.get (Reg.BCH_BANK_STATE_STATE b) = 1 then (s.put (Reg.BCH_BANK_STATE_STATE b) 2).put (Reg.BCH_BANK_STATE_INVALIDATED b) 0
  else s

/-- What a peg of FRM_UNIT_CTL.ACTION starts: STEERING for RECAL and OUT, RETURNING for SERVE (R484, R487 to R490). -/
def pegUnit (u : Nat) (s : State) : State :=
  let a := s.get (Reg.FRM_UNIT_CTL_ACTION u)
  let st := unitState s u
  if (a = 1 ∨ a = 2) ∧ st = 0 then ((s.put (Reg.FRM_UNIT_STATE_STATE u) 1).put (Reg.FRM_UNIT_STATE_CAUSE u) 1).put (Reg.FRM_UNIT_STATE_PROGRESS u) 0
  else if a = 0 ∧ (st = 3 ∨ st = 5) then (s.put (Reg.FRM_UNIT_STATE_STATE u) 4).put (Reg.FRM_UNIT_STATE_PROGRESS u) 0
  else s

/-- What a field's new value starts at once. -/
def pegField (x : Nat × Nat × FieldDef) (s : State) : State :=
  if x.1 = 0x580100 then pegJoiner ((x.2.1 - 0x580100) / 0x10000 * 8 + (x.2.1 - 0x580100) % 0x10000 / 16) s
  else if x.1 = 0x240100 then pegCore ((x.2.1 - 0x240100) / 8) s
  else if x.1 = 0x181000 then pegBank ((x.2.1 - 0x181000) / 64) s
  else if x.1 = 0x41000 then pegUnit ((x.2.1 - 0x41000) / 4) s
  else s

/-- The configuration record takes the values the frame changed (R480); of a RECAL, which ends with ACTION 0, it keeps 0 (R484). -/
def recordFields (es : List FrmEntry) (s : State) : State :=
  let fs := es.flatMap stagedFields
  let s := fs.foldl (fun s x =>
    let key := x.2.1 * 512 + x.2.2.lo
    let v := tget x.2.2.reset key s.regs
    s.onStore fun y => { y with cfg := tins key (if x.1 = 0x41000 ∧ v = 1 then 0 else v) y.cfg }) s
  appendCfg fs.length s

/-- A frame takes effect on every island (R476, R478, R481). -/
def pegFrame (f : Nat) (x : Frame) (s : State) : State :=
  let islands := frameIslands x
  let size := s.get Reg.TIR_CST_CFG_SIZE_GIB
  let s := if s.cis.tickets.isEmpty then s else s.onFrm fun y => { y with old := y.old ++ [(islands, s.cis.tickets.map Prod.fst)] }
  let s := x.entries.foldl (fun s e => applyEntry e s) (deferFields x.entries s)
  let s := freeFrame f (((s.put Reg.FRM_POLICY_LOCKED 1).put Reg.FRM_LAST_PEG_EPOCH s.epoch).inc (Reg.FRM_STAT_COUNT 3))
  let s := raise 0x0C01 f s.epoch s
  let s := (x.entries.flatMap stagedFields).foldl (fun s y => pegField y s) s
  let s := resizeCistern s
  let s := if s.get Reg.TIR_CST_CFG_SIZE_GIB = size then s else poolSync s
  admitAll (settle (hgServe s))

/-- PEG_TAKES_EFFECT: at E a re-checked frame takes effect and its values are recorded; FRAME_PEG completes with the epoch, or with MEDIA_FAILED and event
0x0C05 where the record could not be written (R476, R480). -/
def execPegTakesEffect (f : Nat) (recordOk : Bool) (s : State) : Out :=
  onUp s fun s =>
    match tfind f s.frm.frames with
    | none => s
    | some x =>
      if x.state ≠ 3 ∨ x.checked = false ∨ s.epoch < x.target then s
      else
        if recordOk then
          let t := recordFields x.entries (pegFrame f x s)
          match x.waiter with | some m => complete m (padTo 16 (leBytes 8 s.epoch)) t | none => t
        else
          let t := raise 0x0C05 f 0 (pegFrame f x s)
          match x.waiter with | some m => refuse m .mediaFailed noDetail t | none => t

/-! ### Units out of service (R483 to R490) -/

/-- UNIT_RECAL: a STEERING unit with ACTION 1 is RECALIBRATING: an RDMA port's link goes down, a Rilram port's traffic moves to the other port (R486). -/
def execUnitRecal (u : Nat) (s : State) : Out :=
  onUp s fun s =>
    if u ≥ 66 ∨ unitState s u ≠ 1 ∨ s.get (Reg.FRM_UNIT_CTL_ACTION u) ≠ 1 then s
    else
      let t := s.put (Reg.FRM_UNIT_STATE_STATE u) 2
      if 8 ≤ u ∧ u < 12 then (if s.get (Reg.ETH_PORT_STATE_RATE (u - 8)) = 3 then t else ethLinkLost (u - 8) t)
      else if u = 12 ∨ u = 13 then (if s.get (Reg.TWN_PORT_STATE_LINK (u - 12)) = 2 then portGone (u - 12) 0 t else t)
      else t

/-- A loft stack's granules leave it: those whose last cached copy it holds with CISTERN > 0 are demoted, the other frames dropped (R489). -/
def evacStack (n : Nat) (s : State) : State :=
  (((s.tir.dir.filter (fun e => e.2.loft && e.2.loftStack == n)).map Prod.fst).foldl (fun s g =>
    let s := abandonMove g s
    let e := s.gran g
    if !e.loft then s
    else if e.floor || e.cistern = 0 then refetchAfterDrop g (dropCopy 0 g s)
    else match allocFloor g e.loftValid e.age e.tenant s with
      | some s => (dropCopy 0 g s).inc (Reg.TIR_TIER_STAT_COUNT 6)
      | none => s) s)

/-- A floor channel's frames leave it: a last cached copy with CISTERN > 0 moves to another channel, volatile pairs move, the other frames are dropped
(R175, R487). -/
def evacChannel (c : Nat) (s : State) : State :=
  let gs := (s.tir.dir.filter (fun e => e.2.floor && !e.2.pinned && e.2.floorChannel == c)).map Prod.fst
  let s := gs.foldl (fun s g =>
    let s := abandonMove g s
    let e := s.gran g
    if e.loft || e.cistern = 0 then refetchAfterDrop g (dropCopy 1 g s)
    else match allocFloor g e.floorValid e.age e.tenant s with
      | some s => s
      | none => s) s
  (volatileOn c s).foldl (fun s g => moveVolatile g c s) s

/-- UNIT_OUT: the evacuation of a STEERING channel asks for its tokens, a loft stack is emptied (R487, R489, R501). -/
def execUnitOut (u : Nat) (s : State) : Out :=
  onUp s fun s =>
    if unitState s u ≠ 1 ∨ s.get (Reg.FRM_UNIT_CTL_ACTION u) ≠ 2 then s
    else if unitClass u = 2 then
      let o := HgOwner.evac (u - 14)
      if hgHolds s o || s.pwr.hgWait.any (fun r => r.owner = o) then s
      else (hgRequest { owner := o, h0 := false, tokens := 6 * s.get Reg.FRM_CFG_EVAC_GBPS } s).2
    else if unitClass u = 3 then settle (evacStack (u - 30) s)
    else s

/-- A unit's return has failed: FAILED, ACTION 2, event 0x0C08 (R484, R488). -/
def unitFailed (u : Nat) (s : State) : State :=
  let s := (s.put (Reg.FRM_UNIT_STATE_STATE u) 5).put (Reg.FRM_UNIT_CTL_ACTION u) 2
  raise 0x0C08 u 0 ((s.inc (Reg.FRM_STAT_COUNT 6)).inc (Reg.FRM_STAT_COUNT 7))

/-- A returning unit has failed its training or test (R285, R488). -/
def serveFailed (u : Nat) (s : State) : State :=
  let s := if unitClass u = 2 then s.put Reg.ECC_SELFTEST_FLOOR_FAIL (setBit (s.get Reg.ECC_SELFTEST_FLOOR_FAIL) (u - 14) true)
    else if unitClass u = 3 then s.put Reg.ECC_SELFTEST_LOFT_FAIL (setBit (s.get Reg.ECC_SELFTEST_LOFT_FAIL) (u - 30) true) else s
  degradedSync (unitFailed u s)

/-- A floor channel that passed is swept, with its tokens (R490, R501). -/
def serveChannel (c : Nat) (s : State) : State :=
  let s := s.put Reg.ECC_SELFTEST_FLOOR_FAIL (setBit (s.get Reg.ECC_SELFTEST_FLOOR_FAIL) c false)
  let s := s.put Reg.ECC_INIT_STATE_CHANNELS_DONE (setBit (s.get Reg.ECC_INIT_STATE_CHANNELS_DONE) c false)
  if hgHolds s (.sweepFloor c) then s else (hgRequest { owner := .sweepFloor c, h0 := false, tokens := 120 } s).2

/-- A loft stack that passed is swept, with its tokens (R490, R501). -/
def serveStack (n : Nat) (s : State) : State :=
  let s := s.put Reg.ECC_SELFTEST_LOFT_FAIL (setBit (s.get Reg.ECC_SELFTEST_LOFT_FAIL) n false)
  let s := s.put Reg.ECC_INIT_STATE_STACKS_DONE (setBit (s.get Reg.ECC_INIT_STATE_STACKS_DONE) n false)
  if hgHolds s (.sweepLoft n) then s else (hgRequest { owner := .sweepLoft n, h0 := false, tokens := 200 } s).2

/-- UNIT_SERVE: a RETURNING unit is trained and tested; a failure makes it FAILED, otherwise its sweep starts, with its tokens (R285, R488, R490, R501). -/
def execUnitServe (u : Nat) (passes : Bool) (s : State) : Out :=
  onUp s fun s =>
    if unitState s u ≠ 4 then s
    else if !passes then serveFailed u s
    else if unitClass u = 2 then serveChannel (u - 14) s
    else if unitClass u = 3 then serveStack (u - 30) s
    else s

/-- A unit is SERVING again: counted, with event 0x0C07 (R484, R493); a loft stack may take the second cistern copy that had no room (R81, R82). -/
def unitBack (u : Nat) (s : State) : State :=
  let s := raise 0x0C07 u 0 ((trained u (unitServing u s)).inc (Reg.FRM_STAT_COUNT 6))
  let s := poolSync s
  let s := if unitClass u = 3 ∧ s.get Reg.TIR_CST_STATE_COPIES = 2 then (match s.cis.survivor with | some k => seekCopy k s | none => s) else s
  degradedSync s

/-- UNIT_ACTION_DONE: a RECAL has ended, an evacuation or a stack's emptying has ended and the unit is OUT with event 0x0C06, or a swept unit is SERVING;
`ok` false: a return has failed (R484 to R490). -/
def execUnitActionDone (u : Nat) (ok : Bool) (s : State) : Out :=
  onUp s fun s =>
    let st := unitState s u
    let a := s.get (Reg.FRM_UNIT_CTL_ACTION u)
    if u ≥ 66 then s
    else if st = 2 then
      (if !ok then unitFailed u s
       else if (u = 12 ∨ u = 13) ∧ s.get (Reg.TWN_PORT_STATE_LINK (u - 12)) ≠ 2 then s
       else settle (unitBack u s))
    else if st = 1 ∧ a = 2 ∧ unitClass u = 2 then
      let c := u - 14
      if !(hgHolds s (.evac c)) then s
      else
        let s := hgReturn (.evac c) (evacChannel c s)
        let s := ((s.put (Reg.FRM_UNIT_STATE_STATE u) 3).put (Reg.FRM_UNIT_STATE_PROGRESS u) 1000).inc (Reg.FRM_STAT_COUNT 6)
        settle (raise 0x0C06 u 0 (poolSync s))
    else if st = 1 ∧ a = 2 ∧ unitClass u = 3 then
      let s := (fenceStack (u - 30) s).put (Reg.FRM_UNIT_STATE_CAUSE u) 1
      raise 0x0C06 u 0 ((s.put (Reg.FRM_UNIT_STATE_PROGRESS u) 1000).inc (Reg.FRM_STAT_COUNT 6))
    else if st = 4 then
      (if !ok then degradedSync (unitFailed u s)
       else if unitClass u = 2 ∧ !(bitOf (u - 14) (s.get Reg.ECC_INIT_STATE_CHANNELS_DONE)) then s
       else if unitClass u = 3 ∧ !(bitOf (u - 30) (s.get Reg.ECC_INIT_STATE_STACKS_DONE)) then s
       else settle (unitBack u s))
    else s

end Sys2Proof.Machine
end

