-- ==== Sys2Proof/Machine/Power.lean ====
section
/-!
DEFINITION. Sys2Proof/Machine/Power.lean: the input, the bank, the headgate, the spill, thermal protection and the epoch
(16_power_headgate_spill.md; R12, R28, R29 of 01_architecture.md).
-/
namespace Sys2Proof.Machine

open Sys2Proof

/-- Island 0 from cold: everything volatile at its reset value, the store and the media as they were; the bank measurement restored. -/
def coldStart (s : State) : State :=
  let r : State := { State.reset with store := { s.store with unlockFail := 0, raiseFail := 0, opMbx := none }, med := s.med, sent := s.sent, fresh := s.fresh,
                                      pending := s.pending, evr := { LogSt.init with store := s.evr.store } }
  let r := (((r.put Reg.PWR_BANK_MEAS_C r.store.bankC).put Reg.PWR_BANK_MEAS_ESR r.store.bankEsr).put Reg.PWR_BANK_MEAS_E
    r.store.bankE).put Reg.PWR_BANK_MEAS_AGE_DAYS r.store.bankAge
  let r := (r.put Reg.PWR_IN_STATE_IN_OK 1).inc (Reg.MOD_STAT_COUNT 0)
  let r := (r.put Reg.MOD_RESET_LOG_CAUSE 1).put Reg.MOD_RESET_LOG_SCOPE 3
  (r.put Reg.GLB_SERIAL_SERIAL r.store.serial).put Reg.GLB_RELEASE_VARIANT (b2n r.store.variantB)

/-- POWER_ON: soft start, STANDBY, the bank charges; AUTO_START holds its reset value 1, so BRINGUP follows (R495, R528).  It acts as well on a module that
stands in STANDBY and has not been brought up since island 0 was powered: the state `State.reset` gives. -/
def execPowerOn (s : State) : Out :=
  .next (if s.pwr.powered && !(s.mode = .standby && s.evr.cycles.isNone && s.pwr.inReset.isNone && s.get Reg.MOD_RESET_LOG_CAUSE = 1) then s else enterBringup (storeSync (coldStart s)))

/-- INPUT_FALLS_BELOW_34V: the 20 µs filter starts (R28). -/
def execInputFallsBelow34v (s : State) : Out :=
  .next (if s.pwr.powered then (s.onPwr fun x => { x with pfFilter := true }).put Reg.PWR_IN_STATE_IN_OK 0 else s)

/-- The entry into SPILL on a power failure: what the spill must write is marked, media work stops, the twin is told (R28, R253, R509). -/
def spillEntry (run : SpillRun) (s : State) : State :=
  let s := if s.get Reg.PWR_BANK_STATE_STATE = 2 then s.put Reg.PWR_BANK_STATE_STATE 1 else s
  let s := setMode .spill (stopMediaWork (hgWithdraw (stashStop (spillMarks s))))
  (s.onPwr fun x => { x with pfOut := true, serveStop := true, spill := some run }).send (.line "PAIR_PF_OUT" true)

/-- Power failure: counted and logged; the headgate withdraws; in the modes that spill the input switch opens, erases stop,
PAIR_PF_OUT is asserted and SPILL is entered; a spill on input power goes on from the bank (R28, R503, R508 to R510, R516). -/
def declarePowerFail (s : State) : State :=
  let due := s.spills && !s.evr.frozen
  let streaming := match s.pwr.spill with | some r => r.streaming | none => false
  let run : SpillRun := { fromBank := true, mode := s.mode.code, streaming := streaming, started := s.epoch, after := .powerOff }
  let s := ((s.onPwr fun x => { x with pfFilter := false, testMbx := none }).inc (Reg.PWR_STAT_COUNT 0)).put Reg.PWR_IN_STATE_IN_OK 0
  let s := loseFrames ((raise 0x0101 0 0 s).put Reg.PWR_IN_STATE_ISOLATED 1)
  if due then spillEntry run s else if s.evr.frozen then s else hgWithdraw s

/-- POWER_FAIL_DECLARED: the filter expires with the input still low (R28, R509). -/
def execPowerFailDeclared (s : State) : Out :=
  .next (if s.pwr.powered && s.pwr.pfFilter then declarePowerFail s else s)

/-- INPUT_DIP_CARRIED: the dip is counted, event 0x0102 at most once per second (R497). -/
def execInputDipCarried (s : State) : Out :=
  .next (if s.pwr.powered && s.pwr.pfFilter then
    raiseRl 0x0102 0 0 (((s.onPwr fun x => { x with pfFilter := false }).inc (Reg.PWR_STAT_COUNT 1)).put Reg.PWR_IN_STATE_IN_OK 1)
  else s)

/-- OVERVOLTAGE_DETECTED: the switch opens and power failure is declared with event 0x0103; no effect in SPILL (R496, R516). -/
def execOvervoltageDetected (s : State) : Out :=
  .next (if !s.pwr.powered || s.mode = .spill then s
    else declarePowerFail (raise 0x0103 0 0 ((s.put Reg.PWR_IN_STATE_OV 1).inc (Reg.PWR_STAT_COUNT 2))))

/-- INPUT_GOOD_AFTER_OV: the input counts as present again (R496); the switch stays open while a spill runs from the bank (R509). -/
def execInputGoodAfterOv (s : State) : Out :=
  .next (if s.pwr.powered && s.get Reg.PWR_IN_STATE_OV = 1 then
    let s := (s.put Reg.PWR_IN_STATE_OV 0).put Reg.PWR_IN_STATE_IN_OK 1
    if s.mode = .spill then s else s.put Reg.PWR_IN_STATE_ISOLATED 0
  else s)

/-- RAIL_TRIP: event 0x010A and power failure (R498). -/
def execRailTrip (rail : Nat) (s : State) : Out :=
  .next (if !s.pwr.powered || s.mode = .spill then s else declarePowerFail (raise 0x010A rail 0 s))

/-- UVLO_SHUTDOWN: where no spill runs, the power stage shuts down (R508); so does a frozen module's (R30, R576). -/
def execUvloShutdown (s : State) : Out :=
  .next (if !s.pwr.powered || s.mode = .spill || (s.spills && !s.evr.frozen) then s else powerOff s)

/-- The image a spill writes: occupied segments, bitmap, logbook buffer and the values of its commit marker (R253, R511). -/
def spillImage (number : Nat) (committed : Bool) (duration energy vbank : Nat) (s : State) : SpillImage :=
  { number := number, committed := committed, recs := s.cis.recs, cub := s.twn.cub, coarse := s.twn.coarse, voids := s.twn.voids, voidWhole := s.twn.voidWhole,
    head := s.get Reg.TIR_CST_HEAD_POS, tail := s.get Reg.TIR_CST_TAIL_POS, applied := s.cis.applied, assigned := s.cis.assigned, journal := s.cis.journal,
    log := s.evr.buf, pairState := s.store.stopState, gen := s.get Reg.TWN_GEN_GEN, epoch := s.epoch, duration := duration,
    energy := energy, vbank := vbank }

/-- Write an image to a slot, and SLC_SPILLWAY with it; without parity while a board is absent, with event 0x040D (R253). -/
def writeSlot (j : Nat) (im : SpillImage) (s : State) : State :=
  let med := if j = 0 then { s.med with slot0 := some im } else { s.med with slot1 := some im }
  let s := { s with med := { med with spillNo := im.number, spillInto := some j } }
  let narrow := decide (boardsServing s < 8)
  let s := spillwaySync ((s.put Reg.SLC_SPILLWAY_LAST_SLOT j).put Reg.SLC_SPILLWAY_NO_PARITY (b2n narrow))
  if narrow && !im.committed then raise 0x040D j 0 s else s

/-- SPILL_STREAM_START: 2 ms after the declaration the stream starts with the header of a new spill number (R253, R509). -/
def execSpillStreamStart (s : State) : Out :=
  onLive s fun s => match s.pwr.spill with
    | some r =>
      if r.streaming then s
      else
        let s := (s.onPwr fun x => { x with spill := some { r with streaming := true } })
        let s := if s.mode = .spill then s else stashStop s
        let j := if s.med.slot0.isNone then 0 else 1
        writeSlot j (spillImage (s.med.spillNo + 1) false 0 0 0 s) s
    | none => s

/-- SPILL_COMMIT_MARKER: the marker closes the stream.  A deferred freeze takes effect at once; otherwise the power stage shuts
down, or BRINGUP runs by module reset when the input is good again, or the calling rule's mode follows (R511, R574, R526). -/
def execSpillCommitMarker (durationUs energy vbank : Nat) (inputGood : Bool) (s : State) : Out :=
  onLive s fun s => match s.pwr.spill, s.med.spillInto with
    | some r, some j =>
      if !r.streaming then s
      else
        let s := writeSlot j (spillImage s.med.spillNo true durationUs energy vbank s) s
        let s := ((s.onMed fun x => { x with spillInto := none }).inc (Reg.PWR_STAT_COUNT 3)).inc (Reg.SLC_FTG_STAT_COUNT 7)
        match s.evr.freezeHeld with
        | some c => freezeNow c 0 ((s.onEvr fun x => { x with freezeHeld := none }).onPwr fun x => { x with spill := none })
        | none => applyAfter r.after r.mode true inputGood s
    | _, _ => s

/-- BANK_AT_30V: the bank is spent before the marker; the spill has none and the power stage shuts down, or BRINGUP runs when the
input is good (R512); a frozen module's power stage shuts down (R574). -/
def execBankAt30v (inputGood : Bool) (s : State) : Out :=
  .next (if !s.pwr.powered then s
    else if s.evr.frozen then powerOff s
    else match s.pwr.spill with
      | some r => if r.fromBank then applyAfter .powerOff 7 false inputGood (s.onEvr fun x => { x with freezeHeld := none }) else s
      | none => s)

/-- BANK_CHARGED: charging stops at 92.0 V (R495). -/
def execBankCharged (s : State) : Out :=
  onLive s fun s =>
    let s := s.put Reg.PWR_BANK_STATE_VBANK 9200
    let s := if s.get Reg.PWR_BANK_STATE_STATE = 0 then s.put Reg.PWR_BANK_STATE_STATE 1 else s
    let below := decide (9200 < s.get Reg.PWR_BANK_STATE_VREQ)
    let s := s.put Reg.PWR_BANK_STATE_BELOW_VREQ (b2n below)
    if s.get Reg.PWR_BANK_STATE_STATE = 3 then s else setBlock 2 below s

/-- BANK_RECHARGE_START: below 91.5 V the bank is recharged, in every mode but SPILL (R495). -/
def execBankRechargeStart (s : State) : Out :=
  onLive s fun s => if s.mode = .spill || s.get Reg.PWR_BANK_STATE_STATE ≠ 1 then s else s.put Reg.PWR_BANK_STATE_STATE 0

/-- BANK_FAULT: event 0x0109, SERVE_BLOCK bit 2, and the action of R258; a discharge test under way is discarded (R505). -/
def execBankFault (charger : Bool) (s : State) : Out :=
  onLive s fun s =>
    if s.get Reg.PWR_BANK_STATE_STATE = 3 || s.mode = .spill then s
    else
      let s := setBlock 2 true (s.put Reg.PWR_BANK_STATE_STATE 3)
      failStop (raise 0x0109 (b2n charger) 0 s)

/-- BANK_FAULT_END: STATE leaves 3 and SERVE_BLOCK bit 2 clears (R505). -/
def execBankFaultEnd (s : State) : Out :=
  onLive s fun s =>
    if s.get Reg.PWR_BANK_STATE_STATE ≠ 3 then s
    else setBlock 2 false ((s.put Reg.PWR_BANK_STATE_STATE 1).put Reg.PWR_BANK_STATE_BELOW_VREQ 0)

/-- The conditions of R506 on a discharge test, apart from its floor. -/
def testAllowed (s : State) : Bool :=
  (s.serving || s.mode = .quiesced) && s.get Reg.PWR_BANK_STATE_STATE == 1 && s.get Reg.PWR_THERM_STATE_LEVEL == 0

/-- The sink is switched on (R506). -/
def startTest (s : State) : State :=
  (s.onPwr fun x => { x with testFloor := testFloorOf s }).put Reg.PWR_BANK_STATE_STATE 2

/-- DISCHARGE_TEST_DUE: the test runs when its conditions hold; a floor above 90.0 V defers it with event 0x0107 (R506). -/
def execDischargeTestDue (s : State) : Out :=
  onLive s fun s =>
    if testFloorOf s > 9000 then raise 0x0107 0 (testFloorOf s) (s.inc (Reg.PWR_STAT_COUNT 5))
    else if testAllowed s then startTest s else s

/-- A test's results are recorded in the registers and the store; the sink is off and the bank at its floor recharges (R507). -/
def recordTest (c esr : Nat) (s : State) : State :=
  let e := eMeasured c esr
  let s := (((s.put Reg.PWR_BANK_MEAS_C c).put Reg.PWR_BANK_MEAS_ESR esr).put Reg.PWR_BANK_MEAS_E e).put Reg.PWR_BANK_MEAS_AGE_DAYS 0
  let s := (s.onStore fun x => { x with bankC := c, bankEsr := esr, bankE := e, bankAge := 0 }).onPwr fun x => { x with testAt := s.epoch }
  ((s.put Reg.PWR_BANK_STATE_STATE 0).put Reg.PWR_BANK_STATE_VBANK s.pwr.testFloor).inc (Reg.PWR_STAT_COUNT 4)

/-- DISCHARGE_TEST_END: c, r_esr and e_measured are recorded, the limit and the effective size recomputed, event 0x0106 raised, and a
waiting DISCHARGE_TEST completes; the bank recharges (R79, R507, R518).  c is in 10 µF, r_esr in mΩ. -/
def execDischargeTestEnd (c esr : Nat) (s : State) : Out :=
  onLive s fun s =>
    if s.get Reg.PWR_BANK_STATE_STATE ≠ 2 then s
    else
      let waiter := s.pwr.testMbx
      let e := eMeasured c esr
      let s := raise 0x0106 0 e (retryCistern (resizeCistern (recordTest c esr s)))
      let s := if cisternLimit e < 1 && s.serving then failStop s else s
      match waiter with
      | none => s
      | some m => complete m (leBytes 2 c ++ leBytes 2 esr ++ leBytes 2 e ++ leBytes 1 (s.get Reg.TIR_CST_LIMIT_LIMIT_GIB) ++
                    leBytes 1 (s.get Reg.TIR_CST_LIMIT_EFFECTIVE_GIB) ++ leBytes 8 0) (s.onPwr fun x => { x with testMbx := none })

/-- The owner a headgate primitive names: kind 0 an operation of the environment's, 1 a pack, 2 the resaw, 3 an erase, 4 and 5 sweeps,
6 the cistern copy, 7 an evacuation, 8 a format. -/
def hgOwnerOf (kind arg : Nat) : HgOwner :=
  if kind = 1 then .pack arg else if kind = 2 then .resaw else if kind = 3 then .erase arg else if kind = 4 then .sweepLoft arg
  else if kind = 5 then .sweepFloor arg else if kind = 6 then .cisternCopy else if kind = 7 then .evac arg
  else if kind = 8 then .format else .op arg

/-- HEADGATE_REQ: the primitive's answer is 0 granted, 1 waiting, or HEADGATE_DENIED (R502, R503). -/
def execHeadgateReq (kind arg : Nat) (h0 : Bool) (tokens : Nat) (s : State) : Out :=
  onUp s fun s =>
    let r := hgRequest { owner := hgOwnerOf kind arg, h0 := h0, tokens := tokens } s
    r.2.send (.prim "HEADGATE_REQ" (if r.1 = 2 then St.headgateDenied.code else 0) r.1)

/-- HEADGATE_RETURN: the tokens come back and waiting requests may be granted (R500). -/
def execHeadgateReturn (kind arg : Nat) (s : State) : Out := onUp s (hgReturn (hgOwnerOf kind arg))

/-- HEADGATE_GRANT: a waiting request is granted once it fits and its class may take it (R502). -/
def execHeadgateGrant (s : State) : Out :=
  onUp s fun s => match hgNext s with
    | some r => hgGive r (s.onPwr fun x => { x with hgWait := s.pwr.hgWait.erase r })
    | none => s

/-- INPUT_POWER_OVER_LIMIT: above LIMIT_W the headgate grants nothing, with event 0x010C (R502).  `pin` is in 100 mW. -/
def execInputPowerOverLimit (pin : Nat) (s : State) : Out :=
  onLive s fun s =>
    let s := s.put Reg.PWR_IN_STATE_PIN pin
    if pin > s.get Reg.PWR_HG_CFG_LIMIT_W * 10 then raiseRl 0x010C 0 pin (s.put Reg.PWR_HG_STATE_STOPPED 1) else s

/-- INPUT_POWER_BELOW_LIMIT: below LIMIT_W − 10 W STOPPED clears and waiting requests are granted (R502). -/
def execInputPowerBelowLimit (pin : Nat) (s : State) : Out :=
  onLive s fun s =>
    let s := s.put Reg.PWR_IN_STATE_PIN pin
    if pin + 100 < s.get Reg.PWR_HG_CFG_LIMIT_W * 10 then hgServe (s.put Reg.PWR_HG_STATE_STOPPED 0) else s

/-- A signed 8-bit reading, raised by 128 so that readings compare as numbers. -/
def tempOrd (t : Nat) : Nat := (t % 256 + 128) % 256

/-- The higher of two signed readings. -/
def maxTemp (a b : Nat) : Nat := if tempOrd a < tempOrd b then b else a

/-- THROTTLE_LEVEL_CHANGE: the level the highest junction calls for, with 5 °C of hysteresis (R514). -/
def throttleNext (lvl maxC l1 : Nat) : Nat :=
  let t := tempOrd maxC
  if lvl = 3 then 3
  else if t ≥ l1 + 8 + 128 ∨ (lvl = 2 ∧ t ≥ l1 + 3 + 128) then 2
  else if t ≥ l1 + 128 ∨ (lvl ≥ 1 ∧ t ≥ l1 - 5 + 128) then 1
  else 0

/-- Enter a throttle level: its event, and the headgate's new allowance (R500, R514). -/
def setThrottle (n : Nat) (s : State) : State :=
  let old := s.get Reg.PWR_THERM_STATE_LEVEL
  if n = old then s
  else
    let s := s.put Reg.PWR_THERM_STATE_LEVEL n
    let s := if n < old then raise 0x0203 n 0 s else raise (if n = 1 then 0x0201 else if n = 2 then 0x0202 else 0x0204) 0 0 s
    hgServe s

/-- Write the readings from sensor `i` on; `bad` names the sensors that read out of range or disagree with their neighbours. -/
def putTemps (bad : List Nat) : Nat → List Nat → State → State
  | _, [], s => s
  | i, t :: ts, s =>
    let ok := !(bad.contains i)
    let was := s.flag (Reg.PWR_TEMP_VALID i)
    let s := (s.put (Reg.PWR_TEMP_TEMP_C i) t).put (Reg.PWR_TEMP_VALID i) (b2n ok)
    putTemps bad (i + 1) ts (if was && !ok then raise 0x0205 i t s else s)

/-- Whether sensor i of a sample counts: present and not invalid (R513). -/
def sensorOk (temps bad : List Nat) (i : Nat) : Bool := !(bad.contains i) && decide (i < temps.length)

/-- The highest valid junction reading among the island and loft sensors (R513). -/
def hottest (temps bad : List Nat) : Nat := ((List.range 32).filter (sensorOk temps bad)).foldl (fun m i => maxTemp m (temps.getD i 0)) 0x80

/-- The level a sample calls for: by the hottest junction, and at least 2 with fewer than 20 valid island sensors (R513, R514). -/
def sampleLevel (temps bad : List Nat) (lvl l1 : Nat) : Nat :=
  let n := throttleNext lvl (hottest temps bad) l1
  if ((List.range 28).filter (sensorOk temps bad)).length < 20 then Nat.max n 2 else n

/-- The readings of a sample, as PWR_TEMP and PWR_THERM_STATE show them. -/
def readTemps (temps bad : List Nat) (s : State) : State :=
  let s := putTemps bad 0 temps s
  let s := (s.put Reg.PWR_THERM_STATE_MAX_C (hottest temps bad)).put Reg.PWR_THERM_STATE_INVALID (bad.filter (· < 35)).length
  if sensorOk temps bad 34 then s.put Reg.PWR_THERM_STATE_LID_C (temps.getD 34 0) else s

/-- A lid reading above 85 °C (R515). -/
def lidHot (temps bad : List Nat) : Bool := sensorOk temps bad 34 && decide (tempOrd (temps.getD 34 0) > 85 + 128)

/-- TEMPERATURE_SAMPLE: 35 readings (signed bytes) and the sensors marked invalid; the highest valid junction sets the throttle
level, fewer than 20 valid island sensors act as level 2, and a lid above 85 °C raises event 0x0206 (R513 to R515). -/
def execTemperatureSample (temps : List Nat) (bad : List Nat) (s : State) : Out :=
  onLive s fun s =>
    let temps := temps.take 35
    let t := setThrottle (sampleLevel temps bad (s.get Reg.PWR_THERM_STATE_LEVEL) (s.get Reg.PWR_THERM_CFG_LEVEL1_C)) (readTemps temps bad s)
    if lidHot temps bad then raiseW 0x0206 0 (temps.getD 34 0) (eventSource 0x0206 0) 60000000 t else t

/-- THERMAL_SHUTDOWN: event 0x0204, the headgate withdraws, the module fences itself or, serving alone, stops all service; the spill
stream runs on input power where one is due, and STANDBY follows (R514); ignored in SPILL (R516). -/
def execThermalShutdown (s : State) : Out :=
  onLive s fun s =>
    if s.mode = .spill || s.mode = .standby then s
    else
      let t := hgWithdraw (setThrottle 3 s)
      let t := if s.alone then stopService t else if s.serving then fenceSelf t else t
      if s.spills then spillOnInput .standby s.mode.code t else applyAfter .standby s.mode.code false true t

/-- THERMAL_SHUTDOWN_EXIT: every junction below 85 °C; with AUTO_START the module leaves STANDBY (R514, R528). -/
def execThermalShutdownExit (s : State) : Out :=
  onLive s fun s =>
    if s.mode = .standby && s.pwr.thermHold && s.pwr.inReset != some 0 then
      let s := setThrottle 0 (s.onPwr fun x => { x with thermHold := false, inReset := none })
      if s.get Reg.MOD_CFG_AUTO_START = 1 then enterBringup s else s
    else s

/-- The eight bytes of a heartbeat word (R114). -/
def heartbeatWord (s : State) : List Byte :=
  let b0 := s.get Reg.MOD_STATE_MODE + 16 * s.get Reg.TIR_HAS_CFG_PAIR_POS + 32 * b2n s.fenced + 64 * s.get Reg.TWN_STATE_DEGRADED + 128 * b2n s.pwr.pfOut
  let b1 := s.get Reg.TWN_STATE_PORT4_UP + 2 * s.get Reg.TWN_STATE_PORT5_UP + 4 * s.get Reg.TWN_STATE_CABLE_FAULT
  let bytes := leBytes 2 (b0 + 256 * b1) ++ leBytes 2 s.twn.slot ++ leBytes 2 s.twn.heldN ++ leBytes 1 0
  bytes ++ leBytes 1 (Config.crc8 bytes)

/-- µs with credits withheld: RwD credits once the queue is full, Req credits while messages wait for tickets (R313, R314); µs pausing and paused (R357). -/
def tickPorts (s : State) : State :=
  let s := (List.range 8).foldl (fun s p =>
    let s := if (s.hpt.rwd.filter (fun m => m.port == p)).length ≥ s.get (Reg.HPT_CRD_CFG_RWD p) then s.inc (Reg.HPT_STAT_COUNT p 5) else s
    if s.hpt.req.any (fun m => m.port == p) then s.inc (Reg.HPT_STAT_COUNT p 6) else s) s
  (List.range 4).foldl (fun s p =>
    let s := if s.flag (Reg.ETH_PORT_STATE_PAUSING p) then s.inc (Reg.ETH_PORT_STAT_COUNT p 4) else s
    if s.flag (Reg.ETH_PORT_STATE_PAUSED p) then s.inc (Reg.ETH_PORT_STAT_COUNT p 5) else s) s

/-- A new second begins: the violation counts of the current one start again. -/
def tickSecond (s : State) : State :=
  let s := ((s.put Reg.TWN_VIOL_CABLE 0).put Reg.TWN_VIOL_PORT4 0).put Reg.TWN_VIOL_PORT5 0
  let s := (List.range 8).foldl (fun s p => s.put (Reg.HPT_VIOL_CURRENT p) 0) s
  (List.range 4).foldl (fun s p => s.put (Reg.ETH_VIOL_CURRENT p) 0) s

/-- Counters that count µs (PWR_STAT 6 and 7, PWR_HG_STAT 4 and 5, TIR_CST_STAT 3 and 4). -/
def tickCounters (s : State) : State :=
  let lvl := s.get Reg.PWR_THERM_STATE_LEVEL
  let s := if lvl = 1 then s.inc (Reg.PWR_STAT_COUNT 6) else if lvl = 2 then s.inc (Reg.PWR_STAT_COUNT 7) else s
  let s := if s.flag Reg.PWR_HG_STATE_STOPPED then s.inc (Reg.PWR_HG_STAT_COUNT 4) else s
  let s := if (waitingOf true s.pwr.hgWait).isEmpty then s else s.inc (Reg.PWR_HG_STAT_COUNT 5)
  let adm := s.get Reg.TIR_CST_STATE_ADMIT
  if adm = 1 then s.inc (Reg.TIR_CST_STAT_COUNT 3) else if adm = 2 then s.inc (Reg.TIR_CST_STAT_COUNT 4) else s

/-- A powered day since the last discharge test has passed (PWR_BANK_MEAS.AGE_DAYS), and the expiries of the last 60 s (FMN_STATE.EXPIRIES). -/
def tickAges (s : State) : State :=
  let s := if s.pwr.testAt < s.epoch && (s.epoch - s.pwr.testAt) % 86400000000 == 0 then
      s.addSat Reg.PWR_BANK_MEAS_AGE_DAYS 1
    else s
  if s.fmn.expiries.isEmpty then s
  else s.put Reg.FMN_STATE_EXPIRIES (s.fmn.expiries.filter (fun e => decide (s.epoch < e + 60000000))).length

/-- What a tick does in island 0 and to the counters and rates that follow the epoch. -/
def tickOwn (s : State) : State :=
  let s := tickAges (tickCounters (s.inc Reg.CLK_EPOCH_EPOCH))
  let s := if s.get Reg.MOD_BRINGUP_RUNNING = 1 && s.epoch % 1000 == 0 then s.inc Reg.MOD_BRINGUP_ELAPSED_MS else s
  let s := if (s.get Reg.ECC_INIT_STATE_STATE = 1 || s.get Reg.ECC_INIT_STATE_STATE = 2) && s.epoch % 1000 == 0 then s.inc Reg.ECC_INIT_STATE_ELAPSED_MS else s
  let s := s.put Reg.EVR_TIME_OP_TIME_MS (s.opTime.getD 0)
  let s := if s.get Reg.FST_STATE_OP = 0 then s else s.addSat Reg.FST_OP_ELAPSED_US 1
  let s := s.put Reg.TIR_DRN_STATE_RATE (satAt 0xFFFF (windowBytes s.epoch s.cis.drained / 10000))
  let s := if s.epoch % 1000000 = 0 then tickSecond s else s
  let s := if s.epoch ≥ s.twn.wordAt + 4 then s.put Reg.TWN_STATE_TWIN_MODE 0 else s
  s.put Reg.TWN_RSY_STATE_RATE (satAt 0xFFFF (windowBytes s.epoch s.twn.streamBytes / 10000))

/-- A heartbeat word leaves on the pair cable (R114). -/
def sendWord (s : State) : State :=
  ((s.send (.heartbeat (heartbeatWord s))).onTwn fun x => { x with slot := (x.slot + 1) % 65536 }).inc (Reg.TWN_HB_STAT_COUNT 1)

/-- The non-volatile copy of the age of the bank measurement, from which a cold start restores PWR_BANK_MEAS.AGE_DAYS. -/
def keepAge (s : State) : State := s.onStore fun x => { x with bankAge := s.get Reg.PWR_BANK_MEAS_AGE_DAYS }

/-- Errors older than 24 h leave the rolling window, and ECC_DEV_CE with them (R294). -/
def ageErrs (s : State) : State :=
  let old := s.tir.errs.filter (fun e => decide (e.2 + 86400000000 ≤ s.epoch))
  let s := old.foldl (fun s e => if e.1 < 640 then s.sub (Reg.ECC_DEV_CE_COUNT (e.1 / 40) (e.1 % 40)) 1 else s) s
  s.onTir fun x => { x with errs := x.errs.filter (fun e => decide (s.epoch < e.2 + 86400000000)) }

/-- EPOCH_TICK: the epoch advances by one; while islands 1–27 run, a heartbeat word leaves on the pair cable (R12, R114). -/
def execEpochTick (s : State) : Out :=
  onLive s fun s =>
    let s := keepAge (ageErrs (tickOwn s))
    if s.up then sendWord (tickPorts s) else s

/-! ### Mailbox commands of group 0x0C (R518) -/

/-- The response of POWER_STATUS (R518). -/
def powerStatusBytes (s : State) : List Byte :=
  leBytes 2 (s.get Reg.PWR_IN_STATE_VIN) ++ leBytes 2 (s.get Reg.PWR_IN_STATE_IIN) ++
    leBytes 2 (s.get Reg.PWR_IN_STATE_PIN) ++ leBytes 2 (s.get Reg.PWR_BANK_STATE_VBANK) ++ leBytes 2 (s.get Reg.PWR_BANK_STATE_VREQ) ++
    leBytes 2 (s.get Reg.PWR_BANK_MEAS_C) ++ leBytes 2 (s.get Reg.PWR_BANK_MEAS_ESR) ++ leBytes 2 (s.get Reg.PWR_BANK_MEAS_E) ++
    leBytes 2 (s.get Reg.PWR_BANK_MEAS_AGE_DAYS) ++ leBytes 1 (s.get Reg.PWR_BANK_STATE_STATE) ++ leBytes 1 (s.get Reg.PWR_THERM_STATE_LEVEL) ++
    leBytes 1 (s.get Reg.PWR_THERM_STATE_MAX_C) ++ leBytes 1 (s.get Reg.PWR_THERM_STATE_LID_C) ++ leBytes 2 0 ++ leBytes 8 s.epoch ++ leBytes 32 0

/-- POWER_STATUS (R518). -/
def execPowerStatus (m : Nat) (s : State) : Out := onCmd m 0x0C01 s fun s => complete m (powerStatusBytes s) s

/-- DISCHARGE_TEST: runs at once under R506's conditions and completes once its results are recorded (R518). -/
def execDischargeTest (m : Nat) (s : State) : Out :=
  onCmd m 0x0C02 s fun s =>
    if !(s.serving || s.mode = .quiesced) then refuse m .wrongMode noDetail s
    else if !(testAllowed s) || testFloorOf s > 9000 then refuse m .notPermitted noDetail s
    else startTest (s.onPwr fun x => { x with testMbx := some m })

/-- The response of HEADGATE_STATUS (R518). -/
def headgateBytes (s : State) : List Byte :=
  leBytes 2 (allowanceOf s) ++ leBytes 2 (heldTokens s.pwr.hgHeld) ++
    leBytes 2 (waitingOf true s.pwr.hgWait).length ++ leBytes 2 (waitingOf false s.pwr.hgWait).length ++
    leBytes 1 (s.get Reg.PWR_HG_STATE_STOPPED + 2 * s.get Reg.PWR_HG_STATE_WITHDRAWN) ++ leBytes 7 0 ++
    (List.range 6).flatMap (fun k => leBytes 8 (s.get (Reg.PWR_HG_STAT_COUNT k)))

/-- HEADGATE_STATUS (R518). -/
def execHeadgateStatus (m : Nat) (s : State) : Out := onCmd m 0x0C03 s fun s => complete m (headgateBytes s) s

end Sys2Proof.Machine
end

