-- ==== Sys2Proof/Machine/Bringup.lean ====
section
/-!
DEFINITION. Sys2Proof/Machine/Bringup.lean: the steps of bring-up, the initialization sweep, the restore and the replay (R285 to R289, R529 to R537; R104 to R110,
R218, R220, R254, R480, R562, R564).
-/
namespace Sys2Proof.Machine

open Sys2Proof

/-! ### Steps and lines (R533) -/

/-- Step k has ended. -/
def stepEnded (k : Nat) (s : State) : Bool := bitOf k (s.get Reg.MOD_BRINGUP_STEPS)

/-- Mark step k as ended. -/
def endStep (k : Nat) (s : State) : State := s.put Reg.MOD_BRINGUP_STEPS (setBit (s.get Reg.MOD_BRINGUP_STEPS) k true)

/-- Step k is under way: every step of the lines before its own has ended, it has not, and with the footing offline steps 8 to 10 do not run (R533, R536). -/
def stepRuns (k : Nat) (s : State) : Bool :=
  let before := if k < 2 then k else if k < 7 then 2 else k
  (List.range before).all (fun i => stepEnded i s) && !(stepEnded k s) && decide (k < 11) && !(decide (8 ≤ k) && !(footingReady s))

/-- Steps the foreman carries out: they wait for a restart to end (R533). -/
def foremanStep (k : Nat) : Bool := k == 0 || k == 1 || k == 2

/-! ### Step 0: ROM boot (R529, R530) -/

/-- Extend a measurement register. -/
def measure (i digest : Nat) (s : State) : State := s.put (Reg.MOD_MEAS_DIGEST i) (Config.extend (s.get (Reg.MOD_MEAS_DIGEST i)) digest)

/-- The ROM verifies the active slot, then the other one; with neither the module enters RECOVERY. -/
def bootStep (f : BringupFacts) (s : State) : State :=
  let s := measure 0 f.rom s
  let active := (newestMarker s).slot
  if f.slot = 0 then measure 1 f.digest (s.put Reg.MOD_STATE_BOOT_SLOT active)
  else
    let s := s.put Reg.MOD_STATE_FALLBACK 1
    if f.slot = 1 then
      measure 1 f.digest (raise 0x0D04 active 0 ((s.inc (Reg.MOD_STAT_COUNT 3)).put Reg.MOD_STATE_BOOT_SLOT (1 - active)))
    else enterRecovery (raise 0x0D05 0 0 s)

/-- The slot with the higher spill number, and its image. -/
def topSlot (s : State) : Option (Nat × SpillImage) :=
  match s.med.slot0, s.med.slot1 with
  | some a, some b => if a.number < b.number then some (1, b) else some (0, a)
  | some a, none => some (0, a)
  | none, some b => some (1, b)
  | none, none => none

/-! ### Step 1: records (R42, R60, R480, R507, R564) -/

/-- Give a recorded value to the field of its key. -/
def loadField (e : Nat × Nat) (s : State) : State :=
  match regAt (e.1 / 512) with
  | none => s
  | some (r, base) =>
    match r.fields.find? (fun f => decide (base * 512 + f.lo = e.1)) with
    | some f => s.put ⟨e.1, f.width, f.reset⟩ e.2
    | none => s

/-- A recorded OUT keeps a floor channel or a loft stack out of service; no other action outlasts a stop (R484). -/
def loadUnit (u : Nat) (s : State) : State :=
  let a := s.get (Reg.FRM_UNIT_CTL_ACTION u)
  if a = 2 ∧ (unitClass u = 2 ∨ unitClass u = 3) then (s.put (Reg.FRM_UNIT_STATE_STATE u) 3).put (Reg.FRM_UNIT_STATE_CAUSE u) 1
  else s.put (Reg.FRM_UNIT_CTL_ACTION u) 0

/-- The joiners and cores recorded as mapped out stay out (R384, R425). -/
def loadMapOuts (s : State) : State :=
  let s := (List.range 64).foldl (fun s j => s.put (Reg.JNB_JOINER_CTL_MAP_OUT (j / 8) (j % 8)) 0) s
  let s := (List.range 16).foldl (fun s c => s.put (Reg.CPH_CORE_CTL_MAP_OUT c) 0) s
  let s := s.store.mapOutJ.foldl (fun s e => mapOutJoiner e.1 e.2 s) s
  s.store.mapOutC.foldl (fun s e =>
    ((s.put (Reg.CPH_CORE_CTL_MAP_OUT e.1) 1).put (Reg.CPH_CORE_STATE_STATE e.1) 2).put (Reg.CPH_CORE_STATE_CAUSE e.1) e.2) s

/-- The reach table as the stop left it: a handover that was under way leaves its reach ACTIVE with the owner it had (R42, R60). -/
def loadReaches (s : State) : State :=
  let s := s.store.reachRegs.foldl (fun s e => loadField e s) (s.onTir fun x => { x with tabled := true })
  (List.range 4096).foldl (fun s n => if reachState s n = 2 then s.put (Reg.TIR_REACH_STATE n) 1 else s) s

/-- The first bring-up of a power cycle counts it, programs the count, and completes the records made before (R564). -/
def countCycle (s : State) : State :=
  match s.evr.cycles with
  | some _ => s
  | none =>
    let n := s.store.cycles + 1
    let s := s.onStore fun x => { x with cycles := n }
    s.onEvr fun x => { x with cycles := some n, opBase := s.store.opBase, opEpoch := 0,
                              buf := x.buf.map (fun (r : LogRec) => { r with cycles := some n, opTime := some (s.store.opBase + r.epoch / 1000) }) }

/-- The records of the firmware store are loaded: configuration, units, map-outs, generation, twin, reach table, spillway layout, journals, bank measurement. -/
def recordsStep (f : BringupFacts) (s : State) : State :=
  let s := s.store.cfg.foldl (fun s e => loadField e s) s
  let s := (List.range 66).foldl (fun s u => loadUnit u s) s
  let s := loadReaches (loadMapOuts s)
  let s := ((s.put Reg.TWN_GEN_GEN s.store.gen).put Reg.TWN_TWIN_ID_ID s.store.twinId).put Reg.TIR_HAS_CFG_PAIR_POS f.pos
  let s := (List.range 4096).foldl (fun s n =>
    if reachState s n = 0 then s else s.put (Reg.TIR_REACH_LOCAL_OWNED n) (b2n (s.get (Reg.TIR_REACH_OWNER n) == s.pos))) s
  let s := s.put Reg.CPH_WRAP_STATE_ENTRIES s.store.wraps.length
  let s := jrnlSync (storeSync (spillwaySync ((s.put Reg.SLC_SPILLWAY_UNITS_PER_SLOT s.med.units).put Reg.SLC_SPILLWAY_LAST_SLOT (match topSlot s with | some t => t.1 | none => 0))))
  hgSync (resizeCistern (measure 3 f.digest (countCycle s)))

/-! ### Steps 2 to 6: joinery, self-tests, training (R218, R220, R222, R264, R288, R289, R384, R422, R425, R554) -/

/-- The boot joinery goes into every bay with a joiner that is not mapped out; when its signature fails no bay loads. -/
def joineryStep (i : JoinImage) (s : State) : State :=
  if !i.sigOk then raise 0x0A06 0 (newestMarker s).joinery s
  else ((List.range 8).filter (fun b => decide (bayJoiners s b > 0))).foldl (fun s b => (beginLoad b i s).put (Reg.JNB_BAY_STATE_STATE b) 3) s

/-- The joiners' self-test: those that fail are mapped out, with event 0x0A02. -/
def joinerStep (f : BringupFacts) (s : State) : State :=
  (f.fails.filter (fun j => decide (j < 64) && s.get (Reg.JNB_JOINER_STATE_MAPPED_OUT (j / 8) (j % 8)) == 0)).foldl (fun s j =>
    raise 0x0A02 j 1 (mapOutJoiner j 1 (s.addSat (Reg.JNB_JOINER_STATE_FAULTS (j / 8) (j % 8)) 1))) s

/-- The cores' known-answer tests; with fewer than four cores the module enters RECOVERY (R384, R385). -/
def coreStep (f : BringupFacts) (s : State) : State :=
  let s := (f.fails.filter (fun c => decide (c < 16) && s.get (Reg.CPH_CORE_STATE_STATE c) != 2)).foldl (fun s c => mapCoreOut c 1 s) s
  let s := coreSync s
  if coresInService s < 4 then enterRecovery (raise 0x080A 0 (coresInService s) s) else s

/-- Put a set of numbers into a bit field. -/
def bitsSet (l : List Nat) (n : Nat) : Nat := (l.filter (· < n)).foldl (fun v i => setBit v i true) 0

/-- The boards and dies found, and the channels that cannot be used (R220, R222, R255, R289). -/
def footingFound (f : BringupFacts) (s : State) : State :=
  let s := (List.range 8).foldl (fun s b => s.put (Reg.SLC_BOARD_STATE_STATE b) (if bitOf b f.boards then 0 else 2)) s
  let s := (List.range 32).foldl (fun s c =>
    if bitOf (c / 4) f.boards then
      ((s.put (Reg.SLC_CH_STATE_STATE c) 1).put (Reg.SLC_CH_STATE_DIES_PRESENT c) (f.dies.getD c 0)).put (Reg.SLC_CH_STATE_DIE_PROFILE c) (s.get (Reg.SLC_CH_CFG_PROFILE c))
    else s) s
  let s := (f.mismatch.filter (fun c => decide (c < 32) && bitOf (c / 4) f.boards)).foldl (fun s c =>
    raise 0x040B c 0 ((s.put (Reg.SLC_CH_STATE_MISMATCH c) 1).put (Reg.SLC_BOARD_STATE_STATE (c / 4)) 2)) s
  ((f.untrained ++ f.decoders.filter (fun c => !(f.untrained.contains c))).filter (fun c => decide (c < 32) && bitOf (c / 4) f.boards)).foldl (fun s c =>
    let s := raise 0x040F c 0 (sluiceFailed c s)
    if s.get (Reg.SLC_BOARD_STATE_STATE (c / 4)) = 2 then s else boardAbsent (c / 4) true s) s

/-- Die positions common to the channels of the boards that are present (R220). -/
def commonDies (f : BringupFacts) : Nat :=
  popCount 16 ((List.range 32).foldl (fun m c => if bitOf (c / 4) f.boards then m &&& f.dies.getD c 0 else m) 0xFFFF)

/-- Loft stacks that can hold what the module places on them: neither failed nor out of service. -/
def healthyStacks (s : State) : List Nat := (List.range 4).filter (fun n => unitState s (30 + n) == 0)

/-- The stacks of the cistern's copies when one of the pair configured is not healthy: its healthy stack, or the lowest, and the lowest other (R80, R81). -/
def placeCistern (s : State) : State :=
  let up := healthyStacks s
  let pair := stackPair (s.inForce Reg.TIR_CST_CFG_STACKS)
  if pair.all up.contains then s
  else
    let first := (pair.find? up.contains).getD (up.headD 0)
    s.onCis fun x => { x with survivor := some first, newStack := (up.filter (· != first)).head? }

/-- The checkers' self-test and the training of stacks, floor channels and sluices: each failure is recorded with its event and keeps its unit out; too few stacks, a
failed CHECK or on-die checker, or too few die positions end in RECOVERY. -/
def checkerStep (f : BringupFacts) (s : State) : State :=
  let s := (List.range 32).foldl (fun s k =>
    let d := f.dimms.getD k (0, 0, 0)
    ((s.put (Reg.FLC_DIMM_GIB (k / 2) (k % 2)) d.1).put (Reg.FLC_DIMM_RANKS (k / 2) (k % 2)) d.2.1).put (Reg.FLC_DIMM_VENDOR (k / 2) (k % 2)) d.2.2) s
  let s := (s.put Reg.ECC_SELFTEST_ONDIE_FAIL (b2n f.ondie)).put Reg.ECC_SELFTEST_CISTERN_FAIL (b2n f.cistern)
  let s := (s.put Reg.ECC_SELFTEST_LOFT_FAIL (bitsSet f.lofts 4)).put Reg.ECC_SELFTEST_FLOOR_FAIL (bitsSet f.floors 16)
  let s := s.put Reg.ECC_SELFTEST_SLC_SLUICE_FAIL (bitsSet f.decoders 32)
  let s := (f.lofts.filter (· < 4)).foldl (fun s n => raise 0x030D (30 + n) 0 (unitFault (30 + n) s)) s
  let s := (List.range 16).foldl (fun s c => s.put (Reg.FLC_CH_STATE_REFUSED c) (b2n (f.refused.contains c))) s
  let s := ((f.floors ++ f.refused.filter (fun c => !(f.floors.contains c))).filter (· < 16)).foldl (fun s c =>
    raise 0x030D (14 + c) 0 (unitFault (14 + c) s)) s
  let s := ((List.range 20).filter (fun k => unitState s (14 + k) == 0)).foldl (fun s k => trained (14 + k) s) s
  let s := (f.decoders.filter (· < 32)).foldl (fun s c => raise 0x030D (34 + c) 0 s) s
  let s := if f.cistern || f.ondie then raise 0x030D 66 (b2n f.ondie) s else s
  let s := placeCistern (footingFound f s)
  if f.cistern || f.ondie || decide ((healthyStacks s).length < 2) || (decide (f.boards % 256 > 0) && decide (commonDies f < 4)) then enterRecovery s else s

/-- The bench parity self-test: each bank that passes is invalidated and enabled, the others stay DISABLED with event 0x0342 (R218). -/
def benchStep (f : BringupFacts) (s : State) : State :=
  let s := s.put Reg.ECC_SELFTEST_BENCH_FAIL (bitsSet f.fails 16)
  (List.range 16).foldl (fun s b =>
    if f.fails.contains b then raise 0x030D (80 + b) 0 (raise 0x0342 b 0 (s.put (Reg.BCH_BANK_CTL_ENABLE b) 0))
    else ((s.put (Reg.BCH_BANK_CTL_ENABLE b) 1).put (Reg.BCH_BANK_STATE_STATE b) 1).put (Reg.BCH_BANK_STATE_INVALIDATED b) 0) s

/-- ECC_INIT_STATE.HG_WAIT: a sweep waits for its tokens. -/
def initSync (s : State) : State :=
  s.put Reg.ECC_INIT_STATE_HG_WAIT (b2n (s.pwr.hgWait.any (fun r => match r.owner with | .sweepLoft _ => true | .sweepFloor _ => true | _ => false)))

/-- The line of steps 2 to 6 has ended: too few joiners end in RECOVERY; otherwise the loft sweep starts, with its tokens (R285, R426, R501). -/
def lineEnd (s : State) : State :=
  let s := joinersPut s
  let n := joinersInService s
  let fails := s.get Reg.ECC_SELFTEST_ONDIE_FAIL + s.get Reg.ECC_SELFTEST_CISTERN_FAIL + s.get Reg.ECC_SELFTEST_LOFT_FAIL + s.get Reg.ECC_SELFTEST_FLOOR_FAIL +
    s.get Reg.ECC_SELFTEST_BENCH_FAIL + s.get Reg.ECC_SELFTEST_SLC_SLUICE_FAIL
  let s := (s.put Reg.ECC_SELFTEST_DONE 1).put Reg.ECC_SELFTEST_PASS (b2n (fails == 0))
  if n < 32 then enterRecovery (raise 0x0A0E 0 n s)
  else
    let s := setBlock 4 false (degradedSync (if n < 56 then raise 0x0A0D 0 n s else s))
    let s := (s.put Reg.ECC_INIT_STATE_STATE 1).put Reg.ECC_INIT_STATE_ELAPSED_MS 0
    initSync ((healthyStacks s).foldl (fun s k => (hgRequest { owner := .sweepLoft k, h0 := true, tokens := 200 } s).2) s)

/-! ### The sweep (R285 to R287) -/

/-- LOFT_STACK_SWEPT: a stack whose sweep holds its tokens is swept; its frames join the loft pool. -/
def execLoftStackSwept (stack : Nat) (s : State) : Out :=
  onUp s fun s =>
    if stack ≥ 4 ∨ hgHolds s (.sweepLoft stack) = false then s
    else
      let s := s.put Reg.ECC_INIT_STATE_STACKS_DONE (setBit (s.get Reg.ECC_INIT_STATE_STACKS_DONE) stack true)
      settle (poolSync (initSync (hgReturn (.sweepLoft stack) s)))

/-- Floor channels in use: populated and in service. -/
def floorChannels (s : State) : List Nat :=
  (List.range 16).filter (fun c => unitState s (14 + c) == 0 && decide (s.get (Reg.FLC_DIMM_GIB c 0) + s.get (Reg.FLC_DIMM_GIB c 1) > 0))

/-- FLOOR_CHANNEL_SWEPT: the channel's frames join the floor pool; once every channel in use is swept, event 0x0313. -/
def execFloorChannelSwept (channel : Nat) (s : State) : Out :=
  onUp s fun s =>
    if channel ≥ 16 ∨ hgHolds s (.sweepFloor channel) = false then s
    else
      let s := s.put Reg.ECC_INIT_STATE_CHANNELS_DONE (setBit (s.get Reg.ECC_INIT_STATE_CHANNELS_DONE) channel true)
      let s := settle (poolSync (initSync (hgReturn (.sweepFloor channel) s)))
      if s.get Reg.ECC_INIT_STATE_STATE = 2 ∧ (floorChannels s).all (fun c => bitOf c (s.get Reg.ECC_INIT_STATE_CHANNELS_DONE))
      then raise 0x0313 0 0 (s.put Reg.ECC_INIT_STATE_STATE 3) else s

/-- The floor sweep starts, with its tokens. -/
def startFloor (s : State) : State :=
  initSync ((floorChannels s).foldl (fun s c => (hgRequest { owner := .sweepFloor c, h0 := true, tokens := 120 } s).2) (s.put Reg.ECC_INIT_STATE_STATE 2))

/-- Volatile reaches the floor can back: each takes 64 GiB on either half of the channels, and the metadata of every reach comes first (R35, R163). -/
def volLimit (s : State) : Nat :=
  let gib := fun (cs : List Nat) => (cs.filter (fun c => (floorChannels s).contains c)).foldl (fun n c => n + s.get (Reg.FLC_DIMM_GIB c 0) + s.get (Reg.FLC_DIMM_GIB c 1)) 0
  let low := gib (List.range 8)
  let high := gib ((List.range 8).map (· + 8))
  let free := (low + high) * 65536 - reachesOf 0 s * 8192 - 65536
  satAt 4096 (Nat.min (free / (8388608 + 4096)) (Nat.min (low / 64) (high / 64)))

/-! ### Step 8: the restore (R254, R535, R562, R564) -/

/-- The slot taken is kept until a serving mode is entered, the other one is erased (R254). -/
def takeSlotAt (j : Nat) (s : State) : State := eraseSlot (1 - j) (s.onMed fun x => { x with restored := some j })

/-- A spill newer than the clean-stop record. -/
def newerSpill (s : State) (im : SpillImage) : Bool :=
  match s.store.cleanStop with
  | some n => decide (im.number > n)
  | none => true

/-- The logbook's records are numbered, the restored ones coming first (R562, R565). -/
def numberLog (restored : List LogRec) (s : State) : State :=
  let old := restored.map (fun (r : LogRec) => { r with spilled := true, isOpen := false })
  let top := ((s.evr.store ++ old).filterMap LogRec.seq).foldl Nat.max 0
  match s.evr.nextSeq with
  | some _ => evrSync s
  | none =>
    let buf := old ++ s.evr.buf
    let r := buf.foldl (fun (a : List LogRec × Nat) (r : LogRec) => match r.seq with
      | some _ => (a.1 ++ [r], a.2)
      | none => (a.1 ++ [{ r with seq := some a.2 }], a.2 + 1)) ([], top + 1)
    evrSync ((s.onEvr fun x => { x with buf := r.1, nextSeq := some r.2 }).add (Reg.EVR_STAT_COUNT 5) old.length)

/-- The operating-time base after the restore: the time between the base's epoch and the spill's is added once per power cycle (R564). -/
def restoreTime (im : Option SpillImage) (s : State) : State :=
  if !s.pwr.justOn then s
  else
    let add := match im with | some i => (i.epoch - s.store.opAt) / 1000 | none => 0
    let s := s.onEvr fun x => { x with opBase := x.opBase + add }
    (s.onStore fun x => { x with opBase := s.evr.opBase, opAt := 0 }).onPwr fun x => { x with justOn := false }

/-- The image's records, pair state, generation, bitmap and void list come back (R149, R253). -/
def restoreImage (im : SpillImage) (s : State) : State :=
  let recs := im.recs.map (fun (r : Rec) =>
    { r with held := true, visible := true, applied := r.retired || (!r.isData && r.applied) || r.kind = RecKind.xlate || r.kind = RecKind.pad })
  let s := s.onCis fun x => { x with recs := recs, applied := im.applied, assigned := im.assigned, journal := Nat.max x.journal im.journal }
  let s := (s.put Reg.TIR_CST_HEAD_POS im.head).put Reg.TIR_CST_TAIL_POS im.tail
  let s := s.onTwn fun x => { x with cub := im.cub, coarse := im.coarse, voids := im.voids, voidWhole := im.voidWhole }
  let s := s.onStore fun x => { x with stopState := im.pairState }
  let s := ((s.put Reg.PWR_SPILL_LOG_DURATION_US im.duration).put Reg.PWR_SPILL_LOG_ENERGY im.energy).put Reg.PWR_SPILL_LOG_VBANK_END im.vbank
  admitSync (cubSync (setGen (Nat.max (s.get Reg.TWN_GEN_GEN) im.gen) s))

/-- With nothing restored each reach stands at its last retired number: LAST_SEQ as recorded after a clean stop, and after a failed restore the highest SNAP_SEQ
that the footing holds under the last checkpoints (R42, R134). -/
def restoreNothing (failed : Bool) (s : State) : State :=
  (List.range 4096).foldl (fun s n =>
    if reachState s n = 0 ∨ volatileReach s n = true then s
    else
      let last := if failed then
          (s.med.ckpt.filter (fun e => granReach e.1 == n)).foldl (fun m e => match tfind e.2.locator s.med.stored with | some q => Nat.max m q.snap | none => m) 0
        else s.get (Reg.TIR_REACH_SEQ_LAST_SEQ n)
      (s.put (Reg.TIR_REACH_SEQ_LAST_SEQ n) last).onCis fun x => { x with applied := tset 0 n last x.applied, assigned := tset 0 n last x.assigned }) s

/-- The restore outcome of R535. -/
def restoreStep (f : BringupFacts) (s : State) : State :=
  let good := match topSlot s with | some (_, im) => im.committed && f.readable && newerSpill s im | none => false
  let newer := [s.med.slot0, s.med.slot1].any (fun o => match o with | some im => im.committed && newerSpill s im | none => false)
  let top := topSlot s
  let s := match top with
    | some (j, im) => if good then restoreImage im (takeSlotAt j s) else takeSlotAt j s
    | none => s
  let im := if good then top.map Prod.snd else none
  let s := restoreTime im (numberLog (match im with | some i => i.log | none => []) s)
  if good then (s.put Reg.MOD_STATE_RESTORE 1).inc (Reg.MOD_STAT_COUNT 4)
  else if s.store.cleanStop.isSome && !newer then (restoreNothing false s).put Reg.MOD_STATE_RESTORE 2
  else raise 0x0D06 0 0 ((restoreNothing true s).put Reg.MOD_STATE_RESTORE 3 |>.inc (Reg.MOD_STAT_COUNT 5))

/-! ### Steps 9 and 10: translation and replay (R104 to R110) -/

/-- The translation is loaded from its checkpoints, and what it and the floor allow is computed (R36, R106, R163, R234). -/
def translationStep (s : State) : State :=
  let s := s.onTir fun x => { x with xlt := s.med.ckpt }
  let s := stripeSync (s.put Reg.TIR_HAS_CFG_REACH_LIMIT (reachLimit s))
  poolSync ((s.put Reg.TIR_HAS_CFG_VOL_LIMIT (volLimit s)).put Reg.EVR_STATE_STORE_ONLINE 1)

/-- Put a record into a list that is sorted by reach, number and part. -/
def sortIn (r : Rec) : List Rec → List Rec
  | [] => [r]
  | x :: xs => if x.reach < r.reach ∨ (x.reach = r.reach ∧ (x.seq < r.seq ∨ (x.seq = r.seq ∧ x.part ≤ r.part)))
      then x :: sortIn r xs else r :: x :: xs

/-- Records by reach, number and part. -/
def sortRecs (rs : List Rec) : List Rec := rs.foldl (fun l r => sortIn r l) []

/-- XLATE records that are not retired, in journal order, over the checkpointed translation; their pages are dirty (R106, R108). -/
def replayXlates (s : State) : State :=
  let rs := s.cis.recs.filter (fun r => r.kind = RecKind.xlate && !r.retired)
  let last := (rs.map Rec.seq ++ s.med.ckptSeq.map Prod.snd).foldl Nat.max 0
  let s := s.onCis fun x => { x with journal := Nat.max x.journal (last + 1) }
  let es := (sortRecs rs).flatMap (fun r => r.xlts)
  tailSync (es.foldl (fun s e => s.onTir fun x =>
    { x with xlt := tins e.granule e x.xlt, dirtyXlt := tset 0 (e.granule / 1024) (tget 0 (e.granule / 1024) x.dirtyXlt + 1) x.dirtyXlt }) s)

/-- The directory from the translation: FOOTED where an entry exists, and the content as the footing holds it (R33, R533). -/
def rebuildDirectory (s : State) : State :=
  s.tir.xlt.foldl (fun s e =>
    let s := modGran e.1 (fun (x : Gran) => { x with footed := true }) s
    match tfind e.2.locator s.med.stored with
    | some q => installLines e.1 allLines q.data q.poison s
    | none => s) s

/-- A record whose CHECK fails in both copies: where no twin can supply it every line that it covers is poisoned, with event 0x0309, and it stands as applied;
otherwise it is dropped, and the join supplies it (R109). -/
def replayBad (bad : List Nat) (s : State) : State :=
  let alone := s.store.stopState = PairState.solo.code ∨ s.store.stopState = PairState.resyncing.code
  let rs := s.cis.recs.filter (fun r => r.isData && !r.retired && bad.contains r.pos)
  if alone then
    rs.foldl (fun s r => raise 0x0309 r.reach r.seq (r.lines.foldl (fun s l => setPoison l true s) s))
      (s.onCis fun x => { x with recs := x.recs.map (fun (r : Rec) => if r.isData && bad.contains r.pos then { r with data := [], mask := 0 } else r) })
  else s.onCis fun x => { x with recs := x.recs.filter (fun r => !(r.isData && !r.retired && bad.contains r.pos)) }

/-- The parts of a number whose last part is missing are applied as they are: renumbered, so that no later number waits for them (R110). -/
def mendParts (rs : List Rec) : List Rec :=
  rs.map (fun (r : Rec) =>
    if r.isData then
      let mine := rs.filter (fun x => x.isData && x.reach == r.reach && x.seq == r.seq)
      if mine.any (fun x => x.last && mine.length == x.part + 1) then r
      else
        let k := (mine.filter (fun x => decide (x.part < r.part))).length
        { r with part := k, last := k + 1 == mine.length }
    else r)

/-- One record is applied in replay: to a floor copy that is made whole from the footing's content where none is there.  None while no swept frame is free. -/
def replayRec (r : Rec) (s : State) : Option State :=
  let g := lineGran r.line
  let made := if (s.gran g).cached then some s else allocFloor g allLines (s.gran g).age 0 s
  made.map (fun s => modRec r.pos (fun (x : Rec) => { x with applied := true })
    ((List.range (r.data.length / 64)).foldl (fun s i => applyLine r i s) (modGran g (coverLines 0) s)))

/-- What a REACH record does at its place in the sequence (R41, R108). -/
def replayReach (r : Rec) (s : State) : State :=
  let a := reachAction r
  let b := fun (i : Nat) => (r.data.getD i 0).toNat
  let s := if a = 0 ∧ reachState s r.reach = 0 then provisionReach r.reach (b 1 % 2) (b 2 % 2) s
    else if a = 1 ∧ reachState s r.reach ≠ 0 then releaseReach r.reach s
    else if a = 2 then (s.put (Reg.TIR_REACH_OWNER r.reach) (b 2)).put (Reg.TIR_REACH_LOCAL_OWNED r.reach) (b2n (b 2 % 2 == s.pos))
    else s
  modRec r.pos (fun (x : Rec) => { x with applied := true, retired := true }) s

/-- Replay of records in the order of their numbers: those at or below the number that was applied before the stop once more, over numbers that are retired; later
ones only while none is missing (R90, R108). -/
def replayAll : List Rec → State → Option State
  | [], s => some s
  | r :: rs, s =>
    let a := appliedTo s r.reach
    if r.seq > a + 1 then replayAll rs s
    else if r.isData then
      match replayRec r s with
      | none => none
      | some s => replayAll rs (if r.seq = a + 1 && numberApplied s r.reach r.seq then advance r.reach r.seq false s else s)
    else if r.kind = RecKind.void then
      let s := modRec r.pos (fun (x : Rec) => { x with applied := true, retired := true }) s
      replayAll rs (if r.seq = a + 1 then advance r.reach r.seq false s else s)
    else if r.kind = RecKind.reach && decide (r.seq ≤ a) then replayAll rs (replayReach r s)
    else replayAll rs s

/-- Step 10: the translation tail, the directory, then the records (R108); none while the replay waits for a frame. -/
def replayStep (f : BringupFacts) (s : State) : Option State :=
  let s := replayBad f.bad (rebuildDirectory (replayXlates s))
  let s := s.onCis fun x => { x with recs := mendParts x.recs }
  let todo := s.cis.recs.filter (fun r => !r.applied)
  let s := (todo.filter Rec.isData).foldl (fun s r => modGran (lineGran r.line) (fun (e : Gran) => { e with cistern := e.cistern + 1 }) s) s
  (replayAll (sortRecs todo) s).map (fun s => admitSync (freeSegments (segments s) (poolSync s)))

/-! ### Step 11 and what follows (R534 to R537) -/

/-- MOD_STATE.SERVE_BLOCK as its conditions stand (R520). -/
def blockSync (s : State) : State :=
  let s := setBlock 0 (s.get Reg.MOD_STATE_RESTORE == 0) s
  let s := setBlock 1 (decide (cisternLimit (s.get Reg.PWR_BANK_MEAS_E) < 1)) s
  let s := setBlock 2 (s.flag Reg.PWR_BANK_STATE_BELOW_VREQ || s.get Reg.PWR_BANK_STATE_STATE == 3) s
  let s := setBlock 3 (!(footingReady s)) s
  let s := setBlock 4 (decide (joinersInService s < 32)) s
  setBlock 6 (decide (boardsServing s < 7)) (setBlock 5 (decide (coresInService s < 4)) s)

/-- QUIESCED is reached: the events of bring-up, then the step of R536. -/
def bringupDone (s : State) : State :=
  let s := (setMode .quiesced (endStep 11 (s.put Reg.MOD_BRINGUP_RUNNING 0))).inc (Reg.MOD_STAT_COUNT 2)
  let restored := s.get Reg.MOD_STATE_RESTORE == 1
  let s := if restored then raise 0x0104 0 (s.get Reg.PWR_SPILL_LOG_DURATION_US) (raise 0x0D09 0 s.med.spillNo s) else s
  let s := blockSync (raise 0x0D02 0 0 s)
  let stop := s.store.stopState
  if restored && (stop == PairState.solo.code || stop == PairState.resyncing.code) then enterServing .solo s
  else if restored && stop == PairState.contested.code then setPair .contested s
  else s

/-- What the end of a step brings with it. -/
def stepWork (k : Nat) (f : BringupFacts) (i : JoinImage) (s : State) : Option State :=
  if k = 0 then some (bootStep f s)
  else if k = 1 then some (recordsStep f s)
  else if k = 2 then some (joineryStep i s)
  else if k = 3 then some (joinerStep f s)
  else if k = 4 then some (coreStep f s)
  else if k = 5 then some (checkerStep f s)
  else if k = 6 then some (benchStep f s)
  else if k = 7 then
    (if (healthyStacks s).all (fun n => bitOf n (s.get Reg.ECC_INIT_STATE_STACKS_DONE)) then some (startYard (poolSync s)) else none)
  else if k = 8 then some (startFloor (restoreStep f s))
  else if k = 9 then some (translationStep s)
  else replayStep f s

/-- BRINGUP_STEP_END: the step's work is done and its bit set; the next line of steps starts, and the last one ends in QUIESCED (R533, R534).  With the footing
offline steps 8 to 10 do not run (R536). -/
def execBringupStepEnd (step : Nat) (facts : BringupFacts) (image : JoinImage) (s : State) : Out :=
  onUp s fun s =>
    if s.mode ≠ .bringup ∨ stepRuns step s = false ∨ (foremanStep step = true ∧ s.get Reg.FMN_STATE_STATE = 2) then s
    else match stepWork step facts image s with
      | none => s
      | some s =>
        let s := endStep step s
        if s.mode ≠ .bringup then s.put Reg.MOD_BRINGUP_RUNNING 0
        else if 2 ≤ step ∧ step ≤ 6 ∧ (List.range 7).all (fun i => stepEnded i s) then
          let s := lineEnd s
          if s.mode ≠ .bringup then s.put Reg.MOD_BRINGUP_RUNNING 0 else s
        else if step = 10 ∨ (step = 7 ∧ footingReady s = false) then bringupDone s
        else s

end Sys2Proof.Machine
end

