-- ==== Sys2Proof/Machine/Cistern.lean ====
section
/-!
DEFINITION. Sys2Proof/Machine/Cistern.lean: the cistern's own events (03_cistern.md): appending, a record's hold, admission, appends that
wait at full-stop, the loss of a copy's stack and the rebuild of the copy, and the status command.
-/
namespace Sys2Proof.Machine

open Sys2Proof

/-- Whether a record of the primitive may be appended: a data record of an own reach with the next number, or a further part of the last one; a record
of a reach the twin owns that is neither applied nor retired here; a VOID or REACH record of a provisioned reach. -/
def mayAppend (w : WireRec) (s : State) : Bool :=
  let n := w.reach
  let st := reachState s n
  (st == 1 || st == 2 || st == 3) && !(volatileReach s n) && decide (w.data.length ≤ 4096) && w.data.length % 64 == 0 &&
    (if w.kind = 1 ∨ w.kind = 2 ∨ w.kind = 3 then
       decide (w.data.length ≥ 64) && lineReach w.line == n &&
         (if ownsReach s n then st != 2 && (w.seq == assignedTo s n + 1 || (w.seq == assignedTo s n && decide (w.part > 0)))
          else decide (w.seq > appliedTo s n))
     else w.kind == 5 || w.kind == 6)

/-- CISTERN_APPEND: the primitive reserves and appends one record to both copies, or waits at full-stop (R84, R85, R89, R98, R99).  A data record of an
own reach takes its number in the reach (R41) and goes to the twin while mirroring is in force (R91). -/
def execCisternAppend (w : WireRec) (s : State) : Out :=
  onUp s fun s =>
    if !(s.completes || s.pair = .catchingUp) || !(mayAppend w s) then s
    else
      let own := ownsReach s w.reach
      let r := recOfWire w (!own)
      let t := append r false (if own && r.isData then s.onCis fun x => { x with assigned := tset 0 w.reach w.seq x.assigned } else s)
      if own && s.mirrors && w.origin == s.pos && (r.isData || r.kind = .reach) then linkSend "RECORDS" w.reach w.seq (recFull r) t else t

/-- RECORD_HELD: both copies, or the surviving one, hold the record whose header is at ring position `pos` (R20, R22, R61, R67, R81, R92); `fault`
is what the copies' check codes gave while it was written and applied (R211, R272, R276). -/
def execRecordHeld (pos : Nat) (fault : MemFault) (s : State) : Out :=
  onUp s fun s =>
    match s.cis.recs.find? (fun r => r.pos == pos && !r.held) with
    | none => s
    | some r => if s.mode = .spill then s else recordHeld pos (mergeFault fault r (memFault fault r.line s))

/-- WRITE_ADMITTED: the oldest write that waits for admission is let in, as the state and the pacing allow (R95, R96, R314). -/
def execWriteAdmitted (s : State) : Out :=
  onUp s fun s => if s.completes then admitAll (settle s) else s

/-- APPEND_RESUME: the oldest append that waits at full-stop goes on below 97 % (R98). -/
def execAppendResume (s : State) : Out :=
  onUp s fun s => resumeAppends 1 s

/-! ### The rebuild of a copy (R81, R82) -/

/-- Loft granules on stack n, oldest first for the confined eviction. -/
def loftOn (n : Nat) (s : State) : List Nat :=
  (s.tir.dir.filter (fun e => e.2.loft && e.2.loftStack == n)).map Prod.fst

/-- Evict one loft copy to make room: dropped where R175 drops it, demoted otherwise; a copy that neither fits stays (R81, R175). -/
def evictForRoom (g : Nat) (s : State) : State :=
  let e := s.gran g
  if e.lock.isSome then s
  else if e.floor || (e.cistern = 0 && decide (e.age ≥ s.get Reg.TIR_MOVE_CFG_DEMOTE_AGE)) then
    (setGran g { e with loft := false, loftValid := 0, loftPend := false } s).inc (Reg.TIR_TIER_STAT_COUNT 7)
  else match allocFloor g e.loftValid e.age e.tenant s with
    | none => s
    | some s => (modGran g (fun (e : Gran) => { e with loft := false, loftValid := 0, loftPend := false }) s).inc (Reg.TIR_TIER_STAT_COUNT 6)

/-- Frames on the new stack are evicted until it holds what it may; the copy asks for its tokens (R81, R501). -/
def makeRoom (n : Nat) (s : State) : State :=
  let s := (loftOn n s).foldl (fun s g => if usedOn s 0 n > stackCap s n then evictForRoom g s else s) s
  let s := (hgRequest { owner := .cisternCopy, h0 := true, tokens := 200 } s).2
  poolSync (s.onCis fun x => { x with roomMade := true })

/-- CISTERN_ROOM_MADE: the frames on the new stack have been evicted and the copy asks for its tokens and starts; from now on a record is held once both
stacks have it (R81, R501). -/
def execCisternRoomMade (s : State) : Out :=
  onUp s fun s =>
    match s.cis.newStack with
    | none => s
    | some n =>
      if s.get Reg.TIR_CST_STATE_COPIES ≠ 1 || s.cis.roomMade then s
      else makeRoom n s

/-- CISTERN_COPY_DONE: the occupied segments are copied: COPIES returns to 0, with event 0x0307; the tokens of the copy are returned (R81,
R501). -/
def execCisternCopyDone (s : State) : Out :=
  onUp s fun s =>
    if s.get Reg.TIR_CST_STATE_COPIES = 1 && s.cis.roomMade && hgHolds s .cisternCopy then
      let t := raise 0x0307 (s.cis.newStack.getD 0) 0 (s.put Reg.TIR_CST_STATE_COPIES 0)
      degradedSync (poolSync (hgReturn .cisternCopy (t.onCis fun x => { x with roomMade := false })))
    else s

/-- CISTERN_STATUS: 64 bytes, whose layout the spec does not give (R457). -/
def execCisternStatus (m : Nat) (s : State) : Out := onCmd m 0x0702 s (completeFree m 64)

end Sys2Proof.Machine
end

