-- ==== Sys2Proof/Machine/Integrity.lean ====
section
/-!
DEFINITION. Sys2Proof/Machine/Integrity.lean: the scrub, the error thresholds and the injection register (08_data_integrity.md R290 to R294).
-/
namespace Sys2Proof.Machine

open Sys2Proof

/-- Whether a domain is scrubbed now: 0 loft, 1 floor, 2 footing; it pauses outside QUIESCED, PAIRED, RESYNC and SOLO (R290). -/
def scrubOn (d : Nat) (s : State) : Bool :=
  (s.serving || s.mode = .quiesced) &&
    (if d = 0 then s.flag Reg.ECC_CFG_SCRUB_LOFT else if d = 1 then s.flag Reg.ECC_CFG_SCRUB_FLOOR else s.flag Reg.ECC_CFG_SCRUB_FOOTING)

/-- Period of a domain's pass in µs (R290). -/
def scrubPeriod (d : Nat) (s : State) : Nat :=
  if d = 0 then s.get Reg.ECC_SCRUB_CFG_LOFT_HOURS * 3600000000
  else if d = 1 then s.get Reg.ECC_SCRUB_CFG_FLOOR_HOURS * 3600000000
  else s.get Reg.ECC_SCRUB_CFG_FOOTING_DAYS * 86400000000

/-- The pass moves on to `progress` per mille; at 1,000 it is over, and LATE is cleared when it was on time (R290, R293). -/
def scrubProgress (d progress : Nat) (s : State) : State :=
  let s := if s.flag (Reg.ECC_SCRUB_STATE_RUNNING d) then s
           else (s.put (Reg.ECC_SCRUB_STATE_RUNNING d) 1).onTir fun x => { x with scrubAt := tins d s.epoch x.scrubAt }
  if progress < 1000 then s.put (Reg.ECC_SCRUB_STATE_PROGRESS d) progress
  else
    let late := decide (s.epoch > (tfind d s.tir.scrubAt).getD 0 + scrubPeriod d s)
    let s := ((s.put (Reg.ECC_SCRUB_STATE_PROGRESS d) 0).put (Reg.ECC_SCRUB_STATE_RUNNING d) 0).inc (Reg.ECC_SCRUB_STATE_PASSES d)
    let s := s.onTir fun x => { x with scrubAt := tdel d x.scrubAt }
    if late then s else s.put (Reg.ECC_SCRUB_STATE_LATE d) 0

/-- A loft or floor scrub read of a unit: region 0 a line of home data, 1 a metadata line, 2 an unallocated frame; result 0 CLEAN, 1 CORRECTED (on
`device`), 2 POISONED, 3 UNCORRECTABLE (R291). -/
def scrubLine (inLoft : Bool) (unit target region result device : Nat) (s : State) : State :=
  let cnt := fun (k : Nat) (s : State) => if inLoft then s.inc (Reg.ECC_LOFT_CNT_COUNT (unit % 4) k) else s.inc (Reg.ECC_FLOOR_CNT_COUNT (unit % 16) k)
  let err := fun (s : State) => unitError inLoft (if inLoft then unit % 4 else unit % 16) s
  if result = 1 then
    let s := cnt 4 (cnt 0 s)
    if inLoft then raiseRl 0x0301 (unit % 4) 0 s
    else raiseRl 0x0303 (unit % 16) device (deviceError (unit % 16) (device % 40) s)
  else if result = 2 then cnt 2 s
  else if result = 3 then
    if region = 0 then settle (lineUncorrectable inLoft false target s)
    else if region = 1 then raise 0x030E unit 0 (cnt 3 (err s))
    else raise (if inLoft then 0x0302 else 0x0304) unit 0 (cnt 3 (err s))
  else s

/-- A footing scrub read: `target` is 4 × granule + quarter, or in region 1 a translation page; `amount` is the number of corrected bits, and a result of 2
says that only a read-level shift decoded it (R292). -/
def scrubQuarter (target region result amount : Nat) (s : State) : State :=
  if region = 1 then
    if result = 3 || result = 2 || (result == 1 && decide (amount > s.get Reg.ECC_CFG_REFRESH_BITS)) then
      (match tfind target s.med.ckptLoc with
       | some loc => startCheckpoint target (locStripe loc / 4096) s
       | none => s)
    else s
  else
    let g := target / 4
    let q := target % 4
    if !(s.gran g).footed then s
    else if result = 3 then startLadder g q s
    else if result = 2 || (result == 1 && decide (amount > s.get Reg.ECC_CFG_REFRESH_BITS)) then queuePack g s
    else s

/-- SCRUB_READ: domain 0 loft, 1 floor, 2 footing (R290 to R292). -/
def execScrubRead (domain unit target region result amount progress : Nat) (s : State) : Out :=
  onUp s fun s =>
    let d := domain % 3
    if !(scrubOn d s) then s
    else
      let s := scrubProgress d progress s
      if d = 2 then scrubQuarter target region result amount s else scrubLine (d == 0) unit target region result amount s

/-- SCRUB_PASS_LATE: the running pass has outlasted its period (R293). -/
def execScrubPassLate (domain : Nat) (s : State) : Out :=
  onUp s fun s =>
    let d := domain % 3
    match tfind d s.tir.scrubAt with
    | some t => if s.epoch ≤ t + scrubPeriod d s || s.flag (Reg.ECC_SCRUB_STATE_LATE d) then s else raise 0x0312 d 0 (s.put (Reg.ECC_SCRUB_STATE_LATE d) 1)
    | none => s

/-- ECC_THRESHOLD_REACHED: kind 0 a floor device's corrected errors, 1 a floor channel's and 2 a loft stack's uncorrectable errors, over a rolling 24 h; a threshold
of 0 disables its action (R294). -/
def execEccThresholdReached (kind unit device : Nat) (s : State) : Out :=
  onUp s fun s =>
    if kind = 0 then
      let c := unit % 16
      let t := s.get Reg.ECC_THRESH_DEV_CE
      let n := errsOf s (40 * c + device % 40)
      if t = 0 ∨ n < t then s else raise 0x030B c (device % 40) s
    else if kind = 1 then
      let c := unit % 16
      let t := s.get Reg.ECC_THRESH_CH_UE
      let n := errsOf s (640 + c)
      if t = 0 ∨ n < t ∨ unitState s (14 + c) = 3 ∨ unitState s (14 + c) = 5 then s else settle (loseChannel c (raise 0x030C c n s))
    else
      let k := unit % 4
      let t := s.get Reg.ECC_THRESH_STACK_UE
      let n := errsOf s (656 + k)
      if t = 0 ∨ n < t ∨ unitState s (30 + k) = 3 ∨ unitState s (30 + k) = 5 then s else fenceStack k (raise 0x030C (16 + k) n s)

/-- ECC_INJECT_ARM: a write of ECC_INJECT with ARM 1, accepted at FACTORY level only (R585, R586). -/
def execEccInjectArm (acc domain unit kind : Nat) (s : State) : Out :=
  onUp s fun s =>
    pulseWrite acc 0x206000 3 (fun s =>
      let s := (((s.put Reg.ECC_INJECT_DOMAIN domain).put Reg.ECC_INJECT_UNIT unit).put Reg.ECC_INJECT_KIND kind).put Reg.ECC_INJECT_ARM 1
      s.onTir fun x => { x with inject := some (domain % 4, unit % 32, kind % 4) }) s

end Sys2Proof.Machine
end

