-- ==== Sys2Proof/Machine/Logbook.lean ====
section
/-!
DEFINITION. Sys2Proof/Machine/Logbook.lean: the logbook, freeze and survey (19_event_recorder_and_freeze.md): record periods, pages, the
log commands, FREEZE_N, the islands' stop and the JTAG instructions.
-/
namespace Sys2Proof.Machine

open Sys2Proof

/-! ### The buffer and the store -/

/-- RECORD_PERIOD_CLOSE: the open record of an event and subject closes at the end of its period (R563). -/
def execRecordPeriodClose (event subject : Nat) (s : State) : Out :=
  onLive s fun s => evrSync (s.onEvr fun x =>
    { x with buf := x.buf.map (fun (r : LogRec) => if r.isFor event subject && r.event != 0x0D11 then { r with isOpen := false } else r) })

/-- Pages are written only in QUIESCED, PAIRED, RESYNC and SOLO, and while the store is online (R566). -/
def mayWritePage (s : State) : Bool := s.up && (s.serving || s.mode = .quiesced) && s.flag Reg.EVR_STATE_STORE_ONLINE

/-- Closed records in the buffer. -/
def closedRecs (s : State) : List LogRec := s.evr.buf.filter (fun r => !r.isOpen)

/-- A page is due: 256 closed records wait, or the oldest has waited FLUSH_S seconds (R566). -/
def pageDue (s : State) : Bool :=
  decide ((closedRecs s).length ≥ 256) ||
    (match closedRecs s with | r :: _ => decide (s.epoch ≥ r.epoch + s.get Reg.EVR_CFG_FLUSH_S * 1000000) | [] => false)

/-- LOG_PAGE_WRITE: 256 closed records wait, or the oldest closed record has waited FLUSH_S; their page is programmed (R566). -/
def execLogPageWrite (s : State) : Out :=
  .next (if mayWritePage s && s.evr.pageOut = 0 && pageDue s then s.onEvr fun x => { x with pageOut := Nat.min 256 (closedRecs s).length } else s)

/-- The buffer without its first `n` closed records, and those records. -/
def takeClosed : Nat → List LogRec → List LogRec × List LogRec
  | 0, l => ([], l)
  | _, [] => ([], [])
  | n + 1, r :: l =>
    if r.isOpen then
      let q := takeClosed (n + 1) l
      (q.1, r :: q.2)
    else
      let q := takeClosed n l
      (r :: q.1, q.2)

/-- Beyond 512 pages the oldest 64 are dropped as one segment, with WRAPPED and record 0x0D12 (R567). -/
def wrapStore (s : State) : State :=
  if s.evr.store.length ≤ 131072 then s
  else
    let gone := s.evr.store.take 16384
    let lo := (gone.headD (newRec s 0 0 0 0 0)).seq.getD 0
    let hi := (gone.getLastD (newRec s 0 0 0 0 0)).seq.getD 0
    let s := (s.onEvr fun x => { x with store := x.store.drop 16384 }).add (Reg.EVR_STAT_COUNT 4) 16384
    raise 0x0D12 0 (lo + hi * 2 ^ 48) (s.put Reg.EVR_STATE_WRAPPED 1)

/-- The closed records of a page go from the buffer to the store; where recording was stopped it resumes and record 0x0D11 closes (R566 to R568). -/
def pageOut (s : State) : State :=
  let stopped := decide (s.evr.buf.length = 4096)
  let q := takeClosed s.evr.pageOut s.evr.buf
  let rest := if stopped then q.2.map (fun (r : LogRec) => if r.event = 0x0D11 then { r with isOpen := false } else r) else q.2
  let s := s.onEvr fun x => { x with buf := rest, store := x.store ++ q.1, pageOut := 0, lostNext := x.lostNext || stopped }
  wrapStore (evrSync (s.inc (Reg.EVR_STAT_COUNT 3)))

/-- LOG_PAGE_CONFIRMED: the page's records leave the buffer; record 0x0D11 closes and recording resumes where it was stopped
(R566 to R568). -/
def execLogPageConfirmed (s : State) : Out := onUp s fun s => if s.evr.pageOut = 0 then s else pageOut s

/-- OP_TIME_BASE_UPDATE: the operating-time base is reprogrammed with the powered time (R564). -/
def execOpTimeBaseUpdate (s : State) : Out :=
  onLive s fun s => match s.opTime with
    | none => s
    | some t => (s.onStore fun x => { x with opBase := t, opAt := s.epoch }).onEvr fun x => { x with opBase := t, opEpoch := s.epoch }

/-! ### Reading -/

/-- A value of w bytes, 0xFF bytes where it is not known yet (R562, R564). -/
def orOnes (w : Nat) : Option Nat → List Byte
  | some v => leBytes w v
  | none => leBytes w (256 ^ w - 1)

/-- The first 60 bytes of a record (R561). -/
def recHead (r : LogRec) : List Byte :=
  orOnes 8 r.seq ++ leBytes 2 r.event ++ leBytes 1 (b2n r.isOpen + 2 * b2n r.spilled + 4 * b2n r.lostBefore) ++ leBytes 1 r.source ++
    orOnes 4 r.cycles ++ leBytes 8 r.epoch ++ leBytes 4 r.tally ++ leBytes 4 r.lastDelta ++ orOnes 8 r.opTime ++ leBytes 8 r.subject ++
    leBytes 12 r.detail

/-- A record of 64 B with its CRC (R561). -/
def recBytes (r : LogRec) : List Byte := recHead r ++ leBytes 4 (Config.crc32c (recHead r))

/-- Records a LOG_READ may return, in SEQ order with the unnumbered ones last (R562, R569). -/
def readable (s : State) : List LogRec :=
  let all := (if s.flag Reg.EVR_STATE_STORE_ONLINE then s.evr.store else []) ++ s.evr.buf
  all.filter (fun r => r.seq.isSome) ++ all.filter (fun r => r.seq.isNone)

/-- The records from a SEQ on, unnumbered ones included (R562, R569). -/
def recordsFrom (seq : Nat) (s : State) : List LogRec :=
  (readable s).filter (fun r => match r.seq with | some q => decide (q ≥ seq) | none => true)

/-- LOG_READ's flags: GAP, END, STORE_OFFLINE (R569). -/
def logFlags (seq n : Nat) (s : State) : Nat :=
  b2n (decide (seq < ((readable s).filterMap LogRec.seq).headD 0)) + 2 * b2n (decide ((recordsFrom seq s).length ≤ n)) +
    4 * b2n (!(s.flag Reg.EVR_STATE_STORE_ONLINE))

/-- The response of LOG_READ: count, flags, and up to n records (R569). -/
def logReadBytes (seq n : Nat) (s : State) : List Byte :=
  leBytes 2 ((recordsFrom seq s).take n).length ++ leBytes 1 (logFlags seq n s) ++ leBytes 5 0 ++ ((recordsFrom seq s).take n).flatMap recBytes

/-- LOG_READ (R569). -/
def execLogRead (m : Nat) (s : State) : Out :=
  onCmd m 0x0B01 s fun s =>
    let n := reqNat s m 8 2
    if n = 0 ∨ n > 63 then refuse m .badField (atPayload 8) s else complete m (logReadBytes (reqNat s m 0 8) n s) s

/-- The response of LOG_STATUS (R570). -/
def logStatusBytes (s : State) : List Byte :=
  leBytes 8 (s.get (Reg.EVR_SEQ_SEQ 0)) ++ leBytes 8 (s.get (Reg.EVR_SEQ_SEQ 1)) ++ leBytes 2 s.evr.buf.length ++
    leBytes 2 (s.get Reg.EVR_STATE_OPEN) ++ leBytes 4 s.evr.missed ++ orOnes 4 s.evr.cycles ++
    leBytes 1 (s.get Reg.EVR_STATE_STOPPED + 2 * s.get Reg.EVR_STATE_STORE_ONLINE + 4 * s.get Reg.EVR_STATE_WRAPPED) ++ leBytes 3 0

/-- LOG_STATUS (R570). -/
def execLogStatus (m : Nat) (s : State) : Out := onCmd m 0x0B02 s fun s => complete m (logStatusBytes s) s

/-- LOG_NOTE: record 0x0D14 with SOURCE 0x42, or BAD_FIELD when bytes 20–47 are not 0 (R570). -/
def execLogNote (m : Nat) (s : State) : Out :=
  onCmd m 0x0B03 s fun s =>
    if reqNat s m 20 28 ≠ 0 then refuse m .badField (atPayload 20) s
    else complete m [] (raiseW 0x0D14 (reqNat s m 0 8) (reqNat s m 8 12) 0x42 0 s)

/-- SELFTEST_REPORT: 64 B (R457); the layout is not in the spec. -/
def execSelftestReport (m : Nat) (s : State) : Out := onCmd m 0x0D02 s (completeFree m 64)

/-- SURVEY_INFO: 32 B (R457); the layout is not in the spec. -/
def execSurveyInfo (m : Nat) (s : State) : Out := onCmd m 0x0D03 s (completeFree m 32)

/-! ### Freeze -/

/-- FREEZE: refused in SOLO and in the authoritative module in RESYNCING; otherwise DONE, and the freeze follows in 100 µs (R573, R574). -/
def execFreeze (m : Nat) (s : State) : Out :=
  onCmd m 0x0D01 s fun s =>
    if s.alone then refuse m .notPermitted noDetail s
    else complete m [] (s.onEvr fun x => { x with freezeCmd := true })

/-- FREEZE_COMMAND_TRIGGER: 100 µs later, cause 2 (R573). -/
def execFreezeCommandTrigger (s : State) : Out :=
  onLive s fun s => if s.evr.freezeCmd then freezeTrigger 2 0 (s.onEvr fun x => { x with freezeCmd := false }) else s

/-- FREEZE_N_FALL: cause 1, obeyed in every mode, deferred in SPILL and during a spill on input power (R573, R574). -/
def execFreezeNFall (s : State) : Out :=
  onLive s fun s => freezeTrigger 1 0 (s.put Reg.GLB_DISCRETES_FREEZE_N 0)

/-- ISLANDS_STOP: every island's epoch copy would take F, and its clock stops; loft and floor contents are not preserved, mailboxes and
frames keep nothing beyond the survey (R575, R577). -/
def execIslandsStop (s : State) : Out :=
  onLive s fun s => match s.evr.freezeAt with
    | none => s
    | some (f, _) => loseFrames (((s.onEvr fun x => { x with frozen := true }).put Reg.CLK_EPOCH_EPOCH f).put Reg.CLK_STATE_RUNNING 0)

/-! ### JTAG and the survey (R578 to R580) -/

/-- Bytes of the survey image (R579). -/
def surveyBytes : Nat := 161148928

/-- IDs, offsets and lengths of the image's sections: each starts on a 4 KiB boundary, in order (R579). -/
def surveySections : List (Nat × Nat × Nat) :=
  let ls : List (Nat × Nat) := [(0, 4096), (1, 2097152), (2, 51904512), (3, 17408), (4, 5242880), (5, 17301504), (6, 2359296), (7, 4980736),
    (8, 8388608), (9, 33554432), (10, 33554432), (11, 262144), (12, 1048576), (13, 262144), (14, 167936)]
  (ls.foldl (fun (a : Nat × List (Nat × Nat × Nat)) e => (a.1 + (e.2 + 4095) / 4096 * 4096, a.2 ++ [(e.1, a.1, e.2)])) (0, [])).2

/-- The image's header and section table (R579). -/
def surveyHeader (s : State) : List Byte :=
  padTo 4096 (padTo 64 (leBytes 4 0x4E535356 ++ leBytes 4 surveyBytes ++ leBytes 8 s.epoch ++ leBytes 1 (s.get Reg.SVY_LAST_CAUSE) ++
      leBytes 1 (s.get Reg.SVY_LAST_INDEX) ++ leBytes 1 (s.get Reg.MOD_STATE_MODE) ++ leBytes 1 (s.get Reg.TWN_STATE_PAIR_STATE) ++ leBytes 4 0 ++
      leBytes 8 s.store.serial ++ leBytes 8 s.store.identity) ++
    surveySections.flatMap (fun e => leBytes 4 e.1 ++ leBytes 4 e.2.1 ++ leBytes 4 e.2.2 ++ leBytes 4 0))

/-- 128 bytes of the image from an offset: the header, the key slots (all zeros) and the logbook buffer as the spec lays them out; the
other sections' contents are open (notes/assumptions/6.md). -/
def surveyBlock (off : Nat) (s : State) : List Byte × State :=
  if off ≥ surveyBytes then (padTo 128 [], s)
  else if off < 4096 then (padTo 128 ((surveyHeader s).drop off), s)
  else match (surveySections.filter (fun e => decide (e.2.1 ≤ off))).getLast? with
    | some (12, _, _) => (padTo 128 [], s)
    | some (13, base, _) => (padTo 128 ((s.evr.buf.drop ((off - base) / 64)).take 2 |>.flatMap recBytes), s)
    | some (_, base, len) => if off ≥ base + len then (padTo 128 [], s) else s.freeBytes 128
    | none => (padTo 128 [], s)

/-- A private JTAG instruction: on CSH-4896-1B modules it decodes as BYPASS (R578). -/
def onPrivate (tdi : Nat) (s : State) (f : State → State) : Out :=
  .next (if !s.pwr.powered then s else if s.store.variantB then s.send (.jtag (tdi % 2)) else f s)

/-- EXTEST: the boundary scan; the chain's contents are open. -/
def execExtest (s : State) : Out :=
  .next (if s.pwr.powered then let r := s.free 64; r.2.send (.jtag r.1) else s)

/-- SAMPLE/PRELOAD: the boundary scan; the chain's contents are open. -/
def execSamplePreload (s : State) : Out :=
  .next (if s.pwr.powered then let r := s.free 64; r.2.send (.jtag r.1) else s)

/-- IDCODE reads 0x1489_6C6B on both variants (R578). -/
def execIdcode (s : State) : Out := .next (if s.pwr.powered then s.send (.jtag 0x14896C6B) else s)

/-- SVY_ADDR: the byte offset in the image, a multiple of 128; acts only while frozen (R578). -/
def execSvyAddr (off : Nat) (s : State) : Out :=
  onPrivate off s fun s => if s.evr.frozen then s.onEvr fun x => { x with svyAddr := off / 128 * 128 } else s

/-- SVY_DATA: 1,024 bits of the image, and the offset advances; zeros when not frozen (R578, R579). -/
def execSvyData (tdi : Nat) (s : State) : Out :=
  onPrivate tdi s fun s =>
    if s.evr.frozen then
      let r := surveyBlock s.evr.svyAddr s
      ((r.2.onEvr fun x => { x with svyAddr := x.svyAddr + 128, svyRead := x.svyRead + 128 }).put Reg.SVY_LAST_READ_OUT 1).send (.jtag (leNat r.1))
    else s.send (.jtag 0)

/-- SVY_STATUS: frozen, unlocked, image bytes, cause (R578). -/
def execSvyStatus (tdi : Nat) (s : State) : Out :=
  onPrivate tdi s fun s =>
    s.send (.jtag (b2n s.evr.frozen + 2 * b2n s.evr.unlocked + 4 * surveyBytes + 2 ^ 34 * s.get Reg.SVY_LAST_CAUSE))

/-- UNLOCK: the FACTORY password's digest is compared; after three failures every attempt is refused until power is cycled (R580). -/
def execUnlock (tdi : Nat) (digestMatches : Bool) (s : State) : Out :=
  onPrivate tdi s fun s =>
    if !s.evr.frozen then s
    else if s.evr.unlockFail ≥ 3 then (makeRec 0x0E05 0 s.evr.unlockFail (eventSource 0x0E05 0) 0 s).1
    else if digestMatches then s.onEvr fun x => { x with unlocked := true }
    else
      let s := s.onEvr fun x => { x with unlockFail := x.unlockFail + 1 }
      (makeRec 0x0E05 0 s.evr.unlockFail (eventSource 0x0E05 0) 0 s).1

/-- The clocks of a thawed module start again, `running` naming the islands. -/
def resumed (running : Nat) (s : State) : State :=
  (((s.onEvr fun x => { x with frozen := false, freezeAt := none }).put Reg.CLK_STATE_FREEZE 0).put Reg.SVY_LAST_THAWED 1).put Reg.CLK_STATE_RUNNING running

/-- A thawed module fences itself until a module reset; outside the modes that R117's effects change its mode stays (R117, R519, R580). -/
def fenceThawed (s : State) : State :=
  let t := if s.serving || s.mode = .quiesced then fenceSelf s else setPair .fenced (s.onPwr fun x => { x with serveStop := true })
  t.onTwn fun x => { x with barred := true }

/-- A frozen module runs again: clocks as in STANDBY or of all islands, the module fenced outside STANDBY, events 0x0E04 and, after a read-out, 0x0E03
(R580). -/
def thawed (epoch : Nat) (standby readOut : Bool) (svyRead : Nat) (s : State) : State :=
  let s := raise 0x0E04 0 epoch (if standby then resumed 1 s else fenceThawed (resumed 28 s))
  if readOut then raise 0x0E03 0 svyRead s else s

/-- THAW: while unlocked the islands run again, the module fenced until a module reset; events 0x0E04 and, after a read-out, 0x0E03 (R580). -/
def execThaw (tdi : Nat) (s : State) : Out :=
  onPrivate tdi s fun s =>
    if !(s.evr.frozen && s.evr.unlocked) then s
    else
      thawed s.epoch (s.mode = .standby) (s.get Reg.SVY_LAST_READ_OUT = 1) s.evr.svyRead s

/-- BYPASS: one bit passes through. -/
def execJtagBypass (tdi : Nat) (s : State) : Out := .next (if s.pwr.powered then s.send (.jtag (tdi % 2)) else s)

end Sys2Proof.Machine
end

