-- ==== Sys2Proof/Machine/Modes.lean ====
section
/-!
DEFINITION. Sys2Proof/Machine/Modes.lean: resets, the way out of STANDBY, mode requests and the held entry to a serving mode (17_modes_and_bringup.md R519 to
R528, R460, R521, R523, R577).
-/
namespace Sys2Proof.Machine

open Sys2Proof

/-- A module reset is called for: with the acts of R526 before it where a spill is due, at once otherwise. -/
def callReset (scope cause : Nat) (s : State) : State :=
  if s.spills then preReset (.moduleReset scope cause) s else moduleReset scope cause s.mode.code false s

/-- A spill on input power runs: what follows it changes to a module reset (R527). -/
def resetAfterSpill (scope cause : Nat) (r : SpillRun) (s : State) : State :=
  s.onPwr fun x => { x with spill := some { r with after := .moduleReset scope cause } }

/-- MOD_RESET_N_ASSERT: the module reset of scope MODULE.  It ends a freeze, without a spill; during a spill it is acted on after the commit marker, or after
the time limit (R524, R526, R527, R577). -/
def execModResetNAssert (s : State) : Out :=
  .next (if !s.pwr.powered then s
    else
      let s := s.put Reg.GLB_DISCRETES_MOD_RESET_N 0
      if s.evr.frozen then moduleReset 0 2 s.mode.code false s
      else match s.pwr.spill with
        | some r => if r.fromBank then s else resetAfterSpill 0 2 r s
        | none => if s.mode = .spill then s else callReset 0 2 s)

/-- MODULE_RESET_RELEASE: after 100 µs at least islands 1–27 leave reset: BRINGUP, STANDBY or RECOVERY by the scope (R525). -/
def execModuleResetRelease (s : State) : Out :=
  onLive s fun s => match s.pwr.inReset with
    | none => s
    | some scope =>
      if s.epoch % 2 ^ 48 < s.get Reg.MOD_RESET_LOG_EPOCH + 100 then s
      else
        let s := s.put Reg.GLB_DISCRETES_MOD_RESET_N 1
        if scope = 0 then enterBringup s
        else if scope = 2 then enterRecovery s
        else s.onPwr fun x => { x with inReset := none }

/-- RESET: byte 0 [1:0] names the scope; DONE is written, and the reset is applied 100 µs later (R460, R524, R527). -/
def execReset (m : Nat) (s : State) : Out :=
  onCmd m 0x0202 s fun s =>
    let scope := reqNat s m 0 1 % 4
    if scope = 3 then refuse m .badField (atPayload 0) s
    else if s.pwr.spill.isSome then refuse m .notPermitted noDetail s
    else complete m [] (s.onPwr fun x => { x with resetPend := some scope })

/-- RESET_APPLY: the reset that a RESET command asked for; where a spill has begun meanwhile it follows that spill (R460, R526). -/
def execResetApply (s : State) : Out :=
  onLive s fun s => match s.pwr.resetPend with
    | none => s
    | some scope =>
      let s := s.onPwr fun x => { x with resetPend := none }
      match s.pwr.spill with
      | some r => if r.fromBank then s else resetAfterSpill scope 3 r s
      | none => callReset scope 3 s

/-- PRE_RESET_SPILL_LIMIT: 1 s after the reset or entry was called for the controller proceeds without the commit marker (R526). -/
def execPreResetSpillLimit (s : State) : Out :=
  onLive s fun s => match s.pwr.spill with
    | none => s
    | some r =>
      if r.fromBank ∨ s.epoch < r.started + 1000000 then s
      else applyAfter r.after r.mode false true (s.onMed fun x => { x with spillInto := none })

/-- MOD_CTL_START: a write of MOD_CTL.START through the management port at OPERATE or above takes a module from STANDBY to BRINGUP; it is ignored in other modes and
while islands 1–27 are held, and discarded when it comes over BAR0 (R528, R585, R586). -/
def execModCtlStart (acc : Nat) (s : State) : Out :=
  onLive s fun s =>
    if isMgmt acc then
      pulseWrite acc 0x10008 1 (fun s => if s.mode = .standby && s.pwr.inReset.isNone then enterBringup s else s) s
    else if !s.up || s.mode = .spill then s
    else discardBelow acc 0x10008 s

/-- From SOLO to QUIESCED: hosts are refused from now on, operations in flight complete, the pair state stays SOLO (R111, R523). -/
def quiesce (s : State) : State := admitAll (settle (setMode .quiesced s))

/-- MODE_REQUEST: QUIESCED from QUIESCED or SOLO; RECOVERY from QUIESCED, after the acts of R526; every other target and mode has its refusal (R460, R523). -/
def execModeRequest (m : Nat) (s : State) : Out :=
  onCmd m 0x0201 s fun s =>
    let t := reqNat s m 0 1 % 16
    if t = 0 ∨ t ≥ 9 then refuse m .badField (atPayload 0) s
    else if t = Mode.quiesced.code then
      (if s.mode = .quiesced then complete m (leBytes 8 s.mode.code) s
       else if s.mode = .solo then
         let s := quiesce s
         complete m (leBytes 8 s.mode.code) s
       else if s.mode = .paired || s.mode = .resync then refuse m .notPermitted noDetail s
       else refuse m .wrongMode noDetail s)
    else if t = Mode.recovery.code then
      (if s.mode ≠ .quiesced ∨ s.pwr.spill.isSome then refuse m .wrongMode noDetail s
       else
         let s := s.onPwr fun x => { x with modeMbx := some m }
         if s.spills then preReset .recovery s else enterRecovery s)
    else refuse m .notPermitted noDetail s

/-- SERVE_ENTRY_UNBLOCKED: every bit of SERVE_BLOCK is clear, and the held module takes its pair state and mode together (R521). -/
def execServeEntryUnblocked (s : State) : Out :=
  onUp s fun s => match s.twn.entry with
    | some p => if s.mode = .quiesced && s.get Reg.MOD_STATE_SERVE_BLOCK == 0 then arrive (PairState.ofCode p) s else s
    | none => s

end Sys2Proof.Machine
end

