-- ==== Sys2Proof/Machine/Reach.lean ====
section
/-!
DEFINITION. Sys2Proof/Machine/Reach.lean: the reach commands of mailbox group 0x06 and the directory and reach reads of group 0x07 (R34 to R44, R466,
R467).
-/
namespace Sys2Proof.Machine

open Sys2Proof

/-- The first refusal of REACH_PROVISION (R35 to R37, R466); provisionings under way count. -/
def provisionCheck (n kind owner : Nat) (s : State) : Option (St × Nat) :=
  if kind > 1 then some (.badField, atPayload 2)
  else if owner > 1 then some (.badField, atPayload 3)
  else if !(s.mode = .paired || (kind == 1 && s.mode = .solo)) then some (.wrongMode, noDetail)
  else if reachState s n ≠ 0 || s.twn.reachOps.any (fun o => o.reach == n) then some (.notPermitted, atPayload 0)
  else if kind = 1 ∧ owner ≠ s.pos then some (.badField, atPayload 3)
  else if kind = 0 ∧ reachesOf 0 s + (s.twn.reachOps.filter (fun o => o.action == 0)).length ≥ s.get Reg.TIR_HAS_CFG_REACH_LIMIT then some (.noResource, noDetail)
  else if kind = 1 ∧ (reachesOf 1 s ≥ s.get Reg.TIR_HAS_CFG_VOL_LIMIT ∨ floorGib s < 128 * (reachesOf 1 s + 1)) then some (.noResource, noDetail)
  else none

/-- REACH_PROVISION: a volatile reach at once; a persistent one when both modules hold its REACH record (R35 to R37, R41, R466). -/
def execReachProvision (m : Nat) (s : State) : Out :=
  onCmd m 0x0601 s fun s =>
    let n := reqNat s m 0 2 % 4096
    let kind := reqNat s m 2 1
    let owner := reqNat s m 3 1
    match provisionCheck n kind owner s with
    | some (st, d) => refuse m st d s
    | none =>
      if kind = 1 then
        let t := provisionReach n 1 owner s
        complete m (leBytes 8 0) (if s.mode = .paired then linkSend "REACH_CTL" n 0 [0, 1, BitVec.ofNat 8 owner] t else t)
      else
        let o : ReachOp := { reach := n, action := 0, kind := 0, owner := owner, mbx := some m, own := false, twin := false }
        let s := append (reachRec n 0 0 owner false s) false (s.onTwn fun x => { x with reachOps := x.reachOps ++ [o] })
        linkSend "REACH_CTL" n 0 [0, 0, BitVec.ofNat 8 owner] s

/-- REACH_RELEASE: refused while a window over the reach is not FREE at this module or, as `twinWindows` says, at the twin; a persistent reach is
RELEASING until both modules hold the record (R37 to R39, R466). -/
def execReachRelease (m : Nat) (twinWindows : Bool) (s : State) : Out :=
  onCmd m 0x0602 s fun s =>
    let n := reqNat s m 0 2 % 4096
    let vol := volatileReach s n
    if !(s.mode = .paired || (vol && s.mode = .solo)) then refuse m .wrongMode noDetail s
    else if !(reachState s n == 1 || reachState s n == 4) then refuse m .notPermitted (atPayload 0) s
    else if vol && reachState s n == 1 && !(ownsReach s n) then refuse m .notPermitted (atPayload 0) s
    else if s.get (Reg.TIR_REACH_WINDOWS n) ≠ 0 || (twinWindows && !vol) then refuse m .notPermitted (atPayload 0) s
    else if vol then
      complete m [] (releaseReach n (if s.mode = .paired && reachState s n == 1 then linkSend "REACH_CTL" n 0 [1, 1, BitVec.ofNat 8 s.pos] s else s))
    else
      let o : ReachOp := { reach := n, action := 1, kind := 0, owner := s.get (Reg.TIR_REACH_OWNER n), mbx := some m, own := false, twin := false }
      let s := (s.onTwn fun x => { x with reachOps := x.reachOps ++ [o] }).put (Reg.TIR_REACH_STATE n) 5
      let s := append (reachRec n 1 0 o.owner false s) false s
      linkSend "REACH_CTL" n 0 [1, 0, BitVec.ofNat 8 o.owner] s

/-- REACH_HANDOVER: ownership passes to the other module in four steps; asked of the other module where that one owns the reach (R43, R44, R466). -/
def execReachHandover (m : Nat) (s : State) : Out :=
  onCmd m 0x0603 s fun s =>
    let n := reqNat s m 0 2 % 4096
    if !(s.mode = .paired && s.get Reg.TWN_STATE_TWIN_MODE == 4) then refuse m .wrongMode noDetail s
    else if volatileReach s n && reachState s n ≠ 0 then refuse m .badField (atPayload 0) s
    else if reachState s n == 2 || s.twn.handovers.any (fun h => h.1 == n) then refuseBusy m s
    else if !(reachState s n == 1 || reachState s n == 3) then refuse m .notPermitted (atPayload 0) s
    else if ownsReach s n then beginHandover n (some m) s
    else linkSend "HANDOVER" n 0 [0] (s.onTwn fun x => { x with handovers := x.handovers ++ [(n, 0, some m)] })

/-- The 16 bytes of a directory entry (R161). -/
def dirBytes (e : Gran) : List Byte :=
  leBytes 8 (b2n e.loft + 2 * b2n e.floor + 4 * b2n e.footed + 8 * b2n e.lock.isSome + 16 * b2n e.pinned + 32 * b2n e.partialCopy +
      64 * b2n e.loftPend + 128 * b2n e.floorPend + 256 * e.age + 65536 * e.tenant + 2 ^ 26 * e.cistern + 2 ^ 55 * b2n e.stream) ++
    leBytes 8 (e.loftIndex + 2 ^ 21 * e.loftStack + 2 ^ 23 * e.floorIndex + 2 ^ 48 * e.floorChannel)

/-- DIR_READ: a granule's entry; BOUNDS for a reach that is not provisioned (R161, R467). -/
def execDirRead (m : Nat) (s : State) : Out :=
  onCmd m 0x0701 s fun s =>
    let g := reqNat s m 0 8 % 2 ^ 34
    if reachState s (granReach g) = 0 then refuse m .bounds (atPayload 0) s
    else complete m (dirBytes (s.gran g)) s

/-- REACH_READ: 64 bytes, whose layout the spec does not give (R457). -/
def execReachRead (m : Nat) (s : State) : Out := onCmd m 0x0703 s (completeFree m 64)

end Sys2Proof.Machine
end

