-- ==== Sys2Proof/Machine/Spdm.lean ====
section
/-!
DEFINITION. Sys2Proof/Machine/Spdm.lean: the SPDM responder (R531, R532) and the sessions of the management port (R587).  A path is
16 × port + logical device for a DOE mailbox, 128 for the management port, 129 for the sideband.
-/
namespace Sys2Proof.Machine

open Sys2Proof

/-- Whether the responder answers on a path: never while frozen, on a DOE mailbox only while its islands run and not in SPILL
(R576, R591), on the management port only while it is enabled (GLB_MGT_CFG). -/
def pathAnswers (path : Nat) (s : State) : Bool := s.live && (if path < 128 then s.answers else path ≠ 128 || s.flag Reg.GLB_MGT_CFG_ENABLE)

/-- Answer an SPDM request whose body the DMTF formats lay out: the code, and a body that depends on the request and the measurements. -/
def spdmAnswer (path : Nat) (code : String) (request arg : Nat) (s : State) : Out :=
  .next (if pathAnswers path s then s.send (.spdm path code (Config.spdmBody request arg)) else s)

/-- GET_VERSION. -/
def execSpdmGetVersion (path : Nat) (s : State) : Out := spdmAnswer path "VERSION" 0x84 0 s
/-- GET_CAPABILITIES. -/
def execSpdmGetCapabilities (path : Nat) (s : State) : Out := spdmAnswer path "CAPABILITIES" 0xE1 0 s
/-- NEGOTIATE_ALGORITHMS. -/
def execSpdmNegotiateAlgorithms (path : Nat) (s : State) : Out := spdmAnswer path "ALGORITHMS" 0xE3 0 s
/-- GET_DIGESTS. -/
def execSpdmGetDigests (path : Nat) (s : State) : Out := spdmAnswer path "DIGESTS" 0x81 0 s
/-- GET_CERTIFICATE: slot 0's chain; slots 1–7 are answered with UnsupportedRequest (R531, R532). -/
def execSpdmGetCertificate (path slot : Nat) (s : State) : Out :=
  if slot = 0 then spdmAnswer path "CERTIFICATE" 0x82 0 s
  else .next (if pathAnswers path s then s.send (.spdm path "ERROR UnsupportedRequest" []) else s)
/-- CHALLENGE, signed with the device key. -/
def execSpdmChallenge (path nonce : Nat) (s : State) : Out := spdmAnswer path "CHALLENGE_AUTH" 0x83 nonce s

/-- GET_MEASUREMENTS: the SHA-384 digest of an index 1–5 (R530, R531). -/
def execSpdmGetMeasurements (path index : Nat) (s : State) : Out :=
  .next (if !(pathAnswers path s) then s
    else if 1 ≤ index ∧ index ≤ 5 then s.send (.spdm path "MEASUREMENTS" (leBytes 48 (s.get (Reg.MOD_MEAS_DIGEST (index - 1)))))
    else s.send (.spdm path "MEASUREMENTS" (Config.spdmBody 0xE0 index)))

/-- The appliance region (index 7) holds no certificate. -/
def index7Empty (s : State) : Bool := !(s.store.bytes.any (fun c => decide (924 ≤ c.1 / 65536) && decide (c.1 / 65536 < 928)))

/-- The level of a session: `cert` is 0 with no requester certificate, 1 an authenticated one, 2 one that chains to the appliance root (R439, R587). -/
def sessionLevel (mgmt : Bool) (cert : Nat) (s : State) : Nat :=
  let chains := cert == 2 && !(index7Empty s)
  if mgmt then (if chains then 2 else if cert ≥ 1 && index7Empty s then 1 else 0)
  else (if chains then 2 else 1)

/-- KEY_EXCHANGE: opens one of four sessions, two of key slots 8–15 each, or SessionLimitExceeded (R532). -/
def execSpdmKeyExchange (path cert : Nat) (s : State) : Out :=
  .next (if !(pathAnswers path s) then s
    else match tfree s.sess 0 4 with
    | none => s.send (.spdm path "ERROR SessionLimitExceeded" [])
    | some n =>
      let mgmt := decide (path ≥ 128)
      let e : Session := { mgmt := mgmt, port := path / 16, ld := path % 16, level := sessionLevel mgmt cert s, secured := false,
                           keyPair := 8 + 2 * n, opened := s.epoch }
      { s with sess := tins n e s.sess }.send (.spdm path "KEY_EXCHANGE_RSP" (Config.spdmBody 0xE4 n)))

/-- GLB_SESSION and GLB_MGT_STATE as the sessions stand. -/
def sessSync (n : Nat) (s : State) : State :=
  let s := s.put Reg.GLB_MGT_STATE_SESSIONS (s.sess.filter (fun e => e.2.mgmt && e.2.secured)).length
  match tfind n s.sess with
  | none => s.put (Reg.GLB_SESSION_OPEN n) 0
  | some e => ((((s.put (Reg.GLB_SESSION_OPEN n) (b2n e.secured)).put (Reg.GLB_SESSION_LEVEL n) e.level).put (Reg.GLB_SESSION_MGMT n) (b2n e.mgmt)).put
      (Reg.GLB_SESSION_KEY_PAIR n) e.keyPair).put (Reg.GLB_SESSION_EPOCH n) e.opened

/-- FINISH: the session is secured; an authentication failure ends it with event 0x0E02 (R531, R572). -/
def execSpdmFinish (path sess : Nat) (ok : Bool) (s : State) : Out :=
  .next (if !(pathAnswers path s) || (tfind sess s.sess).isNone then s
    else if ok then (sessSync sess { s with sess := tmod sess (fun e => { e with secured := true }) s.sess }).send (.spdm path "FINISH_RSP" (Config.spdmBody 0xE5 sess))
    else (sessSync sess (raise 0x0E02 (if path < 128 then 0 else 1) 0 { s with sess := tdel sess s.sess })).send (.spdm path "ERROR DecryptError" []))

/-- KEY_UPDATE of a secured session. -/
def execSpdmKeyUpdate (path sess : Nat) (s : State) : Out :=
  if (tfind sess s.sess).isSome then spdmAnswer path "KEY_UPDATE_ACK" 0xE9 sess s else .next s
/-- HEARTBEAT of a secured session. -/
def execSpdmHeartbeat (path sess : Nat) (s : State) : Out :=
  if (tfind sess s.sess).isSome then spdmAnswer path "HEARTBEAT_ACK" 0xE8 sess s else .next s

/-- END_SESSION closes a session; its key slots and its level end with it (R368, R587). -/
def execSpdmEndSession (path sess : Nat) (s : State) : Out :=
  .next (if pathAnswers path s && (tfind sess s.sess).isSome then
    (sessSync sess { s with sess := tdel sess s.sess }).send (.spdm path "END_SESSION_ACK" (Config.spdmBody 0xEC sess)) else s)

/-- PSK_EXCHANGE, GET_CSR, SET_CERTIFICATE and every other request outside R531 (R532). -/
def execSpdmUnsupportedRequest (path : Nat) (s : State) : Out :=
  .next (if pathAnswers path s then s.send (.spdm path "ERROR UnsupportedRequest" []) else s)

end Sys2Proof.Machine
end

