-- ==== Sys2Proof/Machine/Tiers.lean ====
section
/-!
DEFINITION. Sys2Proof/Machine/Tiers.lean: the tier primitives and the movers' events (05_tiers.md, R416): reads and writes of the copies,
the directory and its move locks, move slots and tickets, fills, evictions, promotions, the sweep, waits for frames, losses.
-/
namespace Sys2Proof.Machine

open Sys2Proof

/-! ### Primitives (R313, R161, R177, R181) -/

/-- TICKET_GET: holder 0–7 a host port, 8 the RDMA service; answered with the ticket, or NO_RESOURCE (R313, R354). -/
def execTicketGet (holder : Nat) (s : State) : Out :=
  onUp s fun s =>
    match takeTicket (Nat.min holder 8) s with
    | some (n, s) => s.send (.prim "TICKET_GET" 0 n)
    | none => s.send (.prim "TICKET_GET" St.noResource.code 0)

/-- TICKET_PUT (R313). -/
def execTicketPut (n : Nat) (s : State) : Out := onUp s fun s => (giveTicket n s).send (.prim "TICKET_PUT" 0 n)

/-- SLOT_GET: user 1 eviction, 2 drain, 3 resaw, 4 promotion or RESYNC snapshot (R177). -/
def execSlotGet (user : Nat) (s : State) : Out :=
  onUp s fun s =>
    match takeSlot user s with
    | some (n, s) => s.send (.prim "SLOT_GET" 0 n)
    | none => s.send (.prim "SLOT_GET" St.noResource.code 0)

/-- SLOT_PUT (R177). -/
def execSlotPut (n : Nat) (s : State) : Out := onUp s fun s => (giveSlot n s).send (.prim "SLOT_PUT" 0 n)

/-- WINDOW_CHECK of an access of `len` bytes at `addr` with a right (1 read, 2 write, 4 atomic); an access that passes counts in flight (R49, R331). -/
def execWindowCheck (id addr len right : Nat) (s : State) : Out :=
  onUp s fun s =>
    match tfind id s.win with
    | none => s.send (.prim "WINDOW_CHECK" St.badField.code id)
    | some w =>
      match accessCheck w addr len right with
      | some st => s.send (.prim "WINDOW_CHECK" st.code id)
      | none => (beginAccess id s).send (.prim "WINDOW_CHECK" 0 id)

/-- A metadata line as joinery reads it: from the bench, from a victim-buffer entry, or by a fill (R201, R205). -/
def readMeta (mline : Nat) (s : State) : State :=
  let b := benchLookup true mline s
  if b.1 = 0 || b.1 = 3 then b.2
  else if b.2.tir.victims.any (fun v => v.ba == mline / 4 && bitOf (mline % 4) v.sectors) then
    (b.2.inc (Reg.BCH_STAT_COUNT (benchBank (mline / 4)) 6)).onTir fun x =>
      { x with victims := x.victims.map (fun (v : VictimEnt) => if v.ba = mline / 4 then { v with waits := v.waits ++ [false] } else v) }
  else issueFill true (mline / 4) (mline % 4) 0 false b.2

/-- A metadata line as joinery modifies it: its sector becomes dirty at once, after the reinstall, or when its fill lands (R201, R205); a bank that is not
ENABLED writes it straight home (R213). -/
def writeMeta (mline : Nat) (s : State) : State :=
  let ba := mline / 4
  let b := benchLookup true mline s
  if b.1 = 3 then b.2
  else if b.1 = 0 then
    match benchFind true ba b.2 with
    | some (w, e) => dirtySync (benchBank ba) (putWay ba w { e with dirty := setBit e.dirty (mline % 4) true } b.2)
    | none => b.2
  else if b.2.tir.victims.any (fun v => v.ba == ba && bitOf (mline % 4) v.sectors) then
    (b.2.inc (Reg.BCH_STAT_COUNT (benchBank ba) 6)).onTir fun x =>
      { x with victims := x.victims.map (fun (v : VictimEnt) => if v.ba = ba then { v with waits := v.waits ++ [true] } else v) }
  else issueFill true ba (mline % 4) 0 true b.2

/-- DIR_LOOKUP: a granule's entry, read through the metadata line that holds it (R161). -/
def execDirLookup (g mline : Nat) (fault : MemFault) (s : State) : Out :=
  onUp s fun s =>
    let t := readMeta mline (memFault fault (g * 256) s)
    t.send (.prim "DIR_LOOKUP" 0 (leNat (dirBytes (t.gran g))))

/-- The lock kind of a code: fill, promotion, demotion, drops, snapshots, resaw, rebuild (R181). -/
def lockOfCode (k : Nat) : LockKind :=
  if k = 0 then .fill else if k = 1 then .promotion else if k = 2 then .demotion else if k = 3 then .dropLoft else if k = 4 then .dropFloor
  else if k = 5 then .drainSnap else if k = 6 then .resyncSnap else if k = 7 then .resaw else .rebuild

/-- DIR_LOCK: joinery takes a granule's move lock in its entry's metadata line, or waits for it (R161, R181, R201). -/
def execDirLock (g kind holder mline : Nat) (s : State) : Out :=
  onUp s fun s =>
    let q := takeLock g { kind := lockOfCode kind, holder := holder } (writeMeta mline s)
    q.2.send (.prim "DIR_LOCK" 0 (b2n q.1))

/-- DIR_UNLOCK: the lock is released; what waited on it goes on (R181). -/
def execDirUnlock (g mline : Nat) (s : State) : Out := onUp s fun s => (settle (dropLock g (writeMeta mline s))).send (.prim "DIR_UNLOCK" 0 g)

/-- A translation entry as XLT_LOOKUP answers it: granule, locator, generation, and the entry-present bit (R104). -/
def xltWord (e : XltEnt) : Nat := e.granule + 2 ^ 34 * e.locator + 2 ^ 82 * e.gen + 2 ^ 114

/-- XLT_LOOKUP: a granule's translation entry, read through the metadata line that holds it (R104). -/
def execXltLookup (g mline : Nat) (fault : MemFault) (s : State) : Out :=
  onUp s fun s =>
    let t := readMeta mline (memFault fault (g * 256) s)
    t.send (.prim "XLT_LOOKUP" 0 (match tfind g t.tir.xlt with | some e => xltWord e | none => 0))

/-! ### Reads, record applications and fills (R168 to R173, R273) -/

/-- TIER_READ: joinery reads a line under a ticket: from the bench, the loft, the floor or the footing, as R68, R168 to R174 and R181 say; `fault` is
what the check codes gave. -/
def execTierRead (n ticket line tenant : Nat) (noPromote : Bool) (fault : MemFault) (s : State) : Out :=
  onUp s fun s =>
    if reachState s (lineReach line) = 0 then s.send (.prim "TIER_READ" St.bounds.code n)
    else
      request { ticket := ticket, src := .prim n, line := line, window := 2 ^ 32, tenant := tenant, cls := 0, atomic := none, chained := false,
                noPromote := noPromote } (memFault fault line s)

/-- TIER_WRITE: the record at ring position `pos` is applied to the copies of its granule, when it is held, visible and next in its reach (R90, R159,
R171). -/
def execTierWrite (pos : Nat) (fault : MemFault) (s : State) : Out :=
  onUp s fun s =>
    match s.cis.recs.find? (fun r => r.pos == pos) with
    | none => s
    | some r => settle (applyPass [r] (mergeFault fault r (memFault fault r.line s)))

/-- QUARTER_ARRIVED: quarter q of a granule under fill arrives good: it is installed and the requests chained on it are served, in arrival order (R160, R168,
R169, R171). -/
def execQuarterArrived (g q : Nat) (s : State) : Out :=
  onUp s fun s =>
    if s.tir.ladders.any (fun l => l.quarter == 4 * g + q % 4) then s else settle (installQuarter g (q % 4) s)

/-- FRAME_WAIT_RESUME: a frame of pool p is free and waiting allocations go on (R180). -/
def execFrameWaitResume (p : Nat) (s : State) : Out :=
  onUp s fun s => if poolFree s (p % 2) = 0 then s else settle (s.put (Reg.TIR_POOL_STATE_FRAME_WAIT (p % 2)) 0)

/-! ### Movers -/

/-- MOVE_DONE: a drop, a promotion or a demotion of the granule completes (R164, R176). -/
def execMoveDone (g : Nat) (s : State) : Out := onUp s fun s => settle (endMove g s)

/-- The mover that takes a released lock begins: a promotion and an eviction are looked at afresh, a drain snapshot packs the granule on `lane`, a waiting
relocation compares its translation when RESAW_RELOCATE is reported again, a rebuild holds the lock (R178, R181, R182). -/
def grantLock (g lane : Nat) (w : Lock) (s : State) : State :=
  let e := s.gran g
  match w.kind with
  | .promotion =>
    if e.floor && !e.loft then
      match allocLoft g 0 s with
      | some s => modGran g (fun (e : Gran) => { e with lock := some w }) s
      | none => (giveSlot w.holder s).inc (Reg.TIR_TIER_STAT_COUNT 5)
    else giveSlot w.holder s
  | .demotion => beginEvict 0 g w.holder s
  | .dropLoft => beginEvict 0 g w.holder s
  | .dropFloor => beginEvict 1 g w.holder s
  | .drainSnap =>
    match startPack g (packKind g s) w.holder lane s with
    | some s => s
    | none => giveSlot w.holder (packWaits g s)
  | .rebuild => modGran g (fun (e : Gran) => { e with lock := some w }) s
  | .resyncSnap => giveSlot w.holder s
  | _ => s

/-- MOVE_LOCK_GRANTED: the first waiting mover takes a released lock (R181); a fill begins again at the request that waits for it. -/
def execMoveLockGranted (g lane : Nat) (s : State) : Out :=
  onUp s fun s =>
    let e := s.gran g
    match e.lock, e.waiters with
    | none, w :: ws => settle (grantLock g lane w (setGran g { e with waiters := ws } s))
    | _, _ => s

/-- SWEEP_PASS_START: in QUIESCED, PAIRED, RESYNC and SOLO, with the sweeper enabled; an overrun is counted and the next pass follows the running one
(R164 to R167). -/
def execSweepPassStart (s : State) : Out :=
  onUp s fun s =>
    if !(s.serving || s.mode = .quiesced) || !(s.flag Reg.TIR_SWP_CFG_ENABLE) then s
    else if s.flag Reg.TIR_SWP_STATE_RUNNING then
      (if s.tir.sweepDue then s else (s.onTir fun x => { x with sweepDue := true }).inc (Reg.TIR_TIER_STAT_COUNT 12))
    else startSweep s

/-- SWEEP_PASS_END: the duration is reported; an overrun pass starts the next (R166). -/
def execSweepPassEnd (s : State) : Out :=
  onUp s fun s =>
    if !(s.flag Reg.TIR_SWP_STATE_RUNNING) then s
    else
      let t := (s.put Reg.TIR_SWP_STATE_RUNNING 0).put Reg.TIR_SWP_STATE_LAST_MS (satAt 0xFFFF ((s.epoch - s.tir.sweepAt) / 1000))
      if s.tir.sweepDue then startSweep t else t

/-- AGE_EVICTION: the engine takes the oldest queued granule: still pending and eligible, it is evicted under its lock and a slot; its lock held, it waits
for it; no slot free, it waits for one; otherwise its flag is cleared (R175, R178). -/
def execAgeEviction (s : State) : Out :=
  onUp s fun s =>
    match s.tir.ageQ with
    | [] => s
    | (g, inLoft) :: rest =>
      let p := if inLoft then 0 else 1
      let e := s.gran g
      let pass := s.onTir fun x => { x with ageQ := rest }
      let pend := if inLoft then e.loftPend else e.floorPend
      if !pend then pass
      else if evictAction p e s = 0 then
        modGran g (fun (e : Gran) => if inLoft then { e with loftPend := false } else { e with floorPend := false }) pass
      else match takeSlot 1 pass with
        | none => s
        | some (n, t) =>
          if e.lock.isSome || !e.waiters.isEmpty then (takeLock g { kind := if inLoft then .dropLoft else .dropFloor, holder := n } t).2
          else poolStateSync (beginEvict p g n t)

/-- PRESSURE_EVICTION: below START, or on the way to STOP, one victim of the pool is selected and locked in one step (R179, R182). -/
def execPressureEviction (pool : Nat) (s : State) : Out :=
  onUp s fun s =>
    let p := pool % 2
    if !(pressureOn p s) then s.put (Reg.TIR_POOL_STATE_EVICTING p) 0
    else if !(slotFree 1 s) then s.put (Reg.TIR_POOL_STATE_EVICTING p) 1
    else
      let cut := if s.flag (Reg.TIR_POOL_STATE_EVICTING p) then s.get (Reg.TIR_POOL_STATE_CUT p) else topBucket p s
      let r := relieve p (s.put (Reg.TIR_POOL_STATE_EVICTING p) 1) 17 cut
      match r.1, takeSlot 1 r.2 with
      | some g, some (n, s) => poolStateSync (beginEvict p g n (s.onTir fun x => { x with hand := tset 0 p g x.hand }))
      | _, _ => poolStateSync r.2

/-! ### Losses and rebuilds (R184, R185, R273) -/

/-- A rebuild is over: its lock is released and what waited goes on. -/
def rebuildDone (g : Nat) (s : State) : State := settle (dropLock g (s.onTir fun x => { x with rebuilds := x.rebuilds.filter (· != g) }))

/-- COPY_REBUILD_DONE: a rebuilt granule has a whole floor copy of AGE 0 and TENANT 0, or, after a line's repair, its copy again; its lock is released and
what waited goes on (R184, R273). -/
def execCopyRebuildDone (g : Nat) (s : State) : Out :=
  onUp s fun s =>
    let e := s.gran g
    if !(s.tir.rebuilds.contains g) || !(e.lock.any (fun l => l.kind = LockKind.rebuild)) then s
    else
      if e.cached then rebuildDone g s
      else match allocFloor g allLines 0 0 s with
        | some t => rebuildDone g t
        | none => frameWait 1 s

/-- FLOOR_CHANNEL_LOST: a floor channel is fenced or fails (R184 to R186). -/
def execFloorChannelLost (c : Nat) (s : State) : Out :=
  onUp s fun s => if unitState s (14 + c % 16) = 3 || unitState s (14 + c % 16) = 5 then s else settle (loseChannel (c % 16) s)

end Sys2Proof.Machine
end

