-- ==== Sys2Proof/Machine/Dispatch.lean ====
section
/-!
DEFINITION. Sys2Proof/Machine/Dispatch.lean: every command of the table and its meaning, one arm per constructor.
-/
namespace Sys2Proof.Machine

def exec (i : Instr) (s : State) : Host.Outcome State Fault Refusal :=
  match i with
  | .powerOn => Sys2Proof.Machine.execPowerOn s
  | .inputFallsBelow34v => Sys2Proof.Machine.execInputFallsBelow34v s
  | .powerFailDeclared => Sys2Proof.Machine.execPowerFailDeclared s
  | .inputDipCarried => Sys2Proof.Machine.execInputDipCarried s
  | .overvoltageDetected => Sys2Proof.Machine.execOvervoltageDetected s
  | .inputGoodAfterOv => Sys2Proof.Machine.execInputGoodAfterOv s
  | .railTrip rail => Sys2Proof.Machine.execRailTrip rail s
  | .uvloShutdown => Sys2Proof.Machine.execUvloShutdown s
  | .spillStreamStart => Sys2Proof.Machine.execSpillStreamStart s
  | .spillCommitMarker durationUs energy vbank inputGood => Sys2Proof.Machine.execSpillCommitMarker durationUs energy vbank inputGood s
  | .bankAt30v inputGood => Sys2Proof.Machine.execBankAt30v inputGood s
  | .bankCharged => Sys2Proof.Machine.execBankCharged s
  | .bankRechargeStart => Sys2Proof.Machine.execBankRechargeStart s
  | .bankFault charger => Sys2Proof.Machine.execBankFault charger s
  | .bankFaultEnd => Sys2Proof.Machine.execBankFaultEnd s
  | .dischargeTestDue => Sys2Proof.Machine.execDischargeTestDue s
  | .dischargeTestEnd c esr => Sys2Proof.Machine.execDischargeTestEnd c esr s
  | .headgateReq kind arg h0 tokens => Sys2Proof.Machine.execHeadgateReq kind arg h0 tokens s
  | .headgateReturn kind arg => Sys2Proof.Machine.execHeadgateReturn kind arg s
  | .headgateGrant => Sys2Proof.Machine.execHeadgateGrant s
  | .inputPowerOverLimit pin => Sys2Proof.Machine.execInputPowerOverLimit pin s
  | .temperatureSample temps bad => Sys2Proof.Machine.execTemperatureSample temps bad s
  | .thermalShutdown => Sys2Proof.Machine.execThermalShutdown s
  | .thermalShutdownExit => Sys2Proof.Machine.execThermalShutdownExit s
  | .epochTick => Sys2Proof.Machine.execEpochTick s
  | .modResetNAssert => Sys2Proof.Machine.execModResetNAssert s
  | .moduleResetRelease => Sys2Proof.Machine.execModuleResetRelease s
  | .resetApply => Sys2Proof.Machine.execResetApply s
  | .preResetSpillLimit => Sys2Proof.Machine.execPreResetSpillLimit s
  | .modCtlStart acc => Sys2Proof.Machine.execModCtlStart acc s
  | .bringupStepEnd step facts image => Sys2Proof.Machine.execBringupStepEnd step facts image s
  | .floorChannelSwept channel => Sys2Proof.Machine.execFloorChannelSwept channel s
  | .loftStackSwept stack => Sys2Proof.Machine.execLoftStackSwept stack s
  | .serveEntryUnblocked => Sys2Proof.Machine.execServeEntryUnblocked s
  | .spdmGetVersion path => Sys2Proof.Machine.execSpdmGetVersion path s
  | .spdmGetCapabilities path => Sys2Proof.Machine.execSpdmGetCapabilities path s
  | .spdmNegotiateAlgorithms path => Sys2Proof.Machine.execSpdmNegotiateAlgorithms path s
  | .spdmGetDigests path => Sys2Proof.Machine.execSpdmGetDigests path s
  | .spdmGetCertificate path slot => Sys2Proof.Machine.execSpdmGetCertificate path slot s
  | .spdmChallenge path nonce => Sys2Proof.Machine.execSpdmChallenge path nonce s
  | .spdmGetMeasurements path index => Sys2Proof.Machine.execSpdmGetMeasurements path index s
  | .spdmKeyExchange path cert => Sys2Proof.Machine.execSpdmKeyExchange path cert s
  | .spdmFinish path sess ok => Sys2Proof.Machine.execSpdmFinish path sess ok s
  | .spdmKeyUpdate path sess => Sys2Proof.Machine.execSpdmKeyUpdate path sess s
  | .spdmHeartbeat path sess => Sys2Proof.Machine.execSpdmHeartbeat path sess s
  | .spdmEndSession path sess => Sys2Proof.Machine.execSpdmEndSession path sess s
  | .spdmUnsupportedRequest path => Sys2Proof.Machine.execSpdmUnsupportedRequest path s
  | .mbxRing m sess meanUs => Sys2Proof.Machine.execMbxRing m sess meanUs s
  | .mbxCancel m => Sys2Proof.Machine.execMbxCancel m s
  | .mbxAck m => Sys2Proof.Machine.execMbxAck m s
  | .mbxCommandStart m => Sys2Proof.Machine.execMbxCommandStart m s
  | .identify m => Sys2Proof.Machine.execIdentify m s
  | .health m => Sys2Proof.Machine.execHealth m s
  | .statsRead m => Sys2Proof.Machine.execStatsRead m s
  | .modeRequest m => Sys2Proof.Machine.execModeRequest m s
  | .reset m => Sys2Proof.Machine.execReset m s
  | .frameOpen m => Sys2Proof.Machine.execFrameOpen m s
  | .frameStage m => Sys2Proof.Machine.execFrameStage m s
  | .frameDryfit m => Sys2Proof.Machine.execFrameDryfit m s
  | .framePeg m => Sys2Proof.Machine.execFramePeg m s
  | .frameDiscard m => Sys2Proof.Machine.execFrameDiscard m s
  | .frameStatus m => Sys2Proof.Machine.execFrameStatus m s
  | .pegRecheck f => Sys2Proof.Machine.execPegRecheck f s
  | .pegTakesEffect f recordOk => Sys2Proof.Machine.execPegTakesEffect f recordOk s
  | .unitRecal u => Sys2Proof.Machine.execUnitRecal u s
  | .unitOut u => Sys2Proof.Machine.execUnitOut u s
  | .unitServe u passes => Sys2Proof.Machine.execUnitServe u passes s
  | .unitActionDone u ok => Sys2Proof.Machine.execUnitActionDone u ok s
  | .cxlWindowOpen m => Sys2Proof.Machine.execCxlWindowOpen m s
  | .cxlWindowClose m => Sys2Proof.Machine.execCxlWindowClose m s
  | .dcdExtentAdd m => Sys2Proof.Machine.execDcdExtentAdd m s
  | .dcdExtentRelease m => Sys2Proof.Machine.execDcdExtentRelease m s
  | .cxlGapAck m => Sys2Proof.Machine.execCxlGapAck m s
  | .dcRegionSet m => Sys2Proof.Machine.execDcRegionSet m s
  | .staticCapacitySet m => Sys2Proof.Machine.execStaticCapacitySet m s
  | .hostLinkUnfence m => Sys2Proof.Machine.execHostLinkUnfence m s
  | .windowList m => Sys2Proof.Machine.execWindowList m s
  | .windowStatus m => Sys2Proof.Machine.execWindowStatus m s
  | .pdCreate m => Sys2Proof.Machine.execPdCreate m s
  | .pdDestroy m => Sys2Proof.Machine.execPdDestroy m s
  | .qpCreate m => Sys2Proof.Machine.execQpCreate m s
  | .qpModify m => Sys2Proof.Machine.execQpModify m s
  | .qpError m => Sys2Proof.Machine.execQpError m s
  | .qpDestroy m => Sys2Proof.Machine.execQpDestroy m s
  | .rdmaGapAck m => Sys2Proof.Machine.execRdmaGapAck m s
  | .counterSet m => Sys2Proof.Machine.execCounterSet m s
  | .rdmaPortUnfence m => Sys2Proof.Machine.execRdmaPortUnfence m s
  | .rdmaWindowOpen m => Sys2Proof.Machine.execRdmaWindowOpen m s
  | .rdmaWindowClose m => Sys2Proof.Machine.execRdmaWindowClose m s
  | .qpStatus m => Sys2Proof.Machine.execQpStatus m s
  | .counterRead m => Sys2Proof.Machine.execCounterRead m s
  | .reachProvision m => Sys2Proof.Machine.execReachProvision m s
  | .reachRelease m twinWindows => Sys2Proof.Machine.execReachRelease m twinWindows s
  | .reachHandover m => Sys2Proof.Machine.execReachHandover m s
  | .pairStatus m => Sys2Proof.Machine.execPairStatus m s
  | .pairJoinAccept m => Sys2Proof.Machine.execPairJoinAccept m s
  | .pairSplit m => Sys2Proof.Machine.execPairSplit m s
  | .pairResolve m => Sys2Proof.Machine.execPairResolve m s
  | .soloStart m => Sys2Proof.Machine.execSoloStart m s
  | .linkUnfence m => Sys2Proof.Machine.execLinkUnfence m s
  | .dirRead m => Sys2Proof.Machine.execDirRead m s
  | .cisternStatus m => Sys2Proof.Machine.execCisternStatus m s
  | .reachRead m => Sys2Proof.Machine.execReachRead m s
  | .boardRelease m => Sys2Proof.Machine.execBoardRelease m s
  | .boardAdmit m fault place dies bad => Sys2Proof.Machine.execBoardAdmit m fault place dies bad s
  | .footingFormat m bad => Sys2Proof.Machine.execFootingFormat m bad s
  | .footingStatus m => Sys2Proof.Machine.execFootingStatus m s
  | .keyLoad m unwraps keyId => Sys2Proof.Machine.execKeyLoad m unwraps keyId s
  | .keyClear m => Sys2Proof.Machine.execKeyClear m s
  | .keyForget m => Sys2Proof.Machine.execKeyForget m s
  | .cipherSubmit m => Sys2Proof.Machine.execCipherSubmit m s
  | .slotStatus m => Sys2Proof.Machine.execSlotStatus m s
  | .storeStatus m => Sys2Proof.Machine.execStoreStatus m s
  | .imageWrite m failWord => Sys2Proof.Machine.execImageWrite m failWord s
  | .imageCommit m sigOk markerOk => Sys2Proof.Machine.execImageCommit m sigOk markerOk s
  | .hotRestart m verifies => Sys2Proof.Machine.execHotRestart m verifies s
  | .regionUnlock m digestMatches => Sys2Proof.Machine.execRegionUnlock m digestMatches s
  | .logRead m => Sys2Proof.Machine.execLogRead m s
  | .logStatus m => Sys2Proof.Machine.execLogStatus m s
  | .logNote m => Sys2Proof.Machine.execLogNote m s
  | .powerStatus m => Sys2Proof.Machine.execPowerStatus m s
  | .dischargeTest m => Sys2Proof.Machine.execDischargeTest m s
  | .headgateStatus m => Sys2Proof.Machine.execHeadgateStatus m s
  | .freeze m => Sys2Proof.Machine.execFreeze m s
  | .selftestReport m => Sys2Proof.Machine.execSelftestReport m s
  | .surveyInfo m => Sys2Proof.Machine.execSurveyInfo m s
  | .joineryLoad m image => Sys2Proof.Machine.execJoineryLoad m image s
  | .bayDrain m => Sys2Proof.Machine.execBayDrain m s
  | .bayStatus m => Sys2Proof.Machine.execBayStatus m s
  | .reclaim m => Sys2Proof.Machine.execReclaim m s
  | .yardInspect m => Sys2Proof.Machine.execYardInspect m s
  | .ditchInspect m => Sys2Proof.Machine.execDitchInspect m s
  | .pairMailboxCommand m op payload => Sys2Proof.Machine.execPairMailboxCommand m op payload s
  | .mgmtRaiseLevel sess digestMatches => Sys2Proof.Machine.execMgmtRaiseLevel sess digestMatches s
  | .registerWrite acc off width value => Sys2Proof.Machine.execRegisterWrite acc off width value s
  | .eccInjectArm acc domain unit kind => Sys2Proof.Machine.execEccInjectArm acc domain unit kind s
  | .bchBankInvalidate acc b => Sys2Proof.Machine.execBchBankInvalidate acc b s
  | .bankInvalidateDone b => Sys2Proof.Machine.execBankInvalidateDone b s
  | .bankWritebackDone b => Sys2Proof.Machine.execBankWritebackDone b s
  | .benchInvalidate acc => Sys2Proof.Machine.execBenchInvalidate acc s
  | .benchClean acc => Sys2Proof.Machine.execBenchClean acc s
  | .benchFlush acc => Sys2Proof.Machine.execBenchFlush acc s
  | .benchFillLanded isMeta ba => Sys2Proof.Machine.execBenchFillLanded isMeta ba s
  | .victimWritebackAck ba => Sys2Proof.Machine.execVictimWritebackAck ba s
  | .parityLimitReached b => Sys2Proof.Machine.execParityLimitReached b s
  | .fmnWdtKick => Sys2Proof.Machine.execFmnWdtKick s
  | .watchdogExpiry => Sys2Proof.Machine.execWatchdogExpiry s
  | .graceEnd => Sys2Proof.Machine.execGraceEnd s
  | .lockstepMismatch => Sys2Proof.Machine.execLockstepMismatch s
  | .storeOpTimeout => Sys2Proof.Machine.execStoreOpTimeout s
  | .exceptionPost bay subject => Sys2Proof.Machine.execExceptionPost bay subject s
  | .exceptionHandle => Sys2Proof.Machine.execExceptionHandle s
  | .stepRun op entry mask more stores => Sys2Proof.Machine.execStepRun op entry mask more stores s
  | .stepBudgetExceeded bay op entry => Sys2Proof.Machine.execStepBudgetExceeded bay op entry s
  | .joinerFault joiner cause abandoned => Sys2Proof.Machine.execJoinerFault joiner cause abandoned s
  | .joinerTestDue joiner passes => Sys2Proof.Machine.execJoinerTestDue joiner passes s
  | .bayLoadDone bay tested ok => Sys2Proof.Machine.execBayLoadDone bay tested ok s
  | .bayEmpty bay => Sys2Proof.Machine.execBayEmpty bay s
  | .ticketGet holder => Sys2Proof.Machine.execTicketGet holder s
  | .ticketPut n => Sys2Proof.Machine.execTicketPut n s
  | .slotGet user => Sys2Proof.Machine.execSlotGet user s
  | .slotPut n => Sys2Proof.Machine.execSlotPut n s
  | .windowCheck id addr len right => Sys2Proof.Machine.execWindowCheck id addr len right s
  | .hdmDecode port ld dpa => Sys2Proof.Machine.execHdmDecode port ld dpa s
  | .dirLookup g mline fault => Sys2Proof.Machine.execDirLookup g mline fault s
  | .dirLock g kind holder mline => Sys2Proof.Machine.execDirLock g kind holder mline s
  | .dirUnlock g mline => Sys2Proof.Machine.execDirUnlock g mline s
  | .moveLockGranted g lane => Sys2Proof.Machine.execMoveLockGranted g lane s
  | .xltLookup g mline fault => Sys2Proof.Machine.execXltLookup g mline fault s
  | .cisternAppend rec => Sys2Proof.Machine.execCisternAppend rec s
  | .recordHeld pos fault => Sys2Proof.Machine.execRecordHeld pos fault s
  | .writeAdmitted => Sys2Proof.Machine.execWriteAdmitted s
  | .appendResume => Sys2Proof.Machine.execAppendResume s
  | .twinSend w => Sys2Proof.Machine.execTwinSend w s
  | .cipherSubmission caller desc => Sys2Proof.Machine.execCipherSubmission caller desc s
  | .cipherJobDone job tagOk coreFault => Sys2Proof.Machine.execCipherJobDone job tagOk coreFault s
  | .katDue core pass => Sys2Proof.Machine.execKatDue core pass s
  | .entropyHealthFail => Sys2Proof.Machine.execEntropyHealthFail s
  | .counterBlockRecorded slot => Sys2Proof.Machine.execCounterBlockRecorded slot s
  | .tierRead n ticket line tenant noPromote fault => Sys2Proof.Machine.execTierRead n ticket line tenant noPromote fault s
  | .tierWrite pos fault => Sys2Proof.Machine.execTierWrite pos fault s
  | .quarterArrived g q => Sys2Proof.Machine.execQuarterArrived g q s
  | .moveDone g => Sys2Proof.Machine.execMoveDone g s
  | .sweepPassStart => Sys2Proof.Machine.execSweepPassStart s
  | .sweepPassEnd => Sys2Proof.Machine.execSweepPassEnd s
  | .ageEviction => Sys2Proof.Machine.execAgeEviction s
  | .pressureEviction pool => Sys2Proof.Machine.execPressureEviction pool s
  | .frameWaitResume p => Sys2Proof.Machine.execFrameWaitResume p s
  | .copyRebuildDone g => Sys2Proof.Machine.execCopyRebuildDone g s
  | .floorChannelLost c => Sys2Proof.Machine.execFloorChannelLost c s
  | .loftStackFenced n => Sys2Proof.Machine.execLoftStackFenced n s
  | .cisternRoomMade => Sys2Proof.Machine.execCisternRoomMade s
  | .cisternCopyDone => Sys2Proof.Machine.execCisternCopyDone s
  | .drainPackStart lane => Sys2Proof.Machine.execDrainPackStart lane s
  | .packConfirmed g => Sys2Proof.Machine.execPackConfirmed g s
  | .checkpointConfirmed page => Sys2Proof.Machine.execCheckpointConfirmed page s
  | .packProgramFailed g lane => Sys2Proof.Machine.execPackProgramFailed g lane s
  | .resawStart => Sys2Proof.Machine.execResawStart s
  | .resawRelocate g lane poisoned => Sys2Proof.Machine.execResawRelocate g lane poisoned s
  | .resawErase key => Sys2Proof.Machine.execResawErase key s
  | .wearRelocation => Sys2Proof.Machine.execWearRelocation s
  | .rowGroupPadTimeout lane unit group => Sys2Proof.Machine.execRowGroupPadTimeout lane unit group s
  | .programStatus lane unit group result board => Sys2Proof.Machine.execProgramStatus lane unit group result board s
  | .eraseStatus key bad nearEnd => Sys2Proof.Machine.execEraseStatus key bad nearEnd s
  | .suspendDone sluice die => Sys2Proof.Machine.execSuspendDone sluice die s
  | .quarterReadDone g q ok => Sys2Proof.Machine.execQuarterReadDone g q ok s
  | .ladderDeadline g q => Sys2Proof.Machine.execLadderDeadline g q s
  | .dieTimeout sluice die => Sys2Proof.Machine.execDieTimeout sluice die s
  | .channelTrainingFail sluice => Sys2Proof.Machine.execChannelTrainingFail sluice s
  | .boardSurpriseAbsent b => Sys2Proof.Machine.execBoardSurpriseAbsent b s
  | .boardRebuildDone b => Sys2Proof.Machine.execBoardRebuildDone b s
  | .lockPairFillDone n more => Sys2Proof.Machine.execLockPairFillDone n more s
  | .lockPairDrainDone n more => Sys2Proof.Machine.execLockPairDrainDone n more s
  | .scrubRead domain unit target region result amount progress => Sys2Proof.Machine.execScrubRead domain unit target region result amount progress s
  | .scrubPassLate domain => Sys2Proof.Machine.execScrubPassLate domain s
  | .eccThresholdReached kind unit device => Sys2Proof.Machine.execEccThresholdReached kind unit device s
  | .memRd port ld tag hpa => Sys2Proof.Machine.execMemRd port ld tag hpa s
  | .memSpecRd port ld hpa => Sys2Proof.Machine.execMemSpecRd port ld hpa s
  | .memInv port ld tag => Sys2Proof.Machine.execMemInv port ld tag s
  | .memWr port ld tag hpa poison data => Sys2Proof.Machine.execMemWr port ld tag hpa poison data s
  | .memWrPtl port ld tag hpa mask poison data => Sys2Proof.Machine.execMemWrPtl port ld tag hpa mask poison data s
  | .cxlViolation port ld tag read ur => Sys2Proof.Machine.execCxlViolation port ld tag read ur s
  | .cxlViolationLimit port => Sys2Proof.Machine.execCxlViolationLimit port s
  | .gpfPhase1 port => Sys2Proof.Machine.execGpfPhase1 port s
  | .gpfPhase2 port => Sys2Proof.Machine.execGpfPhase2 port s
  | .hdmDecoderCommit port ld idx base size ways gran skip => Sys2Proof.Machine.execHdmDecoderCommit port ld idx base size ways gran skip s
  | .hostLinkDown port => Sys2Proof.Machine.execHostLinkDown port s
  | .hpnPerstAssert port => Sys2Proof.Machine.execHpnPerstAssert port s
  | .hpnPerstRelease port => Sys2Proof.Machine.execHpnPerstRelease port s
  | .hostLinkUp port rate width ltssm => Sys2Proof.Machine.execHostLinkUp port rate width ltssm s
  | .cdatRead port ld => Sys2Proof.Machine.execCdatRead port ld s
  | .identifyMemoryDevice port ld => Sys2Proof.Machine.execIdentifyMemoryDevice port ld s
  | .getSupportedLogs port ld => Sys2Proof.Machine.execGetSupportedLogs port ld s
  | .getLog port ld => Sys2Proof.Machine.execGetLog port ld s
  | .getEventRecords port ld => Sys2Proof.Machine.execGetEventRecords port ld s
  | .clearEventRecords port ld all handles => Sys2Proof.Machine.execClearEventRecords port ld all handles s
  | .getEventInterruptPolicy port ld => Sys2Proof.Machine.execGetEventInterruptPolicy port ld s
  | .setEventInterruptPolicy port ld policy => Sys2Proof.Machine.execSetEventInterruptPolicy port ld policy s
  | .getTimestamp port ld => Sys2Proof.Machine.execGetTimestamp port ld s
  | .setTimestamp port ld value => Sys2Proof.Machine.execSetTimestamp port ld value s
  | .getHealthInfo port ld life => Sys2Proof.Machine.execGetHealthInfo port ld life s
  | .getPoisonList port ld => Sys2Proof.Machine.execGetPoisonList port ld s
  | .clearPoison port ld dpa data => Sys2Proof.Machine.execClearPoison port ld dpa data s
  | .getDcConfiguration port ld => Sys2Proof.Machine.execGetDcConfiguration port ld s
  | .getDcExtentList port ld => Sys2Proof.Machine.execGetDcExtentList port ld s
  | .addDcResponse port ld extents => Sys2Proof.Machine.execAddDcResponse port ld extents s
  | .releaseDynamicCapacity port ld extents => Sys2Proof.Machine.execReleaseDynamicCapacity port ld extents s
  | .cxlUnsupportedOpcode port ld => Sys2Proof.Machine.execCxlUnsupportedOpcode port ld s
  | .getLdInfo port => Sys2Proof.Machine.execGetLdInfo port s
  | .getLdAllocations port => Sys2Proof.Machine.execGetLdAllocations port s
  | .setLdAllocations port count => Sys2Proof.Machine.execSetLdAllocations port count s
  | .getQosControl port => Sys2Proof.Machine.execGetQosControl port s
  | .setQosControl port value => Sys2Proof.Machine.execSetQosControl port value s
  | .getQosStatus port => Sys2Proof.Machine.execGetQosStatus port s
  | .offerTimeout id => Sys2Proof.Machine.execOfferTimeout id s
  | .releaseTimeout id => Sys2Proof.Machine.execReleaseTimeout id s
  | .rdmaSend port qp psn place imm ce data => Sys2Proof.Machine.execRdmaSend port qp psn place imm ce data s
  | .rdmaWrite port qp psn place key off len ce data => Sys2Proof.Machine.execRdmaWrite port qp psn place key off len ce data s
  | .rdmaWriteWithImmediate port qp psn place key off len imm ce data => Sys2Proof.Machine.execRdmaWriteWithImmediate port qp psn place key off len imm ce data s
  | .rdmaRead port qp psn key off len ce => Sys2Proof.Machine.execRdmaRead port qp psn key off len ce s
  | .compareSwap port qp psn key off cmp swap ce => Sys2Proof.Machine.execCompareSwap port qp psn key off cmp swap ce s
  | .fetchAdd port qp psn key off value ce => Sys2Proof.Machine.execFetchAdd port qp psn key off value ce s
  | .atomicWrite port qp psn key off value ce => Sys2Proof.Machine.execAtomicWrite port qp psn key off value ce s
  | .rdmaFlush port qp psn key off len persist whole ce => Sys2Proof.Machine.execRdmaFlush port qp psn key off len persist whole ce s
  | .rdmaWait port qp psn counter threshold ce => Sys2Proof.Machine.execRdmaWait port qp psn counter threshold ce s
  | .waitTimeout qp psn => Sys2Proof.Machine.execWaitTimeout qp psn s
  | .admissionWaitExpiry qp => Sys2Proof.Machine.execAdmissionWaitExpiry qp s
  | .ackCoalesceExpiry qp => Sys2Proof.Machine.execAckCoalesceExpiry qp s
  | .messageAbandon qp => Sys2Proof.Machine.execMessageAbandon qp s
  | .contextFetched qp verdict => Sys2Proof.Machine.execContextFetched qp verdict s
  | .cnpReceived port qp => Sys2Proof.Machine.execCnpReceived port qp s
  | .rateRecover qp => Sys2Proof.Machine.execRateRecover qp s
  | .pfcPauseReceived port prio on => Sys2Proof.Machine.execPfcPauseReceived port prio on s
  | .pfcStorm port prio => Sys2Proof.Machine.execPfcStorm port prio s
  | .arpRequest port v6 addr => Sys2Proof.Machine.execArpRequest port v6 addr s
  | .rdmaViolation port qp psn nak => Sys2Proof.Machine.execRdmaViolation port qp psn nak s
  | .rdmaViolationLimit port => Sys2Proof.Machine.execRdmaViolationLimit port s
  | .rdmaPortLinkDown port => Sys2Proof.Machine.execRdmaPortLinkDown port s
  | .rdmaPortLinkUp port rate => Sys2Proof.Machine.execRdmaPortLinkUp port rate s
  | .yardAlloc size caller group => Sys2Proof.Machine.execYardAlloc size caller group s
  | .yardFree handle caller => Sys2Proof.Machine.execYardFree handle caller s
  | .yardHandover handle caller owner => Sys2Proof.Machine.execYardHandover handle caller owner s
  | .ditchEnq q caller data sop eop => Sys2Proof.Machine.execDitchEnq q caller data sop eop s
  | .ditchDeq q caller bad => Sys2Proof.Machine.execDitchDeq q caller bad s
  | .dropRemainder q caller => Sys2Proof.Machine.execDropRemainder q caller s
  | .qopen consumer notice maxCells => Sys2Proof.Machine.execQopen consumer notice maxCells s
  | .qclose q caller => Sys2Proof.Machine.execQclose q caller s
  | .heartbeatWordReceived ok mode pos fenced degraded pf cableFault slot held => Sys2Proof.Machine.execHeartbeatWordReceived ok mode pos fenced degraded pf cableFault slot held s
  | .pairFenceInAssert => Sys2Proof.Machine.execPairFenceInAssert s
  | .pairFenceInDeassert => Sys2Proof.Machine.execPairFenceInDeassert s
  | .pairPfInAssert => Sys2Proof.Machine.execPairPfInAssert s
  | .pairInputPulse pf => Sys2Proof.Machine.execPairInputPulse pf s
  | .hbTimeout => Sys2Proof.Machine.execHbTimeout s
  | .stall => Sys2Proof.Machine.execStall s
  | .cableFaultSet => Sys2Proof.Machine.execCableFaultSet s
  | .cableFaultClear => Sys2Proof.Machine.execCableFaultClear s
  | .mirrorPathArbitration => Sys2Proof.Machine.execMirrorPathArbitration s
  | .linkAndCable => Sys2Proof.Machine.execLinkAndCable s
  | .fenceMarginEnd => Sys2Proof.Machine.execFenceMarginEnd s
  | .joinStart identity => Sys2Proof.Machine.execJoinStart identity s
  | .joinAbandon => Sys2Proof.Machine.execJoinAbandon s
  | .joinSettle lacks retired grans => Sys2Proof.Machine.execJoinSettle lacks retired grans s
  | .resyncStream => Sys2Proof.Machine.execResyncStream s
  | .resyncEnd => Sys2Proof.Machine.execResyncEnd s
  | .keepaliveSend p => Sys2Proof.Machine.execKeepaliveSend p s
  | .parityFrameSend p => Sys2Proof.Machine.execParityFrameSend p s
  | .ackFrameSend => Sys2Proof.Machine.execAckFrameSend s
  | .keepaliveFrame h => Sys2Proof.Machine.execKeepaliveFrame h s
  | .setupFrame h last inst ok => Sys2Proof.Machine.execSetupFrame h last inst ok s
  | .recordsFrame h recs => Sys2Proof.Machine.execRecordsFrame h recs s
  | .forwardFrame h ticket window cls recs atomic => Sys2Proof.Machine.execForwardFrame h ticket window cls recs atomic s
  | .returnFrame h ticket reach newOwner recs value refused => Sys2Proof.Machine.execReturnFrame h ticket reach newOwner recs value refused s
  | .ackFrame h entries => Sys2Proof.Machine.execAckFrame h entries s
  | .parityFrame h rebuilt => Sys2Proof.Machine.execParityFrame h rebuilt s
  | .resendFrame h fromSeq => Sys2Proof.Machine.execResendFrame h fromSeq s
  | .stateFrame h adm degraded portsOk flags locals asks copies => Sys2Proof.Machine.execStateFrame h adm degraded portsOk flags locals asks copies s
  | .handoverFrame h reach step seq => Sys2Proof.Machine.execHandoverFrame h reach step seq s
  | .reachCtlFrame h reach action kind owner => Sys2Proof.Machine.execReachCtlFrame h reach action kind owner s
  | .catchupMapFrame h body => Sys2Proof.Machine.execCatchupMapFrame h body s
  | .granuleFrame h gran half snap poison data => Sys2Proof.Machine.execGranuleFrame h gran half snap poison data s
  | .granuleAckFrame h grans => Sys2Proof.Machine.execGranuleAckFrame h grans s
  | .rekeyFrame h newInstance => Sys2Proof.Machine.execRekeyFrame h newInstance s
  | .rekeyDue p => Sys2Proof.Machine.execRekeyDue p s
  | .rekeyRetry p => Sys2Proof.Machine.execRekeyRetry p s
  | .oldKeyDrop p => Sys2Proof.Machine.execOldKeyDrop p s
  | .keyUseLimit p => Sys2Proof.Machine.execKeyUseLimit p s
  | .rilramPortDown p => Sys2Proof.Machine.execRilramPortDown p s
  | .rilramPortUp p delay crossed => Sys2Proof.Machine.execRilramPortUp p delay crossed s
  | .rilramViolationLimit k => Sys2Proof.Machine.execRilramViolationLimit k s
  | .freezeNFall => Sys2Proof.Machine.execFreezeNFall s
  | .islandsStop => Sys2Proof.Machine.execIslandsStop s
  | .extest => Sys2Proof.Machine.execExtest s
  | .samplePreload => Sys2Proof.Machine.execSamplePreload s
  | .idcode => Sys2Proof.Machine.execIdcode s
  | .svyAddr off => Sys2Proof.Machine.execSvyAddr off s
  | .svyData tdi => Sys2Proof.Machine.execSvyData tdi s
  | .svyStatus tdi => Sys2Proof.Machine.execSvyStatus tdi s
  | .unlock tdi digestMatches => Sys2Proof.Machine.execUnlock tdi digestMatches s
  | .thaw tdi => Sys2Proof.Machine.execThaw tdi s
  | .jtagBypass tdi => Sys2Proof.Machine.execJtagBypass tdi s
  | .recordPeriodClose event subject => Sys2Proof.Machine.execRecordPeriodClose event subject s
  | .logPageWrite => Sys2Proof.Machine.execLogPageWrite s
  | .logPageConfirmed => Sys2Proof.Machine.execLogPageConfirmed s
  | .opTimeBaseUpdate => Sys2Proof.Machine.execOpTimeBaseUpdate s
  | .inputPowerBelowLimit pin => Sys2Proof.Machine.execInputPowerBelowLimit pin s
  | .storeEraseDone ok failWord => Sys2Proof.Machine.execStoreEraseDone ok failWord s
  | .entropyHealthPass => Sys2Proof.Machine.execEntropyHealthPass s
  | .freezeCommandTrigger => Sys2Proof.Machine.execFreezeCommandTrigger s

end Sys2Proof.Machine
end

