-- ==== Sys2Proof/Safety.lean ====
section
/-!
DEFINITION. Sys2Proof/Safety.lean: what the statements are made of: the register table's canonical order, what no command changes, and what it is for the
module to be able to act on a command.
-/
namespace Sys2Proof.Machine

open Sys2Proof

/-- What every command leaves of a state `s` in the state `t` after it: the register table stays in order, the queue stays as it was, messages are only
added, free values are drawn in order, and the parts identity that is burnt in at the factory stays. -/
structure Evolves (s t : State) : Prop where
  regs    : s.regsOk → t.regsOk
  pending : t.pending = s.pending
  sent    : s.sent <:+ t.sent
  fresh   : s.fresh ≤ t.fresh
  variant : t.store.variantB = s.store.variantB
  serial  : t.store.serial = s.store.serial
  ident   : t.store.identity = s.store.identity

/-- The module serves mailboxes, and mailbox m runs a command with this opcode (R443, R455). -/
def State.runsCmd (s : State) (m op : Nat) : Prop := s.up = true ∧ s.mode ≠ .spill ∧ s.runs m op = true

/-- The commands that can act on a frozen module (R576, R577, R580): the power stage's events, a module reset, and the JTAG chain. -/
def actsFrozen : Instr → Bool
  | .powerOn | .inputFallsBelow34v | .powerFailDeclared | .inputDipCarried | .overvoltageDetected | .inputGoodAfterOv | .railTrip _ | .uvloShutdown
  | .bankAt30v _ | .modResetNAssert | .extest | .samplePreload | .idcode | .svyAddr _ | .svyData _ | .svyStatus _ | .unlock _ _ | .thaw _
  | .jtagBypass _ => true
  | _ => false

end Sys2Proof.Machine
end

