-- ==== Sys2Proof/WellFormed.lean ====
section
/-!
DEFINITION. Sys2Proof/WellFormed.lean: which commands are well formed: every operand that names a port, a mailbox, a unit or a field of fixed width lies in
the range the spec gives it.  The machine gives a meaning to every command; a sender sends well-formed ones.
-/
namespace Sys2Proof

/-- The operand is below n. -/
def below (n v : Nat) : Bool := decide (v < n)

/-- One of the 40 mailboxes (R437). -/
def isMailbox (m : Nat) : Bool := below 40 m

/-- One of the host ports HP0 to HP7 (09_cxl_host_ports.md). -/
def isHostPort (p : Nat) : Bool := below 8 p

/-- One of a host port's logical devices (R298). -/
def isLd (l : Nat) : Bool := below 16 l

/-- One of the RDMA ports, Ethernet ports 0 to 3 (10_rdma_service.md). -/
def isEthPort (p : Nat) : Bool := below 4 p

/-- One of the two Rilram ports, Ethernet ports 4 and 5 (R119). -/
def isRilramPort (p : Nat) : Bool := below 2 p

/-- A 20-bit QP number (R333). -/
def isQp (q : Nat) : Bool := below (2 ^ 20) q

/-- A 24-bit packet sequence number (R339). -/
def isPsn (n : Nat) : Bool := below (2 ^ 24) n

/-- One of the eight joiner bays (R412). -/
def isBay (b : Nat) : Bool := below 8 b

/-- One of the 64 joiners, 8 × bay + joiner (R412). -/
def isJoiner (j : Nat) : Bool := below 64 j

/-- One of the 66 units of FRM_UNIT (R483). -/
def isUnit (u : Nat) : Bool := below 66 u

/-- A granule of the 48-bit home space, HA[47:14] (R33). -/
def isGranule (g : Nat) : Bool := below (2 ^ 34) g

/-- A 64-bit value. -/
def isU64 (v : Nat) : Bool := below (2 ^ 64) v

/-- A list of bytes. -/
def isBytes (l : List Nat) : Bool := l.all (below 256)

/-- The 64 bytes of a line. -/
def isLineData (l : List Nat) : Bool := l.length == 64 && isBytes l

/-- A frame header's fields within their widths (R120). -/
def FrameHdr.wf (h : FrameHdr) : Bool :=
  isRilramPort h.port && below 16 h.version && below (2 ^ 16) h.length && below (2 ^ 32) h.instance32 && isU64 h.counter && below (2 ^ 32) h.frameSeq &&
    below (2 ^ 32) h.ackSeq && below (2 ^ 16) h.credits

/-- A record whose TYPE is a code of R86, whose reach index is 0 to 4,095 (R36) and whose masks are 64-bit (R85). -/
def WireRec.wf (r : WireRec) : Bool :=
  below 8 r.kind && below 4096 r.reach && isU64 r.mask && isU64 r.poison && isBytes r.data

/-- Whether a command is well formed. -/
def Instr.wf : Instr → Bool
  | .powerOn => true
  | .inputFallsBelow34v => true
  | .powerFailDeclared => true
  | .inputDipCarried => true
  | .overvoltageDetected => true
  | .inputGoodAfterOv => true
  | .railTrip rail => below 256 rail
  | .uvloShutdown => true
  | .spillStreamStart => true
  | .spillCommitMarker _ _ _ _ => true
  | .bankAt30v _ => true
  | .bankCharged => true
  | .bankRechargeStart => true
  | .bankFault _ => true
  | .bankFaultEnd => true
  | .dischargeTestDue => true
  | .dischargeTestEnd c _ => below (2 ^ 16) c
  | .headgateReq _ _ _ _ => true
  | .headgateReturn _ _ => true
  | .headgateGrant => true
  | .inputPowerOverLimit _ => true
  | .temperatureSample _ _ => true
  | .thermalShutdown => true
  | .thermalShutdownExit => true
  | .epochTick => true
  | .modResetNAssert => true
  | .moduleResetRelease => true
  | .resetApply => true
  | .preResetSpillLimit => true
  | .modCtlStart _ => true
  | .bringupStepEnd step _ _ => below 12 step
  | .floorChannelSwept channel => below 16 channel
  | .loftStackSwept stack => below 4 stack
  | .serveEntryUnblocked => true
  | .spdmGetVersion _ => true
  | .spdmGetCapabilities _ => true
  | .spdmNegotiateAlgorithms _ => true
  | .spdmGetDigests _ => true
  | .spdmGetCertificate _ slot => below 8 slot
  | .spdmChallenge _ _ => true
  | .spdmGetMeasurements _ _ => true
  | .spdmKeyExchange _ _ => true
  | .spdmFinish _ sess _ => below 4 sess
  | .spdmKeyUpdate _ sess => below 4 sess
  | .spdmHeartbeat _ sess => below 4 sess
  | .spdmEndSession _ sess => below 4 sess
  | .spdmUnsupportedRequest _ => true
  | .mbxRing m sess _ => isMailbox m && below 4 sess
  | .mbxCancel m => isMailbox m
  | .mbxAck m => isMailbox m
  | .mbxCommandStart m => isMailbox m
  | .identify m => isMailbox m
  | .health m => isMailbox m
  | .statsRead m => isMailbox m
  | .modeRequest m => isMailbox m
  | .reset m => isMailbox m
  | .frameOpen m => isMailbox m
  | .frameStage m => isMailbox m
  | .frameDryfit m => isMailbox m
  | .framePeg m => isMailbox m
  | .frameDiscard m => isMailbox m
  | .frameStatus m => isMailbox m
  | .pegRecheck f => below 8 f
  | .pegTakesEffect f _ => below 8 f
  | .unitRecal u => isUnit u
  | .unitOut u => isUnit u
  | .unitServe u _ => isUnit u
  | .unitActionDone u _ => isUnit u
  | .cxlWindowOpen m => isMailbox m
  | .cxlWindowClose m => isMailbox m
  | .dcdExtentAdd m => isMailbox m
  | .dcdExtentRelease m => isMailbox m
  | .cxlGapAck m => isMailbox m
  | .dcRegionSet m => isMailbox m
  | .staticCapacitySet m => isMailbox m
  | .hostLinkUnfence m => isMailbox m
  | .windowList m => isMailbox m
  | .windowStatus m => isMailbox m
  | .pdCreate m => isMailbox m
  | .pdDestroy m => isMailbox m
  | .qpCreate m => isMailbox m
  | .qpModify m => isMailbox m
  | .qpError m => isMailbox m
  | .qpDestroy m => isMailbox m
  | .rdmaGapAck m => isMailbox m
  | .counterSet m => isMailbox m
  | .rdmaPortUnfence m => isMailbox m
  | .rdmaWindowOpen m => isMailbox m
  | .rdmaWindowClose m => isMailbox m
  | .qpStatus m => isMailbox m
  | .counterRead m => isMailbox m
  | .reachProvision m => isMailbox m
  | .reachRelease m _ => isMailbox m
  | .reachHandover m => isMailbox m
  | .pairStatus m => isMailbox m
  | .pairJoinAccept m => isMailbox m
  | .pairSplit m => isMailbox m
  | .pairResolve m => isMailbox m
  | .soloStart m => isMailbox m
  | .linkUnfence m => isMailbox m
  | .dirRead m => isMailbox m
  | .cisternStatus m => isMailbox m
  | .reachRead m => isMailbox m
  | .boardRelease m => isMailbox m
  | .boardAdmit m _ place _ _ => isMailbox m && below 64 place
  | .footingFormat m _ => isMailbox m
  | .footingStatus m => isMailbox m
  | .keyLoad m _ _ => isMailbox m
  | .keyClear m => isMailbox m
  | .keyForget m => isMailbox m
  | .cipherSubmit m => isMailbox m
  | .slotStatus m => isMailbox m
  | .storeStatus m => isMailbox m
  | .imageWrite m _ => isMailbox m
  | .imageCommit m _ _ => isMailbox m
  | .hotRestart m _ => isMailbox m
  | .regionUnlock m _ => isMailbox m
  | .logRead m => isMailbox m
  | .logStatus m => isMailbox m
  | .logNote m => isMailbox m
  | .powerStatus m => isMailbox m
  | .dischargeTest m => isMailbox m
  | .headgateStatus m => isMailbox m
  | .freeze m => isMailbox m
  | .selftestReport m => isMailbox m
  | .surveyInfo m => isMailbox m
  | .joineryLoad m _ => isMailbox m
  | .bayDrain m => isMailbox m
  | .bayStatus m => isMailbox m
  | .reclaim m => isMailbox m
  | .yardInspect m => isMailbox m
  | .ditchInspect m => isMailbox m
  | .pairMailboxCommand m _ _ => isMailbox m
  | .mgmtRaiseLevel sess _ => below 4 sess
  | .registerWrite _ off _ value => below (2 ^ 32) off && isU64 value
  | .eccInjectArm _ _ _ _ => true
  | .bchBankInvalidate _ b => below 16 b
  | .bankInvalidateDone b => below 16 b
  | .bankWritebackDone b => below 16 b
  | .benchInvalidate _ => true
  | .benchClean _ => true
  | .benchFlush _ => true
  | .benchFillLanded _ _ => true
  | .victimWritebackAck _ => true
  | .parityLimitReached b => below 16 b
  | .fmnWdtKick => true
  | .watchdogExpiry => true
  | .graceEnd => true
  | .lockstepMismatch => true
  | .storeOpTimeout => true
  | .exceptionPost bay subject => isBay bay && isU64 subject
  | .exceptionHandle => true
  | .stepRun _ _ mask _ _ => below 256 mask
  | .stepBudgetExceeded bay _ _ => isBay bay
  | .joinerFault joiner cause _ => isJoiner joiner && below 4 cause
  | .joinerTestDue joiner _ => isJoiner joiner
  | .bayLoadDone bay _ _ => isBay bay
  | .bayEmpty bay => isBay bay
  | .ticketGet _ => true
  | .ticketPut _ => true
  | .slotGet _ => true
  | .slotPut _ => true
  | .windowCheck _ _ _ right => below 16 right
  | .hdmDecode port ld _ => isHostPort port && isLd ld
  | .dirLookup g _ _ => isGranule g
  | .dirLock g kind _ _ => isGranule g && below 9 kind
  | .dirUnlock g _ => isGranule g
  | .moveLockGranted g lane => isGranule g && below 64 lane
  | .xltLookup g _ _ => isGranule g
  | .cisternAppend rec => rec.wf
  | .recordHeld _ _ => true
  | .writeAdmitted => true
  | .appendResume => true
  | .twinSend w => w.wf
  | .cipherSubmission caller _ => below 65536 caller
  | .cipherJobDone _ _ _ => true
  | .katDue core _ => below 16 core
  | .entropyHealthFail => true
  | .counterBlockRecorded slot => below 16384 slot
  | .tierRead _ _ _ _ _ _ => true
  | .tierWrite _ _ => true
  | .quarterArrived g q => isGranule g && below 4 q
  | .moveDone g => isGranule g
  | .sweepPassStart => true
  | .sweepPassEnd => true
  | .ageEviction => true
  | .pressureEviction pool => below 2 pool
  | .frameWaitResume p => below 2 p
  | .copyRebuildDone g => isGranule g
  | .floorChannelLost c => below 16 c
  | .loftStackFenced n => below 4 n
  | .cisternRoomMade => true
  | .cisternCopyDone => true
  | .drainPackStart lane => below 64 lane
  | .packConfirmed g => isGranule g
  | .checkpointConfirmed _ => true
  | .packProgramFailed g lane => isGranule g && below 64 lane
  | .resawStart => true
  | .resawRelocate g lane _ => isGranule g && below 64 lane
  | .resawErase _ => true
  | .wearRelocation => true
  | .rowGroupPadTimeout lane _ _ => below 64 lane
  | .programStatus lane _ _ _ _ => below 64 lane
  | .eraseStatus _ _ _ => true
  | .suspendDone sluice die => below 32 sluice && below 16 die
  | .quarterReadDone g q _ => isGranule g && below 4 q
  | .ladderDeadline g q => isGranule g && below 4 q
  | .dieTimeout sluice die => below 32 sluice && below 16 die
  | .channelTrainingFail sluice => below 32 sluice
  | .boardSurpriseAbsent b => below 8 b
  | .boardRebuildDone b => below 8 b
  | .lockPairFillDone n _ => below 38 n
  | .lockPairDrainDone n _ => below 38 n
  | .scrubRead domain _ _ _ _ _ _ => below 3 domain
  | .scrubPassLate domain => below 3 domain
  | .eccThresholdReached kind _ _ => below 3 kind
  | .memRd port ld _ _ => isHostPort port && isLd ld
  | .memSpecRd port ld _ => isHostPort port && isLd ld
  | .memInv port ld _ => isHostPort port && isLd ld
  | .memWr port ld _ _ _ data => isHostPort port && isLd ld && isLineData data
  | .memWrPtl port ld _ _ mask _ data => isHostPort port && isLd ld && isU64 mask && isLineData data
  | .cxlViolation port ld _ _ _ => isHostPort port && isLd ld
  | .cxlViolationLimit port => isHostPort port
  | .gpfPhase1 port => isHostPort port
  | .gpfPhase2 port => isHostPort port
  | .hdmDecoderCommit port ld i _ _ _ _ _ => isHostPort port && isLd ld && below 4 i
  | .hostLinkDown port => isHostPort port
  | .hpnPerstAssert port => isHostPort port
  | .hpnPerstRelease port => isHostPort port
  | .hostLinkUp port _ _ _ => isHostPort port
  | .cdatRead port ld => isHostPort port && isLd ld
  | .identifyMemoryDevice port ld => isHostPort port && isLd ld
  | .getSupportedLogs port ld => isHostPort port && isLd ld
  | .getLog port ld => isHostPort port && isLd ld
  | .getEventRecords port ld => isHostPort port && isLd ld
  | .clearEventRecords port ld _ _ => isHostPort port && isLd ld
  | .getEventInterruptPolicy port ld => isHostPort port && isLd ld
  | .setEventInterruptPolicy port ld _ => isHostPort port && isLd ld
  | .getTimestamp port ld => isHostPort port && isLd ld
  | .setTimestamp port ld _ => isHostPort port && isLd ld
  | .getHealthInfo port ld _ => isHostPort port && isLd ld
  | .getPoisonList port ld => isHostPort port && isLd ld
  | .clearPoison port ld _ data => isHostPort port && isLd ld && isLineData data
  | .getDcConfiguration port ld => isHostPort port && isLd ld
  | .getDcExtentList port ld => isHostPort port && isLd ld
  | .addDcResponse port ld _ => isHostPort port && isLd ld
  | .releaseDynamicCapacity port ld _ => isHostPort port && isLd ld
  | .cxlUnsupportedOpcode port ld => isHostPort port && isLd ld
  | .getLdInfo port => isHostPort port
  | .getLdAllocations port => isHostPort port
  | .setLdAllocations port count => isHostPort port && below 17 count
  | .getQosControl port => isHostPort port
  | .setQosControl port _ => isHostPort port
  | .getQosStatus port => isHostPort port
  | .offerTimeout _ => true
  | .releaseTimeout _ => true
  | .rdmaSend port qp psn _ _ _ data => isEthPort port && isQp qp && isPsn psn && isBytes data
  | .rdmaWrite port qp psn _ _ _ _ _ data => isEthPort port && isQp qp && isPsn psn && isBytes data
  | .rdmaWriteWithImmediate port qp psn _ _ _ _ _ _ data => isEthPort port && isQp qp && isPsn psn && isBytes data
  | .rdmaRead port qp psn _ _ _ _ => isEthPort port && isQp qp && isPsn psn
  | .compareSwap port qp psn _ _ cmp swap _ => isEthPort port && isQp qp && isPsn psn && isU64 cmp && isU64 swap
  | .fetchAdd port qp psn _ _ value _ => isEthPort port && isQp qp && isPsn psn && isU64 value
  | .atomicWrite port qp psn _ _ value _ => isEthPort port && isQp qp && isPsn psn && isU64 value
  | .rdmaFlush port qp psn _ _ _ _ _ _ => isEthPort port && isQp qp && isPsn psn
  | .rdmaWait port qp psn _ _ _ => isEthPort port && isQp qp && isPsn psn
  | .waitTimeout qp psn => isQp qp && isPsn psn
  | .admissionWaitExpiry qp => isQp qp
  | .ackCoalesceExpiry qp => isQp qp
  | .messageAbandon qp => isQp qp
  | .contextFetched qp _ => isQp qp
  | .cnpReceived port qp => isEthPort port && isQp qp
  | .rateRecover qp => isQp qp
  | .pfcPauseReceived port prio _ => isEthPort port && below 8 prio
  | .pfcStorm port prio => isEthPort port && below 8 prio
  | .arpRequest port _ _ => isEthPort port
  | .rdmaViolation port qp psn _ => isEthPort port && isQp qp && isPsn psn
  | .rdmaViolationLimit port => isEthPort port
  | .rdmaPortLinkDown port => isEthPort port
  | .rdmaPortLinkUp port _ => isEthPort port
  | .yardAlloc _ caller _ => below 65536 caller
  | .yardFree _ caller => below 65536 caller
  | .yardHandover _ caller owner => below 65536 caller && below 65536 owner
  | .ditchEnq _ caller data _ _ => below 65536 caller && isBytes data
  | .ditchDeq _ caller _ => below 65536 caller
  | .dropRemainder _ caller => below 65536 caller
  | .qopen consumer _ _ => below 65536 consumer
  | .qclose _ caller => below 65536 caller
  | .heartbeatWordReceived _ mode pos _ _ _ _ _ _ => below 16 mode && below 2 pos
  | .pairFenceInAssert => true
  | .pairFenceInDeassert => true
  | .pairPfInAssert => true
  | .pairInputPulse _ => true
  | .hbTimeout => true
  | .stall => true
  | .cableFaultSet => true
  | .cableFaultClear => true
  | .mirrorPathArbitration => true
  | .linkAndCable => true
  | .fenceMarginEnd => true
  | .joinStart _ => true
  | .joinAbandon => true
  | .joinSettle _ _ _ => true
  | .resyncStream => true
  | .resyncEnd => true
  | .keepaliveSend p => isRilramPort p
  | .parityFrameSend p => isRilramPort p
  | .ackFrameSend => true
  | .keepaliveFrame h => h.wf
  | .setupFrame h _ _ _ => h.wf
  | .recordsFrame h recs => h.wf && recs.all WireRec.wf
  | .forwardFrame h _ _ _ recs _ => h.wf && recs.all WireRec.wf
  | .returnFrame h _ _ _ recs _ _ => h.wf && recs.all WireRec.wf
  | .ackFrame h _ => h.wf
  | .parityFrame h _ => h.wf
  | .resendFrame h _ => h.wf
  | .stateFrame h _ _ _ _ _ _ _ => h.wf
  | .handoverFrame h _ _ _ => h.wf
  | .reachCtlFrame h _ _ _ owner => h.wf && below 65536 owner
  | .catchupMapFrame h _ => h.wf
  | .granuleFrame h _ _ _ _ data => h.wf && isBytes data
  | .granuleAckFrame h _ => h.wf
  | .rekeyFrame h _ => h.wf
  | .rekeyDue p => isRilramPort p
  | .rekeyRetry p => isRilramPort p
  | .oldKeyDrop p => isRilramPort p
  | .keyUseLimit p => isRilramPort p
  | .rilramPortDown p => isRilramPort p
  | .rilramPortUp p delay _ => isRilramPort p && below (2 ^ 32) delay
  | .rilramViolationLimit k => below 3 k
  | .freezeNFall => true
  | .islandsStop => true
  | .extest => true
  | .samplePreload => true
  | .idcode => true
  | .svyAddr off => below (2 ^ 32) off
  | .svyData _ => true
  | .svyStatus _ => true
  | .unlock _ _ => true
  | .thaw _ => true
  | .jtagBypass _ => true
  | .recordPeriodClose _ _ => true
  | .logPageWrite => true
  | .logPageConfirmed => true
  | .opTimeBaseUpdate => true
  | .inputPowerBelowLimit _ => true
  | .storeEraseDone _ _ => true
  | .entropyHealthPass => true
  | .freezeCommandTrigger => true

end Sys2Proof
end

