-- ==== Sys2Proof/Certificates/Slice0/Obligations.lean ====
section
/-!
DEFINITION. Sys2Proof/Certificates/Slice0/Obligations.lean: the statements for the provers.  Each docstring names the rules of spec/ that the statement follows.
-/
open Sys2Proof Sys2Proof.Machine

/-- For every command c and state s with c at the front of its queue, step of s is exec of c on s with the queue's rest. That commands wait in one queue,
first in first out, is the model's (log entry 7). (01_architecture.md) -/
def Obligations.StepRunsFrontCommand : Prop :=
  ∀ (s : State) (c : Instr) (rest : List Instr), s.pending = c :: rest → step s = exec c { s with pending := rest }

/-- With an empty queue a step answers the state it was given. This is the model's choice (log entry 7). (01_architecture.md) -/
def Obligations.EmptyQueueIdles : Prop :=
  ∀ s : State, s.pending = [] → step s = .next s

/-- The reset state stands in STANDBY, UNPAIRED, at epoch 0, with its register table in order, the islands held in no reset, no record in the cistern, no
session, every mailbox IDLE and nothing waiting in the queue. (R12, R495, R590) -/
def Obligations.ResetIsStandbyAtEpochZero : Prop :=
  State.reset.regsOk ∧ State.reset.mode = .standby ∧ State.reset.pair = .unpaired ∧ State.reset.epoch = 0 ∧ State.reset.cis.recs = [] ∧
    State.reset.sess = [] ∧ (∀ m, m < 40 → State.reset.get (Reg.MBX_STATE_STATE m) = 0) ∧ State.reset.pending = []

/-- For every command and every state exec answers a next state: a command the spec refuses is refused by status, which is an effect, and an event whose
premise does not hold changes nothing (log entry 3). (R446, R455, R590) -/
def Obligations.NoCommandStopsTheModule : Prop :=
  ∀ (c : Instr) (s : State), ∃ t, exec c s = .next t

/-- For every command that answers a next state: the register table stays in order, the queue of waiting commands is untouched, messages are only added in
front of those sent before, free values are drawn in order, and variant, serial number and identity, which are burnt in, stay as they were. (R2, R458,
R590) -/
def Obligations.CommandsEvolveTheState : Prop :=
  ∀ (c : Instr) (s t : State), exec c s = .next t → Evolves s t

/-- For every state whose register table lists its keys in rising order, a step answers a state whose table does too, and whose queue is the rest of the
queue before: the one register read law (a field reads what was last written) holds in every state a step reaches. (R7, R582) -/
def Obligations.StepKeepsTheRegisterTableInOrder : Prop :=
  ∀ s t : State, s.regsOk → step s = .next t → t.regsOk ∧ t.pending = s.pending.tail

/-- In every state whose register table is in order, a field that is written reads as the value cut to the field's width, and every field at another place
reads as before. (R7, R582, R590) -/
def Obligations.RegisterFieldsReadBackWhatWasWritten : Prop :=
  ∀ (s : State) (f : Fld) (v : Nat), s.regsOk →
    (s.put f v).get f = v % 2 ^ f.width ∧ (∀ g : Fld, g.key ≠ f.key → (s.put f v).get g = s.get g) ∧ (s.put f v).regsOk

/-- While the power stage is shut down, every command but POWER_ON leaves the state exactly as it was. (R495, R508, R511) -/
def Obligations.UnpoweredModuleActsOnPowerOnAlone : Prop :=
  ∀ (c : Instr) (s : State), s.pwr.powered = false → c ≠ .powerOn → exec c s = .next s

/-- While a freeze holds, every command but the power stage's events, MOD_RESET_N and the JTAG instructions leaves the state exactly as it was: no host
operation, frame, word, mailbox command or clock tick acts. (R575, R576, R577) -/
def Obligations.FrozenModuleActsOnPowerResetAndJtagAlone : Prop :=
  ∀ (c : Instr) (s : State), s.evr.frozen = true → actsFrozen c = false → exec c s = .next s

/-- Raising an event of any number with any subject and detail leaves every part of the state but the logbook as it was, and every register outside
CLK_STATE, EVR and SVY reads as before. (R563, R573, R575) -/
def Obligations.RaisingAnEventWritesTheLogbookAlone : Prop :=
  ∀ (s : State) (event subject detail : Nat), s.regsOk →
    let t := raise event subject detail s
    t = { s with regs := t.regs, evr := t.evr } ∧
      ∀ f : Fld, f.key / 512 ≠ 0xA0008 → ¬(0xC0000 * 512 ≤ f.key ∧ f.key < 0xD0000 * 512) → f.key < 0x700000 * 512 → t.get f = s.get f

/-- On a powered module: the input falling starts the 20 µs filter; a dip that the filter carries is counted and raises 0x0102; a failure that the filter
declares, an overvoltage and a rail trip declare power failure, the last two with their event; input good again after an overvoltage clears it. (R28,
R496, R497, R498, R509) -/
def Obligations.InputEventsComplete : Prop :=
  ∀ s : State, s.pwr.powered = true →
    exec .inputFallsBelow34v s = .next ((s.onPwr fun x => { x with pfFilter := true }).put Reg.PWR_IN_STATE_IN_OK 0) ∧
    (s.pwr.pfFilter = true → exec .powerFailDeclared s = .next (declarePowerFail s)) ∧
    (s.pwr.pfFilter = true → exec .inputDipCarried s =
      .next (raiseRl 0x0102 0 0 (((s.onPwr fun x => { x with pfFilter := false }).inc (Reg.PWR_STAT_COUNT 1)).put Reg.PWR_IN_STATE_IN_OK 1))) ∧
    (s.mode ≠ .spill → exec .overvoltageDetected s =
      .next (declarePowerFail (raise 0x0103 0 0 ((s.put Reg.PWR_IN_STATE_OV 1).inc (Reg.PWR_STAT_COUNT 2))))) ∧
    (s.mode ≠ .spill → ∀ rail, exec (.railTrip rail) s = .next (declarePowerFail (raise 0x010A rail 0 s))) ∧
    (s.get Reg.PWR_IN_STATE_OV = 1 → s.regsOk → s.mode ≠ .spill → exec .inputGoodAfterOv s =
      .next (((s.put Reg.PWR_IN_STATE_OV 0).put Reg.PWR_IN_STATE_IN_OK 1).put Reg.PWR_IN_STATE_ISOLATED 0))

/-- When power failure is declared on a live module in PAIRED, RESYNC or SOLO, PAIR_PF_OUT is asserted, service stops, and a spill from the bank that
began at the present epoch runs, with the power stage shutting down after it; the line message PAIR_PF_OUT high is the last one sent. (R28, R508,
R509) -/
def Obligations.PowerFailureEntersSpill : Prop :=
  ∀ s : State, s.pwr.powered = true → s.pwr.pfFilter = true → s.evr.frozen = false → s.serving = true →
    ∃ t r, exec .powerFailDeclared s = .next t ∧ t.pwr.pfOut = true ∧ t.pwr.serveStop = true ∧ t.pwr.spill = some r ∧ r.fromBank = true ∧
      r.after = .powerOff ∧ r.started = s.epoch ∧ t.sent.head? = some (.line "PAIR_PF_OUT" true)

/-- POWER_ON of an unpowered module brings it from cold to BRINGUP; an undervoltage with no spill due shuts the power stage down; the stream of a pending
spill starts 2 ms after it; its commit marker and the bank at 30 V end it as R511 and R512 say. (R495, R508, R509, R511, R512) -/
def Obligations.PowerStageCommandsComplete : Prop :=
  (∀ s : State, s.pwr.powered = false → exec .powerOn s = .next (enterBringup (storeSync (coldStart s)))) ∧
    (∀ s : State, s.pwr.powered = true → s.mode ≠ .spill → s.spills = false → exec .uvloShutdown s = .next (powerOff s)) ∧
    (∀ (s : State) (r : SpillRun), s.live = true → s.mode = .spill → s.pwr.spill = some r → r.streaming = false →
      ∃ t, exec .spillStreamStart s = .next t ∧ t.pwr.spill = some { r with streaming := true } ∧ t.med.spillNo = s.med.spillNo + 1 ∧
        t.med.spillInto = some (if s.med.slot0.isNone then 0 else 1)) ∧
    (∀ (s : State) (r : SpillRun) (j d e v : Nat) (good : Bool), s.live = true → s.pwr.spill = some r → s.med.spillInto = some j → r.streaming = true →
      s.evr.freezeHeld = none → exec (.spillCommitMarker d e v good) s =
        .next (applyAfter r.after r.mode true good ((((writeSlot j (spillImage s.med.spillNo true d e v s) s).onMed fun x =>
          { x with spillInto := none }).inc (Reg.PWR_STAT_COUNT 3)).inc (Reg.SLC_FTG_STAT_COUNT 7)))) ∧
    (∀ (s : State) (r : SpillRun) (good : Bool), s.pwr.powered = true → s.evr.frozen = false → s.pwr.spill = some r → r.fromBank = true →
      exec (.bankAt30v good) s = .next (applyAfter .powerOff 7 false good (s.onEvr fun x => { x with freezeHeld := none })))

/-- On a live module: a charged bank reads 92.00 V; a bank below 91.5 V recharges; a bank fault sets STATE 3 and SERVE_BLOCK bit 2 with event 0x0109 and
the action of R258; the end of the fault clears both; a due test under its conditions starts; the end of a test that leaves a cistern of 1 GiB or more
records its results, resizes the cistern and raises 0x0106. (R495, R505, R506, R507) -/
def Obligations.BankCommandsComplete : Prop :=
  ∀ s : State, s.live = true → s.regsOk →
    (∃ t, exec .bankCharged s = .next t ∧ t.get Reg.PWR_BANK_STATE_VBANK = 9200) ∧
    (s.mode ≠ .spill → s.get Reg.PWR_BANK_STATE_STATE = 1 → exec .bankRechargeStart s = .next (s.put Reg.PWR_BANK_STATE_STATE 0)) ∧
    (s.mode ≠ .spill → s.get Reg.PWR_BANK_STATE_STATE ≠ 3 → ∀ ch, exec (.bankFault ch) s =
      .next (failStop (raise 0x0109 (b2n ch) 0 (setBlock 2 true (s.put Reg.PWR_BANK_STATE_STATE 3))))) ∧
    (s.get Reg.PWR_BANK_STATE_STATE = 3 → exec .bankFaultEnd s =
      .next (setBlock 2 false ((s.put Reg.PWR_BANK_STATE_STATE 1).put Reg.PWR_BANK_STATE_BELOW_VREQ 0))) ∧
    (testAllowed s = true → testFloorOf s ≤ 9000 → exec .dischargeTestDue s =
      .next ((s.onPwr fun x => { x with testFloor := testFloorOf s }).put Reg.PWR_BANK_STATE_STATE 2)) ∧
    (s.get Reg.PWR_BANK_STATE_STATE = 2 → s.pwr.testMbx = none → ∀ c esr, 1 ≤ cisternLimit (eMeasured c esr) → exec (.dischargeTestEnd c esr) s =
      .next (raise 0x0106 0 (eMeasured c esr) (retryCistern (resizeCistern (recordTest c esr s)))))

/-- While every island runs: HEADGATE_REQ answers with what the headgate decides; HEADGATE_RETURN brings the tokens back; HEADGATE_GRANT gives the first
waiting request that fits its tokens. On a live module, input power over LIMIT_W sets STOPPED with the rate-limited event 0x010C, and input power
below LIMIT_W - 10 W clears it and serves the queue. A request that fits with none of its class waiting is granted at once and holds its tokens.
(R500, R502, R503) -/
def Obligations.HeadgateCommandsComplete : Prop :=
  (∀ (s : State), s.up = true →
    (∀ kind arg h0 tokens, exec (.headgateReq kind arg h0 tokens) s =
      .next ((hgRequest { owner := hgOwnerOf kind arg, h0 := h0, tokens := tokens } s).2.send
        (.prim "HEADGATE_REQ" (if (hgRequest { owner := hgOwnerOf kind arg, h0 := h0, tokens := tokens } s).1 = 2 then St.headgateDenied.code else 0)
          (hgRequest { owner := hgOwnerOf kind arg, h0 := h0, tokens := tokens } s).1))) ∧
    (∀ kind arg, exec (.headgateReturn kind arg) s = .next (hgReturn (hgOwnerOf kind arg) s)) ∧
    (∀ r, hgNext s = some r → exec .headgateGrant s = .next (hgGive r (s.onPwr fun x => { x with hgWait := s.pwr.hgWait.erase r })))) ∧
  (∀ (s : State) (pin : Nat), s.live = true → s.regsOk →
    (pin > s.get Reg.PWR_HG_CFG_LIMIT_W * 10 → exec (.inputPowerOverLimit pin) s =
      .next (raiseRl 0x010C 0 pin ((s.put Reg.PWR_IN_STATE_PIN pin).put Reg.PWR_HG_STATE_STOPPED 1))) ∧
    (pin + 100 < s.get Reg.PWR_HG_CFG_LIMIT_W * 10 → exec (.inputPowerBelowLimit pin) s =
      .next (hgServe ((s.put Reg.PWR_IN_STATE_PIN pin).put Reg.PWR_HG_STATE_STOPPED 0)))) ∧
  (∀ (s : State) (r : HgReq), s.flag Reg.PWR_HG_STATE_WITHDRAWN = false → hgFits s r = true → waitingOf r.h0 s.pwr.hgWait = [] →
    (hgRequest r s).1 = 0 ∧ (hgRequest r s).2.pwr.hgHeld = s.pwr.hgHeld ++ [r])

/-- On a live module a temperature sample records its readings, enters the throttle level they call for and raises 0x0206 when the lid is above 85 °C. A
thermal shutdown in a serving mode withdraws the headgate at level 3, fences the module, or stops its service where it serves alone, and spills on
input power with STANDBY after it. With every junction below 85 °C and AUTO_START 1 the module leaves that STANDBY for BRINGUP. (R513, R514, R515,
R528) -/
def Obligations.ThermalCommandsComplete : Prop :=
  ∀ s : State, s.live = true →
    (∀ temps bad, temps.length ≤ 35 → exec (.temperatureSample temps bad) s =
      .next (let t := setThrottle (sampleLevel temps bad (s.get Reg.PWR_THERM_STATE_LEVEL) (s.get Reg.PWR_THERM_CFG_LEVEL1_C)) (readTemps temps bad s)
             if lidHot temps bad then raiseW 0x0206 0 (temps.getD 34 0) (eventSource 0x0206 0) 60000000 t else t)) ∧
    (s.serving = true → exec .thermalShutdown s =
      .next (spillOnInput .standby s.mode.code (if s.alone then stopService (hgWithdraw (setThrottle 3 s)) else fenceSelf (hgWithdraw (setThrottle 3 s))))) ∧
    (s.mode = .standby → s.pwr.thermHold = true → s.pwr.inReset = some 1 →
      (setThrottle 0 (s.onPwr fun x => { x with thermHold := false, inReset := none })).get Reg.MOD_CFG_AUTO_START = 1 →
      exec .thermalShutdownExit s = .next (enterBringup (setThrottle 0 (s.onPwr fun x => { x with thermHold := false, inReset := none }))))

/-- On a live module a tick advances the 64-bit epoch by one, wrapping at its width, in every mode. Where the islands run, with the module not in STANDBY,
exactly one heartbeat word of eight bytes leaves, and SLOT increments with it; otherwise nothing is sent. (R12, R114) -/
def Obligations.EpochAdvancesByOneEachTick : Prop :=
  ∀ s : State, s.live = true → s.regsOk →
    ∃ t, exec .epochTick s = .next t ∧ t.epoch = (s.epoch + 1) % 2 ^ 64 ∧ t.mode = s.mode ∧
      (s.up = true → ∃ w, t.sent = .heartbeat w :: s.sent ∧ w.length = 8 ∧ t.twn.slot = (s.twn.slot + 1) % 65536) ∧
      (s.up = false → t.sent = s.sent ∧ t.twn.slot = s.twn.slot)

/-- POWER_STATUS and HEADGATE_STATUS complete DONE with the values of R518 and change nothing else. DISCHARGE_TEST under the conditions of R506 starts the
test at once and leaves its mailbox waiting for the results; in another mode it is refused WRONG_MODE. (R506, R518) -/
def Obligations.PowerMailboxCommandsComplete : Prop :=
  ∀ (s : State) (m : Nat),
    (s.runsCmd m 0x0C01 → exec (.powerStatus m) s = .next (complete m (powerStatusBytes s) s) ∧ (powerStatusBytes s).length = 64) ∧
    (s.runsCmd m 0x0C03 → exec (.headgateStatus m) s = .next (complete m (headgateBytes s) s) ∧ (headgateBytes s).length = 64) ∧
    (s.runsCmd m 0x0C02 → testAllowed s = true → testFloorOf s ≤ 9000 →
      exec (.dischargeTest m) s = .next (startTest (s.onPwr fun x => { x with testMbx := some m }))) ∧
    (s.runsCmd m 0x0C02 → s.serving = false → s.mode ≠ .quiesced → exec (.dischargeTest m) s = .next (refuse m .wrongMode noDetail s))

/-- MOD_RESET_N on a powered module that is neither frozen, in SPILL nor spilling calls the reset of scope MODULE, cause 2; while frozen it resets without
a spill. RESET completes DONE and is applied by RESET_APPLY with cause 3; scope 3 is refused BAD_FIELD. A released reset of scope MODULE enters
BRINGUP, of scope RECOVERY enters RECOVERY, and of scope STANDBY leaves the module in STANDBY. One second after the call the spill of R526 is no
longer waited for. MOD_CTL.START at OPERATE leaves STANDBY for BRINGUP. (R460, R524, R525, R526, R527, R528, R577) -/
def Obligations.ResetCommandsComplete : Prop :=
  (∀ s : State, s.pwr.powered = true →
    (s.evr.frozen = true → exec .modResetNAssert s =
      .next (moduleReset 0 2 (s.put Reg.GLB_DISCRETES_MOD_RESET_N 0).mode.code false (s.put Reg.GLB_DISCRETES_MOD_RESET_N 0))) ∧
    (s.regsOk → s.evr.frozen = false → s.pwr.spill = none → s.mode ≠ .spill → exec .modResetNAssert s =
      .next (callReset 0 2 (s.put Reg.GLB_DISCRETES_MOD_RESET_N 0)))) ∧
  (∀ (s : State) (scope : Nat), s.live = true → s.pwr.inReset = some scope → s.get Reg.MOD_RESET_LOG_EPOCH + 100 ≤ s.epoch % 2 ^ 48 →
    exec .moduleResetRelease s = .next (if scope = 0 then enterBringup (s.put Reg.GLB_DISCRETES_MOD_RESET_N 1)
      else if scope = 2 then enterRecovery (s.put Reg.GLB_DISCRETES_MOD_RESET_N 1)
      else (s.put Reg.GLB_DISCRETES_MOD_RESET_N 1).onPwr fun x => { x with inReset := none })) ∧
  (∀ (s : State) (m : Nat), s.runsCmd m 0x0202 →
    (reqNat s m 0 1 % 4 ≠ 3 → s.pwr.spill = none →
      exec (.reset m) s = .next (complete m [] (s.onPwr fun x => { x with resetPend := some (reqNat s m 0 1 % 4) }))) ∧
    (reqNat s m 0 1 % 4 = 3 → exec (.reset m) s = .next (refuse m .badField (atPayload 0) s))) ∧
  (∀ (s : State) (scope : Nat), s.live = true → s.pwr.resetPend = some scope → s.pwr.spill = none →
    exec .resetApply s = .next (callReset scope 3 (s.onPwr fun x => { x with resetPend := none }))) ∧
  (∀ (s : State) (r : SpillRun), s.live = true → s.pwr.spill = some r → r.fromBank = false → r.started + 1000000 ≤ s.epoch →
    exec .preResetSpillLimit s = .next (applyAfter r.after r.mode false true (s.onMed fun x => { x with spillInto := none }))) ∧
  (∀ (s : State) (acc : Nat), s.live = true → isMgmt acc = true → s.get Reg.GLB_MGT_CFG_ENABLE ≠ 0 → 1 ≤ accessorLevel acc s → s.mode = .standby →
    s.pwr.inReset = none → exec (.modCtlStart acc) s = .next ((enterBringup s).send (.reply acc St.done.code [])))

/-- A module reset of any scope and cause leaves the module in STANDBY with islands 1-27 held under that scope; the freeze and the spill are over;
cistern, tiers, windows, mailboxes, frames, sessions and queue pairs are as after power-on; the media, the queue and the epoch are kept. (R12, R525,
R577) -/
def Obligations.ModuleResetHoldsTheIslands : Prop :=
  ∀ (s : State) (scope cause mode : Nat) (spilled : Bool), s.regsOk →
    let t := moduleReset scope cause mode spilled s
    t.mode = .standby ∧ t.pwr.inReset = some scope ∧ t.evr.frozen = false ∧ t.pwr.spill = none ∧ t.cis = State.reset.cis ∧ t.tir = State.reset.tir ∧
      t.win = [] ∧ t.mbx = State.reset.mbx ∧ t.frm = State.reset.frm ∧ t.sess = [] ∧ t.rdm = State.reset.rdm ∧ t.yrd = State.reset.yrd ∧
      t.cph = State.reset.cph ∧ t.med = s.med ∧ t.pending = s.pending ∧ t.epoch = s.epoch

/-- MODE_REQUEST to QUIESCED completes at once in QUIESCED and quiesces a module in SOLO; in PAIRED and RESYNC it is refused NOT_PERMITTED. To RECOVERY it
is accepted from QUIESCED alone, while no spill is under way. Targets 0 and 9 to 15 are refused BAD_FIELD, and every other target NOT_PERMITTED. A
module held in QUIESCED enters its serving mode as soon as every bit of SERVE_BLOCK is clear. (R460, R521, R523) -/
def Obligations.ModeRequestCompletes : Prop :=
  (∀ (s : State) (m : Nat), s.runsCmd m 0x0201 →
    (reqNat s m 0 1 % 16 = 3 → s.mode = .quiesced → exec (.modeRequest m) s = .next (complete m (leBytes 8 3) s)) ∧
    (reqNat s m 0 1 % 16 = 3 → s.mode = .solo → exec (.modeRequest m) s = .next (complete m (leBytes 8 (quiesce s).mode.code) (quiesce s))) ∧
    (reqNat s m 0 1 % 16 = 3 → s.mode = .paired ∨ s.mode = .resync → exec (.modeRequest m) s = .next (refuse m .notPermitted noDetail s)) ∧
    (reqNat s m 0 1 % 16 = 8 → s.mode = .quiesced → s.pwr.spill = none → s.spills = false →
      exec (.modeRequest m) s = .next (enterRecovery (s.onPwr fun x => { x with modeMbx := some m }))) ∧
    (reqNat s m 0 1 % 16 = 8 → s.mode = .quiesced → s.pwr.spill = none → s.spills = true →
      exec (.modeRequest m) s = .next (preReset .recovery (s.onPwr fun x => { x with modeMbx := some m }))) ∧
    (reqNat s m 0 1 % 16 = 8 → s.mode ≠ .quiesced ∨ s.pwr.spill ≠ none → exec (.modeRequest m) s = .next (refuse m .wrongMode noDetail s)) ∧
    (reqNat s m 0 1 % 16 = 0 ∨ 9 ≤ reqNat s m 0 1 % 16 → exec (.modeRequest m) s = .next (refuse m .badField (atPayload 0) s)) ∧
    (reqNat s m 0 1 % 16 ∈ [1, 2, 4, 5, 6, 7] → exec (.modeRequest m) s = .next (refuse m .notPermitted noDetail s))) ∧
  (∀ (s : State) (p : Nat), s.up = true → s.twn.entry = some p → s.mode = .quiesced → s.get Reg.MOD_STATE_SERVE_BLOCK = 0 →
    exec .serveEntryUnblocked s = .next (arrive (PairState.ofCode p) s))

/-- In BRINGUP with the foreman running, the end of step 0, 1, 8 or 9, when that step is due and leaves the module in BRINGUP, does the work of the step
and sets its bit of MOD_BRINGUP.STEPS. The end of a loft sweep returns its tokens and marks the stack swept; the end of a floor sweep marks the
channel swept, while others are still to come. (R285, R287, R533) -/
def Obligations.BringupCommandsComplete : Prop :=
  (∀ (s u : State) (k : Nat) (f : BringupFacts) (i : JoinImage), s.up = true → s.mode = .bringup → stepRuns k s = true → s.get Reg.FMN_STATE_STATE ≠ 2 →
    k ∈ [0, 1, 8, 9] → stepWork k f i s = some u → (endStep k u).mode = .bringup → exec (.bringupStepEnd k f i) s = .next (endStep k u)) ∧
  (∀ (s : State) (n : Nat), s.up = true → n < 4 → hgHolds s (.sweepLoft n) = true → exec (.loftStackSwept n) s =
    .next (settle (poolSync (initSync (hgReturn (.sweepLoft n)
      (s.put Reg.ECC_INIT_STATE_STACKS_DONE (setBit (s.get Reg.ECC_INIT_STATE_STACKS_DONE) n true))))))) ∧
  (∀ (s : State) (c : Nat), s.up = true → c < 16 → hgHolds s (.sweepFloor c) = true →
    ∃ t, exec (.floorChannelSwept c) s = .next t ∧
      (let u := settle (poolSync (initSync (hgReturn (.sweepFloor c)
        (s.put Reg.ECC_INIT_STATE_CHANNELS_DONE (setBit (s.get Reg.ECC_INIT_STATE_CHANNELS_DONE) c true)))))
       t = u ∨ t = raise 0x0313 0 0 (u.put Reg.ECC_INIT_STATE_STATE 3)))

/-- Where the module answers doorbells: a RING on a mailbox that is IDLE or COMPLETE is accepted; in QUEUED or RUNNING it is ignored and counted; CANCEL
of a QUEUED command completes it ABORTED; ACK in COMPLETE leads to IDLE; a queued fast-lane command starts at once and is RUNNING; a command of the
twin's foreman is entered at priority 0 and rung in the same way. (R437, R440, R443, R444, R451) -/
def Obligations.MailboxLifeCycleCommandsComplete : Prop :=
  ∀ (s : State) (m : Nat), s.answers = true → s.regsOk →
    (m < 36 → s.get (Reg.MBX_STATE_STATE m) ≠ 1 → s.get (Reg.MBX_STATE_STATE m) ≠ 2 →
      ∀ sess mean, exec (.mbxRing m sess mean) s = .next (ringAccepted m sess mean s)) ∧
    (m < 36 → s.get (Reg.MBX_STATE_STATE m) = 1 ∨ s.get (Reg.MBX_STATE_STATE m) = 2 →
      ∀ sess mean, exec (.mbxRing m sess mean) s = .next (s.inc (Reg.MBX_STAT_COUNT 7))) ∧
    (s.get (Reg.MBX_STATE_STATE m) = 1 → exec (.mbxCancel m) s = .next (queueSync (completeW m .aborted 0 noDetail false [] s))) ∧
    (m < 40 → s.get (Reg.MBX_STATE_STATE m) = 3 → ∃ t, exec (.mbxAck m) s = .next t ∧ t.get (Reg.MBX_STATE_STATE m) = 0 ∧
      t.get (Reg.MBX_STATE_NOTIFY_PENDING m) = 0 ∧ t.mbx = s.mbx) ∧
    (m < 40 → s.get (Reg.MBX_STATE_STATE m) = 1 → s.mbx.queue.contains m = true → s.get (Reg.MBX_STATE_FAST m) = 1 →
      ∃ t, exec (.mbxCommandStart m) s = .next t ∧ t.get (Reg.MBX_STATE_STATE m) = 2 ∧ t.mbx.running = s.mbx.running ++ [m] ∧
        t.mbx.queue = s.mbx.queue.filter (· != m)) ∧
    (36 ≤ m → m < 40 → s.get (Reg.MBX_STATE_STATE m) ≠ 1 → s.get (Reg.MBX_STATE_STATE m) ≠ 2 → ∀ op payload,
      exec (.pairMailboxCommand m op payload) s = .next (ringAccepted m 0 0 ((((s.onMbx fun x =>
        { x with payload := writeBytes (m * 4096) ((payload.map (BitVec.ofNat 8)).take 4096) x.payload }).put (Mb.opcode m) op).put (Mb.priority m) 0).put
          (Mb.length m) ((payload.map (BitVec.ofNat 8)).take 4096).length)))

/-- When a RING is accepted on a mailbox and one of checks 1 to 6 of R445 fails on its header, the mailbox stands COMPLETE with the status of the first
check that fails, and no command of that mailbox is queued or runs; a mailbox disabled in MBX_ENABLE fails the first check with NOT_PERMITTED. (R445,
R446) -/
def Obligations.DoorbellRefusedByTheFirstFailingCheck : Prop :=
  ∀ (s : State) (m sess mean : Nat) (st : St) (d : Nat), s.answers = true → s.regsOk → m < 36 → s.get (Reg.MBX_STATE_STATE m) ≠ 1 →
    s.get (Reg.MBX_STATE_STATE m) ≠ 2 → ringCheck m sess s = some (st, d) →
    ∃ t, exec (.mbxRing m sess mean) s = .next t ∧ t.get (Reg.MBX_STATE_STATE m) = 3 ∧ t.get (Reg.MBX_STATE_STATUS m) = st.code ∧
      m ∉ t.mbx.queue ∧ m ∉ t.mbx.running ∧ (bitOf m (s.get Reg.MBX_ENABLE_ENABLE) = false → st = .notPermitted)

/-- When a RING is accepted and checks 1 to 6 pass: a fast-lane command is queued outside RECOVERY and BRINGUP; a foreman command is answered BUSY with
the auto-responder's hint in the cases of R434, and is queued otherwise. (R434, R443, R451) -/
def Obligations.DoorbellOfAGoodHeaderIsQueued : Prop :=
  ∀ (s : State) (m sess mean : Nat), s.answers = true → m < 36 → s.get (Reg.MBX_STATE_STATE m) ≠ 1 → s.get (Reg.MBX_STATE_STATE m) ≠ 2 →
    ringCheck m sess s = none →
    (0x80 ≤ s.get (Mb.opcode m) % 256 → s.mode ≠ .recovery → s.mode ≠ .bringup →
      exec (.mbxRing m sess mean) s = .next (enqueue m ((ringEntered m s).inc (Reg.MBX_STAT_COUNT 5)))) ∧
    (s.get (Mb.opcode m) % 256 < 0x80 → ∀ h, responderHint (s.get (Mb.opcode m)) (s.get (Mb.priority m)) mean s = some h →
      exec (.mbxRing m sess mean) s =
        .next (completeW m .busy h noDetail true [] (((ringEntered m s).inc (Reg.FMN_STAT_COUNT 1)).put Reg.FMN_STATE_RESPONDER 1))) ∧
    (s.get (Mb.opcode m) % 256 < 0x80 → responderHint (s.get (Mb.opcode m)) (s.get (Mb.priority m)) mean s = none →
      exec (.mbxRing m sess mean) s = .next (enqueue m (ringEntered m s)))

/-- In STANDBY a RING, a CANCEL, an ACK, the start of a command and a command of the twin's foreman change nothing. (R453) -/
def Obligations.NoMailboxIsServedInStandby : Prop :=
  ∀ (s : State) (m sess mean op : Nat) (payload : List Nat), s.mode = .standby →
    exec (.mbxRing m sess mean) s = .next s ∧ exec (.mbxCancel m) s = .next s ∧ exec (.mbxAck m) s = .next s ∧ exec (.mbxCommandStart m) s = .next s ∧
      exec (.pairMailboxCommand m op payload) s = .next s

/-- IDENTIFY and HEALTH complete DONE with the bytes of R458 - the variant at byte 41, the mode at byte 0 of HEALTH and the pair state at byte 1 - and
change nothing else. STATS_READ with a good count and length returns eight bytes for each listed register, in list order; with a count of 0 or above
512 it is refused BAD_FIELD, with another length BAD_LENGTH, and with a bad offset with the status of the first bad entry. (R458, R459) -/
def Obligations.IdentityCommandsComplete : Prop :=
  ∀ (s : State) (m : Nat),
    (s.runsCmd m 0x0101 → exec (.identify m) s = .next (complete m (identifyBytes s) s) ∧ (identifyBytes s).length = 128 ∧
      (identifyBytes s)[41]? = some (BitVec.ofNat 8 (b2n s.store.variantB))) ∧
    (s.runsCmd m 0x0102 → exec (.health m) s = .next (complete m (healthBytes s) s) ∧ (healthBytes s).length = 64 ∧
      (healthBytes s).take 2 = [BitVec.ofNat 8 (s.get Reg.MOD_STATE_MODE), BitVec.ofNat 8 (s.get Reg.TWN_STATE_PAIR_STATE)]) ∧
    (s.runsCmd m 0x0181 →
      let n := reqNat s m 0 2
      let offs := (List.range n).map (fun i => reqNat s m (8 + 4 * i) 4)
      (n = 0 ∨ 512 < n → exec (.statsRead m) s = .next (refuse m .badField (atPayload 0) s)) ∧
      (1 ≤ n → n ≤ 512 → s.get (Mb.length m) ≠ 8 + 4 * n → exec (.statsRead m) s = .next (refuse m .badLength 8 s)) ∧
      (1 ≤ n → n ≤ 512 → s.get (Mb.length m) = 8 + 4 * n →
        (statsCheck 0 offs = none → exec (.statsRead m) s = .next (complete m (offs.flatMap (fun x => leBytes 8 (readAt s x))) s)) ∧
        (∀ st i, statsCheck 0 offs = some (st, i) → exec (.statsRead m) s = .next (refuse m st (atPayload (8 + 4 * i)) s))))

/-- In a management session, while the module lives and is not in SPILL: on a match of the digests the session's level becomes FACTORY and the response is
DONE; on a mismatch the response is AUTH_FAILED and the mismatch is counted; after three mismatches since the last module reset, and on every
CSH-4896-1B module, the response is NOT_PERMITTED and nothing changes. The comparison's verdict is an operand (log entry 2). (R589) -/
def Obligations.RaiseLevelComparesThePassword : Prop :=
  ∀ (s : State) (sess : Nat) (e : Session), s.live = true → s.mode ≠ .spill → tfind sess s.sess = some e → e.mgmt = true →
    (s.store.variantB = false → s.store.raiseFail < 3 →
      exec (.mgmtRaiseLevel sess true) s = .next (({ s with sess := tmod sess (fun e => { e with level := 3 }) s.sess }.put (Reg.GLB_SESSION_LEVEL sess) 3).send
        (.reply (8 + sess) St.done.code [])) ∧
      exec (.mgmtRaiseLevel sess false) s = .next ((s.onStore fun x => { x with raiseFail := x.raiseFail + 1 }).send (.reply (8 + sess) St.authFailed.code []))) ∧
    (s.store.variantB = true ∨ 3 ≤ s.store.raiseFail → ∀ ok, exec (.mgmtRaiseLevel sess ok) s = .next (s.send (.reply (8 + sess) St.notPermitted.code [])))

/-- On a module that serves its control space: a write of a bad size or alignment is answered BAD_FIELD on the management port, and on BAR0 is a violation
of the host port answered Unsupported Request; an offset beyond the control space is answered BOUNDS; a write to a register that is written only
through frames or by the controller is discarded, recorded in GLB_ACCESS and answered NOT_PERMITTED; a write below the level it needs is also a
violation of the host port when it comes over BAR0; a write to an offset that holds no register changes nothing and is answered DONE; every other
write is handled as a direct write. (R321, R582, R586, R588) -/
def Obligations.RegisterWritesReachOrAreDiscarded : Prop :=
  ∀ (s : State) (acc off width v : Nat), s.up = true → s.mode ≠ .spill → (8 ≤ acc → s.get Reg.GLB_MGT_CFG_ENABLE ≠ 0) →
    ((width ≠ 4 ∧ width ≠ 8) ∨ off % width ≠ 0 →
      (isMgmt acc = true → exec (.registerWrite acc off width v) s = .next (s.send (.reply acc St.badField.code []))) ∧
      (acc < 8 → exec (.registerWrite acc off width v) s =
        .next (respond acc (s.get (Reg.HPT_PORT_CFG_MGMT_LD acc)) 0 "Unsupported Request" [] (hostViolation acc s)))) ∧
    (width = 4 ∨ width = 8 → off % width = 0 →
      (0x4000000 ≤ off → exec (.registerWrite acc off width v) s = .next (mgmtReply acc .bounds s)) ∧
      (off < 0x4000000 → exec (.registerWrite acc off width v) s = .next (directWrite acc off width v s)) ∧
      (off < 0x4000000 → regAt off = none → exec (.registerWrite acc off width v) s = .next (mgmtReply acc .done s)) ∧
      (∀ r base, off < 0x4000000 → regAt off = some (r, base) → directLevel acc off = none →
        exec (.registerWrite acc off width v) s = .next (mgmtReply acc .notPermitted (discardWrite acc off s))) ∧
      (∀ r base l, off < 0x4000000 → regAt off = some (r, base) → directLevel acc off = some l → accessorLevel acc s < l →
        (isMgmt acc = true → exec (.registerWrite acc off width v) s = .next ((discardWrite acc off s).send (.reply acc St.notPermitted.code []))) ∧
        (acc < 8 → exec (.registerWrite acc off width v) s = .next (hostViolation acc (discardWrite acc off s)))))

/-- A kick ends a hot restart. The first expiry of 60 s restarts the foreman with event 0x0A07; a second within 60 s ends its service with event 0x0A09,
as a grace that runs out does. A lockstep mismatch raises 0x0A0B and then counts as an expiry. A notice joins the exception queue while it holds fewer
than 4,096, and the foreman handles the oldest one. (R427, R430, R431, R432) -/
def Obligations.ForemanCommandsComplete : Prop :=
  ∀ s : State, s.up = true → s.mode ≠ .spill →
    (s.get Reg.FMN_STATE_STATE = 2 → exec .fmnWdtKick s = .next (endRestart s)) ∧
    (s.get Reg.FMN_STATE_STATE ≠ 2 → exec .fmnWdtKick s = .next s) ∧
    (s.mode ≠ .recovery → s.get Reg.FMN_STATE_STATE ≠ 1 → exec .watchdogExpiry s = .next (expiry 1 s)) ∧
    (s.mode ≠ .recovery → s.get Reg.FMN_STATE_STATE = 2 → exec .graceEnd s = .next (foremanLost s)) ∧
    (s.mode ≠ .recovery → exec .lockstepMismatch s = .next (expiry 2 (raise 0x0A0B 0 0 s))) ∧
    (s.fmn.exc.length < 4096 → ∀ bay subject, exec (.exceptionPost bay subject) s =
      .next (excSync ((s.inc (Reg.JNB_STAT_COUNT bay 4)).onFmn fun x => { x with exc := s.fmn.exc ++ [subject] }))) ∧
    (∀ first rest, s.fmn.exc = first :: rest → s.get Reg.FMN_STATE_STATE = 0 → exec .exceptionHandle s =
      .next (excSync ((s.onFmn fun x => { x with exc := rest }).inc (Reg.FMN_STAT_COUNT 6))))

/-- Where the responder answers on a path, every request it supports sends its response and changes nothing but the sessions and their registers:
KEY_EXCHANGE opens the lowest free of four sessions, with SessionLimitExceeded when none is free; FINISH secures a session or ends it with event
0x0E02; END_SESSION closes it; GET_MEASUREMENTS of index 1 to 5 sends that digest; a certificate slot other than 0 and every other request are
answered UnsupportedRequest. Response bodies in the DMTF formats are left open (log entry 6). (R530, R531, R532) -/
def Obligations.SpdmCommandsComplete : Prop :=
  ∀ (s : State) (path : Nat), pathAnswers path s = true →
    exec (.spdmGetVersion path) s = .next (s.send (.spdm path "VERSION" (Config.spdmBody 0x84 0))) ∧
    exec (.spdmGetCapabilities path) s = .next (s.send (.spdm path "CAPABILITIES" (Config.spdmBody 0xE1 0))) ∧
    exec (.spdmNegotiateAlgorithms path) s = .next (s.send (.spdm path "ALGORITHMS" (Config.spdmBody 0xE3 0))) ∧
    exec (.spdmGetDigests path) s = .next (s.send (.spdm path "DIGESTS" (Config.spdmBody 0x81 0))) ∧
    exec (.spdmGetCertificate path 0) s = .next (s.send (.spdm path "CERTIFICATE" (Config.spdmBody 0x82 0))) ∧
    (∀ slot, slot ≠ 0 → exec (.spdmGetCertificate path slot) s = .next (s.send (.spdm path "ERROR UnsupportedRequest" []))) ∧
    (∀ nonce, exec (.spdmChallenge path nonce) s = .next (s.send (.spdm path "CHALLENGE_AUTH" (Config.spdmBody 0x83 nonce)))) ∧
    (∀ i, 1 ≤ i → i ≤ 5 → exec (.spdmGetMeasurements path i) s =
      .next (s.send (.spdm path "MEASUREMENTS" (leBytes 48 (s.get (Reg.MOD_MEAS_DIGEST (i - 1))))))) ∧
    (∀ cert n, tfree s.sess 0 4 = some n → ∃ e : Session, exec (.spdmKeyExchange path cert) s =
      .next ({ s with sess := tins n e s.sess }.send (.spdm path "KEY_EXCHANGE_RSP" (Config.spdmBody 0xE4 n))) ∧ e.secured = false ∧ e.keyPair = 8 + 2 * n) ∧
    (∀ cert, tfree s.sess 0 4 = none → exec (.spdmKeyExchange path cert) s = .next (s.send (.spdm path "ERROR SessionLimitExceeded" []))) ∧
    (∀ n e, tfind n s.sess = some e →
      exec (.spdmFinish path n true) s =
        .next ((sessSync n { s with sess := tmod n (fun e => { e with secured := true }) s.sess }).send (.spdm path "FINISH_RSP" (Config.spdmBody 0xE5 n))) ∧
      exec (.spdmKeyUpdate path n) s = .next (s.send (.spdm path "KEY_UPDATE_ACK" (Config.spdmBody 0xE9 n))) ∧
      exec (.spdmHeartbeat path n) s = .next (s.send (.spdm path "HEARTBEAT_ACK" (Config.spdmBody 0xE8 n))) ∧
      exec (.spdmEndSession path n) s = .next ((sessSync n { s with sess := tdel n s.sess }).send (.spdm path "END_SESSION_ACK" (Config.spdmBody 0xEC n)))) ∧
    exec (.spdmUnsupportedRequest path) s = .next (s.send (.spdm path "ERROR UnsupportedRequest" []))

/-- STORE_STATUS returns the 64 bytes of R558. IMAGE_WRITE that passes its checks, with no store operation running, erases the sector first when ERASE is
set and programs its words otherwise; the erase's end programs the words when the read-back passes. IMAGE_COMMIT of a good image programs a marker,
raises 0x0B06 and returns version and SEQ. REGION_UNLOCK with a matching digest unlocks the index with 0x0B08; a differing digest is counted and
AUTH_FAILED. A store operation that times out marks its sector suspect and completes TIMEOUT. Verdicts on signatures and digests are operands (log
entry 2). (R433, R543, R552, R555, R556, R558) -/
def Obligations.StoreCommandsComplete : Prop :=
  (∀ (s : State) (m : Nat),
    (s.runsCmd m 0x0A01 → exec (.storeStatus m) s = .next (complete m (storeStatusBytes s) s) ∧ (storeStatusBytes s).length = 64) ∧
    (s.runsCmd m 0x0A02 → s.store.opMbx = none →
      let i := reqNat s m 0 1
      let off := reqNat s m 4 4
      let erase := bitOf 0 (reqNat s m 1 1)
      let w := (s.get (Mb.length m) - 16) / 32
      (∀ fail st b, imageWriteCheck i off w erase s = some (st, b) → exec (.imageWrite m fail) s = .next (refuse m st (atPayload b) s)) ∧
      (∀ fail, imageWriteCheck i off w erase s = none → erase = false → exec (.imageWrite m fail) s = .next (finishImageWrite m fail s)) ∧
      (∀ fail, imageWriteCheck i off w erase s = none → erase = true → exec (.imageWrite m fail) s =
        .next (holdForeman 1 (indexAddr i off / 65536) w m
          (s.onStore fun x => { x with unverified := indexAddr i off / 65536 :: x.unverified.filter (· != indexAddr i off / 65536) })))) ∧
    (s.runsCmd m 0x0A03 →
      let i := reqNat s m 0 1
      let word := fun (off n : Nat) => 256 ^ n - 1 - leNat (readBytes s.store.bytes (indexAddr i off) n)
      i ≤ 5 → word 4 1 = (if i < 2 then 1 else 2) → word 0 4 = 0x4E53484B → (i < 2 → s.store.minSecVer ≤ word 12 4) →
      let t := commitMarker i (word 8 4) ((imageSync i s).put (Reg.FST_IMAGE_STATE i) 2)
      exec (.imageCommit m true true) s =
        .next (complete m (leBytes 4 (word 8 4) ++ leBytes 4 (newestMarker t).seq) (raise 0x0B06 i (newestMarker t).seq t))) ∧
    (s.runsCmd m 0x0A05 → reqNat s m 0 1 = 6 ∨ reqNat s m 0 1 = 7 → s.store.unlockFail < 3 →
      exec (.regionUnlock m true) s = .next (complete m [] (raise 0x0B08 (reqNat s m 0 1) 0
        (s.put (if reqNat s m 0 1 = 6 then Reg.FST_STATE_UNLOCK6 else Reg.FST_STATE_UNLOCK7) 1))) ∧
      exec (.regionUnlock m false) s = .next (refuse m .authFailed (atPayload 8) (raise 0x0B09 (reqNat s m 0 1) 0
        ((s.onStore fun x => { x with unlockFail := x.unlockFail + 1 }).inc (Reg.FST_STAT_COUNT 7)))))) ∧
  (∀ (s : State) (m : Nat) (fail : Option Nat), s.up = true → s.mode ≠ .spill → s.get Reg.FST_STATE_OP = 1 → s.store.opMbx = some m →
    exec (.storeEraseDone true fail) s = .next (finishImageWrite m fail (eraseSector s.store.opSector s))) ∧
  (∀ s : State, s.up = true → s.get Reg.FST_STATE_OP ≠ 0 → s.store.suspect.contains s.store.opSector = false → s.store.opMbx = none →
    exec .storeOpTimeout s = .next (releaseForeman (markSuspect s.store.opSector
      (raise 0x0A0A s.store.opSector 0 ((s.inc (Reg.FST_STAT_COUNT 4)).inc (Reg.FMN_STAT_COUNT 4))))))

/-- HOT_RESTART is refused WRONG_MODE outside QUIESCED, PAIRED, RESYNC and SOLO. In those modes, when verification fails the command completes AUTH_FAILED
and nothing restarts; when it passes the command completes DONE and the restart follows; the watchdog expiries stay as they were. (R557) -/
def Obligations.HotRestartVerifiesTheActiveSlotFirst : Prop :=
  ∀ (s : State) (m : Nat), s.runsCmd m 0x0A04 →
    (s.serving = false → s.mode ≠ .quiesced → ∀ v, exec (.hotRestart m v) s = .next (refuse m .wrongMode noDetail s)) ∧
    (s.serving = true ∨ s.mode = .quiesced →
      exec (.hotRestart m false) s = .next (refuse m .authFailed noDetail s) ∧
      exec (.hotRestart m true) s = .next (hotRestart (complete m [] s)) ∧ (hotRestart (complete m [] s)).fmn.expiries = s.fmn.expiries)

/-- Programming a word in a sector whose erase was not verified, or one that would set a cleared bit, returns NOT_ERASED; programming what the word
already holds returns DONE; a word already programmed twice returns PROGRAM_LIMIT; in each case the store's bytes and counts stay. Otherwise the word
holds the data, its count rises by one, and the answer is DONE, or MEDIA_FAILED with the sector suspect when the read-back differs. A bit that reads 0
is held as 1 in the model's store. (R544, R545, R546) -/
def Obligations.WordProgramsNeverSetAClearedBit : Prop :=
  ∀ (s : State) (addr data : Nat) (fails : Bool),
    let zeros := wordZeros s addr
    (s.store.unverified.contains (addr / 65536) = true ∨ s.store.dead.contains (addr / 65536) = true →
      (programWord addr data fails s).1 = .notErased ∧ (programWord addr data fails s).2.store = s.store) ∧
    (s.store.unverified.contains (addr / 65536) = false → s.store.dead.contains (addr / 65536) = false →
    (data &&& zeros ≠ 0 → (programWord addr data fails s).1 = .notErased ∧ (programWord addr data fails s).2.store = s.store) ∧
    (data &&& zeros = 0 → data + zeros = 2 ^ 256 - 1 → programWord addr data fails s = (.done, s)) ∧
    (data &&& zeros = 0 → data + zeros ≠ 2 ^ 256 - 1 → 2 ≤ tget 0 addr s.store.programs →
      (programWord addr data fails s).1 = .programLimit ∧ (programWord addr data fails s).2.store = s.store) ∧
    (data &&& zeros = 0 → data + zeros ≠ 2 ^ 256 - 1 → tget 0 addr s.store.programs < 2 →
      (programWord addr data fails s).1 = (if fails then .mediaFailed else .done) ∧
      (programWord addr data fails s).2.store.bytes = writeBytes addr (leBytes 32 (2 ^ 256 - 1 - data)) s.store.bytes ∧
      (programWord addr data fails s).2.store.programs = tset 0 addr (tget 0 addr s.store.programs + 1) s.store.programs ∧
      (fails = true → addr / 65536 ∈ (programWord addr data fails s).2.store.suspect)))

/-- LOG_READ with n from 1 to 63 and LOG_STATUS return the bytes of R569 and R570; LOG_NOTE makes record 0x0D14 with SOURCE 0x42. A period's end closes
the open record; a due page leaves the buffer, and its confirmation puts its records into the store; the operating-time base is reprogrammed with the
powered time. SELFTEST_REPORT and SURVEY_INFO complete with bytes the spec does not lay out (log entry 6). (R563, R564, R566, R569, R570) -/
def Obligations.LogbookCommandsComplete : Prop :=
  (∀ (s : State) (m : Nat),
    (s.runsCmd m 0x0B01 → 1 ≤ reqNat s m 8 2 → reqNat s m 8 2 ≤ 63 → exec (.logRead m) s =
      .next (complete m (logReadBytes (reqNat s m 0 8) (reqNat s m 8 2) s) s)) ∧
    (s.runsCmd m 0x0B02 → exec (.logStatus m) s = .next (complete m (logStatusBytes s) s) ∧ (logStatusBytes s).length = 32) ∧
    (s.runsCmd m 0x0B03 → reqNat s m 20 28 = 0 → exec (.logNote m) s =
      .next (complete m [] (raiseW 0x0D14 (reqNat s m 0 8) (reqNat s m 8 12) 0x42 0 s))) ∧
    (s.runsCmd m 0x0D02 → exec (.selftestReport m) s = .next (completeFree m 64 s)) ∧
    (s.runsCmd m 0x0D03 → exec (.surveyInfo m) s = .next (completeFree m 32 s))) ∧
  (∀ (s : State) (event subject : Nat), s.live = true → exec (.recordPeriodClose event subject) s = .next (evrSync (s.onEvr fun x =>
    { x with buf := x.buf.map (fun (r : LogRec) => if r.isFor event subject && r.event != 0x0D11 then { r with isOpen := false } else r) }))) ∧
  (∀ s : State, mayWritePage s = true → s.evr.pageOut = 0 → pageDue s = true →
    exec .logPageWrite s = .next (s.onEvr fun x => { x with pageOut := Nat.min 256 (closedRecs s).length })) ∧
  (∀ s : State, s.up = true → s.evr.pageOut ≠ 0 → exec .logPageConfirmed s = .next (pageOut s)) ∧
  (∀ (s : State) (t : Nat), s.live = true → s.opTime = some t → exec .opTimeBaseUpdate s =
    .next ((s.onStore fun x => { x with opBase := t, opAt := s.epoch }).onEvr fun x => { x with opBase := t, opEpoch := s.epoch }))

/-- FREEZE completes DONE unless the module serves alone, where it is refused NOT_PERMITTED; its trigger follows with cause 2, and FREEZE_N triggers with
cause 1. Outside SPILL a trigger takes effect at once, with record 0x0D10 and F two epochs ahead; at F every island stops, the epoch stands at F and
every frame is lost. (R573, R574, R575) -/
def Obligations.FreezeCommandsComplete : Prop :=
  (∀ (s : State) (m : Nat), s.runsCmd m 0x0D01 →
    (s.alone = false → exec (.freeze m) s = .next (complete m [] (s.onEvr fun x => { x with freezeCmd := true }))) ∧
    (s.alone = true → exec (.freeze m) s = .next (refuse m .notPermitted noDetail s))) ∧
  (∀ s : State, s.live = true →
    (s.evr.freezeCmd = true → exec .freezeCommandTrigger s = .next (freezeTrigger 2 0 (s.onEvr fun x => { x with freezeCmd := false }))) ∧
    exec .freezeNFall s = .next (freezeTrigger 1 0 (s.put Reg.GLB_DISCRETES_FREEZE_N 0)) ∧
    (s.evr.freezeAt = none → s.mode ≠ .spill → s.pwr.spill = none → ∀ cause index, freezeTrigger cause index s = freezeNow cause index s) ∧
    (∀ f cause, s.evr.freezeAt = some (f, cause) → exec .islandsStop s =
      .next (loseFrames (((s.onEvr fun x => { x with frozen := true }).put Reg.CLK_EPOCH_EPOCH f).put Reg.CLK_STATE_RUNNING 0))))

/-- While powered: IDCODE reads 0x1489_6C6B; BYPASS passes its bit; the boundary scans shift open contents (log entry 4). On a CSH-4896-1A module
SVY_STATUS reports its fields; while frozen SVY_ADDR sets the offset, SVY_DATA shifts the block there and advances by 128, and UNLOCK with a matching
password unlocks; while not frozen SVY_DATA shifts zeros; while frozen and unlocked THAW in a serving mode or QUIESCED fences the module, which stays
FENCED until a word makes it fit to join. On a CSH-4896-1B module every private instruction is BYPASS. (R578, R580) -/
def Obligations.JtagInstructionsComplete : Prop :=
  ∀ s : State, s.pwr.powered = true →
    exec .idcode s = .next (s.send (.jtag 0x14896C6B)) ∧
    (∀ tdi, exec (.jtagBypass tdi) s = .next (s.send (.jtag (tdi % 2)))) ∧
    exec .extest s = .next ((s.free 64).2.send (.jtag (s.free 64).1)) ∧
    exec .samplePreload s = .next ((s.free 64).2.send (.jtag (s.free 64).1)) ∧
    (s.store.variantB = false →
      (∀ tdi, exec (.svyStatus tdi) s =
        .next (s.send (.jtag (b2n s.evr.frozen + 2 * b2n s.evr.unlocked + 4 * surveyBytes + 2 ^ 34 * s.get Reg.SVY_LAST_CAUSE)))) ∧
      (s.evr.frozen = true → ∀ off, exec (.svyAddr off) s = .next (s.onEvr fun x => { x with svyAddr := off / 128 * 128 })) ∧
      (s.evr.frozen = true → ∀ tdi, exec (.svyData tdi) s = .next ((((surveyBlock s.evr.svyAddr s).2.onEvr fun x =>
        { x with svyAddr := x.svyAddr + 128, svyRead := x.svyRead + 128 }).put Reg.SVY_LAST_READ_OUT 1).send (.jtag (leNat (surveyBlock s.evr.svyAddr s).1)))) ∧
      (s.evr.frozen = false → ∀ tdi, exec (.svyData tdi) s = .next (s.send (.jtag 0))) ∧
      (s.evr.frozen = true → s.evr.unlockFail < 3 → ∀ tdi, exec (.unlock tdi true) s = .next (s.onEvr fun x => { x with unlocked := true })) ∧
      (s.evr.frozen = true → s.evr.unlocked = true → s.regsOk → s.serving = true ∨ s.mode = .quiesced → ∀ tdi, ∃ t, exec (.thaw tdi) s = .next t ∧
        t.pair = .fenced ∧ t.mode = .quiesced ∧ t.twn.barred = true)) ∧
    (s.store.variantB = true → ∀ tdi ok, exec (.svyAddr tdi) s = .next (s.send (.jtag (tdi % 2))) ∧ exec (.svyData tdi) s = .next (s.send (.jtag (tdi % 2))) ∧
      exec (.svyStatus tdi) s = .next (s.send (.jtag (tdi % 2))) ∧ exec (.unlock tdi ok) s = .next (s.send (.jtag (tdi % 2))) ∧
      exec (.thaw tdi) s = .next (s.send (.jtag (tdi % 2))))

/-- KEY_LOAD of a known key ID into a free application slot enters it and waits for its first record. That record gives it its instance and the first
block never reserved with two ahead; each later one gives it the next block never reserved. KEY_CLEAR of an empty slot completes, and of a loaded one
clears it once no job is queued; KEY_FORGET records the key ID as forgotten with event 0x0804; SLOT_STATUS completes with open bytes (log entry 6). A
submission that passes every check is queued under a job number; one that fails is answered with the first status. A finished job ends, and a core
whose check fired is mapped out. Known-answer tests and the entropy source act as R375 and R384 say. (R371, R372, R373, R375, R376, R378, R383, R384) -/
def Obligations.CipherCommandsComplete : Prop :=
  (∀ (s : State) (m : Nat),
    (∀ keyId k, s.runsCmd m 0x0901 → 4120 ≤ reqNat s m 0 2 % 16384 → tfind (reqNat s m 0 2 % 16384) s.cph.slots = none → reqNat s m 3 1 ≤ 1 →
      8 ≤ reqNat s m 4 1 → reqNat s m 4 1 ≤ 15 → s.sess.any (fun e => e.2.secured && e.2.keyPair / 2 == reqNat s m 4 1 / 2) = true →
      tfind keyId s.store.jkeys = some k → k.spent = false → k.forgotten = false → k.next < lastBlock →
      exec (.keyLoad m true keyId) s = .next (s.onCph fun x => { x with slots := tins (reqNat s m 0 2 % 16384) { keyId := keyId, inst := 0, mode := reqNat s m 2 1 % 4, counter := 0, limit := 0, ahead := [], loader := some m, clearing := none } x.slots })) ∧
    (s.runsCmd m 0x0902 → 4120 ≤ reqNat s m 0 2 % 16384 →
      (tfind (reqNat s m 0 2 % 16384) s.cph.slots = none → exec (.keyClear m) s = .next (complete m [] s)) ∧
      (∀ k, tfind (reqNat s m 0 2 % 16384) s.cph.slots = some k → k.clearing = none → k.loader = none → exec (.keyClear m) s =
        .next (clearSync (reqNat s m 0 2 % 16384) (modSlot (reqNat s m 0 2 % 16384) (fun (x : CSlot) => { x with clearing := some m }) s)))) ∧
    (∀ k, s.runsCmd m 0x0903 → tfind (reqNat s m 0 8) s.store.jkeys = some k → exec (.keyForget m) s =
      .next (complete m [] (raise 0x0804 (reqNat s m 0 8) 0 (jrnlPut (reqNat s m 0 8) { k with forgotten := true } s)))) ∧
    (s.runsCmd m 0x0905 → exec (.slotStatus m) s = .next (completeFree m 32 s)) ∧
    (s.runsCmd m 0x0904 →
      let d := reqBytes s m 0 64
      let len := descNat d 4 4
      let aad := descNat d 8 2
      cipherFieldCheck d s = none → s.get (Mb.length m) = 64 + len + aad → cipherKeyCheck d s = none →
        exec (.cipherSubmit m) s = .next (queueJob d (reqBytes s m 64 len) (reqBytes s m (64 + len) aad) (some m) s).2)) ∧
  (∀ s : State, s.up = true →
    (∀ caller desc,
      let d := padTo 64 (desc.map (BitVec.ofNat 8))
      let q := queueJob d (yardBytes s (descNat d 12 4) (descNat d 4 4)) (yardBytes s (descNat d 20 4) (descNat d 8 2)) none s
      (cipherFieldCheck d s = none → cipherHandleCheck d caller s = none → cipherKeyCheck d s = none →
        exec (.cipherSubmission caller desc) s = .next (q.2.send (.prim "CIPHER_SUBMIT" 0 q.1))) ∧
      (∀ st, cipherFieldCheck d s = some st → exec (.cipherSubmission caller desc) s =
        .next ((cipherRefused d st s).send (.prim "CIPHER_SUBMIT" st.code 0)))) ∧
    (∀ job j ok, tfind job s.cph.jobs = some j → j.started = true → s.mode ≠ .spill →
      exec (.cipherJobDone job ok none) s = .next (finishJob job j ok s) ∧
      ∀ c, exec (.cipherJobDone job ok (some c)) s = .next (mapCoreOut (c % 16) 3 (s.inc (Reg.CPH_STAT_COUNT 4)))) ∧
    (∀ c, c < 16 → s.serving = true → s.get (Reg.CPH_CORE_STATE_STATE c) = 0 →
      exec (.katDue c true) s = .next (s.inc (Reg.CPH_STAT_COUNT 9)) ∧
      exec (.katDue c false) s = .next (mapCoreOut c 2 (s.inc (Reg.CPH_STAT_COUNT 9)))) ∧
    exec .entropyHealthFail s = .next (raise 0x0809 0 0 (s.put Reg.CPH_STATE_ENTROPY_OK 0)) ∧
    exec .entropyHealthPass s = .next (s.put Reg.CPH_STATE_ENTROPY_OK 1) ∧
    (∀ slot k j, slot ≠ 0 → slot ≠ 2 → tfind slot s.cph.slots = some k → tfind k.keyId s.store.jkeys = some j → j.spent = false → j.forgotten = false →
      (∀ m, k.loader = some m → 40 ≤ m → j.next + 3 ≤ lastBlock → exec (.counterBlockRecorded slot) s =
        .next (modSlot slot (fun (x : CSlot) =>
            { x with inst := j.inst, counter := j.next * 2 ^ 24, limit := (j.next + 1) * 2 ^ 24, ahead := [j.next + 1, j.next + 2], loader := none })
          ((jrnlPut k.keyId { j with next := j.next + 3 } s).add (Reg.CPH_STAT_COUNT 5) 3))) ∧
      (k.loader = none → k.ahead.length < 2 → j.next < lastBlock → exec (.counterBlockRecorded slot) s =
        .next (modSlot slot (fun (x : CSlot) => CSlot.moveInto { x with ahead := x.ahead ++ [j.next] })
          ((jrnlPut k.keyId { j with next := j.next + 1 } s).inc (Reg.CPH_STAT_COUNT 5))))))

/-- While every island runs: ALLOC grants the buffer it picks; FREE and HANDOVER of a handle that passes the checks free it and pass it on; ENQ of a good
cell appends it; DEQ delivers the head cell to the consumer; DROP_REMAINDER drops the caller's open packet; QOPEN takes the lowest CLOSED queue and
QCLOSE by the consumer closes it; a filled bank of a lock pair is FULL and a drained one EMPTY before the pair steps; a fenced stack takes R81 to R83,
R184 and R409. RECLAIM completes with the number of buffers freed, DITCH_INSPECT with the 32 bytes of R411, YARD_INSPECT with open bytes (log entry
6). (R81, R392, R393, R395, R399, R400, R402, R403, R404, R408, R409, R411) -/
def Obligations.YardAndDitchCommandsComplete : Prop :=
  (∀ s : State, s.up = true →
    (∀ size caller group h, 0 < size → size ≤ 2097152 → allocPick size group s = some h → exec (.yardAlloc size caller group) s =
      .next ((yardSync (h / 2 ^ 28) ((s.onYrd fun x => { x with bufs := tins h (caller % 65536) x.bufs }).inc (Reg.YRD_STAT_COUNT (h / 2 ^ 28) 0))).send
        (.prim "ALLOC" 0 h))) ∧
    (∀ h caller, handleCheck h caller none s = none → exec (.yardFree h caller) s = .next ((freeBuf h s).send (.prim "FREE" 0 0))) ∧
    (∀ h caller owner, handleCheck h caller (some owner) s = none → exec (.yardHandover h caller owner) s =
      .next (((s.onYrd fun x => { x with bufs := tins h owner x.bufs }).inc (Reg.YRD_STAT_COUNT (h / 2 ^ 28 % 16) 5)).send (.prim "HANDOVER" 0 0))) ∧
    (∀ q x caller data sop eop c, s.queue q = some x → x.state = 1 → sop = (x.opens.find? (fun e => e.1 == caller)).isNone → 1 ≤ data.length →
      data.length ≤ 256 → openPackets s < 16384 → (∀ e, x.opens.find? (fun e => e.1 == caller) = some e → e.2.length < 4096) → x.cells < x.maxCells →
      cellPick s = some c → exec (.ditchEnq q caller data sop eop) s =
        .next ((cellEvents (appendCell q caller x c (data.map (BitVec.ofNat 8)) sop eop s)).send (.prim "ENQ" 0 0))) ∧
    (∀ q x c cs rest bad, s.queue q = some x → x.state = 1 → x.packets = (c :: cs) :: rest →
      exec (.ditchDeq q x.consumer bad) s = .next (deliverCell q x c cs rest bad s)) ∧
    (∀ q x caller, s.queue q = some x → x.opens.any (fun e => e.1 == caller) = true →
      exec (.dropRemainder q caller) s = .next ((dropOpen q caller s).2.send (.prim "DROP_REMAINDER" 0 (dropOpen q caller s).1))) ∧
    (∀ consumer notice maxCells, 1 ≤ maxCells → maxCells ≤ 4194304 → tnext 0x8000 s.yrd.queues ≤ 0xFFFF →
      exec (.qopen consumer notice maxCells) s = .next ((ditchSync (putQueue (tnext 0x8000 s.yrd.queues)
        { state := 1, consumer := consumer % 65536, notice := notice % 2 ^ 32, maxCells := maxCells, packets := [], part := false, opens := [] } s)).send
          (.prim "QOPEN" 0 (tnext 0x8000 s.yrd.queues)))) ∧
    (∀ q x, s.queue q = some x → queueFixed q = false → exec (.qclose q x.consumer) s =
      .next ((closeNow q x s).send (.prim "QCLOSE" 0 x.packets.flatten.length))) ∧
    (∀ n more, n < 38 → s.get (Reg.DQM_LP_STATE_BANK0 n) = 1 → exec (.lockPairFillDone n more) s =
      .next (lockPairStep n more (s.put (Reg.DQM_LP_STATE_BANK0 n) 2))) ∧
    (∀ n more, n < 38 → s.get (Reg.DQM_LP_STATE_BANK0 n) = 3 → exec (.lockPairDrainDone n more) s =
      .next (lockPairStep n more (s.put (Reg.DQM_LP_STATE_BANK0 n) 0))) ∧
    (∀ n, n < 4 → unitState s (30 + n) ≠ 3 → unitState s (30 + n) ≠ 5 → exec (.loftStackFenced n) s = .next (fenceStack n s))) ∧
  (∀ (s : State) (m : Nat),
    (s.runsCmd m 0x0E04 → exec (.reclaim m) s = .next (complete m (leBytes 8 (reclaimOwner (reqNat s m 0 2) s).1) (reclaimOwner (reqNat s m 0 2) s).2)) ∧
    (s.runsCmd m 0x0E82 → exec (.ditchInspect m) s = .next (complete m (ditchBytes (reqNat s m 0 2) s) s) ∧ (ditchBytes (reqNat s m 0 2) s).length = 32) ∧
    (s.runsCmd m 0x0E81 → exec (.yardInspect m) s = .next (completeFree m 32 s)))

/-- On a PAIRED module: provisioning a persistent reach that is not provisioned, below REACH_LIMIT with those in progress, appends its REACH record and
tells the twin, and the command waits; a volatile one within VOL_LIMIT and the floor capacity is provisioned at once, tells the twin and completes
with 8 bytes. Releasing an ACTIVE reach with no window is likewise: a persistent one is RELEASING and waits for its record, a volatile one the module
owns is released at once. REACH_HANDOVER of an ACTIVE persistent reach begins here when this module owns it, and is asked of the twin otherwise.
DIR_READ of a provisioned reach returns the 16 bytes of its entry, of another BOUNDS. REACH_READ completes with 64 open bytes (log entry 6); frame
contents are the model's (log entry 8). (R36, R37, R38, R41, R43, R161, R466, R467) -/
def Obligations.ReachCommandsComplete : Prop :=
  ∀ (s : State) (m : Nat),
    (s.runsCmd m 0x0601 → s.mode = .paired →
      let n := reqNat s m 0 2 % 4096
      let owner := reqNat s m 3 1
      reachState s n = 0 → s.twn.reachOps.any (fun o => o.reach == n) = false → owner ≤ 1 →
      (reqNat s m 2 1 = 0 → reachesOf 0 s + (s.twn.reachOps.filter (fun o => o.action == 0)).length < s.get Reg.TIR_HAS_CFG_REACH_LIMIT → exec (.reachProvision m) s =
        .next (linkSend "REACH_CTL" n 0 [0, 0, BitVec.ofNat 8 owner] (append (reachRec n 0 0 owner false s) false (s.onTwn fun x =>
          { x with reachOps := x.reachOps ++ [{ reach := n, action := 0, kind := 0, owner := owner, mbx := some m, own := false, twin := false }] })))) ∧
      (reqNat s m 2 1 = 1 → owner = s.pos → reachesOf 1 s < s.get Reg.TIR_HAS_CFG_VOL_LIMIT → 128 * (reachesOf 1 s + 1) ≤ floorGib s →
        exec (.reachProvision m) s = .next (complete m (leBytes 8 0) (linkSend "REACH_CTL" n 0 [0, 1, BitVec.ofNat 8 owner] (provisionReach n 1 owner s))))) ∧
    (∀ tw, s.runsCmd m 0x0602 → s.mode = .paired →
      let n := reqNat s m 0 2 % 4096
      reachState s n = 1 → s.get (Reg.TIR_REACH_WINDOWS n) = 0 →
      (volatileReach s n = false → tw = false → exec (.reachRelease m tw) s =
        let o : ReachOp := { reach := n, action := 1, kind := 0, owner := s.get (Reg.TIR_REACH_OWNER n), mbx := some m, own := false, twin := false }
        let t := (s.onTwn fun x => { x with reachOps := x.reachOps ++ [o] }).put (Reg.TIR_REACH_STATE n) 5
        .next (linkSend "REACH_CTL" n 0 [1, 0, BitVec.ofNat 8 o.owner] (append (reachRec n 1 0 o.owner false t) false t))) ∧
      (volatileReach s n = true → ownsReach s n = true → exec (.reachRelease m tw) s =
        .next (complete m [] (releaseReach n (linkSend "REACH_CTL" n 0 [1, 1, BitVec.ofNat 8 s.pos] s))))) ∧
    (s.runsCmd m 0x0603 → s.mode = .paired → s.get Reg.TWN_STATE_TWIN_MODE = 4 →
      let n := reqNat s m 0 2 % 4096
      reachState s n = 1 → volatileReach s n = false → s.twn.handovers.any (fun h => h.1 == n) = false →
      (ownsReach s n = true → exec (.reachHandover m) s = .next (beginHandover n (some m) s)) ∧
      (ownsReach s n = false → exec (.reachHandover m) s =
        .next (linkSend "HANDOVER" n 0 [0] (s.onTwn fun x => { x with handovers := x.handovers ++ [(n, 0, some m)] })))) ∧
    (s.runsCmd m 0x0701 →
      let g := reqNat s m 0 8 % 2 ^ 34
      (reachState s (granReach g) ≠ 0 → exec (.dirRead m) s = .next (complete m (dirBytes (s.gran g)) s) ∧ (dirBytes (s.gran g)).length = 16) ∧
      (reachState s (granReach g) = 0 → exec (.dirRead m) s = .next (refuse m .bounds (atPayload 0) s))) ∧
    (s.runsCmd m 0x0703 → exec (.reachRead m) s = .next (completeFree m 64 s))

/-- PAIR_JOIN_ACCEPT completes and lets the next join start, and is refused WRONG_MODE where no join may run. PAIR_SPLIT of a PAIRED module departs when
it names this one, and asks the twin otherwise; outside PAIRED it is WRONG_MODE. PAIR_RESOLVE of a CONTESTED pair completes, tells the twin, and
settles the named module as the authority. SOLO_START in QUIESCED with no twin starts the takeover with cause COMMAND. LINK_UNFENCE clears the cable's
or a port's fence. PAIR_STATUS completes with 64 open bytes (log entry 6). Payload byte 0 is the model's (log entry 8). (R133, R137, R138, R150, R157,
R457, R466) -/
def Obligations.PairCommandsComplete : Prop :=
  ∀ (s : State) (m : Nat),
    (s.runsCmd m 0x0604 → exec (.pairStatus m) s = .next (completeFree m 64 s)) ∧
    (s.runsCmd m 0x0605 →
      (mayJoin s = true → s.twn.waitingJoin = false → exec (.pairJoinAccept m) s = .next (complete m [] (s.onTwn fun x => { x with accept := true }))) ∧
      (mayJoin s = false → exec (.pairJoinAccept m) s = .next (refuse m .wrongMode noDetail s))) ∧
    (s.runsCmd m 0x0606 → reqNat s m 0 1 ≤ 1 →
      (s.pair = .paired → s.mode = .paired → s.twn.margin = false → s.twn.split = none →
        (reqNat s m 0 1 = s.pos → exec (.pairSplit m) s = .next (splitSync (beginDepart (some m) s))) ∧
        (reqNat s m 0 1 ≠ s.pos → exec (.pairSplit m) s = .next (sendSplit 4 (s.onTwn fun x =>
          { x with split := some (some m, false), owned := (provisioned s).filter (fun n => !(ownsReach s n)) })))) ∧
      (s.pair ≠ .paired → exec (.pairSplit m) s = .next (refuse m .wrongMode noDetail s))) ∧
    (s.runsCmd m 0x0607 →
      let p := reqNat s m 0 1
      p ≤ 1 → (s.pair = .contested → exec (.pairResolve m) s = .next (resolveTo p (complete m [] (linkSend "CATCHUP_MAP" 5 p [BitVec.ofNat 8 p] s)))) ∧
        (s.pair ≠ .contested → exec (.pairResolve m) s = .next (refuse m .wrongMode noDetail s))) ∧
    (s.runsCmd m 0x0608 → s.mode = .quiesced → s.get Reg.MOD_STATE_RESTORE ≠ 0 → s.get Reg.TWN_STATE_TWIN_MODE = 0 → s.get Reg.MOD_STATE_SERVE_BLOCK = 0 →
      s.pair = .unpaired ∨ s.pair = .fenced ∨ s.pair = .contested →
        exec (.soloStart m) s = .next (declareLost 7 true (s.onTwn fun x => { x with soloMbx := some m, margin := false }))) ∧
    (s.runsCmd m 0x0609 →
      (reqNat s m 0 1 = 0 → exec (.linkUnfence m) s = .next (complete m [] (unfenceLink 0 s))) ∧
      (reqNat s m 0 1 = 4 ∨ reqNat s m 0 1 = 5 → exec (.linkUnfence m) s = .next (complete m [] (portSync (unfenceLink (reqNat s m 0 1 - 3) s)))))

/-- A bad word, or one that repeats the last slot number, is a violation; a word with this module's own position is ignored but for the cable fault; a
valid word is noted, and its FENCED and PF count unless a cable fault stands (R140). PAIR_FENCE_IN, PAIR_PF_IN and their release are recorded; the
fence order acts on a serving or QUIESCED module without a cable fault, the PF notice as a loss with cause PF_NOTICE; a short pulse is a violation. A
cable fault is set and cleared after the times of R140. (R113, R115, R116, R117, R139, R140, R146, R157) -/
def Obligations.CableWordsAndLinesActAsStated : Prop :=
  ∀ s : State, s.up = true →
    (∀ ok mode pos fenced degraded pf cf slot held,
      (ok = false ∨ s.twn.lastSlot = some slot → exec (.heartbeatWordReceived ok mode pos fenced degraded pf cf slot held) s =
        .next (violate 0 (s.inc (Reg.TWN_HB_STAT_COUNT 2)))) ∧
      (ok = true → s.twn.lastSlot ≠ some slot →
        (pos % 2 = s.pos → exec (.heartbeatWordReceived ok mode pos fenced degraded pf cf slot held) s = .next (violate 0 (setCableFault (wordHeard slot s)))) ∧
        (pos % 2 ≠ s.pos → s.flag Reg.TWN_VIOL_CABLE_FENCED = false →
          (s.flag Reg.TWN_STATE_CABLE_FAULT = true → exec (.heartbeatWordReceived ok mode pos fenced degraded pf cf slot held) s = .next (wordNoted mode cf slot held s)) ∧
          (s.flag Reg.TWN_STATE_CABLE_FAULT = false → exec (.heartbeatWordReceived ok mode pos fenced degraded pf cf slot held) s =
            .next (twinStatus fenced pf ((wordNoted mode cf slot held s).put Reg.TWN_STATE_TWIN_DEGRADED (b2n degraded))))))) ∧
    (s.flag Reg.TWN_STATE_CABLE_FAULT = false → s.serving = true ∨ s.mode = .quiesced → s.pair ≠ .fenced →
      exec .pairFenceInAssert s = .next (fenceNow (s.put Reg.TWN_STATE_FENCE_IN 1))) ∧
    (s.flag Reg.TWN_STATE_CABLE_FAULT = true → exec .pairFenceInAssert s = .next (s.put Reg.TWN_STATE_FENCE_IN 1) ∧
      exec .pairPfInAssert s = .next (s.put Reg.TWN_STATE_PF_IN 1)) ∧
    (s.pair = .fenced → s.twn.settled = true → s.flag Reg.TWN_STATE_CABLE_FAULT = false → exec .pairFenceInDeassert s =
      .next (admitSync (cubSync (setPair .catchingUp ((s.put Reg.TWN_STATE_FENCE_IN 0).onTwn fun x => { x with settled := false }))))) ∧
    (s.twn.settled = false → exec .pairFenceInDeassert s = .next (s.put Reg.TWN_STATE_FENCE_IN 0)) ∧
    (s.flag Reg.TWN_STATE_CABLE_FAULT = false → exec .pairPfInAssert s = .next (twinPf (s.put Reg.TWN_STATE_PF_IN 1))) ∧
    (∀ pf, exec (.pairInputPulse pf) s = .next (violate 0 (s.inc (Reg.TWN_HB_STAT_COUNT (if pf then 5 else 4))))) ∧
    (s.epoch ≥ s.twn.wordAt + 4 → s.epoch ≤ s.twn.frameAt + 2 → exec .cableFaultSet s = .next (setCableFault s)) ∧
    (s.flag Reg.TWN_STATE_CABLE_FAULT = true → s.flag Reg.TWN_VIOL_CABLE_FENCED = false → s.epoch ≥ s.twn.runAt + 100 → s.epoch ≤ s.twn.wordAt + 1 →
      s.flag Reg.TWN_STATE_FENCE_IN = false → s.flag Reg.TWN_STATE_PF_IN = false → s.pair ≠ .fenced →
      exec .cableFaultClear s = .next (raise 0x0504 0 0 (s.put Reg.TWN_STATE_CABLE_FAULT 0)))

/-- In every state that serves, whose register table is in order, with no cable fault, PAIR_FENCE_IN leaves the pair state FENCED and the mode QUIESCED,
and FENCE_IN is set first. (R111, R117) -/
def Obligations.FenceOrderFencesAServingModule : Prop :=
  ∀ s : State, s.regsOk → s.up = true → s.serving = true → s.pair ≠ .fenced → s.flag Reg.TWN_STATE_CABLE_FAULT = false →
    ∃ t, exec .pairFenceInAssert s = .next t ∧ t.pair = .fenced ∧ t.mode = .quiesced ∧ t.regsOk

/-- Silence of 4.0 µs on both links declares HB_TIMEOUT, and a stalled HELD_PROGRESS of 8.0 µs with an old unacknowledged record STALL. Ports down for 4.0
µs with words going on start the arbitration: equal DEGRADED bits make position 1 fence itself and position 0 the winner. Under a cable fault position
1 fences itself after 4.0 µs without a frame, and position 0 declares LINK_AND_CABLE after 6.0 µs. The takeover runs when the 1.0 µs margin is over.
(R139, R141, R142, R144) -/
def Obligations.LossOfTheTwinActsAsStated : Prop :=
  ∀ s : State, s.up = true →
    (silent s = true → s.flag Reg.TWN_STATE_CABLE_FAULT = false → exec .hbTimeout s = .next (declareLost 1 true s)) ∧
    (s.epoch ≥ s.twn.heldAt + 8 → (∃ r ∈ unackedRecs s, s.epoch ≥ r.epoch + 8) → exec .stall s = .next (declareLost 4 true s)) ∧
    (∀ t, s.twn.downAt = some t → s.mirrors = true → s.epoch ≥ t + 4 → s.epoch < s.twn.wordAt + 4 → s.flag Reg.TWN_STATE_CABLE_FAULT = false →
      s.twn.twinCf = false → s.twn.margin = false → s.flag Reg.TWN_STATE_DEGRADED = s.flag Reg.TWN_STATE_TWIN_DEGRADED →
      (s.pos = 1 → exec .mirrorPathArbitration s = .next (fenceNow s)) ∧
      (s.pos ≠ 1 → exec .mirrorPathArbitration s = .next (s.onTwn fun x => { x with arbWon := true }))) ∧
    (∀ t, s.twn.downAt = some t → s.mirrors = true → s.epoch ≥ t + 4 → s.epoch < s.twn.wordAt + 4 → s.flag Reg.TWN_STATE_CABLE_FAULT = false →
      s.twn.twinCf = false → s.twn.margin = false → s.flag Reg.TWN_STATE_DEGRADED = true → s.flag Reg.TWN_STATE_TWIN_DEGRADED = false →
      exec .mirrorPathArbitration s = .next (fenceNow s)) ∧
    (s.flag Reg.TWN_STATE_CABLE_FAULT = true → s.mirrors = true → s.twn.margin = false →
      (s.pos = 1 → s.epoch ≥ s.twn.frameAt + 4 → exec .linkAndCable s = .next (fenceNow s)) ∧
      (s.pos ≠ 1 → s.epoch ≥ s.twn.frameAt + 6 → exec .linkAndCable s = .next (declareLost 6 true s))) ∧
    (s.twn.margin = true → s.epoch ≥ s.get Reg.TWN_TKO_EPOCH_EPOCH + 1 → exec .fenceMarginEnd s = .next (takeoverEnd s))

/-- On a CATCHING_UP module silence, a stall and a cable fault with silent links change nothing at all, and a PF notice only sets PF_IN; no declaration
whose cause is an observation (1 to 6) changes the state. (R143) -/
def Obligations.CatchingUpModuleDeclaresNoLoss : Prop :=
  ∀ s : State, s.up = true → s.regsOk → s.pair = .catchingUp →
    (∀ cause full, cause ≠ 7 → declareLost cause full s = s) ∧
    exec .hbTimeout s = .next s ∧ exec .stall s = .next s ∧ exec .linkAndCable s = .next s ∧ exec .mirrorPathArbitration s = .next s ∧
    exec .pairPfInAssert s = .next (s.put Reg.TWN_STATE_PF_IN 1)

/-- A join starts where the module may join, words come, a keyed port is up and no cable fault stands, when it was accepted or AUTO_REJOIN names the twin.
A JOINING module that has heard nothing for 4.0 µs is back in the pair state it held. A history of a twin with a higher generation settles this module
catching up, of one with a lower as the authority. RESYNC_STREAM snapshots the next free granule and counts it; RESYNC_END with nothing marked,
streamed or partial enters PAIRED. (R133, R134, R151, R153, R154, R155, R615) -/
def Obligations.JoinAndResyncEventsComplete : Prop :=
  ∀ s : State, s.up = true →
    (∀ identity, mayJoin s = true → s.get Reg.TWN_STATE_TWIN_MODE ≠ 0 → portSends s 0 = true ∨ portSends s 1 = true → s.flag Reg.TWN_STATE_CABLE_FAULT = false →
      (s.twn.accept = true ∨ (s.flag Reg.TWN_CFG_AUTO_REJOIN = true ∧ s.get Reg.TWN_TWIN_ID_ID = identity) → exec (.joinStart identity) s = .next (startJoin s)) ∧
      (s.twn.accept = false → s.flag Reg.TWN_CFG_AUTO_REJOIN = false → s.twn.waitingJoin = false → exec (.joinStart identity) s =
        .next (raise 0x050B 0 identity (s.onTwn fun x => { x with waitingJoin := true })))) ∧
    (s.twn.joining = true → s.pair = .joining → silent s = true → exec .joinAbandon s =
      .next (setPair (PairState.ofCode s.twn.before) (s.onTwn fun x => { x with joining := false, reconciling := false, entry := none, hist := none }))) ∧
    (∀ h lacks retired grans, s.twn.hist = some h → s.twn.joining = true → s.twn.reconciling = false → s.twn.entry = none → s.twn.twinSettled = false →
      s.get Reg.TWN_TWIN_ID_ID = h.identity → h.twinOf = s.store.identity → restoreFailed s = false → h.restore ≠ 3 →
      (s.get Reg.TWN_GEN_GEN < h.gen → exec (.joinSettle lacks retired grans) s = .next (settleCatching false false s)) ∧
      (h.gen < s.get Reg.TWN_GEN_GEN → exec (.joinSettle lacks retired grans) s = .next (settleAuthority false s))) ∧
    (∀ g, s.pair = .resyncing → s.twn.margin = false → mayStream s = true → nextStream s = some g → (s.gran g).lock = none → (s.gran g).waiters = [] →
      exec .resyncStream s = .next ((sendGranule g (s.onTwn fun x => { x with streamed := x.streamed ++ [g], rsyCount := x.rsyCount + 1, streamBytes := (s.epoch, 16384) :: x.streamBytes.filter (fun b => decide (s.epoch < b.1 + 100)) })).inc (Reg.TWN_RSY_STAT_COUNT 0))) ∧
    (s.twn.margin = false → s.twn.cub = [] → s.twn.coarse = [] →
      (s.pair = .resyncing → s.twn.streamed = [] → exec .resyncEnd s = .next (arrive .paired s)) ∧
      (s.pair = .catchingUp → s.twn.partialG = [] → s.twn.merged = [] → s.twn.hist ≠ none → s.twn.deaf = false → exec .resyncEnd s = .next (enterServing .paired s)))

/-- STEP_RUN runs the ready step on its bay. A step over its budget is abandoned, with 0x0A0C past the limit. A joiner whose check fires is mapped out
with its cause; a due test in a serving mode that passes only restarts the period. JOINERY_LOAD into an EMPTY bay that passes R422 makes it LOADING
and waits; a bay loading or testing is BUSY. A finished load makes it TESTING, a finished test IN_SERVICE with 0x0A05 and completes. BAY_DRAIN makes
the bay DRAINING with 0x0A04 and moves its steps; when drained it is EMPTY and the command completes. BAY_STATUS completes with 64 open bytes (log
entry 6). (R413, R414, R415, R418, R419, R422, R425, R435, R469) -/
def Obligations.JoineryCommandsAndEventsComplete : Prop :=
  (∀ s : State, s.up = true →
    (∀ op entry mask more stores t, s.jnb.ready.find? (fun t => t.op == op) = some t → exec (.stepRun op entry mask more stores) s =
      .next (runStep t.bay op entry t.image mask more stores (readySync (s.onJnb fun x => { x with ready := x.ready.filter (fun u => u.op != op) })))) ∧
    (∀ bay op entry,
      let n := ((recentBudgets s).filter (fun e => e.1 == entry)).length + 1
      (n < s.get Reg.JNB_CFG_FAULT_LIMIT → exec (.stepBudgetExceeded bay op entry) s = .next (settle (abandonStep bay op entry s))) ∧
      (s.get Reg.JNB_CFG_FAULT_LIMIT ≤ n → exec (.stepBudgetExceeded bay op entry) s = .next (settle (raiseRl 0x0A0C entry n (abandonStep bay op entry s))))) ∧
    (∀ joiner cause abandoned, joiner < 64 → s.flag (Reg.JNB_JOINER_STATE_MAPPED_OUT (joiner / 8) (joiner % 8)) = false → 1 ≤ cause → cause ≤ 3 →
      exec (.joinerFault joiner cause abandoned) s = .next (faultJoiner joiner cause (s.add (Reg.JNB_STAT_COUNT (joiner / 8) 2) (Nat.min abandoned 8)))) ∧
    (∀ joiner passes,
      (s.jnb.retest.contains joiner = true → exec (.joinerTestDue joiner passes) s = .next (retestJoiner joiner passes s)) ∧
      (s.jnb.retest.contains joiner = false → s.serving = true → joiner < 64 → bitOf (joiner % 8) (s.get (Reg.JNB_BAY_STATE_JOINERS (joiner / 8))) = true →
        s.jnb.testAt + s.get Reg.JNB_CFG_TEST_PERIOD_S * 10000000 ≤ s.epoch → exec (.joinerTestDue joiner passes) s =
          let t := s.onJnb fun x => { x with testAt := s.epoch }
          .next (if passes then t else faultJoiner joiner 2 t))) ∧
    (∀ bay, bay < 8 →
      (bayState s bay = 1 → exec (.bayLoadDone bay false true) s = .next (s.put (Reg.JNB_BAY_STATE_STATE bay) 2)) ∧
      (bayState s bay = 2 → tfind bay s.jnb.waiters = none → exec (.bayLoadDone bay true true) s = .next (joinerSync (raise 0x0A05 bay (bayImage s bay)
        ((s.onJnb fun x => { x with waiters := tdel bay x.waiters }).put (Reg.JNB_BAY_STATE_STATE bay) 3)))) ∧
      (bayState s bay = 4 → drained bay s = true → ∀ m, tfind bay s.jnb.waiters = some m → exec (.bayEmpty bay) s =
        .next (complete m [] (emptyBay bay (s.onJnb fun x => { x with waiters := tdel bay x.waiters })))))) ∧
  (∀ (s : State) (m : Nat),
    (∀ i, s.runsCmd m 0x0E01 → 2 ≤ reqNat s m 4 4 → reqNat s m 4 4 ≤ 5 →
      let b := reqNat s m 0 1 % 8
      (bayState s b = 0 → loadCheck b (bitOf 0 (reqNat s m 1 1)) i s = none → exec (.joineryLoad m i) s =
        .next ((beginLoad b i s).onJnb fun x => { x with waiters := tins b m x.waiters })) ∧
      (bayState s b = 1 ∨ bayState s b = 2 → exec (.joineryLoad m i) s = .next (refuseBusy m s))) ∧
    (s.runsCmd m 0x0E02 →
      let b := reqNat s m 0 1 % 8
      bayState s b = 3 → (∀ c, c < 8 → c ≠ b → bayState s c = 0 ∨ bayState s c = 3) → leavesNone b s = false → exec (.bayDrain m) s =
        .next (joinerSync (moveSteps b ((raise 0x0A04 b (bayImage s b) (s.put (Reg.JNB_BAY_STATE_STATE b) 4)).onJnb fun x => { x with waiters := tins b m x.waiters })))) ∧
    (s.runsCmd m 0x0E03 → exec (.bayStatus m) s = .next (completeFree m 64 s)))

/-- An accessor at OPERATE makes a DISABLED bank INVALIDATING, and any other bank raises 0x0344; a lower accessor's write is discarded. An INVALIDATING
bank is cleared and DISABLED with INVALIDATED 1, a DISABLING bank writes its dirty ways back and is DISABLED, and an ENABLED bank at its parity limit
is DISABLING with 0x0342. A maintenance request while BUSY gets STATUS BUSY; one that passes R210 is cut; one that does not gets its refusal. A fill
that lands in an enabled bank uncut is installed. An acknowledged victim that nothing waits for is released. (R198, R204, R207, R208, R210, R214,
R215, R216, R217) -/
def Obligations.BenchCommandsAndEventsComplete : Prop :=
  ∀ s : State, s.up = true →
    (∀ acc b, b < 16 → writeCarried acc s = true →
      (accessorLevel acc s < 1 → exec (.bchBankInvalidate acc b) s = .next (mgmtReply acc .notPermitted (discardBelow acc (0x181000 + 0x40 * b) s))) ∧
      (1 ≤ accessorLevel acc s → s.get (Reg.BCH_BANK_STATE_STATE b) = 0 →
        exec (.bchBankInvalidate acc b) s = .next (mgmtReply acc .done (s.put (Reg.BCH_BANK_STATE_STATE b) 3))) ∧
      (1 ≤ accessorLevel acc s → s.get (Reg.BCH_BANK_STATE_STATE b) ≠ 0 → exec (.bchBankInvalidate acc b) s =
        .next (mgmtReply acc .done (raise 0x0344 b (s.get (Reg.BCH_BANK_STATE_STATE b)) s)))) ∧
    (∀ b, b < 16 →
      (s.get (Reg.BCH_BANK_STATE_STATE b) = 3 → exec (.bankInvalidateDone b) s =
        let t := s.onTir fun x => { x with bench := x.bench.filter (fun e => e.1 / 12288 != b) }
        .next (dirtySync b ((t.put (Reg.BCH_BANK_STATE_STATE b) 0).put (Reg.BCH_BANK_STATE_INVALIDATED b) 1))) ∧
      (s.get (Reg.BCH_BANK_STATE_STATE b) = 2 → exec (.bankWritebackDone b) s =
        let n := (s.tir.bench.filter (fun e => e.1 / 12288 == b && e.2.dirty != 0)).length
        let t := s.onTir fun x => { x with bench := x.bench.map (fun (e : Nat × BWay) => if e.1 / 12288 = b then (e.1, { e.2 with dirty := 0 }) else e) }
        .next (dirtySync b ((t.add (Reg.BCH_STAT_COUNT b 5) n).put (Reg.BCH_BANK_STATE_STATE b) 0))) ∧
      (let n := (s.tir.parity.filter (fun e => e.1 == b && decide (s.epoch < e.2 + 86400000000))).length
       s.get Reg.BCH_CFG_PARITY_LIMIT ≠ 0 → s.get Reg.BCH_CFG_PARITY_LIMIT ≤ n → bankOn s b = true → exec (.parityLimitReached b) s =
        .next (raise 0x0342 b n (((s.put (Reg.BCH_BANK_STATE_STATE b) 2).put (Reg.BCH_BANK_STATE_INVALIDATED b) 0).put (Reg.BCH_BANK_STATE_AUTO_DISABLED b) 1)))) ∧
    (∀ acc op c, (op = 0 ∧ c = Instr.benchInvalidate acc) ∨ (op = 1 ∧ c = Instr.benchClean acc) ∨ (op = 2 ∧ c = Instr.benchFlush acc) →
      writeCarried acc s = true →
      (accessorLevel acc s < 1 → exec c s = .next (mgmtReply acc .notPermitted (discardBelow acc 0x182000 s))) ∧
      (1 ≤ accessorLevel acc s →
        (s.get Reg.BCH_MAINT_OP_BUSY = 1 → exec c s = .next (mgmtReply acc .done (s.put Reg.BCH_MAINT_OP_STATUS St.busy.code))) ∧
        (s.get Reg.BCH_MAINT_OP_BUSY ≠ 1 →
          (maintCheck acc (s.put Reg.BCH_MAINT_OP_OP op) = none → exec c s = .next (mgmtReply acc .done (maintCut op (s.put Reg.BCH_MAINT_OP_OP op)))) ∧
          (∀ st, maintCheck acc (s.put Reg.BCH_MAINT_OP_OP op) = some st → exec c s =
            .next (mgmtReply acc .done ((s.put Reg.BCH_MAINT_OP_OP op).put Reg.BCH_MAINT_OP_STATUS st.code)))))) ∧
    (∀ isMeta ba f, s.tir.bfills.find? (fun f => f.isMeta == isMeta && f.ba == ba) = some f → bankOn s (benchBank ba) = true → f.cut = false →
      exec (.benchFillLanded isMeta ba) s = .next (installFill f s)) ∧
    (∀ ba v, s.tir.victims.find? (fun v => v.ba == ba) = some v → v.waits = [] → exec (.victimWritebackAck ba) s =
      .next (victimSync (s.onTir fun x => { x with victims := x.victims.erase v })))

/-- FRAME_OPEN takes the lowest free frame; FRAME_STAGE of entries that pass R461 appends them and voids a dry-fit; FRAME_DRYFIT answers DONE when every
check of R473 passes and DRYFIT_FAILED with the report otherwise; FRAME_PEG of a passed frame schedules it and waits; FRAME_DISCARD frees it;
FRAME_STATUS returns 32 bytes. At E the re-checked frame takes effect, its values are recorded, and FRAME_PEG completes with the epoch. A STEERING
unit with ACTION 1 is RECALIBRATING, one with ACTION 2 is emptied, a RETURNING one is tested; a finished RECAL or sweep is SERVING. (R461, R471, R473,
R474, R475, R476, R479, R480, R484, R486, R488, R490) -/
def Obligations.FrameCommandsAndUnitsComplete : Prop :=
  (∀ (s : State) (m : Nat),
    (∀ f, s.runsCmd m 0x0301 → tfree s.frm.frames 0 8 = some f → exec (.frameOpen m) s =
      .next (complete m (leBytes 8 f) ((putFrame f { Frame.free with state := 1, opener := m } s).inc (Reg.FRM_STAT_COUNT 0)))) ∧
    (∀ x, s.runsCmd m 0x0302 →
      let f := reqNat s m 0 1
      let n := reqNat s m 2 2
      let es := stageEntries s m n
      tfind f s.frm.frames = some x → x.state ≠ 3 → s.get (Mb.length m) = 8 + 16 * n →
      (stageRefusal f es s = none → x.entries.length + n ≤ 1024 → exec (.frameStage m) s =
        .next (complete m (leBytes 8 (x.entries.length + n)) (putFrame f { x with state := 1, entries := x.entries ++ es } s))) ∧
      (∀ i st, stageRefusal f es s = some (i, st) → exec (.frameStage m) s = .next (refuse m st (atPayload (8 + 16 * i)) s))) ∧
    (∀ x, tfind (reqNat s m 0 1) s.frm.frames = some x → x.state ≠ 3 →
      let f := reqNat s m 0 1
      (s.runsCmd m 0x0303 →
        (fitChecks f x s = none → exec (.frameDryfit m) s =
          .next (complete m (List.replicate 16 0) ((putFrame f { x with state := 2, status := 0 } s).inc (Reg.FRM_STAT_COUNT 1)))) ∧
        (∀ st offs, fitChecks f x s = some (st, offs) → exec (.frameDryfit m) s =
          .next (completeW m .dryfitFailed 0 noDetail false (fitReport x st offs)
            (raiseRl 0x0C03 f st.code ((putFrame f { x with status := st.code } (benchEvent x f s)).inc (Reg.FRM_STAT_COUNT 2)))))) ∧
      (s.runsCmd m 0x0304 → x.state = 2 →
        let earliest := s.epoch + s.get Reg.FRM_CFG_LEAD_US
        let target := if reqNat s m 8 8 = 0 then earliest else reqNat s m 8 8
        earliest ≤ target → (∀ i ∈ frameIslands x, generations s i < 8) → exec (.framePeg m) s =
          .next (putFrame f { x with state := 3, target := target, waiter := some m, checked := false } s)) ∧
      (s.runsCmd m 0x0305 → exec (.frameDiscard m) s = .next (complete m [] ((freeFrame f s).inc (Reg.FRM_STAT_COUNT 5))))) ∧
    (s.runsCmd m 0x0306 → reqNat s m 0 1 < 8 → exec (.frameStatus m) s =
      .next (complete m (frameBytes ((tfind (reqNat s m 0 1) s.frm.frames).getD Frame.free)) s))) ∧
  (∀ s : State, s.up = true →
    (∀ f x m, tfind f s.frm.frames = some x → x.state = 3 → x.waiter = some m →
      (x.checked = false → x.target ≤ s.epoch + 1 →
        (stateChecks f x s = none → exec (.pegRecheck f) s = .next (putFrame f { x with checked := true } s)) ∧
        (∀ st offs, stateChecks f x s = some (st, offs) → exec (.pegRecheck f) s =
          .next (completeW m .dryfitFailed 0 noDetail false (fitReport x st offs) (raise 0x0C02 f st.code ((freeFrame f s).inc (Reg.FRM_STAT_COUNT 4)))))) ∧
      (x.checked = true → x.target ≤ s.epoch →
        exec (.pegTakesEffect f true) s = .next (complete m (padTo 16 (leBytes 8 s.epoch)) (recordFields x.entries (pegFrame f x s))) ∧
        exec (.pegTakesEffect f false) s = .next (refuse m .mediaFailed noDetail (raise 0x0C05 f 0 (pegFrame f x s))))) ∧
    (∀ u, u < 66 →
      (unitState s u = 1 → s.get (Reg.FRM_UNIT_CTL_ACTION u) = 1 → u < 8 ∨ 14 ≤ u → exec (.unitRecal u) s = .next (s.put (Reg.FRM_UNIT_STATE_STATE u) 2)) ∧
      (unitState s u = 1 → s.get (Reg.FRM_UNIT_CTL_ACTION u) = 1 → 8 ≤ u → u < 12 → s.get (Reg.ETH_PORT_STATE_RATE (u - 8)) ≠ 3 → exec (.unitRecal u) s =
        .next (ethLinkLost (u - 8) (s.put (Reg.FRM_UNIT_STATE_STATE u) 2))) ∧
      (unitState s u = 1 → s.get (Reg.FRM_UNIT_CTL_ACTION u) = 2 → unitClass u = 3 → exec (.unitOut u) s = .next (settle (evacStack (u - 30) s))) ∧
      (unitState s u = 1 → s.get (Reg.FRM_UNIT_CTL_ACTION u) = 2 → unitClass u = 2 → hgHolds s (.evac (u - 14)) = false →
        s.pwr.hgWait.any (fun r => r.owner = HgOwner.evac (u - 14)) = false → exec (.unitOut u) s =
          .next (hgRequest { owner := .evac (u - 14), h0 := false, tokens := 6 * s.get Reg.FRM_CFG_EVAC_GBPS } s).2) ∧
      (unitState s u = 4 → exec (.unitServe u false) s = .next (serveFailed u s) ∧
        (unitClass u = 2 → exec (.unitServe u true) s = .next (serveChannel (u - 14) s)) ∧
        (unitClass u = 3 → exec (.unitServe u true) s = .next (serveStack (u - 30) s))) ∧
      (unitState s u = 2 → u ≠ 12 → u ≠ 13 → exec (.unitActionDone u true) s = .next (settle (unitBack u s))) ∧
      (unitState s u = 4 → unitClass u = 2 → bitOf (u - 14) (s.get Reg.ECC_INIT_STATE_CHANNELS_DONE) = true → exec (.unitActionDone u true) s =
        .next (settle (unitBack u s)))))

/-- BOARD_RELEASE with every other board ONLINE makes the board ABSENT; BOARD_ADMIT of an ABSENT board that trains makes it REBUILDING, and refuses
MEDIA_FAILED with 0x040F or 0x040B otherwise; a finished rebuild is ONLINE with 0x0409. FOOTING_FORMAT runs in QUIESCED with no persistent reach. A
failed die retires its lane; a failed channel or a surprise removal makes the board ABSENT. A good first read of a quarter is counted, a bad one of a
waiting quarter starts the ladder, which poisons at its deadline. Scrub, lateness, thresholds and the armed injection act as R290 to R294 and R586
say. FOOTING_STATUS and the format's response have open bytes (log entry 6). (R255, R256, R259, R260, R261, R278, R282, R290, R293, R294, R457, R586) -/
def Obligations.FootingAndIntegrityComplete : Prop :=
  (∀ (s : State) (m : Nat),
    (s.runsCmd m 0x0801 →
      let b := reqNat s m 0 1 % 8
      (∀ o, o < 8 → o ≠ b → s.get (Reg.SLC_BOARD_STATE_STATE o) = 0) → s.get (Reg.SLC_BOARD_STATE_STATE b) ≠ 2 → exec (.boardRelease m) s =
        .next (complete m [] (boardAbsent b false ((List.range 4).foldl (fun s k => s.put (Reg.SLC_CH_STATE_STATE (4 * b + k)) 0) (abandonErases (padAndClose s)))))) ∧
    (∀ place dies bad, s.runsCmd m 0x0802 → s.serving = true ∨ s.mode = .quiesced → bitOf 3 (s.get Reg.MOD_STATE_SERVE_BLOCK) = false →
      let b := reqNat s m 0 1 % 8
      let c := 4 * b + place / 16 % 4
      s.get (Reg.SLC_BOARD_STATE_STATE b) = 2 →
        exec (.boardAdmit m 0 place dies bad) s = .next (complete m [] (admitBoard b dies bad s)) ∧
        exec (.boardAdmit m 1 place dies bad) s = .next (refuse m .mediaFailed (atPayload 0) (raise 0x040F c 0 (sluiceFailed c s))) ∧
        exec (.boardAdmit m 2 place dies bad) s =
          .next (refuse m .mediaFailed (atPayload 0) (raise 0x040B c (place % 16) (s.put (Reg.SLC_CH_STATE_MISMATCH c) 1))) ∧
        exec (.boardAdmit m 3 place dies bad) s = .next (refuse m .mediaFailed (atPayload 0) (raise 0x040B c (place % 16) s))) ∧
    (∀ bad, s.runsCmd m 0x0803 →
      (s.mode = .quiesced → reachesOf 0 s = 0 → exec (.footingFormat m bad) s = .next (completeFree m 16 (formatFooting bad s))) ∧
      (s.mode ≠ .quiesced → exec (.footingFormat m bad) s = .next (refuse m .wrongMode noDetail s)) ∧
      (s.mode = .quiesced → 0 < reachesOf 0 s → exec (.footingFormat m bad) s = .next (refuse m .notPermitted noDetail s))) ∧
    (s.runsCmd m 0x0804 → exec (.footingStatus m) s = .next (completeFree m 256 s))) ∧
  (∀ s : State, s.up = true →
    (∀ g q ok, q < 4 → ladderOn g q s = none →
      let t := s.inc (Reg.SLC_CH_STAT_COUNT (quarterSluice g q s) 0)
      (ok = true → exec (.quarterReadDone g q ok) s = .next t) ∧
      (ok = false → bitOf q (s.gran g).fillQ = true → exec (.quarterReadDone g q ok) s = .next (startLadder g q t))) ∧
    (∀ g q l, q < 4 → ladderOn g q s = some l → l.deadline ≤ s.epoch → exec (.ladderDeadline g q) s = .next (ladderPoison g q true s)) ∧
    (∀ c d, c < 32 → d < 16 → bitOf d (s.get (Reg.SLC_CH_STATE_DIES_FAILED c)) = false → exec (.dieTimeout c d) s =
      .next (retireLane (16 * (c % 4) + d) (raise 0x0407 c d (s.put (Reg.SLC_CH_STATE_DIES_FAILED c) (setBit (s.get (Reg.SLC_CH_STATE_DIES_FAILED c)) d true))))) ∧
    (∀ c, c < 32 → s.get (Reg.SLC_BOARD_STATE_STATE (c / 4)) ≠ 2 → exec (.channelTrainingFail c) s =
      .next (boardAbsent (c / 4) true (raise 0x040F c 0 (sluiceFailed c s)))) ∧
    (∀ b, b < 8 →
      (s.get (Reg.SLC_BOARD_STATE_STATE b) ≠ 2 → exec (.boardSurpriseAbsent b) s =
        .next (boardAbsent b true ((List.range 4).foldl (fun s k => sluiceFailed (4 * b + k) s) s))) ∧
      (s.get (Reg.SLC_BOARD_STATE_STATE b) = 4 → exec (.boardRebuildDone b) s =
        let n := (s.med.rebuildQ.filter (fun k => (s.stripe k).state == 3)).length
        let t := (s.onMed fun x => { x with rebuildQ := [] }).add (Reg.SLC_FTG_STAT_COUNT 5) n
        .next (raise 0x0409 b n ((t.put (Reg.SLC_BOARD_STATE_STATE b) 0).put (Reg.SLC_BOARD_STATE_REBUILD_LEFT b) 0)))) ∧
    (∀ d unit target region result amount progress, d < 3 → scrubOn d s = true →
      (d = 2 → exec (.scrubRead d unit target region result amount progress) s = .next (scrubQuarter target region result amount (scrubProgress d progress s))) ∧
      (d ≠ 2 → exec (.scrubRead d unit target region result amount progress) s = .next (scrubLine (d == 0) unit target region result amount (scrubProgress d progress s)))) ∧
    (∀ d t, d < 3 → tfind d s.tir.scrubAt = some t → t + scrubPeriod d s < s.epoch → s.flag (Reg.ECC_SCRUB_STATE_LATE d) = false → exec (.scrubPassLate d) s =
      .next (raise 0x0312 d 0 (s.put (Reg.ECC_SCRUB_STATE_LATE d) 1))) ∧
    (∀ c d, c < 16 → d < 40 → s.get Reg.ECC_THRESH_DEV_CE ≠ 0 → s.get Reg.ECC_THRESH_DEV_CE ≤ errsOf s (40 * c + d) →
      exec (.eccThresholdReached 0 c d) s = .next (raise 0x030B c d s)) ∧
    (∀ c d, c < 16 → s.get Reg.ECC_THRESH_CH_UE ≠ 0 → s.get Reg.ECC_THRESH_CH_UE ≤ errsOf s (640 + c) → unitState s (14 + c) ≠ 3 →
      unitState s (14 + c) ≠ 5 → exec (.eccThresholdReached 1 c d) s = .next (settle (loseChannel c (raise 0x030C c (errsOf s (640 + c)) s)))) ∧
    (∀ k d, k < 4 → s.get Reg.ECC_THRESH_STACK_UE ≠ 0 → s.get Reg.ECC_THRESH_STACK_UE ≤ errsOf s (656 + k) → unitState s (30 + k) ≠ 3 →
      unitState s (30 + k) ≠ 5 → exec (.eccThresholdReached 2 k d) s = .next (fenceStack k (raise 0x030C (16 + k) (errsOf s (656 + k)) s))) ∧
    (∀ acc domain unit kind, writeCarried acc s = true →
      (accessorLevel acc s < 3 → exec (.eccInjectArm acc domain unit kind) s = .next (mgmtReply acc .notPermitted (discardBelow acc 0x206000 s))) ∧
      (3 ≤ accessorLevel acc s → exec (.eccInjectArm acc domain unit kind) s =
        let t := (((s.put Reg.ECC_INJECT_DOMAIN domain).put Reg.ECC_INJECT_UNIT unit).put Reg.ECC_INJECT_KIND kind).put Reg.ECC_INJECT_ARM 1
        .next (mgmtReply acc .done (t.onTir fun x => { x with inject := some (domain % 4, unit % 32, kind % 4) })))))

/-- CXL_WINDOW_OPEN and DCD_EXTENT_ADD that pass their checks take the lowest free window number; the first completes with it, the second posts its offer
and waits. CXL_WINDOW_CLOSE and DCD_EXTENT_RELEASE of an OPEN window begin its close, by force with FORCE, otherwise by asking the host. CXL_GAP_ACK
returns and clears the gap flags. WINDOW_STATUS and WINDOW_LIST return descriptors. DC_REGION_SET, STATIC_CAPACITY_SET and HOST_LINK_UNFENCE complete
with their effect. The payload layouts of DC_REGION_SET and WINDOW_LIST are the model's (log entry 32). (R47, R59, R75, R304, R306, R309, R310, R321,
R462, R463, R614) -/
def Obligations.WindowAndCapacityCommandsComplete : Prop :=
  ∀ (s : State) (m : Nat),
    (s.runsCmd m 0x0401 → opensWindows s = true →
      let port := reqNat s m 0 1 % 8
      let ld := reqNat s m 1 1 % 16
      let w := windowRequest m false s
      (∀ st d, windowCheck (2 ^ 28) w.cls w.base w.len 16 24 2 s = some (st, d) → exec (.cxlWindowOpen m) s = .next (refuse m st d s)) ∧
      (windowCheck (2 ^ 28) w.cls w.base w.len 16 24 2 s = none → ld < s.get (Reg.HPT_PORT_CFG_LD_COUNT port) → w.dpa % 2 ^ 28 = 0 →
        w.dpa + w.len ≤ s.get (Reg.HPT_LD_STATE_STATIC_GIB port ld) * 2 ^ 30 → dpaTaken port ld w.dpa w.len s = false → (ldWindows port ld s).length < 16384 →
        exec (.cxlWindowOpen m) s = .next (complete m (leBytes 4 (tnext 0 s.win) ++ leBytes 12 0) (openWindow (tnext 0 s.win) w s)))) ∧
    (∀ r, s.runsCmd m 0x0403 → opensWindows s = true →
      let port := reqNat s m 0 1 % 8
      let ld := reqNat s m 1 1 % 16
      let w := windowRequest m true s
      windowCheck (2 ^ 28) w.cls w.base w.len 16 24 2 s = none → ld < s.get (Reg.HPT_PORT_CFG_LD_COUNT port) →
        tfind (8 * ldNum port ld + w.region) s.hpt.regions = some r → r.base ≤ w.dpa → w.dpa + w.len ≤ r.base + r.len → w.dpa % 2 ^ 28 = 0 →
        dpaTaken port ld w.dpa w.len s = false → r.persistent ≠ (w.cls == 2) → (ldWindows port ld s).length < 16384 →
        exec (.dcdExtentAdd m) s = .next (noteLd (ldNum port ld) 0x0001 (tnext 0 s.win) (openWindow (tnext 0 s.win) w s))) ∧
    (∀ w, tfind (reqNat s m 0 4 % 2 ^ 22) s.win = some w →
      let id := reqNat s m 0 4 % 2 ^ 22
      (s.runsCmd m 0x0402 → w.rdma = false → w.extent = false →
        (w.state = 3 → exec (.cxlWindowClose m) s = .next (complete m [] s)) ∧
        (w.state ≠ 3 → exec (.cxlWindowClose m) s = .next (startClose id (some m) s))) ∧
      (s.runsCmd m 0x0404 → w.rdma = false → w.extent = true → w.offered = false → w.state = 1 →
        (bitOf 31 (reqNat s m 0 4) = true → exec (.dcdExtentRelease m) s = .next (forceRelease id w (some m) s)) ∧
        (bitOf 31 (reqNat s m 0 4) = false → w.asked = false → exec (.dcdExtentRelease m) s =
          .next (noteLd (ldNum (w.binding % 8) (w.binding / 8)) 0x0002 id
            (modWindow id (fun (w : Window) => { w with asked := true, since := if w.asked then w.since else s.epoch, waiters := w.waiters ++ [m] }) s)))) ∧
      (s.runsCmd m 0x0405 → w.rdma = false → w.offered = false → exec (.cxlGapAck m) s =
        let t := modWindow id (fun (w : Window) => { w with gapU := false, gapL := false, unmir := 0 }) s
        .next (complete m (leBytes 1 (b2n w.gapU + 2 * b2n w.gapL) ++ leBytes 3 0 ++ leBytes 4 w.unmir ++ leBytes 8 0) (if w.state = 3 then freeWindow id t else t))) ∧
      (s.runsCmd m 0x0481 → w.offered = false → exec (.windowStatus m) s = .next (complete m (descriptor id w) s) ∧ (descriptor id w).length = 32)) ∧
    (s.runsCmd m 0x0409 → exec (.windowList m) s = .next (complete m (windowListBytes (reqNat s m 0 4 % 2 ^ 22) s) s)) ∧
    (s.runsCmd m 0x0406 →
      let port := reqNat s m 0 1 % 8
      let ld := reqNat s m 1 1 % 16
      let r := reqNat s m 6 1 % 8
      let base := reqNat s m 8 8
      let len := reqNat s m 24 8
      ld < s.get (Reg.HPT_PORT_CFG_LD_COUNT port) → base % 2 ^ 28 = 0 → len % 2 ^ 28 = 0 → 2 ^ 48 * (r + 1) ≤ base → base + len ≤ 2 ^ 48 * (r + 2) →
        (ldWindows port ld s).any (fun e => e.2.extent && e.2.region == r) = false → exec (.dcRegionSet m) s =
          .next (complete m [] (setRegion port ld r base len (bitOf 0 (reqNat s m 2 1)) (bitOf 1 (reqNat s m 2 1)) s))) ∧
    (s.runsCmd m 0x0407 →
      let port := reqNat s m 0 1 % 8
      let ld := reqNat s m 1 1 % 16
      let gib := reqNat s m 4 2
      ld < s.get (Reg.HPT_PORT_CFG_LD_COUNT port) →
        ((ldWindows port ld s).any (fun e => !e.2.extent && decide (e.2.dpa + e.2.len > gib * 2 ^ 30)) = false → exec (.staticCapacitySet m) s =
          .next (complete m [] (s.put (Reg.HPT_LD_STATE_STATIC_GIB port ld) gib))) ∧
        ((ldWindows port ld s).any (fun e => !e.2.extent && decide (e.2.dpa + e.2.len > gib * 2 ^ 30)) = true → exec (.staticCapacitySet m) s =
          .next (refuse m .notPermitted noDetail s))) ∧
    (s.runsCmd m 0x0408 →
      let p := reqNat s m 0 1 % 8
      (s.get (Reg.HPT_LINK_STATE_FENCED p) = 0 → exec (.hostLinkUnfence m) s = .next (complete m [] s)) ∧
      (s.get (Reg.HPT_LINK_STATE_FENCED p) ≠ 0 → exec (.hostLinkUnfence m) s =
        .next (complete m [] (unitServing p ((s.onHpt fun x => { x with viol := x.viol.filter (fun e => e.1 != p) }).put (Reg.HPT_LINK_STATE_FENCED p) 0)))))

/-- PD_CREATE, QP_CREATE and RDMA_WINDOW_OPEN that pass their checks take the lowest free number and complete with it; the QP is in RTR with its context
cached, the window OPEN with its remote key. PD_DESTROY of a domain with no QP and no window frees it; QP_MODIFY moves the QP; QP_ERROR and QP_DESTROY
begin its end. RDMA_WINDOW_CLOSE begins a close, RDMA_GAP_ACK returns and clears the gap flags, QP_STATUS returns the descriptor, COUNTER_SET and
COUNTER_READ set and return a counter, and RDMA_PORT_UNFENCE lets the link come up. The layouts of PD_CREATE, QP_MODIFY and COUNTER_SET are the
model's (log entry 33). (R59, R328, R329, R334, R337, R346, R349, R363, R463, R464, R465) -/
def Obligations.RdmaCommandsComplete : Prop :=
  ∀ (s : State) (m : Nat),
    (s.runsCmd m 0x0501 → makesRdma s = true → bitOf 31 (reqNat s m 0 4) = false → s.rdm.pds.length < 65536 → exec (.pdCreate m) s =
      .next (complete m (leBytes 4 (tnext 0 s.rdm.pds) ++ leBytes 4 0) (s.onRdm fun x => { x with pds := tins (tnext 0 s.rdm.pds) none x.pds }))) ∧
    (∀ w, s.runsCmd m 0x0501 → makesRdma s = true → bitOf 31 (reqNat s m 0 4) = true → s.rdm.pds.length < 65536 →
      tfind (reqNat s m 0 4 % 2 ^ 22) s.win = some w → w.rdma = true → w.state = 1 → w.rights / 2 % 2 = 1 → exec (.pdCreate m) s =
        .next (complete m (leBytes 4 (tnext 0 s.rdm.pds) ++ leBytes 4 0)
          (s.onRdm fun x => { x with pds := tins (tnext 0 s.rdm.pds) (some (reqNat s m 0 4 % 2 ^ 22)) x.pds }))) ∧
    (s.runsCmd m 0x0502 →
      let n := reqNat s m 0 4
      tfind n s.rdm.pds ≠ none →
        (s.rdm.qps.any (fun e => e.2.pd == n) = false → s.win.any (fun e => e.2.rdma && e.2.binding == n) = false → exec (.pdDestroy m) s =
          .next (complete m [] (s.onRdm fun x => { x with pds := tdel n x.pds }))) ∧
        (s.rdm.qps.any (fun e => e.2.pd == n) = true → exec (.pdDestroy m) s = .next (refuse m .notPermitted noDetail s))) ∧
    (s.runsCmd m 0x0503 →
      (∀ st d, qpCheck m s = some (st, d) → exec (.qpCreate m) s = .next (refuse m st d s)) ∧
      (qpCheck m s = none → exec (.qpCreate m) s =
        let n := tnext 0 s.rdm.qps
        let t := s.onRdm fun y => { y with qps := tins n (newQp m s) y.qps }
        .next (complete m (leBytes 4 n ++ leBytes 4 0) (rdmSync ((cacheIn n t).getD t))))) ∧
    (∀ x, tfind (reqNat s m 0 4 % 2 ^ 20) s.rdm.qps = some x →
      let n := reqNat s m 0 4 % 2 ^ 20
      (s.runsCmd m 0x0504 → exec (.qpModify m) s =
        .next (complete m [] (modQp n (fun (x : Qp) => { x with port := reqNat s m 4 1 % 4, peerMac := reqNat s m 8 6 }) s))) ∧
      (x.state ≠ 1 →
        (s.runsCmd m 0x0505 → exec (.qpError m) s =
          .next (settle (rdmSync (modQp n (fun (x : Qp) => { x with destroyer := x.destroyer ++ [m], destroyed := x.destroyed || false }) s)))) ∧
        (s.runsCmd m 0x0506 → exec (.qpDestroy m) s =
          .next (settle (rdmSync (modQp n (fun (x : Qp) => { x with destroyer := x.destroyer ++ [m], destroyed := x.destroyed || true }) s))))) ∧
      (x.state = 1 →
        let flushed := s.add (Reg.RDM_NAK_STAT_COUNT 11) ((x.msgs.filter (fun y => y.stage == 0 || (y.kind == 8 && decide (y.stage < 3)))).foldl (fun a y => a + if y.kind = 3 then 1 else y.psns x.mtu) 0)
        let draining := modQp n (fun (x : Qp) => { x with state := 2 }) (dropMsgs n (fun (y : RMsg) => y.stage == 0 || (y.kind == 8 && decide (y.stage < 3))) flushed)
        (s.runsCmd m 0x0505 → exec (.qpError m) s =
          .next (settle (rdmSync (modQp n (fun (x : Qp) => { x with destroyer := x.destroyer ++ [m], destroyed := x.destroyed || false }) draining)))) ∧
        (s.runsCmd m 0x0506 → exec (.qpDestroy m) s =
          .next (settle (rdmSync (modQp n (fun (x : Qp) => { x with destroyer := x.destroyer ++ [m], destroyed := x.destroyed || true }) draining))))) ∧
      (s.runsCmd m 0x0583 → exec (.qpStatus m) s = .next (complete m (qpDescriptor n x s) s))) ∧
    (∀ w, tfind (reqNat s m 0 4 % 2 ^ 22) s.win = some w → w.rdma = true → w.offered = false → s.runsCmd m 0x0507 → exec (.rdmaGapAck m) s =
      let id := reqNat s m 0 4 % 2 ^ 22
      let t := modWindow id (fun (w : Window) => { w with gapU := false, gapL := false, unmir := 0 }) s
      .next (complete m (leBytes 1 (b2n w.gapU + 2 * b2n w.gapL) ++ leBytes 3 0 ++ leBytes 4 w.unmir ++ leBytes 8 0) (if w.state = 3 then freeWindow id t else t))) ∧
    (reqNat s m 0 4 < 65536 →
      let c := reqNat s m 0 4
      (s.runsCmd m 0x0508 → exec (.counterSet m) s = .next (settle (complete m [] (s.onRdm fun x => { x with counters := tset 0 c (reqNat s m 8 8) x.counters })))) ∧
      (s.runsCmd m 0x0584 → exec (.counterRead m) s = .next (complete m (leBytes 8 (tget 0 c s.rdm.counters)) s))) ∧
    (s.runsCmd m 0x0509 →
      let p := reqNat s m 0 1 % 4
      (s.get (Reg.ETH_PORT_STATE_FENCED p) = 0 → exec (.rdmaPortUnfence m) s = .next (complete m [] s)) ∧
      (s.get (Reg.ETH_PORT_STATE_FENCED p) ≠ 0 → exec (.rdmaPortUnfence m) s =
        .next (complete m [] (unitServing (8 + p) ((s.onRdm fun x => { x with viol := x.viol.filter (fun e => e.1 != p) }).put (Reg.ETH_PORT_STATE_FENCED p) 0))))) ∧
    (s.runsCmd m 0x0581 → opensWindows s = true →
      let w := rdmaWindow m s
      windowCheck 64 w.cls w.base w.len 8 16 2 s = none → tfind w.binding s.rdm.pds ≠ none → exec (.rdmaWindowOpen m) s =
        let id := tnext 0 s.win
        let t := openWindow id w (s.onRdm fun x => { x with rings := tdel id x.rings })
        .next (complete m (leBytes 4 id ++ leBytes 4 (id * 1024 + tget 0 id t.rdm.variants) ++ leBytes 8 0) t)) ∧
    (∀ w, s.runsCmd m 0x0582 → tfind (reqNat s m 0 4 / 1024) s.win = some w → w.rdma = true → tget 0 (reqNat s m 0 4 / 1024) s.rdm.variants = reqNat s m 0 4 % 1024 →
      (w.state = 3 → exec (.rdmaWindowClose m) s = .next (complete m [] s)) ∧
      (w.state ≠ 3 → exec (.rdmaWindowClose m) s = .next (startClose (reqNat s m 0 4 / 1024) (some m) s)))

/-- On a port that carries messages, a read or write of an existing logical device with a free tag and a credit joins its queue and what can leave leaves;
one of a missing logical device or with a tag in use is a violation, a read answered with poison. A speculative read is served without response or
dropped; an invalidate is answered Cmp; violations are answered as R321 says and 16 in 1 s fence the link. GPF phases, decoder commits, resets and
link changes act as R62, R63, R303, R315, R320, R322 and R606 say; HDM_DECODE answers the home address. What a port that carries nothing receives has
no effect (log entry 3). (R62, R63, R302, R303, R305, R312, R315, R318, R320, R321, R322, R606) -/
def Obligations.HostMessagesComplete : Prop :=
  ∀ s : State,
    (∀ m : HMsg, portCarries m.port s = true →
      (m.ld < s.get (Reg.HPT_PORT_CFG_LD_COUNT m.port) → tagBusy m.port m.tag s = false →
        (m.kind = 0 → (s.hpt.req.filter (fun x => x.port == m.port)).length < s.get (Reg.HPT_CRD_CFG_REQ m.port) →
          arriveMsg m s = settle (queueLens (s.onHpt fun x => { x with req := x.req ++ [m] }))) ∧
        (m.kind = 1 ∨ (m.kind = 2 ∧ m.mask % 2 ^ 64 ≠ 0) → (s.hpt.rwd.filter (fun x => x.port == m.port)).length < s.get (Reg.HPT_CRD_CFG_RWD m.port) →
          arriveMsg m s = settle (queueLens (s.onHpt fun x => { x with rwd := x.rwd ++ [m] })))) ∧
      (s.get (Reg.HPT_PORT_CFG_LD_COUNT m.port) ≤ m.ld ∨ tagBusy m.port m.tag s = true →
        arriveMsg m s = if m.kind = 0 then respond m.port m.ld m.tag "MemData poison" [] (hostViolation m.port s) else hostViolation m.port s)) ∧
    (∀ port ld tag hpa, exec (.memRd port ld tag hpa) s =
      .next (arriveMsg { port := port, ld := ld, tag := tag, kind := 0, dpa := decodeHpa port ld hpa s, mask := 0, poison := false, data := [] } s)) ∧
    (∀ port ld tag hpa poison data, exec (.memWr port ld tag hpa poison data) s =
      .next (arriveMsg { port := port, ld := ld, tag := tag, kind := 1, dpa := decodeHpa port ld hpa s, mask := 0, poison := poison, data := padTo 64 (data.map (BitVec.ofNat 8)) } s)) ∧
    (∀ port ld tag hpa mask poison data, exec (.memWrPtl port ld tag hpa mask poison data) s =
      .next (arriveMsg { port := port, ld := ld, tag := tag, kind := 2, dpa := decodeHpa port ld hpa s, mask := mask % 2 ^ 64, poison := poison, data := padTo 64 (data.map (BitVec.ofNat 8)) } s)) ∧
    (∀ p ld, portCarries p s = true →
      (ld < s.get (Reg.HPT_PORT_CFG_LD_COUNT p) →
        (∀ hpa,
          (∀ k, portRefusal (specMsg p ld hpa s) s = .inl k → exec (.memSpecRd p ld hpa) s = .next (specRefused p ld k s)) ∧
          (∀ id w t u, portRefusal (specMsg p ld hpa s) s = .inr (id, w) → s.departing = false → takeTicket p s = some (t, u) →
            exec (.memSpecRd p ld hpa) s = .next (settle (startRead (specMsg p ld hpa s) (.spec p) t id w u)))) ∧
        (∀ tag, exec (.memInv p ld tag) s = .next (respond p ld tag "Cmp" [] s)) ∧
        (∀ i base size ways gran skip, i < 4 →
          let dpa := decoderDpa (ldNum p ld) i skip s
          (decoderGood (ldNum p ld) i base size ways gran dpa s = true → exec (.hdmDecoderCommit p ld i base size ways gran skip) s =
            .next (setDecoder p ld i { base := base, size := size, ways := ways, gran := gran, dpa := dpa } s)) ∧
          (decoderGood (ldNum p ld) i base size ways gran dpa s = false → exec (.hdmDecoderCommit p ld i base size ways gran skip) s = .next (refuseDecoder p ld i s)))) ∧
      (∀ tag, exec (.cxlViolation p ld tag true false) s = .next (respond p ld tag "MemData poison" [] (hostViolation p s)) ∧
        exec (.cxlViolation p ld tag false true) s = .next (respond p ld tag "Unsupported Request" [] (hostViolation p s)) ∧
        exec (.cxlViolation p ld tag false false) s = .next (hostViolation p s)) ∧
      (16 ≤ hostViolsOf p s → exec (.cxlViolationLimit p) s =
        .next (settle (linkLost p (notePort p 0x0606 0 (raise 0x0606 p 0 (unitFault p (s.put (Reg.HPT_LINK_STATE_FENCED p) 1))))))) ∧
      exec (.gpfPhase1 p) s = .next (respond p 0 0 "GPF phase 1 response" [] (s.onHpt fun x => { x with gpf1 := p :: x.gpf1.filter (· != p) })) ∧
      exec (.gpfPhase2 p) s = .next (settle (gpfSync ((gpfAwait p (gpfTickets p (gpfTaken p s)) (gpfTaken p s)).put (Reg.HPT_PORT_STATE_GPF_P2 p) 1))) ∧
      exec (.hostLinkDown p) s = .next (settle (linkLost p s))) ∧
    (∀ p ld, portCarries p s = true → ld < s.get (Reg.HPT_PORT_CFG_LD_COUNT p) → exec (.cdatRead p ld) s =
      .next (respond p ld 0 "CDAT" (cdatBytes p ld s) (s.onHpt fun x => { x with changed := x.changed.filter (· != ldNum p ld) }))) ∧
    (s.up = true →
      (∀ p ld dpa id w, windowAt p ld dpa s = some (id, w) → w.offered = false →
        (w.state = 1 → exec (.hdmDecode p ld dpa) s = .next (s.send (.prim "HDM_DECODE" 0 (w.base + (dpa - w.dpa))))) ∧
        (w.state ≠ 1 → exec (.hdmDecode p ld dpa) s = .next (s.send (.prim "HDM_DECODE" St.revoked.code 0)))) ∧
      (∀ p ld dpa, windowAt p ld dpa s = none → exec (.hdmDecode p ld dpa) s = .next (s.send (.prim "HDM_DECODE" St.bounds.code 0))) ∧
      (∀ p rate width ltssm, p < 8 → s.mode ≠ .spill → s.get (Reg.HPT_LINK_STATE_RATE p) = 0 → s.get (Reg.HPT_LINK_STATE_FENCED p) ≠ 1 →
        s.get (Reg.HPT_LINK_STATE_PERST p) ≠ 1 → s.get (Reg.FRM_UNIT_STATE_STATE p) ≠ 3 →
        let r := Nat.min (rate % 4) (s.get (Reg.HPT_PORT_CFG_MAX_RATE p))
        let w := Nat.min width (s.get (Reg.HPT_PORT_CFG_MAX_WIDTH p))
        let t := s.put (Reg.HPT_LINK_STATE_LTSSM p) ltssm
        (r = 0 → exec (.hostLinkUp p rate width ltssm) s = .next (notePort p 0x0601 0 (raise 0x0601 p 0 t))) ∧
        (r ≠ 0 → r = s.get (Reg.HPT_PORT_CFG_MAX_RATE p) → w = s.get (Reg.HPT_PORT_CFG_MAX_WIDTH p) →
          exec (.hostLinkUp p rate width ltssm) s = .next (linkTrained p r w t)) ∧
        (r ≠ 0 → r < s.get (Reg.HPT_PORT_CFG_MAX_RATE p) ∨ w < s.get (Reg.HPT_PORT_CFG_MAX_WIDTH p) →
          exec (.hostLinkUp p rate width ltssm) s = .next (notePort p 0x0601 (r + 4 * w) (raise 0x0601 p (r + 4 * w) (linkTrained p r w t))))) ∧
      (∀ p, p < 8 → s.live = true → s.mode ≠ .spill →
        let was := s.get Reg.GLB_DISCRETES_PERST_N
        (s.get (Reg.HPT_LINK_STATE_PERST p) ≠ 1 → bitOf p was = true → exec (.hpnPerstAssert p) s =
          .next (settle (linkLost p ((s.put Reg.GLB_DISCRETES_PERST_N (was - 2 ^ p)).put (Reg.HPT_LINK_STATE_PERST p) 1)))) ∧
        (bitOf p was = false → exec (.hpnPerstRelease p) s = .next ((s.put Reg.GLB_DISCRETES_PERST_N (was + 2 ^ p)).put (Reg.HPT_LINK_STATE_PERST p) 0))))

/-- On a port that carries messages and for an existing logical device each of the commands of R300 and R301 is answered Success with its data, and
changes only what it sets: event records cleared, the interrupt policy, the timestamp, the QoS control word, LD_COUNT. CLEAR_POISON starts a full-line
write; ADD_DC_RESPONSE accepts each extent that was offered, or rejects the oldest offer; RELEASE_DYNAMIC_CAPACITY begins the close of each extent; an
unknown opcode is Unsupported. An offer or a release that times out is freed or forced. The payload layouts are the model's (log entry 32). (R271,
R300, R301, R307, R309, R310) -/
def Obligations.DeviceCommandsComplete : Prop :=
  ∀ s : State,
    (∀ p ld, portCarries p s = true → ld < s.get (Reg.HPT_PORT_CFG_LD_COUNT p) →
      exec (.identifyMemoryDevice p ld) s = .next (respond p ld 0 "Success" (identityBytes (ldCapacity p ld s)) s) ∧
      exec (.getSupportedLogs p ld) s = .next (respond p ld 0 "Success" (leBytes 2 1 ++ leBytes 4 celBytes.length) s) ∧
      exec (.getLog p ld) s = .next (respond p ld 0 "Success" celBytes s) ∧
      exec (.getEventRecords p ld) s = .next (respond p ld 0 "Success" (ldEventBytes p ld s) s) ∧
      (∀ all handles, exec (.clearEventRecords p ld all handles) s = .next (respond p ld 0 "Success" []
        (s.onHpt fun x => { x with events := x.events.filter (fun e => !(e.1 == ldNum p ld && (all || handles.contains e.2.handle))) }))) ∧
      exec (.getEventInterruptPolicy p ld) s = .next (respond p ld 0 "Success" (leBytes 4 (tget 0 (ldNum p ld) s.hpt.policy)) s) ∧
      (∀ v, exec (.setEventInterruptPolicy p ld v) s = .next (respond p ld 0 "Success" [] (s.onHpt fun x => { x with policy := tset 0 (ldNum p ld) (v % 2 ^ 32) x.policy }))) ∧
      exec (.getTimestamp p ld) s = .next (respond p ld 0 "Success" (leBytes 8 (ldStamp p ld s)) s) ∧
      (∀ v, exec (.setTimestamp p ld v) s = .next (respond p ld 0 "Success" [] (s.onHpt fun x => { x with stamps := tins (ldNum p ld) (v % 2 ^ 64, s.epoch) x.stamps }))) ∧
      (∀ life, exec (.getHealthInfo p ld life) s = .next (respond p ld 0 "Success" (leBytes 1 (mediaStatus s) ++ leBytes 1 life) s)) ∧
      exec (.getPoisonList p ld) s = .next (respond p ld 0 "Success" (poisonBytes (ldPoison p ld s)) s) ∧
      (∀ dpa data id w t u, portRefusal (clearMsg p ld dpa data) s = .inr (id, w) → s.departing = false →
        w.cls = 2 ∨ mayAdmit (writeOf (clearMsg p ld dpa data) 0 id w false) s = true → takeTicket p s = some (t, u) → exec (.clearPoison p ld dpa data) s =
          .next (settle (admitOp { (writeOf (clearMsg p ld dpa data) t id w false) with src := .doe p ld } (beginAccess id u)))) ∧
      exec (.getDcConfiguration p ld) s = .next (respond p ld 0 "Success" (dcConfigBytes p ld s) s) ∧
      exec (.getDcExtentList p ld) s = .next (respond p ld 0 "Success" (dcExtentBytes p ld s) s) ∧
      exec (.cxlUnsupportedOpcode p ld) s = .next (respond p ld 0 "Unsupported" [] s)) ∧
    (∀ p ld extents, portCarries p s = true →
      (extents ≠ [] → (∀ e ∈ extents, extentNamed p ld e.1 e.2 true s ≠ none) → exec (.addDcResponse p ld extents) s =
        .next (respond p ld 0 "Success" [] (extents.foldl (fun s x => acceptExtent p ld x.1 x.2 s) s))) ∧
      (∀ e, oldestOffer p ld s = some e → exec (.addDcResponse p ld []) s = .next (respond p ld 0 "Success" [] (endOffer e.1 e.2 .revoked s))) ∧
      (extents ≠ [] → (∀ e ∈ extents, extentNamed p ld e.1 e.2 false s ≠ none) → exec (.releaseDynamicCapacity p ld extents) s =
        .next (respond p ld 0 "Success" []
          (extents.foldl (fun s x => match extentNamed p ld x.1 x.2 false s with | some (id, _) => startClose id none s | none => s) s)))) ∧
    (∀ p, portCarries p s = true →
      exec (.getLdInfo p) s = .next (respond p 16 0 "Success" (ldInfoBytes p s) s) ∧
      exec (.getLdAllocations p) s = .next (respond p 16 0 "Success" (ldAllocBytes p s) s) ∧
      (∀ count, 1 ≤ count → count ≤ 16 →
        ((∀ l, count ≤ l → l < 16 → ldWindows p l s = []) → exec (.setLdAllocations p count) s =
          .next (respond p 16 0 "Success" (leBytes 1 count) (s.put (Reg.HPT_PORT_CFG_LD_COUNT p) count))) ∧
        ((∃ l, count ≤ l ∧ l < 16 ∧ ldWindows p l s ≠ []) → exec (.setLdAllocations p count) s = .next (respond p 16 0 "Busy" [] s))) ∧
      exec (.getQosControl p) s = .next (respond p 16 0 "Success" (leBytes 8 (tget 0 p s.hpt.qos)) s) ∧
      (∀ v, exec (.setQosControl p v) s = .next (respond p 16 0 "Success" [] (s.onHpt fun x => { x with qos := tset 0 p (v % 2 ^ 64) x.qos }))) ∧
      exec (.getQosStatus p) s = .next (respond p 16 0 "Success" (leBytes 1 (devLoad p s)) s)) ∧
    (∀ id w, s.up = true → tfind id s.win = some w →
      (w.offered = true → w.since + 1000 * s.get (Reg.HPT_DCD_CFG_OFFER_MS (w.binding % 8)) ≤ s.epoch → exec (.offerTimeout id) s = .next (endOffer id w .timeout s)) ∧
      (w.asked = true → w.state = 1 → w.since + 1000 * s.get (Reg.HPT_DCD_CFG_RELEASE_MS (w.binding % 8)) ≤ s.epoch → exec (.releaseTimeout id) s =
        .next (forceRelease id w none s)))

/-- On a keyed port, a frame of any type with the expected FRAME_SEQ, a good header and no kept frame is taken and its body has its effect; a frame whose
header violates R157 is discarded and counted; a number accepted before is discarded with a good tag. A PARITY frame that allows no rebuild only
counts; the last SETUP frame keys the port. The contents of the bodies are the model's layout (log entry 8). (R120, R121, R122, R123, R125, R126,
R128, R157) -/
def Obligations.FramesAreCheckedThenDeliveredInOrder : Prop :=
  ∀ s : State, s.up = true →
    (∀ (h : FrameHdr) (b : FrameBody) (c : Instr),
      (c = .keepaliveFrame h ∧ b = .keepalive) ∨ (∃ rs, c = .recordsFrame h rs ∧ b = .records rs) ∨
        (∃ t w k rs a, c = .forwardFrame h t w k rs a ∧ b = .forward t w k rs a) ∨ (∃ t n o rs v r, c = .returnFrame h t n o rs v r ∧ b = .ret t n o rs v r) ∨
        (∃ es, c = .ackFrame h es ∧ b = .ack es) ∨ (∃ k, c = .resendFrame h k ∧ b = .resend k) ∨
        (∃ a d k f l q x, c = .stateFrame h a d k f l q x ∧ b = .status a d k f l q x) ∨ (∃ n k q, c = .handoverFrame h n k q ∧ b = .handover n k q) ∨
        (∃ n a k o, c = .reachCtlFrame h n a k o ∧ b = .reachCtl n a k o) ∨
        (c = .catchupMapFrame h b ∧ ((∃ x, b = .history x) ∨ (∃ x, b = .resolve x) ∨ (∃ x y, b = .catchupMap x y) ∨ (∃ x y, b = .voidList x y))) ∨
        (∃ g i n p d, c = .granuleFrame h g i n p d ∧ b = .granule g (i % 2) n p d) ∨ (∃ g, c = .granuleAckFrame h g ∧ b = .granuleAck g) ∨
        (∃ i, c = .rekeyFrame h i ∧ b = .rekey i) →
      let p := h.port % 2
      s.get (Reg.TWN_PORT_STATE_LINK p) = 2 → (s.port p).ahead = [] →
        (h.frameSeq = (s.port p).rxSeq → h.frameSeq < 2 ^ 32 → headerFault h true (genFree b) s = none → exec c s =
          .next (deliverBody p b (onPort p (fun (x : PortSt) => { x with ahead := x.ahead.filter (fun y => y.1 != h.frameSeq), rxSeq := (x.rxSeq + 1) % 2 ^ 32 })
            (frameTaken h true b s)))) ∧
        (∀ v, seqAhead p h.frameSeq s < 2 ^ 31 → headerFault h true (genFree b) s = some v → exec c s = .next (frameRefused p v s)) ∧
        (2 ^ 31 ≤ seqAhead p h.frameSeq s → h.tagOk = true → exec c s = .next s)) ∧
    (∀ h : FrameHdr, s.get (Reg.TWN_PORT_STATE_LINK (h.port % 2)) = 2 → ((receive h false .keepalive s).port (h.port % 2)).ahead = [] →
      exec (.parityFrame h none) s = .next (receive h false .keepalive s)) ∧
    (∀ (h : FrameHdr) (inst : Nat), s.get (Reg.TWN_PORT_STATE_LINK (h.port % 2)) = 1 →
      exec (.setupFrame h true inst true) s = .next (portKeyed (h.port % 2) inst (receive h false (.setup true inst true) s)) ∧
      exec (.setupFrame h false inst true) s = .next (sendSetup (h.port % 2) (receive h false (.setup false inst true) s)) ∧
      ∀ last, exec (.setupFrame h last inst false) s = .next (portGone (h.port % 2) 0 (receive h false (.setup last inst false) s)))

/-- A keyed port sends a KEEPALIVE when it has been silent, a PARITY frame for an unfinished group, and the ACK entries that are due. TWIN_SEND sends a
record of an own reach as RECORDS and a request for the twin's reach as FORWARD. A due rekey sends a REKEY frame and takes the next key instance,
which starts anew; it is tried again after 1 ms; the old key is dropped 100 µs after the first frame under the new one; at the use limit the port is
fenced with 0x0E01. A lost port hands its frames over; a trained one within 55 ns begins setup, crossed ports are refused; 16 violations in 1 s fence
the link with 0x0506. (R91, R118, R119, R122, R124, R125, R127, R128, R130, R131, R157) -/
def Obligations.RilramSendersKeysAndPortsComplete : Prop :=
  ∀ s : State, s.up = true →
    (∀ w : WireRec, s.mirrors = true → s.twn.margin = false → (recOfWire w false).isData = true →
      (ownsReach s w.reach = true → exec (.twinSend w) s = .next ((linkSend "RECORDS" w.reach w.seq (recFull (recOfWire w false)) s).send (.prim "TWIN_SEND" 0 w.ticket))) ∧
      (ownsReach s w.reach = false → exec (.twinSend w) s =
        .next ((linkSend "FORWARD" w.reach w.ticket (recFull (recOfWire w false)) s).send (.prim "TWIN_SEND" 0 w.ticket)))) ∧
    (portSends s 0 = true ∨ portSends s 1 = true → s.twn.ackDue ≠ [] → exec .ackFrameSend s =
      .next (linkSend "ACK" 0 0 (s.twn.ackDue.flatMap (fun e => leBytes 2 e.1 ++ leBytes 8 e.2)) (s.onTwn fun x => { x with ackDue := [] }))) ∧
    (∀ p, p < 2 →
      (portSends s p = true →
        exec (.keepaliveSend p) s = .next (sendOn p "KEEPALIVE" 0 0 [] s) ∧
        (0 < (s.port p).group → exec (.parityFrameSend p) s = .next (sendParity p s)) ∧
        (2 ^ 40 ≤ s.get (Reg.TWN_PORT_REKEY_TX_FRAMES p) ∨ (s.port p).keyAt + s.get Reg.TWN_CFG_REKEY_HOURS * 3600000000 ≤ s.epoch → (s.port p).rekeyAt = none →
          exec (.rekeyDue p) s =
            let inst := (s.get (Reg.TWN_PORT_KEY_TX_INSTANCE p) + 1) % 2 ^ 32
            let t := ((sendOn p "REKEY" 0 inst (leBytes 4 inst) s).put (Reg.TWN_PORT_KEY_TX_INSTANCE p) inst).put (Reg.TWN_PORT_REKEY_TX_FRAMES p) 0
            .next (jrnlLink (jrnlLink ((onPort p (fun (x : PortSt) => { x with rekeyAt := some s.epoch, keyAt := s.epoch, counter := 0, counterEnd := 9 * 2 ^ 24 }) t).add
              (Reg.CPH_STAT_COUNT 5) 9)))) ∧
        (∀ t, (s.port p).rekeyAt = some t → t + 1000 ≤ s.epoch → exec (.rekeyRetry p) s =
          let inst := s.get (Reg.TWN_PORT_KEY_TX_INSTANCE p)
          .next (sendOn p "REKEY" 0 inst (leBytes 4 inst) (onPort p (fun (x : PortSt) => { x with rekeyAt := some s.epoch }) s)))) ∧
      (∀ t, (s.port p).rxNewAt = some t → s.epoch ≥ t + 100 → exec (.oldKeyDrop p) s = .next (onPort p (fun (x : PortSt) => { x with rxOld := none, rxNewAt := none }) s)) ∧
      (s.get (Reg.TWN_PORT_STATE_LINK p) = 2 → 2 ^ 41 ≤ s.get (Reg.TWN_PORT_REKEY_TX_FRAMES p) ∨ (s.port p).keyAt + 25 * 3600000000 ≤ s.epoch →
        exec (.keyUseLimit p) s = .next (fenceLink (p + 1) (raise 0x0E01 (4 + p) 0 s))) ∧
      (s.get (Reg.TWN_PORT_STATE_LINK p) = 1 ∨ s.get (Reg.TWN_PORT_STATE_LINK p) = 2 → exec (.rilramPortDown p) s = .next (portGone p 0 s)) ∧
      (s.get (Reg.TWN_PORT_STATE_LINK p) = 0 → ∀ delay,
        (delay ≤ 550 → exec (.rilramPortUp p delay false) s =
          .next (sendSetup p (onPort p (fun (_ : PortSt) => { PortSt.init with setup := true }) ((s.put (Reg.TWN_PORT_STATE_CROSSED p) 0).put (Reg.TWN_PORT_STATE_LINK p) 1)))) ∧
        (550 < delay → exec (.rilramPortUp p delay false) s = .next (raise 0x0505 (4 + p) 0 s)) ∧
        exec (.rilramPortUp p delay true) s =
          let t := (s.put (Reg.TWN_PORT_STATE_CROSSED 0) 1).put (Reg.TWN_PORT_STATE_CROSSED 1) 1
          .next (raise 0x0505 (4 + p) 0 (portSync ((t.put (Reg.TWN_PORT_STATE_LINK 0) 0).put (Reg.TWN_PORT_STATE_LINK 1) 0))))) ∧
    (∀ k, k < 3 → 16 ≤ violsOf k s → s.flag (violFence k) = false → exec (.rilramViolationLimit k) s = .next (fenceLink k (raise 0x0506 (linkName k) 0 s)))

/-- A packet of each operation, on a port that carries it, for a QP of the port whose context is cached and with ingress room, is counted and taken; with
the expected PSN and every check of R331 passed its message begins; one whose context is not cached is parked and fetched. Timers fail or answer the
waiting message, abandon one in a closing window, send the due ACK. A fetched context lets its packets run, a lost one goes to ERROR. CNPs halve and
recovery raises the rate; pauses hold and release responses; storms, violations and link changes act as R361 to R363 say. Unstated packet-level
choices are in the assumption log (entry 34). (R323, R331, R340, R348, R350, R352, R353, R355, R357, R359, R362, R363) -/
def Obligations.RdmaPacketsAndEventsComplete : Prop :=
  ∀ s : State,
    ((∀ port qp psn pl im ce d, exec (.rdmaSend port qp psn pl im ce d) s = .next (arrivePacket (rpkt 0 port qp psn pl 0 0 0 im 0 0 ce d) s)) ∧
      (∀ port qp psn pl k o l ce d, exec (.rdmaWrite port qp psn pl k o l ce d) s = .next (arrivePacket (rpkt 1 port qp psn pl k o l none 0 0 ce d) s)) ∧
      (∀ port qp psn pl k o l im ce d, exec (.rdmaWriteWithImmediate port qp psn pl k o l im ce d) s =
        .next (arrivePacket (rpkt 2 port qp psn pl k o l (some im) 0 0 ce d) s)) ∧
      (∀ port qp psn k o l ce, exec (.rdmaRead port qp psn k o l ce) s = .next (arrivePacket (rpkt 3 port qp psn 0 k o l none 0 0 ce []) s)) ∧
      (∀ port qp psn k o x y ce, exec (.compareSwap port qp psn k o x y ce) s =
        .next (arrivePacket (rpkt 4 port qp psn 0 k o 8 none (x % 2 ^ 64) (y % 2 ^ 64) ce []) s)) ∧
      (∀ port qp psn k o x ce, exec (.fetchAdd port qp psn k o x ce) s = .next (arrivePacket (rpkt 5 port qp psn 0 k o 8 none (x % 2 ^ 64) 0 ce []) s)) ∧
      (∀ port qp psn k o x ce, exec (.atomicWrite port qp psn k o x ce) s = .next (arrivePacket (rpkt 6 port qp psn 0 k o 8 none (x % 2 ^ 64) 0 ce []) s)) ∧
      (∀ port qp psn k o l ps wh ce, exec (.rdmaFlush port qp psn k o l ps wh ce) s =
        .next (arrivePacket (rpkt 7 port qp psn 0 k o l none (b2n ps + 2 * b2n wh) 0 ce []) s)) ∧
      (∀ port qp psn n v ce, exec (.rdmaWait port qp psn n v ce) s = .next (arrivePacket (rpkt 8 port qp psn 0 0 0 0 none n (v % 2 ^ 64) ce []) s))) ∧
    (∀ (p : RPkt) (x : Qp), ethCarries p.port s = true → tfind p.qp s.rdm.qps = some x → x.port = p.port →
      let t := s.inc (Reg.ETH_PORT_STAT_COUNT p.port 0)
      ingressBytes p.port t + p.data.length ≤ 4194304 →
        (s.rdm.cache.contains p.qp = true → s.rdm.parked.any (fun k => k.qp == p.qp) = false → arrivePacket p s =
          settle (takePacket p (t.onRdm fun y => { y with cache := p.qp :: y.cache.filter (· != p.qp) }))) ∧
        (s.rdm.cache.contains p.qp = false → s.rdm.parked.length < 8192 → arrivePacket p s =
          rdmSync (startFetches ((t.onRdm fun y => { y with parked := y.parked ++ [p] }).inc (Reg.RDM_STAT_COUNT 7))))) ∧
    (∀ (p : RPkt) (x : Qp), tfind p.qp s.rdm.qps = some x → x.port = p.port → x.state = 1 → p.ce = false → p.psn = x.epsn → x.epsn < 2 ^ 24 → p.place < 2 →
      (∀ w, checkFirst x p s = .pass w → takePacket p s = beginMsg p x w false s) ∧
      (∀ k, checkFirst x p s = .rnr k → takePacket p s = rnrPacket p x k s)) ∧
    (s.up = true → s.mode ≠ .spill →
      (∀ qp psn m, (tfind qp s.rdm.qps).bind (fun x => x.msgs.find? (fun m => m.psn == psn && m.kind == 8 && decide (m.stage < 3))) = some m →
        m.since + s.get Reg.RDM_CFG_WAIT_TIMEOUT_US ≤ s.epoch → exec (.waitTimeout qp psn) s = .next (settle (raise 0x070A qp m.a (failReq qp psn St.timeout.code 8 none 0 s)))) ∧
      (∀ qp x m, tfind qp s.rdm.qps = some x → x.msgs.find? (fun m => m.stage == 0) = some m → msgAdmission x m s ≠ 0 →
        mayStartMsg qp m (x.msgs.takeWhile (fun m => m.stage != 0)) s = true → m.begun + s.get Reg.RDM_ADMIT_CFG_WAIT_US ≤ s.epoch → exec (.admissionWaitExpiry qp) s = .next (settle (rnrNak qp m 10 s))) ∧
      (∀ qp, exec (.ackCoalesceExpiry qp) s = .next (settle (sendAck qp true s))) ∧
      (∀ qp m i w, (tfind qp s.rdm.qps).bind (fun x => x.msgs.find? (fun m => !m.whole)) = some m → m.window = some i → tfind i s.win = some w → w.state = 2 →
        m.since + 10000 ≤ s.epoch → exec (.messageAbandon qp) s =
          .next (settle (raise 0x070B qp m.psn (failReq qp (psnAdd m.last 1) St.revoked.code m.kind m.window m.off (dropMsgs qp (fun (y : RMsg) => y.psn == m.psn) s)))))) ∧
    (s.up = true →
      (∀ qp verdict, s.rdm.fetching.contains qp = true →
        (2 ≤ verdict → exec (.contextFetched qp verdict) s = .next (settle (contextLost qp s))) ∧
        (verdict < 2 → ∀ t, cacheIn qp (unpark qp s) = some t → exec (.contextFetched qp verdict) s =
          .next (settle (rdmSync (startFetches ((s.rdm.parked.filter (fun p => p.qp == qp)).foldl (fun s p => takePacket p s) t)))))) ∧
      (∀ qp x, tfind qp s.rdm.qps = some x → x.cnpGot + s.get Reg.RDM_CC_CFG_RECOVER_US ≤ s.epoch → exec (.rateRecover qp) s =
        .next (modQp qp (fun (x : Qp) => { x with rate := Nat.min (x.rate + s.get Reg.RDM_CC_CFG_RATE_STEP) (portGbps x.port s), cnpGot := s.epoch }) s)) ∧
      (∀ p rate, p < 4 → s.mode ≠ .spill → s.mode ≠ .recovery → s.get (Reg.ETH_PORT_STATE_RATE p) = 3 → s.flag (Reg.ETH_PORT_STATE_FENCED p) = false →
        s.get (Reg.FRM_UNIT_STATE_STATE (8 + p)) ≠ 3 → exec (.rdmaPortLinkUp p rate) s =
          .next (raise 0x0702 p 0 (s.put (Reg.ETH_PORT_STATE_RATE p) (Nat.min 2 (Nat.max rate (s.get (Reg.ETH_PORT_CFG_SPEED p)))))))) ∧
    (∀ p, ethCarries p s = true →
      let t := s.inc (Reg.ETH_PORT_STAT_COUNT p 0)
      (∀ qp x, tfind qp s.rdm.qps = some x → x.port = p → x.msgs.any (fun m => m.kind == 3) = true → s.flag (Reg.ETH_PORT_CFG_ECN_EN p) = true → exec (.cnpReceived p qp) s =
        .next (modQp qp (fun (x : Qp) => { x with rate := Nat.max (x.rate / 2) (s.get Reg.RDM_CC_CFG_RATE_MIN), cnpGot := s.epoch }) t)) ∧
      (∀ qp, tfind qp s.rdm.qps = none → exec (.cnpReceived p qp) s = .next (ethViolation p t)) ∧
      (∀ prio, prio < 8 → s.flag (Reg.ETH_PORT_CFG_PFC_EN p) = true →
        exec (.pfcPauseReceived p prio false) s = .next (releasePaused p prio s) ∧
        (s.rdm.ignored = [] → pausedNow p prio s = false → exec (.pfcPauseReceived p prio true) s =
          .next ((s.onRdm fun x => { x with paused := x.paused ++ [(p, prio, s.epoch)] }).put (Reg.ETH_PORT_STATE_PAUSED p) 1))) ∧
      (∀ prio e, prio < 8 → (p, prio, e) ∈ s.rdm.paused → e + 100000 < s.epoch → exec (.pfcStorm p prio) s =
        .next (releasePaused p prio (raise 0x0708 p prio (ethViolation p (ignorePause p prio s))))) ∧
      (∀ v6 addr, addr ≠ 0 →
        (ownAddress p v6 addr s = true → exec (.arpRequest p v6 addr) s =
          .next ((t.send (.eth p (if v6 then "Neighbour Advertisement" else "ARP reply") addr)).inc (Reg.ETH_PORT_STAT_COUNT p 1))) ∧
        (ownAddress p v6 addr s = false → exec (.arpRequest p v6 addr) s = .next t)) ∧
      (∀ qp psn, exec (.rdmaViolation p qp psn false) s = .next (ethViolation p t)) ∧
      (∀ qp psn x, tfind qp s.rdm.qps = some x → x.state = 1 → x.port = p → exec (.rdmaViolation p qp psn true) s =
        .next (settle (failReq qp x.epsn St.protocolViolation.code 9 none 0 (dropMsgs qp (fun (m : RMsg) => !m.whole) (ethViolation p t))))) ∧
      (16 ≤ (s.rdm.viol.filter (fun e => e.1 == p && decide (s.epoch < e.2 + 1000000))).length → exec (.rdmaViolationLimit p) s =
        .next (ethLinkLost p (raise 0x0707 p 0 (unitFault (8 + p) (s.put (Reg.ETH_PORT_STATE_FENCED p) 1))))) ∧
      exec (.rdmaPortLinkDown p) s = .next (ethLinkLost p s))

/-- While every island runs: TICKET_GET and SLOT_GET answer the lowest free one or NO_RESOURCE, and their PUT gives it back; WINDOW_CHECK answers the
verdict of R49 and a passing access counts in flight; DIR_LOOKUP and XLT_LOOKUP answer the entry read through its metadata line; DIR_LOCK takes the
lock or waits, DIR_UNLOCK releases it, and a released lock goes to the first waiter. CISTERN_APPEND appends the next record of an own reach and sends
it; a held record is applied in its order; waiting writes and appends go on. TIER_READ of a provisioned reach is a request, of another BOUNDS;
TIER_WRITE applies a record. CISTERN_STATUS completes with open bytes (log entry 6). (R49, R84, R85, R90, R91, R95, R98, R104, R161, R177, R181, R313) -/
def Obligations.TierPrimitivesComplete : Prop :=
  (∀ s : State, s.up = true →
    (∀ h, h ≤ 8 →
      (∀ n t, takeTicket h s = some (n, t) → exec (.ticketGet h) s = .next (t.send (.prim "TICKET_GET" 0 n))) ∧
      (takeTicket h s = none → exec (.ticketGet h) s = .next (s.send (.prim "TICKET_GET" St.noResource.code 0)))) ∧
    (∀ n, exec (.ticketPut n) s = .next ((giveTicket n s).send (.prim "TICKET_PUT" 0 n)) ∧ exec (.slotPut n) s = .next ((giveSlot n s).send (.prim "SLOT_PUT" 0 n))) ∧
    (∀ u,
      (∀ n t, takeSlot u s = some (n, t) → exec (.slotGet u) s = .next (t.send (.prim "SLOT_GET" 0 n))) ∧
      (takeSlot u s = none → exec (.slotGet u) s = .next (s.send (.prim "SLOT_GET" St.noResource.code 0)))) ∧
    (∀ id addr len right,
      (∀ w, tfind id s.win = some w →
        (accessCheck w addr len right = none → exec (.windowCheck id addr len right) s = .next ((beginAccess id s).send (.prim "WINDOW_CHECK" 0 id))) ∧
        (∀ st, accessCheck w addr len right = some st → exec (.windowCheck id addr len right) s = .next (s.send (.prim "WINDOW_CHECK" st.code id)))) ∧
      (tfind id s.win = none → exec (.windowCheck id addr len right) s = .next (s.send (.prim "WINDOW_CHECK" St.badField.code id)))) ∧
    (∀ g mline fault,
      let t := readMeta mline (memFault fault (g * 256) s)
      exec (.dirLookup g mline fault) s = .next (t.send (.prim "DIR_LOOKUP" 0 (leNat (dirBytes (t.gran g))))) ∧
      exec (.xltLookup g mline fault) s = .next (t.send (.prim "XLT_LOOKUP" 0 (match tfind g t.tir.xlt with | some e => xltWord e | none => 0)))) ∧
    (∀ g kind holder mline, exec (.dirLock g kind holder mline) s =
      let q := takeLock g { kind := lockOfCode kind, holder := holder } (writeMeta mline s)
      .next (q.2.send (.prim "DIR_LOCK" 0 (b2n q.1)))) ∧
    (∀ g mline, exec (.dirUnlock g mline) s = .next ((settle (dropLock g (writeMeta mline s))).send (.prim "DIR_UNLOCK" 0 g))) ∧
    (∀ g lane w ws, (s.gran g).lock = none → (s.gran g).waiters = w :: ws → exec (.moveLockGranted g lane) s =
      .next (settle (grantLock g lane w (setGran g { s.gran g with waiters := ws } s)))) ∧
    (∀ w : WireRec, s.completes = true → mayAppend w s = true → (recOfWire w false).isData = true →
      let t := append (recOfWire w false) false (s.onCis fun x => { x with assigned := tset 0 w.reach w.seq x.assigned })
      (ownsReach s w.reach = true → s.mirrors = true → w.origin = s.pos → exec (.cisternAppend w) s = .next (linkSend "RECORDS" w.reach w.seq (recFull (recOfWire w false)) t)) ∧
      (ownsReach s w.reach = true → s.mirrors = false → exec (.cisternAppend w) s = .next t) ∧
      (ownsReach s w.reach = false → exec (.cisternAppend w) s = .next (append (recOfWire w true) false s))) ∧
    (∀ pos fault r, s.cis.recs.find? (fun r => r.pos == pos && !r.held) = some r → s.mode ≠ .spill → exec (.recordHeld pos fault) s =
      .next (recordHeld pos (mergeFault fault r (memFault fault r.line s)))) ∧
    (s.completes = true → exec .writeAdmitted s = .next (admitAll (settle s))) ∧
    exec .appendResume s = .next (resumeAppends 1 s) ∧
    (∀ n ticket line tenant noPromote fault,
      (reachState s (lineReach line) ≠ 0 → exec (.tierRead n ticket line tenant noPromote fault) s =
        .next (request { ticket := ticket, src := .prim n, line := line, window := 2 ^ 32, tenant := tenant, cls := 0, atomic := none, chained := false, noPromote := noPromote }
          (memFault fault line s))) ∧
      (reachState s (lineReach line) = 0 → exec (.tierRead n ticket line tenant noPromote fault) s = .next (s.send (.prim "TIER_READ" St.bounds.code n)))) ∧
    (∀ pos fault r, s.cis.recs.find? (fun r => r.pos == pos) = some r → exec (.tierWrite pos fault) s =
      .next (settle (applyPass [r] (mergeFault fault r (memFault fault r.line s)))))) ∧
  (∀ (s : State) (m : Nat), s.runsCmd m 0x0702 → exec (.cisternStatus m) s = .next (completeFree m 64 s))

/-- A quarter that arrives and waits on no ladder is installed and served. A move that is done releases its lock and slot. A sweep starts in QUIESCED and
the serving modes when enabled; an overrun is counted once and follows the running pass. The age engine clears the flag of a granule not eligible and
evicts one that is; the pressure engine stops above STOP and otherwise locks one victim. Waiting allocations go on when a frame is free; a rebuild of
a cached granule, or of one that finds a frame, ends; a lost channel is handled; room for the cistern's copy is made, and the finished copy sets
COPIES to 0 with 0x0307. (R81, R164, R165, R166, R168, R175, R176, R178, R179, R180, R184, R185) -/
def Obligations.TierMoversComplete : Prop :=
  ∀ s : State, s.up = true →
    (∀ g q, q < 4 → s.tir.ladders.any (fun l => l.quarter == 4 * g + q) = false → exec (.quarterArrived g q) s = .next (settle (installQuarter g q s))) ∧
    (∀ g, exec (.moveDone g) s = .next (settle (endMove g s))) ∧
    (s.serving = true ∨ s.mode = .quiesced → s.flag Reg.TIR_SWP_CFG_ENABLE = true →
      (s.flag Reg.TIR_SWP_STATE_RUNNING = false → exec .sweepPassStart s = .next (startSweep s)) ∧
      (s.flag Reg.TIR_SWP_STATE_RUNNING = true → s.tir.sweepDue = false → exec .sweepPassStart s =
        .next ((s.onTir fun x => { x with sweepDue := true }).inc (Reg.TIR_TIER_STAT_COUNT 12)))) ∧
    (s.flag Reg.TIR_SWP_STATE_RUNNING = true →
      let t := (s.put Reg.TIR_SWP_STATE_RUNNING 0).put Reg.TIR_SWP_STATE_LAST_MS (satAt 0xFFFF ((s.epoch - s.tir.sweepAt) / 1000))
      (s.tir.sweepDue = false → exec .sweepPassEnd s = .next t) ∧ (s.tir.sweepDue = true → exec .sweepPassEnd s = .next (startSweep t))) ∧
    (∀ g inLoft rest, s.tir.ageQ = (g, inLoft) :: rest →
      let p := if inLoft then 0 else 1
      let e := s.gran g
      let pass := s.onTir fun x => { x with ageQ := rest }
      ((if inLoft then e.loftPend else e.floorPend) = false → exec .ageEviction s = .next pass) ∧
      ((if inLoft then e.loftPend else e.floorPend) = true →
        (evictAction p e s = 0 → exec .ageEviction s =
          .next (modGran g (fun (e : Gran) => if inLoft then { e with loftPend := false } else { e with floorPend := false }) pass)) ∧
        (∀ n t, evictAction p e s ≠ 0 → takeSlot 1 pass = some (n, t) → e.lock = none → e.waiters = [] → exec .ageEviction s =
          .next (poolStateSync (beginEvict p g n t))))) ∧
    (∀ p, p < 2 →
      (pressureOn p s = false → exec (.pressureEviction p) s = .next (s.put (Reg.TIR_POOL_STATE_EVICTING p) 0)) ∧
      (pressureOn p s = true → slotFree 1 s = false → exec (.pressureEviction p) s = .next (s.put (Reg.TIR_POOL_STATE_EVICTING p) 1)) ∧
      (pressureOn p s = true → slotFree 1 s = true →
        let cut := if s.flag (Reg.TIR_POOL_STATE_EVICTING p) then s.get (Reg.TIR_POOL_STATE_CUT p) else topBucket p s
        let r := relieve p (s.put (Reg.TIR_POOL_STATE_EVICTING p) 1) 17 cut
        ∀ g n t, r.1 = some g → takeSlot 1 r.2 = some (n, t) → exec (.pressureEviction p) s =
          .next (poolStateSync (beginEvict p g n (t.onTir fun x => { x with hand := tset 0 p g x.hand })))) ∧
      (poolFree s p ≠ 0 → exec (.frameWaitResume p) s = .next (settle (s.put (Reg.TIR_POOL_STATE_FRAME_WAIT p) 0)))) ∧
    (∀ g l, s.tir.rebuilds.contains g = true → (s.gran g).lock = some l → l.kind = .rebuild →
      ((s.gran g).cached = true → exec (.copyRebuildDone g) s = .next (rebuildDone g s)) ∧
      ((s.gran g).cached = false → ∀ t, allocFloor g allLines 0 0 s = some t → exec (.copyRebuildDone g) s = .next (rebuildDone g t))) ∧
    (∀ c, c < 16 → unitState s (14 + c) ≠ 3 → unitState s (14 + c) ≠ 5 → exec (.floorChannelLost c) s = .next (settle (loseChannel c s))) ∧
    (∀ n, s.cis.newStack = some n → s.get Reg.TIR_CST_STATE_COPIES = 1 → s.cis.roomMade = false → exec .cisternRoomMade s = .next (makeRoom n s)) ∧
    (s.get Reg.TIR_CST_STATE_COPIES = 1 → s.cis.roomMade = true → hgHolds s .cisternCopy = true → exec .cisternCopyDone s =
      let t := raise 0x0307 (s.cis.newStack.getD 0) 0 (s.put Reg.TIR_CST_STATE_COPIES 0)
      .next (degradedSync (poolSync (hgReturn .cisternCopy (t.onCis fun x => { x with roomMade := false })))))

/-- The drain takes the next granule under a slot; in a RELEASING reach its records retire without a program. A confirmed pack is journalled and its
records retire; a confirmed checkpoint lets XLATE records retire; a failed program is packed again. The resaw takes a victim below START, relocates
its live granules and asks for its erase when nothing live is left; wear relocation does so for the least-erased stripe. A row group is padded after
20 µs; programs and erases end with their tokens returned, a failed unit with 0x0401 or 0x0402, a refusal with 0x040A; a suspension below SUSPEND_MAX
is counted. (R101, R103, R104, R106, R107, R188, R190, R230, R237, R240, R249, R255) -/
def Obligations.DrainAndResawComplete : Prop :=
  ∀ s : State, s.up = true →
    (∀ lane g, drainModes s = true → laneUsed s lane = true → nextPack s = some g →
      (reachState s (granReach g) = 5 → exec (.drainPackStart lane) s =
        .next ((retireGran g (snapOf s g) s).add (Reg.TIR_DRN_STAT_COUNT 5) ((granRecs s g).filter Rec.applied).length)) ∧
      (reachState s (granReach g) ≠ 5 → ∀ slot t, takeSlot 2 s = some (slot, t) →
        ((t.gran g).lock ≠ none → exec (.drainPackStart lane) s = .next (takeLock g { kind := .drainSnap, holder := slot } t).2) ∧
        ((t.gran g).lock = none → (t.gran g).waiters = [] →
          (∀ u, startPack g (packKind g t) slot lane t = some u → exec (.drainPackStart lane) s = .next u) ∧
          (startPack g (packKind g t) slot lane t = none → exec (.drainPackStart lane) s = .next (packWaits g s))))) ∧
    (∀ g p, packAt g 1 s = some p → reachState s (granReach g) ≠ 0 → exec (.packConfirmed g) s = .next (confirmPack g p s)) ∧
    (∀ page p, s.tir.packs.find? (fun p => p.granule == 2 ^ 34 + page && p.kind == 4 && p.phase == 1) = some p → exec (.checkpointConfirmed page) s =
      .next (confirmCheckpoint page p s)) ∧
    (∀ g lane p, packAt g 2 s = some p → laneUsed s lane = true →
      let t := (s.onTir fun x => { x with packs := x.packs.filter (· != p) }).inc (Reg.TIR_DRN_STAT_COUNT 2)
      (∀ u, startPack g p.kind p.slot lane t = some u → exec (.packProgramFailed g lane) s = .next u) ∧
      (startPack g p.kind p.slot lane t = none → exec (.packProgramFailed g lane) s = .next (packWaits g s))) ∧
    (drainModes s = true → s.tir.rswVictim = none →
      (resawOn s = false → exec .resawStart s = .next (s.put Reg.TIR_RSW_STATE_STATE 0)) ∧
      (resawOn s = true → ∀ k, resawVictim s = some k → exec .resawStart s = .next (takeVictim k s))) ∧
    (∀ g lane bad, drainModes s = true → laneUsed s lane = true →
      (∀ p, relocPack g s = some p → p.phase = 1 → (s.gran g).lock = none → exec (.resawRelocate g lane bad) s = .next (endReloc p s)) ∧
      (∀ e slot t u, relocPack g s = none → tfind g s.tir.xlt = some e → movesOut s (locStripe e.locator) = true → takeSlot 3 s = some (slot, t) →
        beginReloc g lane slot e (bad % 2 ^ 256) t = some u → exec (.resawRelocate g lane bad) s = .next u)) ∧
    (∀ key, eraseReady key s = true →
      let r := hgRequest { owner := .erase key, h0 := resawUrgent s && s.tir.rswVictim == some key, tokens := 16 } s
      let t := r.2.onTir fun x => { x with erases := x.erases ++ [key] }
      (r.1 = 0 → exec (.resawErase key) s = .next t) ∧
      (r.1 = 1 → exec (.resawErase key) s = .next ((t.put Reg.TIR_RSW_STATE_HG_WAIT 1).inc (Reg.TIR_RSW_STAT_COUNT 4)))) ∧
    (wearDue s = true → ∀ k, wearPick s = some k → exec .wearRelocation s =
      .next (renewCheckpoints k (k / 4096) ((s.onTir fun x => { x with wearVictim := some k }).onMed fun x => { x with wearAt := s.epoch }))) ∧
    (∀ lane unit group g, findGroup lane unit group s = some g →
      (g.issued = false → g.started + 20 ≤ s.epoch → exec (.rowGroupPadTimeout lane unit group) s =
        .next ((s.add (Reg.SLC_FTG_STAT_COUNT 6) (groupSlots g.narrow - g.used)).onTir fun x =>
          { x with groups := x.groups.map (fun (y : RowGrp) => if y = g then { y with issued := true } else y) })) ∧
      (programming g s = true → ∀ board,
        let key := stripeKey lane unit
        let sl := laneSluice (board % 8) lane
        let t := programEnded lane g s
        exec (.programStatus lane unit group 0 board) s = .next (hgWaitSync (groupPhase g 1 (storeGroup g (countLane lane 1 t)))) ∧
        exec (.programStatus lane unit group 1 board) s =
          .next (hgWaitSync (badUnit (board % 8) key (closeStripe key (groupPhase g 2 (raise 0x0401 sl key (t.inc (Reg.SLC_CH_STAT_COUNT sl 3))))))) ∧
        exec (.programStatus lane unit group 2 board) s = .next (hgWaitSync (groupPhase g 2 (raise 0x040A sl key (t.inc (Reg.SLC_CH_STAT_COUNT sl 8))))))) ∧
    (∀ key nearEnd, s.tir.erases.contains key = true → hgHolds s (.erase key) = true →
      exec (.eraseStatus key none nearEnd) s = .next (hgWaitSync (stripeDone key (eraseEnded key nearEnd s))) ∧
      ∀ b, b < 8 → exec (.eraseStatus key (some b) nearEnd) s = .next (hgWaitSync (stripeDone key (eraseFailed b key (eraseEnded key nearEnd s))))) ∧
    (∀ c d, c < 32 → d < 16 → tget 0 (16 * c + d) s.tir.suspends < s.get (Reg.SLC_CH_CFG_SUSPEND_MAX c) → exec (.suspendDone c d) s =
      .next ((s.onTir fun x => { x with suspends := tset 0 (16 * c + d) (tget 0 (16 * c + d) x.suspends + 1) x.suspends }).inc (Reg.SLC_CH_STAT_COUNT c 7)))
end

