-- ==== Sys2Proof/Laws/Bytes.lean ====
section
/-!
SUPPORT. Sys2Proof/Laws/Bytes.lean: lengths and bytes of little-endian fields and padded responses (R441).
-/
set_option Elab.async false

namespace Sys2Proof.Machine

open Sys2Proof

/-- Padding cuts or fills up with zeros. -/
theorem padTo_eq : ∀ (n : Nat) (l : List Byte), padTo n l = (l ++ List.replicate n 0).take n
  | 0, l => by simp [padTo]
  | n + 1, [] => by
    rw [padTo, padTo_eq n []]
    simp [List.replicate_succ]
  | n + 1, b :: l => by
    rw [padTo, padTo_eq n l, List.replicate_succ', ← List.append_assoc, List.cons_append, List.cons_append, List.take_succ_cons]
    rw [List.take_append_of_le_length (l₁ := l ++ List.replicate n 0) (by simp)]

@[simp] theorem padTo_length (n : Nat) (l : List Byte) : (padTo n l).length = n := by
  simp [padTo_eq]

@[simp] theorem leBytes_length (n v : Nat) : (leBytes n v).length = n := by
  induction n generalizing v with
  | zero => rfl
  | succ n ih => rw [leBytes, List.length_cons, ih]

/-- A byte inside the content of a padded response. -/
theorem padTo_getElem? {n i : Nat} {l : List Byte} (h : i < n) (k : i < l.length) : (padTo n l)[i]? = l[i]? := by
  rw [padTo_eq, List.getElem?_take_of_lt h, List.getElem?_append_left k]

end Sys2Proof.Machine
end

