-- ==== Sys2Proof/Laws/Table.lean ====
section
/-!
SUPPORT. Sys2Proof/Laws/Table.lean: the laws of sparse tables: reading after writing, and that writing keeps the canonical form.
-/
set_option Elab.async false

namespace Sys2Proof.Machine

variable {α : Type}

@[simp] theorem tget_nil (d : α) (k : Nat) : tget d k [] = d := rfl

theorem tabove_mono {b c : Nat} (h : b ≤ c) : ∀ {t : List (Nat × α)}, tabove c t = true → tabove b t = true
  | [], _ => rfl
  | (j, _) :: t, hc => by
    simp only [tabove, Bool.and_eq_true, decide_eq_true_eq] at hc ⊢
    exact ⟨by omega, hc.2⟩

theorem tabove_tdel {b k : Nat} : ∀ {t : List (Nat × α)}, tabove b t = true → tabove b (tdel k t) = true
  | [], _ => rfl
  | (j, v) :: t, h => by
    simp only [tabove, Bool.and_eq_true, decide_eq_true_eq] at h
    unfold tdel
    split
    · exact tabove_mono (by omega) h.2
    · split
      · simpa [tabove] using h
      · simp only [tabove, Bool.and_eq_true, decide_eq_true_eq]
        exact ⟨h.1, tabove_tdel h.2⟩

theorem tabove_tins {b k : Nat} {v : α} (hk : b < k) : ∀ {t : List (Nat × α)}, tabove b t = true → tabove b (tins k v t) = true
  | [], _ => by simp [tins, tabove, hk]
  | (j, w) :: t, h => by
    simp only [tabove, Bool.and_eq_true, decide_eq_true_eq] at h
    unfold tins
    split
    · rename_i e
      subst e
      simpa [tabove, hk] using h.2
    · split
      · rename_i n l
        simp only [tabove, Bool.and_eq_true, decide_eq_true_eq]
        exact ⟨hk, l, h.2⟩
      · rename_i n l
        simp only [tabove, Bool.and_eq_true, decide_eq_true_eq]
        exact ⟨h.1, tabove_tins (by omega) h.2⟩

theorem tsorted_of_tabove {b : Nat} : ∀ {t : List (Nat × α)}, tabove b t = true → tsorted t = true
  | [], _ => rfl
  | (j, _) :: t, h => by
    simp only [tabove, Bool.and_eq_true] at h
    exact h.2

/-- Removing a key keeps the keys rising. -/
theorem tsorted_tdel {k : Nat} : ∀ {t : List (Nat × α)}, tsorted t = true → tsorted (tdel k t) = true
  | [], _ => rfl
  | (j, v) :: t, h => by
    unfold tdel
    split
    · exact tsorted_of_tabove h
    · split
      · exact h
      · exact tabove_tdel (b := j) h

/-- Writing a key keeps the keys rising. -/
theorem tsorted_tins {k : Nat} {v : α} : ∀ {t : List (Nat × α)}, tsorted t = true → tsorted (tins k v t) = true
  | [], _ => rfl
  | (j, w) :: t, h => by
    unfold tins
    split
    · rename_i e
      subst e
      exact h
    · split
      · rename_i n l
        simp only [tsorted, tabove, Bool.and_eq_true, decide_eq_true_eq]
        exact ⟨l, h⟩
      · rename_i n l
        exact tabove_tins (b := j) (by omega) h

theorem tsorted_tset [DecidableEq α] {d : α} {k : Nat} {v : α} {t : List (Nat × α)} (h : tsorted t = true) :
    tsorted (tset d k v t) = true := by
  unfold tset
  split
  · exact tsorted_tdel h
  · exact tsorted_tins h

/-- A key below every listed key reads as an unlisted one. -/
theorem tget_of_tabove {d : α} {k : Nat} : ∀ {t : List (Nat × α)}, tabove k t = true → tget d k t = d
  | [], _ => rfl
  | (j, _) :: t, h => by
    simp only [tabove, Bool.and_eq_true, decide_eq_true_eq] at h
    unfold tget
    rw [if_neg (by omega), if_pos h.1]

/-- Reading the key just written gives what was written. -/
@[simp] theorem tget_tins_same {d : α} {k : Nat} {v : α} : ∀ {t : List (Nat × α)}, tget d k (tins k v t) = v
  | [] => by simp [tins, tget]
  | (j, w) :: t => by
    unfold tins
    split
    · simp [tget]
    · split
      · simp [tget]
      · rename_i n l
        unfold tget
        rw [if_neg n, if_neg l]
        exact tget_tins_same

/-- Writing a key leaves every other key. -/
theorem tget_tins_other {d : α} {j k : Nat} {v : α} (hj : j ≠ k) : ∀ {t : List (Nat × α)}, tget d j (tins k v t) = tget d j t
  | [] => by
    simp only [tins, tget]
    rw [if_neg (fun e => hj e.symm)]
    split <;> rfl
  | (i, w) :: t => by
    unfold tins
    split
    · rename_i e
      subst e
      have n : i ≠ j := fun e => hj e.symm
      simp only [tget, if_neg n]
    · split
      · rename_i n l
        rw [tget, if_neg (fun e => hj e.symm)]
        split
        · rename_i l2
          rw [tget, if_neg (by omega), if_pos (by omega)]
        · rfl
      · simp only [tget]
        rw [tget_tins_other hj]

theorem tget_tdel_same {d : α} {k : Nat} : ∀ {t : List (Nat × α)}, tsorted t = true → tget d k (tdel k t) = d
  | [], _ => rfl
  | (j, v) :: t, h => by
    unfold tdel
    split
    · rename_i e
      subst e
      exact tget_of_tabove h
    · split
      · rename_i n l
        rw [tget, if_neg n, if_pos l]
      · rename_i n l
        rw [tget, if_neg n, if_neg l]
        exact tget_tdel_same (tsorted_of_tabove h)

theorem tget_tdel_other {d : α} {j k : Nat} (hj : j ≠ k) : ∀ {t : List (Nat × α)}, tsorted t = true → tget d j (tdel k t) = tget d j t
  | [], _ => rfl
  | (i, v) :: t, h => by
    unfold tdel
    split
    · rename_i e
      subst e
      rw [tget, if_neg (fun e => hj e.symm)]
      split
      · rename_i l
        exact tget_of_tabove (tabove_mono (Nat.le_of_lt l) h)
      · rfl
    · split
      · rfl
      · simp only [tget]
        rw [tget_tdel_other hj (tsorted_of_tabove h)]

/-- Reading the key just written (R7): what was written, whether or not it is what an unlisted key reads as. -/
theorem tget_tset_same [DecidableEq α] {d : α} {k : Nat} {v : α} {t : List (Nat × α)} (h : tsorted t = true) :
    tget d k (tset d k v t) = v := by
  unfold tset
  split
  · rename_i e
    rw [e]
    exact tget_tdel_same h
  · exact tget_tins_same

/-- Writing a key leaves what every other key reads as. -/
theorem tget_tset_other [DecidableEq α] {d e : α} {j k : Nat} {v : α} (hj : j ≠ k) {t : List (Nat × α)} (h : tsorted t = true) :
    tget e j (tset d k v t) = tget e j t := by
  unfold tset
  split
  · exact tget_tdel_other hj h
  · exact tget_tins_other hj

theorem tlean_tdel [DecidableEq α] {d : α} {k : Nat} : ∀ {t : List (Nat × α)}, tlean d t = true → tlean d (tdel k t) = true
  | [], _ => rfl
  | (j, v) :: t, h => by
    simp only [tlean, List.all_cons, Bool.and_eq_true] at h
    unfold tdel
    split
    · exact h.2
    · split
      · simpa [tlean] using h
      · simp only [tlean, List.all_cons, Bool.and_eq_true]
        exact ⟨h.1, tlean_tdel h.2⟩

theorem tlean_tins [DecidableEq α] {d : α} {k : Nat} {v : α} (hv : v ≠ d) : ∀ {t : List (Nat × α)}, tlean d t = true → tlean d (tins k v t) = true
  | [], _ => by simp [tins, tlean, hv]
  | (j, w) :: t, h => by
    simp only [tlean, List.all_cons, Bool.and_eq_true] at h
    unfold tins
    split
    · simp only [tlean, List.all_cons, Bool.and_eq_true]
      exact ⟨by simpa using hv, h.2⟩
    · split
      · simp only [tlean, List.all_cons, Bool.and_eq_true]
        exact ⟨by simpa using hv, h.1, h.2⟩
      · simp only [tlean, List.all_cons, Bool.and_eq_true]
        exact ⟨h.1, tlean_tins hv h.2⟩

/-- Writing a key keeps the canonical form: keys rising, no entry equal to what an unlisted key reads as. -/
theorem twf_tset [DecidableEq α] {d : α} {k : Nat} {v : α} {t : List (Nat × α)} (h : twf d t = true) :
    twf d (tset d k v t) = true := by
  simp only [twf, Bool.and_eq_true] at h ⊢
  refine ⟨tsorted_tset h.1, ?_⟩
  unfold tset
  split
  · exact tlean_tdel h.2
  · rename_i n
    exact tlean_tins n h.2

/-- Writing bytes keeps the canonical form of a byte memory. -/
theorem twf_writeBytes : ∀ {bs : List Byte} {a : Nat} {m : List Host.Cell}, twf 0 m = true → twf 0 (writeBytes a bs m) = true
  | [], _, _, h => h
  | _ :: _, _, _, h => by
    unfold writeBytes
    exact twf_writeBytes (twf_tset h)

theorem tabove_filter {b : Nat} {p : Nat × α → Bool} : ∀ {t : List (Nat × α)}, tabove b t = true → tabove b (t.filter p) = true
  | [], _ => rfl
  | (j, v) :: t, h => by
    simp only [tabove, Bool.and_eq_true, decide_eq_true_eq] at h
    rw [List.filter_cons]
    split
    · simp only [tabove, Bool.and_eq_true, decide_eq_true_eq]
      exact ⟨h.1, tabove_filter h.2⟩
    · exact tabove_mono (Nat.le_of_lt h.1) (tabove_filter h.2)

theorem tget_of_tabove_filter {d : α} {k : Nat} {p : Nat × α → Bool} {t : List (Nat × α)} (h : tabove k t = true) : tget d k (t.filter p) = d :=
  tget_of_tabove (tabove_filter h)

/-- An entry that is kept reads as before. -/
theorem tget_filter_keep {d : α} {k : Nat} {p : Nat → Bool} (hp : p k = true) : ∀ {t : List (Nat × α)}, tsorted t = true →
    tget d k (t.filter (fun e => p e.1)) = tget d k t
  | [], _ => rfl
  | (j, v) :: t, h => by
    have g := tget_filter_keep (d := d) hp (t := t) (tsorted_of_tabove (b := j) h)
    rw [List.filter_cons]
    by_cases e : j = k
    · subst e
      simp [hp, tget]
    · split
      · simp [tget, e, g]
      · by_cases l : k < j
        · have q : tabove k t = true := tabove_mono (Nat.le_of_lt l) h
          simp [tget, e, l, tget_of_tabove_filter q]
        · simp [tget, e, l, g]

/-- Of the entries that are dropped nothing reads. -/
theorem tget_filter_drop {d : α} {k : Nat} {p : Nat → Bool} (hp : p k = false) : ∀ {t : List (Nat × α)}, tsorted t = true →
    tget d k (t.filter (fun e => p e.1)) = d
  | [], _ => rfl
  | (j, v) :: t, h => by
    have g := tget_filter_drop (d := d) hp (t := t) (tsorted_of_tabove (b := j) h)
    rw [List.filter_cons]
    split
    · have e : j ≠ k := fun e => by simp_all
      simp [tget, e, g]
    · exact g

/-- Dropping entries keeps the keys rising. -/
theorem tsorted_filter {p : Nat × α → Bool} : ∀ {t : List (Nat × α)}, tsorted t = true → tsorted (t.filter p) = true
  | [], _ => rfl
  | (j, v) :: t, h => by
    rw [List.filter_cons]
    split
    · exact tabove_filter (b := j) h
    · exact tsorted_of_tabove (tabove_filter (b := j) h)

end Sys2Proof.Machine
end

