-- ==== Sys2Proof/Laws/State.lean ====
section
/-!
SUPPORT. Sys2Proof/Laws/State.lean: what each update of the state does to each field, true by rfl; the laws of register fields; and what the guards of the
meanings answer once they hold.
-/
set_option Elab.async false

namespace Sys2Proof.Machine

open Sys2Proof

variable (s : State) (r : Fld) (v : Nat) (m : Msg)

/-! ### put -/

@[simp] theorem State.put_pwr : (s.put r v).pwr = s.pwr := rfl
@[simp] theorem State.put_evr : (s.put r v).evr = s.evr := rfl
@[simp] theorem State.put_store : (s.put r v).store = s.store := rfl
@[simp] theorem State.put_sess : (s.put r v).sess = s.sess := rfl
@[simp] theorem State.put_mbx : (s.put r v).mbx = s.mbx := rfl
@[simp] theorem State.put_fmn : (s.put r v).fmn = s.fmn := rfl
@[simp] theorem State.put_frm : (s.put r v).frm = s.frm := rfl
@[simp] theorem State.put_jnb : (s.put r v).jnb = s.jnb := rfl
@[simp] theorem State.put_cis : (s.put r v).cis = s.cis := rfl
@[simp] theorem State.put_tir : (s.put r v).tir = s.tir := rfl
@[simp] theorem State.put_win : (s.put r v).win = s.win := rfl
@[simp] theorem State.put_hpt : (s.put r v).hpt = s.hpt := rfl
@[simp] theorem State.put_rdm : (s.put r v).rdm = s.rdm := rfl
@[simp] theorem State.put_yrd : (s.put r v).yrd = s.yrd := rfl
@[simp] theorem State.put_cph : (s.put r v).cph = s.cph := rfl
@[simp] theorem State.put_med : (s.put r v).med = s.med := rfl
@[simp] theorem State.put_twn : (s.put r v).twn = s.twn := rfl
@[simp] theorem State.put_sent : (s.put r v).sent = s.sent := rfl
@[simp] theorem State.put_fresh : (s.put r v).fresh = s.fresh := rfl
@[simp] theorem State.put_pending : (s.put r v).pending = s.pending := rfl

/-! ### add -/

@[simp] theorem State.add_pwr : (s.add r v).pwr = s.pwr := rfl
@[simp] theorem State.add_evr : (s.add r v).evr = s.evr := rfl
@[simp] theorem State.add_store : (s.add r v).store = s.store := rfl
@[simp] theorem State.add_sess : (s.add r v).sess = s.sess := rfl
@[simp] theorem State.add_mbx : (s.add r v).mbx = s.mbx := rfl
@[simp] theorem State.add_fmn : (s.add r v).fmn = s.fmn := rfl
@[simp] theorem State.add_frm : (s.add r v).frm = s.frm := rfl
@[simp] theorem State.add_jnb : (s.add r v).jnb = s.jnb := rfl
@[simp] theorem State.add_cis : (s.add r v).cis = s.cis := rfl
@[simp] theorem State.add_tir : (s.add r v).tir = s.tir := rfl
@[simp] theorem State.add_win : (s.add r v).win = s.win := rfl
@[simp] theorem State.add_hpt : (s.add r v).hpt = s.hpt := rfl
@[simp] theorem State.add_rdm : (s.add r v).rdm = s.rdm := rfl
@[simp] theorem State.add_yrd : (s.add r v).yrd = s.yrd := rfl
@[simp] theorem State.add_cph : (s.add r v).cph = s.cph := rfl
@[simp] theorem State.add_med : (s.add r v).med = s.med := rfl
@[simp] theorem State.add_twn : (s.add r v).twn = s.twn := rfl
@[simp] theorem State.add_sent : (s.add r v).sent = s.sent := rfl
@[simp] theorem State.add_fresh : (s.add r v).fresh = s.fresh := rfl
@[simp] theorem State.add_pending : (s.add r v).pending = s.pending := rfl

/-! ### inc -/

@[simp] theorem State.inc_pwr : (s.inc r).pwr = s.pwr := rfl
@[simp] theorem State.inc_evr : (s.inc r).evr = s.evr := rfl
@[simp] theorem State.inc_store : (s.inc r).store = s.store := rfl
@[simp] theorem State.inc_sess : (s.inc r).sess = s.sess := rfl
@[simp] theorem State.inc_mbx : (s.inc r).mbx = s.mbx := rfl
@[simp] theorem State.inc_fmn : (s.inc r).fmn = s.fmn := rfl
@[simp] theorem State.inc_frm : (s.inc r).frm = s.frm := rfl
@[simp] theorem State.inc_jnb : (s.inc r).jnb = s.jnb := rfl
@[simp] theorem State.inc_cis : (s.inc r).cis = s.cis := rfl
@[simp] theorem State.inc_tir : (s.inc r).tir = s.tir := rfl
@[simp] theorem State.inc_win : (s.inc r).win = s.win := rfl
@[simp] theorem State.inc_hpt : (s.inc r).hpt = s.hpt := rfl
@[simp] theorem State.inc_rdm : (s.inc r).rdm = s.rdm := rfl
@[simp] theorem State.inc_yrd : (s.inc r).yrd = s.yrd := rfl
@[simp] theorem State.inc_cph : (s.inc r).cph = s.cph := rfl
@[simp] theorem State.inc_med : (s.inc r).med = s.med := rfl
@[simp] theorem State.inc_twn : (s.inc r).twn = s.twn := rfl
@[simp] theorem State.inc_sent : (s.inc r).sent = s.sent := rfl
@[simp] theorem State.inc_fresh : (s.inc r).fresh = s.fresh := rfl
@[simp] theorem State.inc_pending : (s.inc r).pending = s.pending := rfl

/-! ### sub -/

@[simp] theorem State.sub_pwr : (s.sub r v).pwr = s.pwr := rfl
@[simp] theorem State.sub_evr : (s.sub r v).evr = s.evr := rfl
@[simp] theorem State.sub_store : (s.sub r v).store = s.store := rfl
@[simp] theorem State.sub_sess : (s.sub r v).sess = s.sess := rfl
@[simp] theorem State.sub_mbx : (s.sub r v).mbx = s.mbx := rfl
@[simp] theorem State.sub_fmn : (s.sub r v).fmn = s.fmn := rfl
@[simp] theorem State.sub_frm : (s.sub r v).frm = s.frm := rfl
@[simp] theorem State.sub_jnb : (s.sub r v).jnb = s.jnb := rfl
@[simp] theorem State.sub_cis : (s.sub r v).cis = s.cis := rfl
@[simp] theorem State.sub_tir : (s.sub r v).tir = s.tir := rfl
@[simp] theorem State.sub_win : (s.sub r v).win = s.win := rfl
@[simp] theorem State.sub_hpt : (s.sub r v).hpt = s.hpt := rfl
@[simp] theorem State.sub_rdm : (s.sub r v).rdm = s.rdm := rfl
@[simp] theorem State.sub_yrd : (s.sub r v).yrd = s.yrd := rfl
@[simp] theorem State.sub_cph : (s.sub r v).cph = s.cph := rfl
@[simp] theorem State.sub_med : (s.sub r v).med = s.med := rfl
@[simp] theorem State.sub_twn : (s.sub r v).twn = s.twn := rfl
@[simp] theorem State.sub_sent : (s.sub r v).sent = s.sent := rfl
@[simp] theorem State.sub_fresh : (s.sub r v).fresh = s.fresh := rfl
@[simp] theorem State.sub_pending : (s.sub r v).pending = s.pending := rfl

/-! ### addSat -/

@[simp] theorem State.addSat_pwr : (s.addSat r v).pwr = s.pwr := rfl
@[simp] theorem State.addSat_evr : (s.addSat r v).evr = s.evr := rfl
@[simp] theorem State.addSat_store : (s.addSat r v).store = s.store := rfl
@[simp] theorem State.addSat_sess : (s.addSat r v).sess = s.sess := rfl
@[simp] theorem State.addSat_mbx : (s.addSat r v).mbx = s.mbx := rfl
@[simp] theorem State.addSat_fmn : (s.addSat r v).fmn = s.fmn := rfl
@[simp] theorem State.addSat_frm : (s.addSat r v).frm = s.frm := rfl
@[simp] theorem State.addSat_jnb : (s.addSat r v).jnb = s.jnb := rfl
@[simp] theorem State.addSat_cis : (s.addSat r v).cis = s.cis := rfl
@[simp] theorem State.addSat_tir : (s.addSat r v).tir = s.tir := rfl
@[simp] theorem State.addSat_win : (s.addSat r v).win = s.win := rfl
@[simp] theorem State.addSat_hpt : (s.addSat r v).hpt = s.hpt := rfl
@[simp] theorem State.addSat_rdm : (s.addSat r v).rdm = s.rdm := rfl
@[simp] theorem State.addSat_yrd : (s.addSat r v).yrd = s.yrd := rfl
@[simp] theorem State.addSat_cph : (s.addSat r v).cph = s.cph := rfl
@[simp] theorem State.addSat_med : (s.addSat r v).med = s.med := rfl
@[simp] theorem State.addSat_twn : (s.addSat r v).twn = s.twn := rfl
@[simp] theorem State.addSat_sent : (s.addSat r v).sent = s.sent := rfl
@[simp] theorem State.addSat_fresh : (s.addSat r v).fresh = s.fresh := rfl
@[simp] theorem State.addSat_pending : (s.addSat r v).pending = s.pending := rfl

/-! ### send -/

@[simp] theorem State.send_regs : (s.send m).regs = s.regs := rfl
@[simp] theorem State.send_pwr : (s.send m).pwr = s.pwr := rfl
@[simp] theorem State.send_evr : (s.send m).evr = s.evr := rfl
@[simp] theorem State.send_store : (s.send m).store = s.store := rfl
@[simp] theorem State.send_sess : (s.send m).sess = s.sess := rfl
@[simp] theorem State.send_mbx : (s.send m).mbx = s.mbx := rfl
@[simp] theorem State.send_fmn : (s.send m).fmn = s.fmn := rfl
@[simp] theorem State.send_frm : (s.send m).frm = s.frm := rfl
@[simp] theorem State.send_jnb : (s.send m).jnb = s.jnb := rfl
@[simp] theorem State.send_cis : (s.send m).cis = s.cis := rfl
@[simp] theorem State.send_tir : (s.send m).tir = s.tir := rfl
@[simp] theorem State.send_win : (s.send m).win = s.win := rfl
@[simp] theorem State.send_hpt : (s.send m).hpt = s.hpt := rfl
@[simp] theorem State.send_rdm : (s.send m).rdm = s.rdm := rfl
@[simp] theorem State.send_yrd : (s.send m).yrd = s.yrd := rfl
@[simp] theorem State.send_cph : (s.send m).cph = s.cph := rfl
@[simp] theorem State.send_med : (s.send m).med = s.med := rfl
@[simp] theorem State.send_twn : (s.send m).twn = s.twn := rfl
@[simp] theorem State.send_sent : (s.send m).sent = m :: s.sent := rfl
@[simp] theorem State.send_fresh : (s.send m).fresh = s.fresh := rfl
@[simp] theorem State.send_pending : (s.send m).pending = s.pending := rfl
@[simp] theorem State.send_get : (s.send m).get r = s.get r := rfl

section
variable (f : PwrSt → PwrSt)

/-! ### onPwr -/

@[simp] theorem State.onPwr_regs : (s.onPwr f).regs = s.regs := rfl
@[simp] theorem State.onPwr_pwr : (s.onPwr f).pwr = f s.pwr := rfl
@[simp] theorem State.onPwr_evr : (s.onPwr f).evr = s.evr := rfl
@[simp] theorem State.onPwr_store : (s.onPwr f).store = s.store := rfl
@[simp] theorem State.onPwr_sess : (s.onPwr f).sess = s.sess := rfl
@[simp] theorem State.onPwr_mbx : (s.onPwr f).mbx = s.mbx := rfl
@[simp] theorem State.onPwr_fmn : (s.onPwr f).fmn = s.fmn := rfl
@[simp] theorem State.onPwr_frm : (s.onPwr f).frm = s.frm := rfl
@[simp] theorem State.onPwr_jnb : (s.onPwr f).jnb = s.jnb := rfl
@[simp] theorem State.onPwr_cis : (s.onPwr f).cis = s.cis := rfl
@[simp] theorem State.onPwr_tir : (s.onPwr f).tir = s.tir := rfl
@[simp] theorem State.onPwr_win : (s.onPwr f).win = s.win := rfl
@[simp] theorem State.onPwr_hpt : (s.onPwr f).hpt = s.hpt := rfl
@[simp] theorem State.onPwr_rdm : (s.onPwr f).rdm = s.rdm := rfl
@[simp] theorem State.onPwr_yrd : (s.onPwr f).yrd = s.yrd := rfl
@[simp] theorem State.onPwr_cph : (s.onPwr f).cph = s.cph := rfl
@[simp] theorem State.onPwr_med : (s.onPwr f).med = s.med := rfl
@[simp] theorem State.onPwr_twn : (s.onPwr f).twn = s.twn := rfl
@[simp] theorem State.onPwr_sent : (s.onPwr f).sent = s.sent := rfl
@[simp] theorem State.onPwr_fresh : (s.onPwr f).fresh = s.fresh := rfl
@[simp] theorem State.onPwr_pending : (s.onPwr f).pending = s.pending := rfl
@[simp] theorem State.onPwr_get : (s.onPwr f).get r = s.get r := rfl

end

section
variable (f : LogSt → LogSt)

/-! ### onEvr -/

@[simp] theorem State.onEvr_regs : (s.onEvr f).regs = s.regs := rfl
@[simp] theorem State.onEvr_pwr : (s.onEvr f).pwr = s.pwr := rfl
@[simp] theorem State.onEvr_evr : (s.onEvr f).evr = f s.evr := rfl
@[simp] theorem State.onEvr_store : (s.onEvr f).store = s.store := rfl
@[simp] theorem State.onEvr_sess : (s.onEvr f).sess = s.sess := rfl
@[simp] theorem State.onEvr_mbx : (s.onEvr f).mbx = s.mbx := rfl
@[simp] theorem State.onEvr_fmn : (s.onEvr f).fmn = s.fmn := rfl
@[simp] theorem State.onEvr_frm : (s.onEvr f).frm = s.frm := rfl
@[simp] theorem State.onEvr_jnb : (s.onEvr f).jnb = s.jnb := rfl
@[simp] theorem State.onEvr_cis : (s.onEvr f).cis = s.cis := rfl
@[simp] theorem State.onEvr_tir : (s.onEvr f).tir = s.tir := rfl
@[simp] theorem State.onEvr_win : (s.onEvr f).win = s.win := rfl
@[simp] theorem State.onEvr_hpt : (s.onEvr f).hpt = s.hpt := rfl
@[simp] theorem State.onEvr_rdm : (s.onEvr f).rdm = s.rdm := rfl
@[simp] theorem State.onEvr_yrd : (s.onEvr f).yrd = s.yrd := rfl
@[simp] theorem State.onEvr_cph : (s.onEvr f).cph = s.cph := rfl
@[simp] theorem State.onEvr_med : (s.onEvr f).med = s.med := rfl
@[simp] theorem State.onEvr_twn : (s.onEvr f).twn = s.twn := rfl
@[simp] theorem State.onEvr_sent : (s.onEvr f).sent = s.sent := rfl
@[simp] theorem State.onEvr_fresh : (s.onEvr f).fresh = s.fresh := rfl
@[simp] theorem State.onEvr_pending : (s.onEvr f).pending = s.pending := rfl
@[simp] theorem State.onEvr_get : (s.onEvr f).get r = s.get r := rfl

end

section
variable (f : StoreSt → StoreSt)

/-! ### onStore -/

@[simp] theorem State.onStore_regs : (s.onStore f).regs = s.regs := rfl
@[simp] theorem State.onStore_pwr : (s.onStore f).pwr = s.pwr := rfl
@[simp] theorem State.onStore_evr : (s.onStore f).evr = s.evr := rfl
@[simp] theorem State.onStore_store : (s.onStore f).store = f s.store := rfl
@[simp] theorem State.onStore_sess : (s.onStore f).sess = s.sess := rfl
@[simp] theorem State.onStore_mbx : (s.onStore f).mbx = s.mbx := rfl
@[simp] theorem State.onStore_fmn : (s.onStore f).fmn = s.fmn := rfl
@[simp] theorem State.onStore_frm : (s.onStore f).frm = s.frm := rfl
@[simp] theorem State.onStore_jnb : (s.onStore f).jnb = s.jnb := rfl
@[simp] theorem State.onStore_cis : (s.onStore f).cis = s.cis := rfl
@[simp] theorem State.onStore_tir : (s.onStore f).tir = s.tir := rfl
@[simp] theorem State.onStore_win : (s.onStore f).win = s.win := rfl
@[simp] theorem State.onStore_hpt : (s.onStore f).hpt = s.hpt := rfl
@[simp] theorem State.onStore_rdm : (s.onStore f).rdm = s.rdm := rfl
@[simp] theorem State.onStore_yrd : (s.onStore f).yrd = s.yrd := rfl
@[simp] theorem State.onStore_cph : (s.onStore f).cph = s.cph := rfl
@[simp] theorem State.onStore_med : (s.onStore f).med = s.med := rfl
@[simp] theorem State.onStore_twn : (s.onStore f).twn = s.twn := rfl
@[simp] theorem State.onStore_sent : (s.onStore f).sent = s.sent := rfl
@[simp] theorem State.onStore_fresh : (s.onStore f).fresh = s.fresh := rfl
@[simp] theorem State.onStore_pending : (s.onStore f).pending = s.pending := rfl
@[simp] theorem State.onStore_get : (s.onStore f).get r = s.get r := rfl

end

section
variable (f : MbxSt → MbxSt)

/-! ### onMbx -/

@[simp] theorem State.onMbx_regs : (s.onMbx f).regs = s.regs := rfl
@[simp] theorem State.onMbx_pwr : (s.onMbx f).pwr = s.pwr := rfl
@[simp] theorem State.onMbx_evr : (s.onMbx f).evr = s.evr := rfl
@[simp] theorem State.onMbx_store : (s.onMbx f).store = s.store := rfl
@[simp] theorem State.onMbx_sess : (s.onMbx f).sess = s.sess := rfl
@[simp] theorem State.onMbx_mbx : (s.onMbx f).mbx = f s.mbx := rfl
@[simp] theorem State.onMbx_fmn : (s.onMbx f).fmn = s.fmn := rfl
@[simp] theorem State.onMbx_frm : (s.onMbx f).frm = s.frm := rfl
@[simp] theorem State.onMbx_jnb : (s.onMbx f).jnb = s.jnb := rfl
@[simp] theorem State.onMbx_cis : (s.onMbx f).cis = s.cis := rfl
@[simp] theorem State.onMbx_tir : (s.onMbx f).tir = s.tir := rfl
@[simp] theorem State.onMbx_win : (s.onMbx f).win = s.win := rfl
@[simp] theorem State.onMbx_hpt : (s.onMbx f).hpt = s.hpt := rfl
@[simp] theorem State.onMbx_rdm : (s.onMbx f).rdm = s.rdm := rfl
@[simp] theorem State.onMbx_yrd : (s.onMbx f).yrd = s.yrd := rfl
@[simp] theorem State.onMbx_cph : (s.onMbx f).cph = s.cph := rfl
@[simp] theorem State.onMbx_med : (s.onMbx f).med = s.med := rfl
@[simp] theorem State.onMbx_twn : (s.onMbx f).twn = s.twn := rfl
@[simp] theorem State.onMbx_sent : (s.onMbx f).sent = s.sent := rfl
@[simp] theorem State.onMbx_fresh : (s.onMbx f).fresh = s.fresh := rfl
@[simp] theorem State.onMbx_pending : (s.onMbx f).pending = s.pending := rfl
@[simp] theorem State.onMbx_get : (s.onMbx f).get r = s.get r := rfl

end

section
variable (f : FmnSt → FmnSt)

/-! ### onFmn -/

@[simp] theorem State.onFmn_regs : (s.onFmn f).regs = s.regs := rfl
@[simp] theorem State.onFmn_pwr : (s.onFmn f).pwr = s.pwr := rfl
@[simp] theorem State.onFmn_evr : (s.onFmn f).evr = s.evr := rfl
@[simp] theorem State.onFmn_store : (s.onFmn f).store = s.store := rfl
@[simp] theorem State.onFmn_sess : (s.onFmn f).sess = s.sess := rfl
@[simp] theorem State.onFmn_mbx : (s.onFmn f).mbx = s.mbx := rfl
@[simp] theorem State.onFmn_fmn : (s.onFmn f).fmn = f s.fmn := rfl
@[simp] theorem State.onFmn_frm : (s.onFmn f).frm = s.frm := rfl
@[simp] theorem State.onFmn_jnb : (s.onFmn f).jnb = s.jnb := rfl
@[simp] theorem State.onFmn_cis : (s.onFmn f).cis = s.cis := rfl
@[simp] theorem State.onFmn_tir : (s.onFmn f).tir = s.tir := rfl
@[simp] theorem State.onFmn_win : (s.onFmn f).win = s.win := rfl
@[simp] theorem State.onFmn_hpt : (s.onFmn f).hpt = s.hpt := rfl
@[simp] theorem State.onFmn_rdm : (s.onFmn f).rdm = s.rdm := rfl
@[simp] theorem State.onFmn_yrd : (s.onFmn f).yrd = s.yrd := rfl
@[simp] theorem State.onFmn_cph : (s.onFmn f).cph = s.cph := rfl
@[simp] theorem State.onFmn_med : (s.onFmn f).med = s.med := rfl
@[simp] theorem State.onFmn_twn : (s.onFmn f).twn = s.twn := rfl
@[simp] theorem State.onFmn_sent : (s.onFmn f).sent = s.sent := rfl
@[simp] theorem State.onFmn_fresh : (s.onFmn f).fresh = s.fresh := rfl
@[simp] theorem State.onFmn_pending : (s.onFmn f).pending = s.pending := rfl
@[simp] theorem State.onFmn_get : (s.onFmn f).get r = s.get r := rfl

end

section
variable (f : FrmSt → FrmSt)

/-! ### onFrm -/

@[simp] theorem State.onFrm_regs : (s.onFrm f).regs = s.regs := rfl
@[simp] theorem State.onFrm_pwr : (s.onFrm f).pwr = s.pwr := rfl
@[simp] theorem State.onFrm_evr : (s.onFrm f).evr = s.evr := rfl
@[simp] theorem State.onFrm_store : (s.onFrm f).store = s.store := rfl
@[simp] theorem State.onFrm_sess : (s.onFrm f).sess = s.sess := rfl
@[simp] theorem State.onFrm_mbx : (s.onFrm f).mbx = s.mbx := rfl
@[simp] theorem State.onFrm_fmn : (s.onFrm f).fmn = s.fmn := rfl
@[simp] theorem State.onFrm_frm : (s.onFrm f).frm = f s.frm := rfl
@[simp] theorem State.onFrm_jnb : (s.onFrm f).jnb = s.jnb := rfl
@[simp] theorem State.onFrm_cis : (s.onFrm f).cis = s.cis := rfl
@[simp] theorem State.onFrm_tir : (s.onFrm f).tir = s.tir := rfl
@[simp] theorem State.onFrm_win : (s.onFrm f).win = s.win := rfl
@[simp] theorem State.onFrm_hpt : (s.onFrm f).hpt = s.hpt := rfl
@[simp] theorem State.onFrm_rdm : (s.onFrm f).rdm = s.rdm := rfl
@[simp] theorem State.onFrm_yrd : (s.onFrm f).yrd = s.yrd := rfl
@[simp] theorem State.onFrm_cph : (s.onFrm f).cph = s.cph := rfl
@[simp] theorem State.onFrm_med : (s.onFrm f).med = s.med := rfl
@[simp] theorem State.onFrm_twn : (s.onFrm f).twn = s.twn := rfl
@[simp] theorem State.onFrm_sent : (s.onFrm f).sent = s.sent := rfl
@[simp] theorem State.onFrm_fresh : (s.onFrm f).fresh = s.fresh := rfl
@[simp] theorem State.onFrm_pending : (s.onFrm f).pending = s.pending := rfl
@[simp] theorem State.onFrm_get : (s.onFrm f).get r = s.get r := rfl

end

section
variable (f : JnbSt → JnbSt)

/-! ### onJnb -/

@[simp] theorem State.onJnb_regs : (s.onJnb f).regs = s.regs := rfl
@[simp] theorem State.onJnb_pwr : (s.onJnb f).pwr = s.pwr := rfl
@[simp] theorem State.onJnb_evr : (s.onJnb f).evr = s.evr := rfl
@[simp] theorem State.onJnb_store : (s.onJnb f).store = s.store := rfl
@[simp] theorem State.onJnb_sess : (s.onJnb f).sess = s.sess := rfl
@[simp] theorem State.onJnb_mbx : (s.onJnb f).mbx = s.mbx := rfl
@[simp] theorem State.onJnb_fmn : (s.onJnb f).fmn = s.fmn := rfl
@[simp] theorem State.onJnb_frm : (s.onJnb f).frm = s.frm := rfl
@[simp] theorem State.onJnb_jnb : (s.onJnb f).jnb = f s.jnb := rfl
@[simp] theorem State.onJnb_cis : (s.onJnb f).cis = s.cis := rfl
@[simp] theorem State.onJnb_tir : (s.onJnb f).tir = s.tir := rfl
@[simp] theorem State.onJnb_win : (s.onJnb f).win = s.win := rfl
@[simp] theorem State.onJnb_hpt : (s.onJnb f).hpt = s.hpt := rfl
@[simp] theorem State.onJnb_rdm : (s.onJnb f).rdm = s.rdm := rfl
@[simp] theorem State.onJnb_yrd : (s.onJnb f).yrd = s.yrd := rfl
@[simp] theorem State.onJnb_cph : (s.onJnb f).cph = s.cph := rfl
@[simp] theorem State.onJnb_med : (s.onJnb f).med = s.med := rfl
@[simp] theorem State.onJnb_twn : (s.onJnb f).twn = s.twn := rfl
@[simp] theorem State.onJnb_sent : (s.onJnb f).sent = s.sent := rfl
@[simp] theorem State.onJnb_fresh : (s.onJnb f).fresh = s.fresh := rfl
@[simp] theorem State.onJnb_pending : (s.onJnb f).pending = s.pending := rfl
@[simp] theorem State.onJnb_get : (s.onJnb f).get r = s.get r := rfl

end

section
variable (f : CisSt → CisSt)

/-! ### onCis -/

@[simp] theorem State.onCis_regs : (s.onCis f).regs = s.regs := rfl
@[simp] theorem State.onCis_pwr : (s.onCis f).pwr = s.pwr := rfl
@[simp] theorem State.onCis_evr : (s.onCis f).evr = s.evr := rfl
@[simp] theorem State.onCis_store : (s.onCis f).store = s.store := rfl
@[simp] theorem State.onCis_sess : (s.onCis f).sess = s.sess := rfl
@[simp] theorem State.onCis_mbx : (s.onCis f).mbx = s.mbx := rfl
@[simp] theorem State.onCis_fmn : (s.onCis f).fmn = s.fmn := rfl
@[simp] theorem State.onCis_frm : (s.onCis f).frm = s.frm := rfl
@[simp] theorem State.onCis_jnb : (s.onCis f).jnb = s.jnb := rfl
@[simp] theorem State.onCis_cis : (s.onCis f).cis = f s.cis := rfl
@[simp] theorem State.onCis_tir : (s.onCis f).tir = s.tir := rfl
@[simp] theorem State.onCis_win : (s.onCis f).win = s.win := rfl
@[simp] theorem State.onCis_hpt : (s.onCis f).hpt = s.hpt := rfl
@[simp] theorem State.onCis_rdm : (s.onCis f).rdm = s.rdm := rfl
@[simp] theorem State.onCis_yrd : (s.onCis f).yrd = s.yrd := rfl
@[simp] theorem State.onCis_cph : (s.onCis f).cph = s.cph := rfl
@[simp] theorem State.onCis_med : (s.onCis f).med = s.med := rfl
@[simp] theorem State.onCis_twn : (s.onCis f).twn = s.twn := rfl
@[simp] theorem State.onCis_sent : (s.onCis f).sent = s.sent := rfl
@[simp] theorem State.onCis_fresh : (s.onCis f).fresh = s.fresh := rfl
@[simp] theorem State.onCis_pending : (s.onCis f).pending = s.pending := rfl
@[simp] theorem State.onCis_get : (s.onCis f).get r = s.get r := rfl

end

section
variable (f : TirSt → TirSt)

/-! ### onTir -/

@[simp] theorem State.onTir_regs : (s.onTir f).regs = s.regs := rfl
@[simp] theorem State.onTir_pwr : (s.onTir f).pwr = s.pwr := rfl
@[simp] theorem State.onTir_evr : (s.onTir f).evr = s.evr := rfl
@[simp] theorem State.onTir_store : (s.onTir f).store = s.store := rfl
@[simp] theorem State.onTir_sess : (s.onTir f).sess = s.sess := rfl
@[simp] theorem State.onTir_mbx : (s.onTir f).mbx = s.mbx := rfl
@[simp] theorem State.onTir_fmn : (s.onTir f).fmn = s.fmn := rfl
@[simp] theorem State.onTir_frm : (s.onTir f).frm = s.frm := rfl
@[simp] theorem State.onTir_jnb : (s.onTir f).jnb = s.jnb := rfl
@[simp] theorem State.onTir_cis : (s.onTir f).cis = s.cis := rfl
@[simp] theorem State.onTir_tir : (s.onTir f).tir = f s.tir := rfl
@[simp] theorem State.onTir_win : (s.onTir f).win = s.win := rfl
@[simp] theorem State.onTir_hpt : (s.onTir f).hpt = s.hpt := rfl
@[simp] theorem State.onTir_rdm : (s.onTir f).rdm = s.rdm := rfl
@[simp] theorem State.onTir_yrd : (s.onTir f).yrd = s.yrd := rfl
@[simp] theorem State.onTir_cph : (s.onTir f).cph = s.cph := rfl
@[simp] theorem State.onTir_med : (s.onTir f).med = s.med := rfl
@[simp] theorem State.onTir_twn : (s.onTir f).twn = s.twn := rfl
@[simp] theorem State.onTir_sent : (s.onTir f).sent = s.sent := rfl
@[simp] theorem State.onTir_fresh : (s.onTir f).fresh = s.fresh := rfl
@[simp] theorem State.onTir_pending : (s.onTir f).pending = s.pending := rfl
@[simp] theorem State.onTir_get : (s.onTir f).get r = s.get r := rfl

end

section
variable (f : HptSt → HptSt)

/-! ### onHpt -/

@[simp] theorem State.onHpt_regs : (s.onHpt f).regs = s.regs := rfl
@[simp] theorem State.onHpt_pwr : (s.onHpt f).pwr = s.pwr := rfl
@[simp] theorem State.onHpt_evr : (s.onHpt f).evr = s.evr := rfl
@[simp] theorem State.onHpt_store : (s.onHpt f).store = s.store := rfl
@[simp] theorem State.onHpt_sess : (s.onHpt f).sess = s.sess := rfl
@[simp] theorem State.onHpt_mbx : (s.onHpt f).mbx = s.mbx := rfl
@[simp] theorem State.onHpt_fmn : (s.onHpt f).fmn = s.fmn := rfl
@[simp] theorem State.onHpt_frm : (s.onHpt f).frm = s.frm := rfl
@[simp] theorem State.onHpt_jnb : (s.onHpt f).jnb = s.jnb := rfl
@[simp] theorem State.onHpt_cis : (s.onHpt f).cis = s.cis := rfl
@[simp] theorem State.onHpt_tir : (s.onHpt f).tir = s.tir := rfl
@[simp] theorem State.onHpt_win : (s.onHpt f).win = s.win := rfl
@[simp] theorem State.onHpt_hpt : (s.onHpt f).hpt = f s.hpt := rfl
@[simp] theorem State.onHpt_rdm : (s.onHpt f).rdm = s.rdm := rfl
@[simp] theorem State.onHpt_yrd : (s.onHpt f).yrd = s.yrd := rfl
@[simp] theorem State.onHpt_cph : (s.onHpt f).cph = s.cph := rfl
@[simp] theorem State.onHpt_med : (s.onHpt f).med = s.med := rfl
@[simp] theorem State.onHpt_twn : (s.onHpt f).twn = s.twn := rfl
@[simp] theorem State.onHpt_sent : (s.onHpt f).sent = s.sent := rfl
@[simp] theorem State.onHpt_fresh : (s.onHpt f).fresh = s.fresh := rfl
@[simp] theorem State.onHpt_pending : (s.onHpt f).pending = s.pending := rfl
@[simp] theorem State.onHpt_get : (s.onHpt f).get r = s.get r := rfl

end

section
variable (f : RdmSt → RdmSt)

/-! ### onRdm -/

@[simp] theorem State.onRdm_regs : (s.onRdm f).regs = s.regs := rfl
@[simp] theorem State.onRdm_pwr : (s.onRdm f).pwr = s.pwr := rfl
@[simp] theorem State.onRdm_evr : (s.onRdm f).evr = s.evr := rfl
@[simp] theorem State.onRdm_store : (s.onRdm f).store = s.store := rfl
@[simp] theorem State.onRdm_sess : (s.onRdm f).sess = s.sess := rfl
@[simp] theorem State.onRdm_mbx : (s.onRdm f).mbx = s.mbx := rfl
@[simp] theorem State.onRdm_fmn : (s.onRdm f).fmn = s.fmn := rfl
@[simp] theorem State.onRdm_frm : (s.onRdm f).frm = s.frm := rfl
@[simp] theorem State.onRdm_jnb : (s.onRdm f).jnb = s.jnb := rfl
@[simp] theorem State.onRdm_cis : (s.onRdm f).cis = s.cis := rfl
@[simp] theorem State.onRdm_tir : (s.onRdm f).tir = s.tir := rfl
@[simp] theorem State.onRdm_win : (s.onRdm f).win = s.win := rfl
@[simp] theorem State.onRdm_hpt : (s.onRdm f).hpt = s.hpt := rfl
@[simp] theorem State.onRdm_rdm : (s.onRdm f).rdm = f s.rdm := rfl
@[simp] theorem State.onRdm_yrd : (s.onRdm f).yrd = s.yrd := rfl
@[simp] theorem State.onRdm_cph : (s.onRdm f).cph = s.cph := rfl
@[simp] theorem State.onRdm_med : (s.onRdm f).med = s.med := rfl
@[simp] theorem State.onRdm_twn : (s.onRdm f).twn = s.twn := rfl
@[simp] theorem State.onRdm_sent : (s.onRdm f).sent = s.sent := rfl
@[simp] theorem State.onRdm_fresh : (s.onRdm f).fresh = s.fresh := rfl
@[simp] theorem State.onRdm_pending : (s.onRdm f).pending = s.pending := rfl
@[simp] theorem State.onRdm_get : (s.onRdm f).get r = s.get r := rfl

end

section
variable (f : YrdSt → YrdSt)

/-! ### onYrd -/

@[simp] theorem State.onYrd_regs : (s.onYrd f).regs = s.regs := rfl
@[simp] theorem State.onYrd_pwr : (s.onYrd f).pwr = s.pwr := rfl
@[simp] theorem State.onYrd_evr : (s.onYrd f).evr = s.evr := rfl
@[simp] theorem State.onYrd_store : (s.onYrd f).store = s.store := rfl
@[simp] theorem State.onYrd_sess : (s.onYrd f).sess = s.sess := rfl
@[simp] theorem State.onYrd_mbx : (s.onYrd f).mbx = s.mbx := rfl
@[simp] theorem State.onYrd_fmn : (s.onYrd f).fmn = s.fmn := rfl
@[simp] theorem State.onYrd_frm : (s.onYrd f).frm = s.frm := rfl
@[simp] theorem State.onYrd_jnb : (s.onYrd f).jnb = s.jnb := rfl
@[simp] theorem State.onYrd_cis : (s.onYrd f).cis = s.cis := rfl
@[simp] theorem State.onYrd_tir : (s.onYrd f).tir = s.tir := rfl
@[simp] theorem State.onYrd_win : (s.onYrd f).win = s.win := rfl
@[simp] theorem State.onYrd_hpt : (s.onYrd f).hpt = s.hpt := rfl
@[simp] theorem State.onYrd_rdm : (s.onYrd f).rdm = s.rdm := rfl
@[simp] theorem State.onYrd_yrd : (s.onYrd f).yrd = f s.yrd := rfl
@[simp] theorem State.onYrd_cph : (s.onYrd f).cph = s.cph := rfl
@[simp] theorem State.onYrd_med : (s.onYrd f).med = s.med := rfl
@[simp] theorem State.onYrd_twn : (s.onYrd f).twn = s.twn := rfl
@[simp] theorem State.onYrd_sent : (s.onYrd f).sent = s.sent := rfl
@[simp] theorem State.onYrd_fresh : (s.onYrd f).fresh = s.fresh := rfl
@[simp] theorem State.onYrd_pending : (s.onYrd f).pending = s.pending := rfl
@[simp] theorem State.onYrd_get : (s.onYrd f).get r = s.get r := rfl

end

section
variable (f : CphSt → CphSt)

/-! ### onCph -/

@[simp] theorem State.onCph_regs : (s.onCph f).regs = s.regs := rfl
@[simp] theorem State.onCph_pwr : (s.onCph f).pwr = s.pwr := rfl
@[simp] theorem State.onCph_evr : (s.onCph f).evr = s.evr := rfl
@[simp] theorem State.onCph_store : (s.onCph f).store = s.store := rfl
@[simp] theorem State.onCph_sess : (s.onCph f).sess = s.sess := rfl
@[simp] theorem State.onCph_mbx : (s.onCph f).mbx = s.mbx := rfl
@[simp] theorem State.onCph_fmn : (s.onCph f).fmn = s.fmn := rfl
@[simp] theorem State.onCph_frm : (s.onCph f).frm = s.frm := rfl
@[simp] theorem State.onCph_jnb : (s.onCph f).jnb = s.jnb := rfl
@[simp] theorem State.onCph_cis : (s.onCph f).cis = s.cis := rfl
@[simp] theorem State.onCph_tir : (s.onCph f).tir = s.tir := rfl
@[simp] theorem State.onCph_win : (s.onCph f).win = s.win := rfl
@[simp] theorem State.onCph_hpt : (s.onCph f).hpt = s.hpt := rfl
@[simp] theorem State.onCph_rdm : (s.onCph f).rdm = s.rdm := rfl
@[simp] theorem State.onCph_yrd : (s.onCph f).yrd = s.yrd := rfl
@[simp] theorem State.onCph_cph : (s.onCph f).cph = f s.cph := rfl
@[simp] theorem State.onCph_med : (s.onCph f).med = s.med := rfl
@[simp] theorem State.onCph_twn : (s.onCph f).twn = s.twn := rfl
@[simp] theorem State.onCph_sent : (s.onCph f).sent = s.sent := rfl
@[simp] theorem State.onCph_fresh : (s.onCph f).fresh = s.fresh := rfl
@[simp] theorem State.onCph_pending : (s.onCph f).pending = s.pending := rfl
@[simp] theorem State.onCph_get : (s.onCph f).get r = s.get r := rfl

end

section
variable (f : MedSt → MedSt)

/-! ### onMed -/

@[simp] theorem State.onMed_regs : (s.onMed f).regs = s.regs := rfl
@[simp] theorem State.onMed_pwr : (s.onMed f).pwr = s.pwr := rfl
@[simp] theorem State.onMed_evr : (s.onMed f).evr = s.evr := rfl
@[simp] theorem State.onMed_store : (s.onMed f).store = s.store := rfl
@[simp] theorem State.onMed_sess : (s.onMed f).sess = s.sess := rfl
@[simp] theorem State.onMed_mbx : (s.onMed f).mbx = s.mbx := rfl
@[simp] theorem State.onMed_fmn : (s.onMed f).fmn = s.fmn := rfl
@[simp] theorem State.onMed_frm : (s.onMed f).frm = s.frm := rfl
@[simp] theorem State.onMed_jnb : (s.onMed f).jnb = s.jnb := rfl
@[simp] theorem State.onMed_cis : (s.onMed f).cis = s.cis := rfl
@[simp] theorem State.onMed_tir : (s.onMed f).tir = s.tir := rfl
@[simp] theorem State.onMed_win : (s.onMed f).win = s.win := rfl
@[simp] theorem State.onMed_hpt : (s.onMed f).hpt = s.hpt := rfl
@[simp] theorem State.onMed_rdm : (s.onMed f).rdm = s.rdm := rfl
@[simp] theorem State.onMed_yrd : (s.onMed f).yrd = s.yrd := rfl
@[simp] theorem State.onMed_cph : (s.onMed f).cph = s.cph := rfl
@[simp] theorem State.onMed_med : (s.onMed f).med = f s.med := rfl
@[simp] theorem State.onMed_twn : (s.onMed f).twn = s.twn := rfl
@[simp] theorem State.onMed_sent : (s.onMed f).sent = s.sent := rfl
@[simp] theorem State.onMed_fresh : (s.onMed f).fresh = s.fresh := rfl
@[simp] theorem State.onMed_pending : (s.onMed f).pending = s.pending := rfl
@[simp] theorem State.onMed_get : (s.onMed f).get r = s.get r := rfl

end

section
variable (f : TwnSt → TwnSt)

/-! ### onTwn -/

@[simp] theorem State.onTwn_regs : (s.onTwn f).regs = s.regs := rfl
@[simp] theorem State.onTwn_pwr : (s.onTwn f).pwr = s.pwr := rfl
@[simp] theorem State.onTwn_evr : (s.onTwn f).evr = s.evr := rfl
@[simp] theorem State.onTwn_store : (s.onTwn f).store = s.store := rfl
@[simp] theorem State.onTwn_sess : (s.onTwn f).sess = s.sess := rfl
@[simp] theorem State.onTwn_mbx : (s.onTwn f).mbx = s.mbx := rfl
@[simp] theorem State.onTwn_fmn : (s.onTwn f).fmn = s.fmn := rfl
@[simp] theorem State.onTwn_frm : (s.onTwn f).frm = s.frm := rfl
@[simp] theorem State.onTwn_jnb : (s.onTwn f).jnb = s.jnb := rfl
@[simp] theorem State.onTwn_cis : (s.onTwn f).cis = s.cis := rfl
@[simp] theorem State.onTwn_tir : (s.onTwn f).tir = s.tir := rfl
@[simp] theorem State.onTwn_win : (s.onTwn f).win = s.win := rfl
@[simp] theorem State.onTwn_hpt : (s.onTwn f).hpt = s.hpt := rfl
@[simp] theorem State.onTwn_rdm : (s.onTwn f).rdm = s.rdm := rfl
@[simp] theorem State.onTwn_yrd : (s.onTwn f).yrd = s.yrd := rfl
@[simp] theorem State.onTwn_cph : (s.onTwn f).cph = s.cph := rfl
@[simp] theorem State.onTwn_med : (s.onTwn f).med = s.med := rfl
@[simp] theorem State.onTwn_twn : (s.onTwn f).twn = f s.twn := rfl
@[simp] theorem State.onTwn_sent : (s.onTwn f).sent = s.sent := rfl
@[simp] theorem State.onTwn_fresh : (s.onTwn f).fresh = s.fresh := rfl
@[simp] theorem State.onTwn_pending : (s.onTwn f).pending = s.pending := rfl
@[simp] theorem State.onTwn_get : (s.onTwn f).get r = s.get r := rfl

end

/-! ### Register fields -/

/-- A register write keeps the table in order. -/
theorem put_regsOk {s : State} {r : Fld} {v : Nat} (h : s.regsOk) : (s.put r v).regsOk := tsorted_tset h

theorem add_regsOk {s : State} {r : Fld} {v : Nat} (h : s.regsOk) : (s.add r v).regsOk := tsorted_tset h

theorem inc_regsOk {s : State} {r : Fld} (h : s.regsOk) : (s.inc r).regsOk := tsorted_tset h

/-- The field written reads as the value, cut to its width. -/
theorem get_put_same {s : State} {r : Fld} {v : Nat} (h : s.regsOk) : (s.put r v).get r = v % 2 ^ r.width := tget_tset_same h

/-- Every other field reads as before. -/
theorem get_put_other {s : State} {r q : Fld} {v : Nat} (h : s.regsOk) (k : q.key ≠ r.key) : (s.put r v).get q = s.get q :=
  tget_tset_other k h

theorem get_add_other {s : State} {r q : Fld} {v : Nat} (h : s.regsOk) (k : q.key ≠ r.key) : (s.add r v).get q = s.get q :=
  get_put_other h k

theorem get_inc_other {s : State} {r q : Fld} (h : s.regsOk) (k : q.key ≠ r.key) : (s.inc r).get q = s.get q :=
  get_put_other h k

/-! ### Guards -/

theorem onLive_next {s : State} {f : State → State} (h : s.live = true) : onLive s f = .next (f s) := by
  rw [onLive, if_pos h]

theorem onUp_next {s : State} {f : State → State} (h : s.up = true) : onUp s f = .next (f s) := by
  rw [onUp, if_pos h]

theorem onServing_next {s : State} {f : State → State} (h : s.up = true) (k : s.serving = true) : onServing s f = .next (f s) := by
  rw [onServing, h, k, if_pos (by decide)]

/-- A mailbox command runs where the module is up, not in SPILL, and the mailbox runs that opcode. -/
theorem onCmd_next {s : State} {f : State → State} {n op : Nat} (h : s.up = true) (k : s.mode ≠ .spill) (g : s.runs n op = true) :
    onCmd n op s f = .next (f s) := by
  rw [onCmd, h, g, if_pos (by simp [k])]

/-- A module that does not run island 0 acts on nothing. -/
theorem onLive_dead {s : State} {f : State → State} (h : s.live = false) : onLive s f = .next s := by
  rw [onLive, if_neg (by simp [h])]

theorem up_dead {s : State} (h : s.live = false) : s.up = false := by
  rw [State.up, h]
  rfl

theorem onUp_dead {s : State} {f : State → State} (h : s.live = false) : onUp s f = .next s := by
  rw [onUp, if_neg (by simp [up_dead h])]

theorem onServing_dead {s : State} {f : State → State} (h : s.live = false) : onServing s f = .next s := by
  rw [onServing, if_neg (by simp [up_dead h])]

theorem onCmd_dead {s : State} {f : State → State} {n op : Nat} (h : s.live = false) : onCmd n op s f = .next s := by
  rw [onCmd, if_neg (by simp [up_dead h])]

end Sys2Proof.Machine
end

