-- ==== Sys2Proof/Laws/Events.lean ====
section
/-!
SUPPORT. Sys2Proof/Laws/Events.lean: what raising an event can do: it writes the logbook, EVR, SVY and CLK_STATE registers, and nothing else.
-/
set_option Elab.async false

namespace Sys2Proof.Machine

open Sys2Proof

/-- The keys of the registers that the logbook and the freeze write: CLK_STATE, EVR and SVY. -/
def logKey (k : Nat) : Bool := k / 512 == 0xA0008 || decide (0xC0000 * 512 ≤ k ∧ k < 0xD0000 * 512) || decide (0x700000 * 512 ≤ k)

/-- Only the logbook and the registers of `logKey` differ. -/
structure LogOnly (s t : State) : Prop where
  rest : t = { s with regs := t.regs, evr := t.evr }
  ok   : s.regsOk → t.regsOk
  get  : s.regsOk → ∀ f : Fld, logKey f.key = false → t.get f = s.get f
  froz : t.evr.frozen = s.evr.frozen

namespace LogOnly

variable {s t u : State}

theorem refl (s : State) : LogOnly s s := { rest := rfl, ok := id, get := fun _ _ _ => rfl, froz := rfl }

theorem trans (h : LogOnly s t) (k : LogOnly t u) : LogOnly s u :=
  { rest := by rw [k.rest, h.rest], froz := k.froz.trans h.froz, ok := fun r => k.ok (h.ok r), get := fun r f hf => (k.get (h.ok r) f hf).trans (h.get r f hf) }

theorem put {f : Fld} {v : Nat} (hf : logKey f.key = true := by decide) : LogOnly s (s.put f v) :=
  { rest := rfl, froz := rfl, ok := put_regsOk, get := fun r g hg => get_put_other r (fun e => by rw [e, hf] at hg; cases hg) }

theorem inc {f : Fld} (hf : logKey f.key = true := by decide) : LogOnly s (s.inc f) := put hf

theorem evr {x : LogSt} (h : x.frozen = s.evr.frozen := by rfl) : LogOnly s { s with evr := x } :=
  { rest := rfl, ok := id, get := fun _ _ _ => rfl, froz := h }

end LogOnly

variable (s : State) (event subject detail source window cause index : Nat)

theorem evrSync_logOnly : LogOnly s (evrSync s) :=
  (LogOnly.put (v := _)).trans ((LogOnly.put (v := _)).trans ((LogOnly.put (v := _)).trans ((LogOnly.put (v := _)).trans (LogOnly.put (v := _)))))

theorem pushRec_logOnly (r : LogRec) : LogOnly s (pushRec s r) := ((LogOnly.evr).trans LogOnly.inc).trans (evrSync_logOnly _)

theorem makeRec_logOnly : LogOnly s (makeRec event subject detail source window s).1 := by
  unfold makeRec
  split
  · exact (LogOnly.evr).trans LogOnly.inc
  · split
    · exact (LogOnly.evr).trans LogOnly.inc
    · split
      · exact (LogOnly.evr).trans ((pushRec_logOnly _ _).trans LogOnly.inc)
      · exact pushRec_logOnly s _

theorem freezeNow_logOnly : LogOnly s (freezeNow cause index s) :=
  (makeRec_logOnly s 0x0D10 cause (s.epoch + 2) (eventSource 0x0D10 cause) 0).trans ((LogOnly.evr).trans
    ((LogOnly.put (v := _)).trans ((LogOnly.put (v := _)).trans ((LogOnly.put (v := _)).trans (LogOnly.put (v := _))))))

theorem freezeTrigger_logOnly : LogOnly s (freezeTrigger cause index s) := by
  unfold freezeTrigger
  split
  · exact .refl s
  · split
    · split
      · exact .evr
      · exact .refl s
    · exact freezeNow_logOnly s cause index

/-- Raising an event changes the logbook and the registers of `logKey`, and nothing else. -/
theorem raiseW_logOnly : LogOnly s (raiseW event subject detail source window s) := by
  have h := makeRec_logOnly s event subject detail source window
  unfold raiseW
  split
  · rename_i t e
    rw [e] at h
    exact h
  · rename_i t e
    rw [e] at h
    split
    · split
      · exact h
      · exact h.trans (freezeTrigger_logOnly _ _ _)
    · exact h

theorem raise_logOnly : LogOnly s (raise event subject detail s) := raiseW_logOnly s event subject detail (eventSource event subject) 0

theorem raiseRl_logOnly : LogOnly s (raiseRl event subject detail s) := raiseW_logOnly s event subject detail (eventSource event subject) 1000000

theorem raise_get {s : State} {event subject detail : Nat} {f : Fld} (h : s.regsOk) (k : logKey f.key = false) :
    (raise event subject detail s).get f = s.get f := (raise_logOnly s event subject detail).get h f k

theorem raiseRl_get {s : State} {event subject detail : Nat} {f : Fld} (h : s.regsOk) (k : logKey f.key = false) :
    (raiseRl event subject detail s).get f = s.get f := (raiseRl_logOnly s event subject detail).get h f k

theorem raise_regsOk {s : State} {event subject detail : Nat} (h : s.regsOk) : (raise event subject detail s).regsOk :=
  (raise_logOnly s event subject detail).ok h

@[simp] theorem raiseW_pwr : (raiseW event subject detail source window s).pwr = s.pwr := by rw [(raiseW_logOnly s event subject detail source window).rest]
@[simp] theorem raiseW_store : (raiseW event subject detail source window s).store = s.store := by rw [(raiseW_logOnly s event subject detail source window).rest]
@[simp] theorem raiseW_sess : (raiseW event subject detail source window s).sess = s.sess := by rw [(raiseW_logOnly s event subject detail source window).rest]
@[simp] theorem raiseW_mbx : (raiseW event subject detail source window s).mbx = s.mbx := by rw [(raiseW_logOnly s event subject detail source window).rest]
@[simp] theorem raiseW_fmn : (raiseW event subject detail source window s).fmn = s.fmn := by rw [(raiseW_logOnly s event subject detail source window).rest]
@[simp] theorem raiseW_frm : (raiseW event subject detail source window s).frm = s.frm := by rw [(raiseW_logOnly s event subject detail source window).rest]
@[simp] theorem raiseW_jnb : (raiseW event subject detail source window s).jnb = s.jnb := by rw [(raiseW_logOnly s event subject detail source window).rest]
@[simp] theorem raiseW_cis : (raiseW event subject detail source window s).cis = s.cis := by rw [(raiseW_logOnly s event subject detail source window).rest]
@[simp] theorem raiseW_tir : (raiseW event subject detail source window s).tir = s.tir := by rw [(raiseW_logOnly s event subject detail source window).rest]
@[simp] theorem raiseW_win : (raiseW event subject detail source window s).win = s.win := by rw [(raiseW_logOnly s event subject detail source window).rest]
@[simp] theorem raiseW_hpt : (raiseW event subject detail source window s).hpt = s.hpt := by rw [(raiseW_logOnly s event subject detail source window).rest]
@[simp] theorem raiseW_rdm : (raiseW event subject detail source window s).rdm = s.rdm := by rw [(raiseW_logOnly s event subject detail source window).rest]
@[simp] theorem raiseW_yrd : (raiseW event subject detail source window s).yrd = s.yrd := by rw [(raiseW_logOnly s event subject detail source window).rest]
@[simp] theorem raiseW_cph : (raiseW event subject detail source window s).cph = s.cph := by rw [(raiseW_logOnly s event subject detail source window).rest]
@[simp] theorem raiseW_med : (raiseW event subject detail source window s).med = s.med := by rw [(raiseW_logOnly s event subject detail source window).rest]
@[simp] theorem raiseW_twn : (raiseW event subject detail source window s).twn = s.twn := by rw [(raiseW_logOnly s event subject detail source window).rest]
@[simp] theorem raiseW_sent : (raiseW event subject detail source window s).sent = s.sent := by rw [(raiseW_logOnly s event subject detail source window).rest]
@[simp] theorem raiseW_fresh : (raiseW event subject detail source window s).fresh = s.fresh := by rw [(raiseW_logOnly s event subject detail source window).rest]
@[simp] theorem raiseW_pending : (raiseW event subject detail source window s).pending = s.pending := by rw [(raiseW_logOnly s event subject detail source window).rest]

@[simp] theorem raise_pwr : (raise event subject detail s).pwr = s.pwr := by rw [(raise_logOnly s event subject detail).rest]
@[simp] theorem raise_store : (raise event subject detail s).store = s.store := by rw [(raise_logOnly s event subject detail).rest]
@[simp] theorem raise_sess : (raise event subject detail s).sess = s.sess := by rw [(raise_logOnly s event subject detail).rest]
@[simp] theorem raise_mbx : (raise event subject detail s).mbx = s.mbx := by rw [(raise_logOnly s event subject detail).rest]
@[simp] theorem raise_fmn : (raise event subject detail s).fmn = s.fmn := by rw [(raise_logOnly s event subject detail).rest]
@[simp] theorem raise_frm : (raise event subject detail s).frm = s.frm := by rw [(raise_logOnly s event subject detail).rest]
@[simp] theorem raise_jnb : (raise event subject detail s).jnb = s.jnb := by rw [(raise_logOnly s event subject detail).rest]
@[simp] theorem raise_cis : (raise event subject detail s).cis = s.cis := by rw [(raise_logOnly s event subject detail).rest]
@[simp] theorem raise_tir : (raise event subject detail s).tir = s.tir := by rw [(raise_logOnly s event subject detail).rest]
@[simp] theorem raise_win : (raise event subject detail s).win = s.win := by rw [(raise_logOnly s event subject detail).rest]
@[simp] theorem raise_hpt : (raise event subject detail s).hpt = s.hpt := by rw [(raise_logOnly s event subject detail).rest]
@[simp] theorem raise_rdm : (raise event subject detail s).rdm = s.rdm := by rw [(raise_logOnly s event subject detail).rest]
@[simp] theorem raise_yrd : (raise event subject detail s).yrd = s.yrd := by rw [(raise_logOnly s event subject detail).rest]
@[simp] theorem raise_cph : (raise event subject detail s).cph = s.cph := by rw [(raise_logOnly s event subject detail).rest]
@[simp] theorem raise_med : (raise event subject detail s).med = s.med := by rw [(raise_logOnly s event subject detail).rest]
@[simp] theorem raise_twn : (raise event subject detail s).twn = s.twn := by rw [(raise_logOnly s event subject detail).rest]
@[simp] theorem raise_sent : (raise event subject detail s).sent = s.sent := by rw [(raise_logOnly s event subject detail).rest]
@[simp] theorem raise_fresh : (raise event subject detail s).fresh = s.fresh := by rw [(raise_logOnly s event subject detail).rest]
@[simp] theorem raise_pending : (raise event subject detail s).pending = s.pending := by rw [(raise_logOnly s event subject detail).rest]

@[simp] theorem raiseRl_pwr : (raiseRl event subject detail s).pwr = s.pwr := by rw [(raiseRl_logOnly s event subject detail).rest]
@[simp] theorem raiseRl_store : (raiseRl event subject detail s).store = s.store := by rw [(raiseRl_logOnly s event subject detail).rest]
@[simp] theorem raiseRl_sess : (raiseRl event subject detail s).sess = s.sess := by rw [(raiseRl_logOnly s event subject detail).rest]
@[simp] theorem raiseRl_mbx : (raiseRl event subject detail s).mbx = s.mbx := by rw [(raiseRl_logOnly s event subject detail).rest]
@[simp] theorem raiseRl_fmn : (raiseRl event subject detail s).fmn = s.fmn := by rw [(raiseRl_logOnly s event subject detail).rest]
@[simp] theorem raiseRl_frm : (raiseRl event subject detail s).frm = s.frm := by rw [(raiseRl_logOnly s event subject detail).rest]
@[simp] theorem raiseRl_jnb : (raiseRl event subject detail s).jnb = s.jnb := by rw [(raiseRl_logOnly s event subject detail).rest]
@[simp] theorem raiseRl_cis : (raiseRl event subject detail s).cis = s.cis := by rw [(raiseRl_logOnly s event subject detail).rest]
@[simp] theorem raiseRl_tir : (raiseRl event subject detail s).tir = s.tir := by rw [(raiseRl_logOnly s event subject detail).rest]
@[simp] theorem raiseRl_win : (raiseRl event subject detail s).win = s.win := by rw [(raiseRl_logOnly s event subject detail).rest]
@[simp] theorem raiseRl_hpt : (raiseRl event subject detail s).hpt = s.hpt := by rw [(raiseRl_logOnly s event subject detail).rest]
@[simp] theorem raiseRl_rdm : (raiseRl event subject detail s).rdm = s.rdm := by rw [(raiseRl_logOnly s event subject detail).rest]
@[simp] theorem raiseRl_yrd : (raiseRl event subject detail s).yrd = s.yrd := by rw [(raiseRl_logOnly s event subject detail).rest]
@[simp] theorem raiseRl_cph : (raiseRl event subject detail s).cph = s.cph := by rw [(raiseRl_logOnly s event subject detail).rest]
@[simp] theorem raiseRl_med : (raiseRl event subject detail s).med = s.med := by rw [(raiseRl_logOnly s event subject detail).rest]
@[simp] theorem raiseRl_twn : (raiseRl event subject detail s).twn = s.twn := by rw [(raiseRl_logOnly s event subject detail).rest]
@[simp] theorem raiseRl_sent : (raiseRl event subject detail s).sent = s.sent := by rw [(raiseRl_logOnly s event subject detail).rest]
@[simp] theorem raiseRl_fresh : (raiseRl event subject detail s).fresh = s.fresh := by rw [(raiseRl_logOnly s event subject detail).rest]
@[simp] theorem raiseRl_pending : (raiseRl event subject detail s).pending = s.pending := by rw [(raiseRl_logOnly s event subject detail).rest]
end Sys2Proof.Machine
end

