-- ==== Sys2Proof/Laws/Evolve.lean ====
section
/-!
SUPPORT. Sys2Proof/Laws/Evolve.lean: how the frame `Evolves` is carried through a meaning: it is reflexive and transitive, and the ways a meaning is built
(a register write, a change of one part of the state, a choice, a fold) keep it.
-/
set_option Elab.async false

namespace Sys2Proof.Machine

open Sys2Proof

/-- Where an outcome is a next state, that state has evolved from `s0`. -/
def OutEvolves (s0 : State) : Out → Prop
  | .next t => Evolves s0 t
  | _ => True

/-- Where an operation answers a state, that state has evolved from `s0`. -/
def OptEvolves (s0 : State) : Option State → Prop
  | some t => Evolves s0 t
  | none => True

/-- As `OptEvolves`, for an operation that answers a state with a value. -/
def OptEvolves2 {α : Type} (s0 : State) : Option (α × State) → Prop
  | some r => Evolves s0 r.2
  | none => True

namespace Evolves

variable {s0 s t u : State}

theorem refl (s : State) : Evolves s s :=
  { regs := id, pending := rfl, sent := List.suffix_refl _, fresh := Nat.le_refl _, variant := rfl, serial := rfl, ident := rfl }

theorem trans (h : Evolves s t) (k : Evolves t u) : Evolves s u :=
  { regs := fun r => k.regs (h.regs r), pending := k.pending.trans h.pending, sent := h.sent.trans k.sent, fresh := Nat.le_trans h.fresh k.fresh,
    variant := k.variant.trans h.variant, serial := k.serial.trans h.serial, ident := k.ident.trans h.ident }

/-- A change of a part of the state that `Evolves` does not speak of. -/
theorem same (h : Evolves s0 s) (hr : t.regs = s.regs := by rfl) (hp : t.pending = s.pending := by rfl) (hs : t.sent = s.sent := by rfl)
    (hf : t.fresh = s.fresh := by rfl) (hv : t.store.variantB = s.store.variantB := by rfl) (hn : t.store.serial = s.store.serial := by rfl)
    (hi : t.store.identity = s.store.identity := by rfl) : Evolves s0 t :=
  h.trans { regs := fun r => by rw [State.regsOk, hr]; exact r, pending := hp, sent := hs ▸ List.suffix_refl _, fresh := Nat.le_of_eq hf.symm, variant := hv,
            serial := hn, ident := hi }

theorem ite {c : Prop} [Decidable c] (h : Evolves s0 s) (k : Evolves s0 t) : Evolves s0 (if c then s else t) := by
  split
  · exact h
  · exact k

theorem foldl {α : Type} {f : State → α → State} : ∀ {l : List α} {s : State}, Evolves s0 s →
    (∀ u x, Evolves s0 u → Evolves s0 (f u x)) → Evolves s0 (l.foldl f s)
  | [], _, h, _ => h
  | x :: l, s, h, k => by
    rw [List.foldl_cons]
    exact foldl (k s x h) k

theorem fst_mk {α : Type} {a : α} (h : Evolves s0 s) : Evolves s0 (s, a).1 := h

theorem snd_mk {α : Type} {a : α} (h : Evolves s0 s) : Evolves s0 (a, s).2 := h

/-- A state that a match on an operation's answer names. -/
theorem of_fst {α : Type} {p : State × α} {a : α} (e : p = (s, a)) (h : Evolves s0 p.1) : Evolves s0 s := by
  rw [e] at h
  exact h

theorem of_snd {α : Type} {p : α × State} {a : α} (e : p = (a, s)) (h : Evolves s0 p.2) : Evolves s0 s := by
  rw [e] at h
  exact h

theorem of_some {o : Option State} (e : o = some s) (h : OptEvolves s0 o) : Evolves s0 s := by
  rw [e] at h
  exact h

theorem of_some2 {α : Type} {o : Option (α × State)} {a : α} (e : o = some (a, s)) (h : OptEvolves2 s0 o) : Evolves s0 s := by
  rw [e] at h
  exact h

end Evolves

variable {s0 s : State}

theorem OptEvolves.getD {o : Option State} (h : OptEvolves s0 o) (k : Evolves s0 s) : Evolves s0 (o.getD s) := by
  cases o with
  | none => exact k
  | some t => exact h

theorem OptEvolves.map {o : Option State} {f : State → State} (h : OptEvolves s0 o) (k : ∀ t, Evolves s0 t → Evolves s0 (f t)) :
    OptEvolves s0 (o.map f) := by
  cases o with
  | none => trivial
  | some t => exact k t h

theorem OptEvolves2.map {α : Type} {o : Option (α × State)} {f : α × State → State} (h : OptEvolves2 s0 o)
    (k : ∀ r : α × State, Evolves s0 r.2 → Evolves s0 (f r)) : OptEvolves s0 (o.map f) := by
  cases o with
  | none => trivial
  | some r => exact k r h

theorem OptEvolves2.map2 {α β : Type} {o : Option (α × State)} {f : α × State → β × State} (h : OptEvolves2 s0 o)
    (k : ∀ r : α × State, Evolves s0 r.2 → Evolves s0 (f r).2) : OptEvolves2 s0 (o.map f) := by
  cases o with
  | none => trivial
  | some r => exact k r h

/-- A register write. -/
theorem State.put_evolves {f : Fld} {v : Nat} (h : Evolves s0 s) : Evolves s0 (s.put f v) :=
  h.trans { Evolves.refl s with regs := fun r => tsorted_tset r }

/-- A message sent. -/
theorem State.send_evolves {m : Msg} (h : Evolves s0 s) : Evolves s0 (s.send m) :=
  h.trans { Evolves.refl s with sent := List.suffix_cons _ _ }

/-- A free value drawn. -/
theorem State.free_evolves {w : Nat} (h : Evolves s0 s) : Evolves s0 (s.free w).2 :=
  h.trans { Evolves.refl s with fresh := Nat.le_succ _ }

/-- Free bytes drawn. -/
theorem State.freeBytes_evolves {n : Nat} (h : Evolves s0 s) : Evolves s0 (s.freeBytes n).2 :=
  h.trans { Evolves.refl s with fresh := Nat.le_succ _ }

/-- A change of the firmware store that leaves what is burnt in. -/
theorem State.onStore_evolves {f : StoreSt → StoreSt} (h : Evolves s0 s) (hv : (f s.store).variantB = s.store.variantB := by rfl)
    (hn : (f s.store).serial = s.store.serial := by rfl) (hi : (f s.store).identity = s.store.identity := by rfl) : Evolves s0 (s.onStore f) :=
  h.trans { Evolves.refl s with variant := hv, serial := hn, ident := hi }

theorem onLive_evolves {f : State → State} (h : Evolves s0 s) (k : ∀ t, Evolves s0 t → Evolves s0 (f t)) : OutEvolves s0 (onLive s f) :=
  Evolves.ite (k s h) h

theorem onUp_evolves {f : State → State} (h : Evolves s0 s) (k : ∀ t, Evolves s0 t → Evolves s0 (f t)) : OutEvolves s0 (onUp s f) :=
  Evolves.ite (k s h) h

theorem onServing_evolves {f : State → State} (h : Evolves s0 s) (k : ∀ t, Evolves s0 t → Evolves s0 (f t)) :
    OutEvolves s0 (onServing s f) :=
  Evolves.ite (k s h) h

theorem onCmd_evolves {m op : Nat} {f : State → State} (h : Evolves s0 s) (k : ∀ t, Evolves s0 t → Evolves s0 (f t)) :
    OutEvolves s0 (onCmd m op s f) :=
  Evolves.ite (k s h) h

theorem onLd_evolves {port ld : Nat} {f : State → State} (h : Evolves s0 s) (k : ∀ t, Evolves s0 t → Evolves s0 (f t)) :
    OutEvolves s0 (onLd port ld s f) :=
  Evolves.ite (k s h) h

theorem onFm_evolves {port : Nat} {f : State → State} (h : Evolves s0 s) (k : ∀ t, Evolves s0 t → Evolves s0 (f t)) :
    OutEvolves s0 (onFm port s f) :=
  Evolves.ite (k s h) h

theorem onPrivate_evolves {tdi : Nat} {f : State → State} (h : Evolves s0 s) (k : ∀ t, Evolves s0 t → Evolves s0 (f t)) :
    OutEvolves s0 (onPrivate tdi s f) :=
  Evolves.ite h (Evolves.ite (State.send_evolves h) (k s h))

end Sys2Proof.Machine
end

