-- ==== Sys2Proof/Laws/EvolveOps.lean ====
section
/-!
SUPPORT. Sys2Proof/Laws/EvolveOps.lean: what every command leaves in place (`Evolves`), one lemma for each of
the shared operations of Machine/Ops.lean, TierOps.lean, WindowOps.lean and LinkOps.lean.
-/
set_option Elab.async false

namespace Sys2Proof.Machine

open Sys2Proof

/-! ### Ops -/

theorem State.add_evolves {s0 s : State} {a1 a2} (h : Evolves s0 s) : Evolves s0 (State.add s a1 a2) := by
  unfold State.add
  exact State.put_evolves h

theorem State.inc_evolves {s0 s : State} {a1} (h : Evolves s0 s) : Evolves s0 (State.inc s a1) := by
  unfold State.inc
  exact State.add_evolves h

theorem State.sub_evolves {s0 s : State} {a1 a2} (h : Evolves s0 s) : Evolves s0 (State.sub s a1 a2) := by
  unfold State.sub
  exact State.put_evolves h

theorem State.addSat_evolves {s0 s : State} {a1 a2} (h : Evolves s0 s) : Evolves s0 (State.addSat s a1 a2) := by
  unfold State.addSat
  exact State.put_evolves h

theorem State.onPwr_evolves {s0 s : State} {a1} (h : Evolves s0 s) : Evolves s0 (State.onPwr s a1) := by
  unfold State.onPwr
  exact .same h

theorem State.onEvr_evolves {s0 s : State} {a1} (h : Evolves s0 s) : Evolves s0 (State.onEvr s a1) := by
  unfold State.onEvr
  exact .same h

theorem State.onMbx_evolves {s0 s : State} {a1} (h : Evolves s0 s) : Evolves s0 (State.onMbx s a1) := by
  unfold State.onMbx
  exact .same h

theorem State.onFmn_evolves {s0 s : State} {a1} (h : Evolves s0 s) : Evolves s0 (State.onFmn s a1) := by
  unfold State.onFmn
  exact .same h

theorem State.onFrm_evolves {s0 s : State} {a1} (h : Evolves s0 s) : Evolves s0 (State.onFrm s a1) := by
  unfold State.onFrm
  exact .same h

theorem State.onJnb_evolves {s0 s : State} {a1} (h : Evolves s0 s) : Evolves s0 (State.onJnb s a1) := by
  unfold State.onJnb
  exact .same h

theorem State.onCis_evolves {s0 s : State} {a1} (h : Evolves s0 s) : Evolves s0 (State.onCis s a1) := by
  unfold State.onCis
  exact .same h

theorem State.onTir_evolves {s0 s : State} {a1} (h : Evolves s0 s) : Evolves s0 (State.onTir s a1) := by
  unfold State.onTir
  exact .same h

theorem State.onHpt_evolves {s0 s : State} {a1} (h : Evolves s0 s) : Evolves s0 (State.onHpt s a1) := by
  unfold State.onHpt
  exact .same h

theorem State.onRdm_evolves {s0 s : State} {a1} (h : Evolves s0 s) : Evolves s0 (State.onRdm s a1) := by
  unfold State.onRdm
  exact .same h

theorem State.onYrd_evolves {s0 s : State} {a1} (h : Evolves s0 s) : Evolves s0 (State.onYrd s a1) := by
  unfold State.onYrd
  exact .same h

theorem State.onCph_evolves {s0 s : State} {a1} (h : Evolves s0 s) : Evolves s0 (State.onCph s a1) := by
  unfold State.onCph
  exact .same h

theorem State.onMed_evolves {s0 s : State} {a1} (h : Evolves s0 s) : Evolves s0 (State.onMed s a1) := by
  unfold State.onMed
  exact .same h

theorem State.onTwn_evolves {s0 s : State} {a1} (h : Evolves s0 s) : Evolves s0 (State.onTwn s a1) := by
  unfold State.onTwn
  exact .same h

theorem evrSync_evolves {s0 s : State} (h : Evolves s0 s) : Evolves s0 (evrSync s) := by
  unfold evrSync
  extract_lets -merge -underBinder x0
  clear_value x0
  exact State.put_evolves (State.put_evolves (State.put_evolves (State.put_evolves (State.put_evolves h))))

theorem pushRec_evolves {s0 s : State} {a1} (h : Evolves s0 s) : Evolves s0 (pushRec s a1) := by
  unfold pushRec
  extract_lets -merge -underBinder x0
  clear_value x0
  exact evrSync_evolves (State.inc_evolves (.same h))

theorem makeRec_evolves {s0 s : State} {a0 a1 a2 a3 a4} (h : Evolves s0 s) : Evolves s0 (makeRec a0 a1 a2 a3 a4 s).1 := by
  unfold makeRec
  extract_lets -merge -underBinder x0 x1 x2 x3 x4 x5 x6
  clear_value x0 x1
  have h2 : Evolves s0 x2 := (.same h)
  clear_value x2 x3 x4
  have h5 : Evolves s0 x5 := (.same h)
  clear_value x5 x6
  split
  · exact .fst_mk (State.inc_evolves h2)
  · split
    · exact .fst_mk (State.inc_evolves h5)
    · split
      · exact .fst_mk (State.inc_evolves (pushRec_evolves (.same h)))
      · exact .fst_mk (pushRec_evolves h)

theorem freezeNow_evolves {s0 s : State} {a0 a1} (h : Evolves s0 s) : Evolves s0 (freezeNow a0 a1 s) := by
  unfold freezeNow
  extract_lets -merge -underBinder x0 x1 x2 x3
  clear_value x0
  have h1 : Evolves s0 x1 := (makeRec_evolves h)
  clear_value x1 x2
  have h3 : Evolves s0 x3 := (.same h1)
  clear_value x3
  exact State.put_evolves (State.put_evolves (State.put_evolves (State.put_evolves h3)))

theorem freezeTrigger_evolves {s0 s : State} {a0 a1} (h : Evolves s0 s) : Evolves s0 (freezeTrigger a0 a1 s) := by
  unfold freezeTrigger
  extract_lets -merge -underBinder x0
  clear_value x0
  exact .ite h (.ite (.ite (.same h) h) (freezeNow_evolves h))

theorem raiseW_evolves {s0 s : State} {a0 a1 a2 a3 a4} (h : Evolves s0 s) : Evolves s0 (raiseW a0 a1 a2 a3 a4 s) := by
  unfold raiseW
  split
  · rename_i y0 hq
    have g0 : Evolves s0 y0 := .of_fst hq (makeRec_evolves h)
    exact g0
  · rename_i y1 hq
    have g1 : Evolves s0 y1 := .of_fst hq (makeRec_evolves h)
    split
    · exact .ite g1 (freezeTrigger_evolves g1)
    · exact g1

theorem raise_evolves {s0 s : State} {a0 a1 a2} (h : Evolves s0 s) : Evolves s0 (raise a0 a1 a2 s) := by
  unfold raise
  exact raiseW_evolves h

theorem raiseRl_evolves {s0 s : State} {a0 a1 a2} (h : Evolves s0 s) : Evolves s0 (raiseRl a0 a1 a2 s) := by
  unfold raiseRl
  exact raiseW_evolves h

theorem onPort_evolves {s0 s : State} {a0 a1} (h : Evolves s0 s) : Evolves s0 (onPort a0 a1 s) := by
  unfold onPort
  exact State.onTwn_evolves h

theorem downSync_evolves {s0 s : State} (h : Evolves s0 s) : Evolves s0 (downSync s) := by
  unfold downSync
  exact .ite (State.onTwn_evolves h) (State.onTwn_evolves h)

theorem sendParity_evolves {s0 s : State} {a0} (h : Evolves s0 s) : Evolves s0 (sendParity a0 s) := by
  unfold sendParity
  extract_lets -merge -underBinder x0 x1 x2
  clear_value x0 x1
  have h2 : Evolves s0 x2 := (onPort_evolves h)
  clear_value x2
  exact State.inc_evolves (State.send_evolves h2)

theorem sendOn_evolves {s0 s : State} {a0 a1 a2 a3 a4} (h : Evolves s0 s) : Evolves s0 (sendOn a0 a1 a2 a3 a4 s) := by
  unfold sendOn
  extract_lets -merge -underBinder x0 x1 x2 x3 x4
  clear_value x0 x1
  have h2 : Evolves s0 x2 := (onPort_evolves h)
  clear_value x2
  have h3 : Evolves s0 x3 := (State.inc_evolves (State.add_evolves (State.inc_evolves (State.send_evolves h2))))
  clear_value x3
  have h4 : Evolves s0 x4 := (.ite (sendParity_evolves h3) h3)
  clear_value x4
  exact .ite (raise_evolves (downSync_evolves (State.put_evolves h4))) h4

theorem linkSend_evolves {s0 s : State} {a0 a1 a2 a3} (h : Evolves s0 s) : Evolves s0 (linkSend a0 a1 a2 a3 s) := by
  unfold linkSend
  extract_lets -merge -underBinder x0
  have h0 : Evolves s0 x0.2 := (State.free_evolves h)
  clear_value x0
  exact .ite (sendOn_evolves h0) (.ite (sendOn_evolves h) (.ite (sendOn_evolves h) h))

theorem admitSync_evolves {s0 s : State} (h : Evolves s0 s) : Evolves s0 (admitSync s) := by
  unfold admitSync
  extract_lets -merge -underBinder x0 x1 x2 x3 x4
  have h0 : Evolves s0 x0 := (State.put_evolves h)
  clear_value x0
  have h1 : Evolves s0 x1 := (State.put_evolves h0)
  clear_value x1 x2 x3
  have h4 : Evolves s0 x4 := (State.put_evolves (State.put_evolves h1))
  clear_value x4
  exact .ite h4 (linkSend_evolves h4)

theorem countCompletion_evolves {s0 s : State} {a0 a1} (h : Evolves s0 s) : Evolves s0 (countCompletion a0 a1 s) := by
  unfold countCompletion
  split
  · exact State.inc_evolves h
  · exact State.inc_evolves h
  · exact State.inc_evolves (State.inc_evolves h)
  · exact State.inc_evolves h

theorem notify_evolves {s0 s : State} {a0} (h : Evolves s0 s) : Evolves s0 (notify a0 s) := by
  unfold notify
  exact .ite h (.ite (.ite (State.put_evolves (State.send_evolves h)) h) (.ite (State.put_evolves (State.put_evolves (State.send_evolves h))) h))

theorem completeW_evolves {s0 s : State} {a0 a1 a2 a3 a4 a5} (h : Evolves s0 s) : Evolves s0 (completeW a0 a1 a2 a3 a4 a5 s) := by
  unfold completeW
  extract_lets -merge -underBinder x0 x1 x2 x3 x4
  clear_value x0
  have h1 : Evolves s0 x1 := (.same h)
  clear_value x1
  have h2 : Evolves s0 x2 := (State.put_evolves (State.put_evolves (State.put_evolves (State.put_evolves h1))))
  clear_value x2
  have h3 : Evolves s0 x3 := (State.put_evolves (State.put_evolves h2))
  clear_value x3
  have h4 : Evolves s0 x4 := (State.put_evolves (State.put_evolves (State.put_evolves h3)))
  clear_value x4
  exact notify_evolves (countCompletion_evolves h4)

theorem complete_evolves {s0 s : State} {a0 a1} (h : Evolves s0 s) : Evolves s0 (complete a0 a1 s) := by
  unfold complete
  exact completeW_evolves h

theorem refuse_evolves {s0 s : State} {a0 a1 a2} (h : Evolves s0 s) : Evolves s0 (refuse a0 a1 a2 s) := by
  unfold refuse
  exact completeW_evolves h

theorem refuseBusy_evolves {s0 s : State} {a0} (h : Evolves s0 s) : Evolves s0 (refuseBusy a0 s) := by
  unfold refuseBusy
  exact completeW_evolves h

theorem countReaches_evolves {s0 s : State} {a0 a1} (h : Evolves s0 s) : Evolves s0 (countReaches a0 a1 s) := by
  unfold countReaches
  exact (.foldl h (fun _ _ h0 => (by
      extract_lets -merge -underBinder x1
      clear_value x1
      exact (.ite (State.addSat_evolves h0) (State.put_evolves h0)))))

theorem countLd_evolves {s0 s : State} {a0} (h : Evolves s0 s) : Evolves s0 (countLd a0 s) := by
  unfold countLd
  extract_lets -merge -underBinder x0 x1
  clear_value x0 x1
  exact .ite h (State.put_evolves h)

theorem tellReach_evolves {s0 s : State} {a0} (h : Evolves s0 s) : Evolves s0 (tellReach a0 s) := by
  unfold tellReach
  exact linkSend_evolves h

theorem tellLocal_evolves {s0 s : State} {a0 a1} (h : Evolves s0 s) : Evolves s0 (tellLocal a0 a1 s) := by
  unfold tellLocal
  exact .ite (.foldl h (fun _ _ h0 => (tellReach_evolves h0))) h

theorem freeWindow_evolves {s0 s : State} {a0} (h : Evolves s0 s) : Evolves s0 (freeWindow a0 s) := by
  unfold freeWindow
  split
  · exact h
  · exact countLd_evolves (countReaches_evolves (.same h))

theorem modWindow_evolves {s0 s : State} {a0 a1} (h : Evolves s0 s) : Evolves s0 (modWindow a0 a1 s) := by
  unfold modWindow
  exact .same h

theorem closeIfIdle_evolves {s0 s : State} {a0} (h : Evolves s0 s) : Evolves s0 (closeIfIdle a0 s) := by
  unfold closeIfIdle
  split
  · exact h
  · extract_lets -merge -underBinder x2 x3
    have h2 : Evolves s0 x2 := (tellLocal_evolves (modWindow_evolves h))
    clear_value x2
    have h3 : Evolves s0 x3 := (.foldl h2 (fun _ _ h4 => (complete_evolves h4)))
    clear_value x3
    exact .ite (.ite h3 (freeWindow_evolves h3)) h

theorem endAccess_evolves {s0 s : State} {a0} (h : Evolves s0 s) : Evolves s0 (endAccess a0 s) := by
  unfold endAccess
  exact closeIfIdle_evolves (modWindow_evolves h)

theorem ticketSync_evolves {s0 s : State} {a0} (h : Evolves s0 s) : Evolves s0 (ticketSync a0 s) := by
  unfold ticketSync
  exact .ite (State.put_evolves h) h

theorem giveTicket_evolves {s0 s : State} {a0} (h : Evolves s0 s) : Evolves s0 (giveTicket a0 s) := by
  unfold giveTicket
  split
  · exact h
  · exact ticketSync_evolves (State.onFrm_evolves (State.onCis_evolves h))

theorem mediaSync_evolves {s0 s : State} (h : Evolves s0 s) : Evolves s0 (mediaSync s) := by
  unfold mediaSync
  exact .foldl h (fun _ _ h0 => (State.put_evolves h0))

theorem dropHostOps_evolves {s0 s : State} (h : Evolves s0 s) : Evolves s0 (dropHostOps s) := by
  unfold dropHostOps
  extract_lets -merge -underBinder x0 x1 x2 x3 x4 x5 x6 x8 x15
  clear_value x0 x1
  have h2 : Evolves s0 x2 := (State.onCis_evolves h)
  clear_value x2
  have h3 : Evolves s0 x3 := (State.onTir_evolves h2)
  clear_value x3
  have h4 : Evolves s0 x4 := (State.onHpt_evolves h3)
  clear_value x4
  have h5 : Evolves s0 x5 := (State.onRdm_evolves h4)
  clear_value x5
  have h6 : Evolves s0 x6 := (.foldl h5 (fun _ _ h7 => (endAccess_evolves (giveTicket_evolves h7))))
  clear_value x6
  have h8 : Evolves s0 x8 := (.foldl h6 (fun _ _ h9 => (by
        extract_lets -merge -underBinder x10
        have h10 : Evolves s0 x10 := (by
            unfold x10
            split
            · exact giveTicket_evolves h9
            · exact h9)
        clear_value x10
        split
        · exact endAccess_evolves h10
        · exact h10)))
  clear_value x8
  have h15 : Evolves s0 x15 := (.foldl h8 (fun _ _ h16 => (State.put_evolves (State.put_evolves (State.put_evolves (State.put_evolves h16))))))
  clear_value x15
  exact State.put_evolves h15

theorem spillwaySync_evolves {s0 s : State} (h : Evolves s0 s) : Evolves s0 (spillwaySync s) := by
  unfold spillwaySync
  exact State.put_evolves (State.put_evolves h)

theorem eraseSlot_evolves {s0 s : State} {a0} (h : Evolves s0 s) : Evolves s0 (eraseSlot a0 s) := by
  unfold eraseSlot
  exact spillwaySync_evolves (State.onMed_evolves h)

theorem eraseRestored_evolves {s0 s : State} (h : Evolves s0 s) : Evolves s0 (eraseRestored s) := by
  unfold eraseRestored
  split
  · exact eraseSlot_evolves (State.onMed_evolves h)
  · exact h

theorem setMode_evolves {s0 s : State} {a0} (h : Evolves s0 s) : Evolves s0 (setMode a0 s) := by
  unfold setMode
  extract_lets -merge -underBinder x0 x1 x2 x3 x4 x5
  clear_value x0
  have h1 : Evolves s0 x1 := (State.inc_evolves (State.put_evolves (State.put_evolves h)))
  clear_value x1
  have h2 : Evolves s0 x2 := (State.put_evolves h1)
  clear_value x2
  have h3 : Evolves s0 x3 := (State.put_evolves h2)
  clear_value x3
  have h4 : Evolves s0 x4 := (.ite (raise_evolves (State.inc_evolves h3)) h3)
  clear_value x4
  have h5 : Evolves s0 x5 := (.ite (eraseRestored_evolves (State.onTwn_evolves (State.onStore_evolves h4))) h4)
  clear_value x5
  exact .ite h (mediaSync_evolves (admitSync_evolves (raise_evolves h5)))

theorem setPair_evolves {s0 s : State} {a0} (h : Evolves s0 s) : Evolves s0 (setPair a0 s) := by
  unfold setPair
  extract_lets -merge -underBinder x0
  clear_value x0
  exact .ite h (mediaSync_evolves (raise_evolves (State.put_evolves h)))

theorem dropTwinWork_evolves {s0 s : State} (h : Evolves s0 s) : Evolves s0 (dropTwinWork s) := by
  unfold dropTwinWork
  extract_lets -merge -underBinder x0 x4 x5 x6
  have h0 : Evolves s0 x0 := (.foldl h (fun _ _ h1 => (by
        split
        · exact refuse_evolves h1
        · exact h1)))
  clear_value x0
  have h4 : Evolves s0 x4 := (State.onTwn_evolves h0)
  clear_value x4
  have h6 : Evolves s0 x6 := (.foldl h4 (fun _ _ h7 => (by
        split
        · exact .ite (refuse_evolves h7) h7
        · exact h7)))
  clear_value x6
  exact State.onTwn_evolves h6

theorem dropSplit_evolves {s0 s : State} (h : Evolves s0 s) : Evolves s0 (dropSplit s) := by
  unfold dropSplit
  extract_lets -merge -underBinder x0 x4
  have h0 : Evolves s0 x0 := (by
      unfold x0
      split
      · exact complete_evolves h
      · exact refuse_evolves h
      · exact h)
  clear_value x0
  have h4 : Evolves s0 x4 := (by
      unfold x4
      split
      · exact refuse_evolves h0
      · exact h0)
  clear_value x4
  exact State.onTwn_evolves h4

theorem fenceSelf_evolves {s0 s : State} (h : Evolves s0 s) : Evolves s0 (fenceSelf s) := by
  unfold fenceSelf
  extract_lets -merge -underBinder x0
  have h0 : Evolves s0 x0 := (State.onPwr_evolves (dropHostOps_evolves (dropSplit_evolves (dropTwinWork_evolves h))))
  clear_value x0
  exact setMode_evolves (setPair_evolves (State.onTwn_evolves h0))

theorem setBlock_evolves {s0 s : State} {a0 a1} (h : Evolves s0 s) : Evolves s0 (setBlock a0 a1 s) := by
  unfold setBlock
  extract_lets -merge -underBinder x0 x1
  clear_value x0 x1
  exact State.put_evolves h

theorem resizeCistern_evolves {s0 s : State} (h : Evolves s0 s) : Evolves s0 (resizeCistern s) := by
  unfold resizeCistern
  extract_lets -merge -underBinder x0 x1 x2 x3 x4 x5 x6 x7 x8 x9
  clear_value x0 x1
  clear_value x2 x3
  have h4 : Evolves s0 x4 := (State.put_evolves (State.put_evolves (State.put_evolves h)))
  clear_value x4
  have h5 : Evolves s0 x5 := (State.put_evolves h4)
  clear_value x5
  have h6 : Evolves s0 x6 := (State.put_evolves h5)
  clear_value x6
  have h7 : Evolves s0 x7 := (setBlock_evolves (setBlock_evolves h6))
  clear_value x7
  have h8 : Evolves s0 x8 := (.ite (raise_evolves h7) h7)
  clear_value x8
  have h9 : Evolves s0 x9 := (.ite (raise_evolves h8) h8)
  clear_value x9
  exact .ite (admitSync_evolves (State.put_evolves h9)) (admitSync_evolves h9)

theorem hgSync_evolves {s0 s : State} (h : Evolves s0 s) : Evolves s0 (hgSync s) := by
  unfold hgSync
  exact State.put_evolves (State.put_evolves (State.put_evolves (State.put_evolves h)))

theorem hgGive_evolves {s0 s : State} {a0} (h : Evolves s0 s) : Evolves s0 (hgGive a0 s) := by
  unfold hgGive
  extract_lets -merge -underBinder x0
  clear_value x0
  exact hgSync_evolves (State.inc_evolves (.same h))

theorem hgRequest_evolves {s0 s : State} {a0} (h : Evolves s0 s) : Evolves s0 (hgRequest a0 s).2 := by
  unfold hgRequest
  extract_lets -merge -underBinder x0
  clear_value x0
  split
  · exact .snd_mk (State.inc_evolves h)
  · split
    · exact .snd_mk (hgGive_evolves h)
    · exact .snd_mk (hgSync_evolves (State.inc_evolves (.same h)))

theorem hgGrants_evolves {s0 : State} : ∀ {n : Nat} {s : State}, Evolves s0 s → Evolves s0 (hgGrants n s)
  | 0, _, h => h
  | n + 1, s, h => by
    unfold hgGrants
    split
    · exact h
    · exact hgGrants_evolves (hgGive_evolves (.same h))

theorem hgServe_evolves {s0 s : State} (h : Evolves s0 s) : Evolves s0 (hgServe s) := by
  unfold hgServe
  exact hgGrants_evolves (hgSync_evolves h)

theorem hgReturn_evolves {s0 s : State} {a0} (h : Evolves s0 s) : Evolves s0 (hgReturn a0 s) := by
  unfold hgReturn
  extract_lets -merge -underBinder x0
  clear_value x0
  exact hgServe_evolves (.same h)

theorem hgWithdraw_evolves {s0 s : State} (h : Evolves s0 s) : Evolves s0 (hgWithdraw s) := by
  unfold hgWithdraw
  extract_lets -merge -underBinder x0 x1
  clear_value x0 x1
  exact hgSync_evolves (State.add_evolves (State.put_evolves (.same h)))

theorem unitFault_evolves {s0 s : State} {a0} (h : Evolves s0 s) : Evolves s0 (unitFault a0 s) := by
  unfold unitFault
  exact State.put_evolves (State.put_evolves (State.put_evolves h))

theorem unitServing_evolves {s0 s : State} {a0} (h : Evolves s0 s) : Evolves s0 (unitServing a0 s) := by
  unfold unitServing
  exact State.put_evolves (State.put_evolves (State.put_evolves h))

theorem trained_evolves {s0 s : State} {a0} (h : Evolves s0 s) : Evolves s0 (trained a0 s) := by
  unfold trained
  extract_lets -merge -underBinder x0
  clear_value x0
  exact .ite (State.put_evolves (State.put_evolves h)) (.ite (State.put_evolves (State.put_evolves h)) h)

theorem degradedSync_evolves {s0 s : State} (h : Evolves s0 s) : Evolves s0 (degradedSync s) := by
  unfold degradedSync
  extract_lets -merge -underBinder x0 x1
  clear_value x0 x1
  exact .ite h (linkSend_evolves (State.put_evolves h))

theorem cubSync_evolves {s0 s : State} (h : Evolves s0 s) : Evolves s0 (cubSync s) := by
  unfold cubSync
  extract_lets -merge -underBinder x0 x1
  clear_value x0
  have h1 : Evolves s0 x1 := (State.put_evolves (State.put_evolves (State.put_evolves h)))
  clear_value x1
  exact State.put_evolves h1

theorem markGran_evolves {s0 s : State} {a0} (h : Evolves s0 s) : Evolves s0 (markGran a0 s) := by
  unfold markGran
  extract_lets -merge -underBinder x0 x1
  clear_value x0 x1
  exact .ite h (.ite (cubSync_evolves (State.onTwn_evolves h)) (cubSync_evolves (State.onTwn_evolves h)))

theorem stopService_evolves {s0 s : State} (h : Evolves s0 s) : Evolves s0 (stopService s) := by
  unfold stopService
  extract_lets -merge -underBinder x0
  clear_value x0
  exact .same h

theorem spillMarks_evolves {s0 s : State} (h : Evolves s0 s) : Evolves s0 (spillMarks s) := by
  unfold spillMarks
  exact .ite (.foldl h (fun _ _ h0 => (.ite (markGran_evolves h0) h0))) h

theorem spillOnInput_evolves {s0 s : State} {a0 a1} (h : Evolves s0 s) : Evolves s0 (spillOnInput a0 a1 s) := by
  unfold spillOnInput
  exact .ite h (State.onPwr_evolves (spillMarks_evolves (stopService_evolves h)))

theorem failStop_evolves {s0 s : State} (h : Evolves s0 s) : Evolves s0 (failStop s) := by
  unfold failStop
  exact .ite (spillOnInput_evolves h) (.ite (fenceSelf_evolves h) h)

theorem failFatal_evolves {s0 s : State} (h : Evolves s0 s) : Evolves s0 (failFatal s) := by
  unfold failFatal
  extract_lets -merge -underBinder x0
  have h0 : Evolves s0 x0 := (failStop_evolves h)
  clear_value x0
  exact .ite (State.onTwn_evolves h0) h0

theorem stashStop_evolves {s0 s : State} (h : Evolves s0 s) : Evolves s0 (stashStop s) := by
  unfold stashStop
  exact .ite (State.onStore_evolves h) h

theorem perstSync_evolves {s0 s : State} (h : Evolves s0 s) : Evolves s0 (perstSync s) := by
  unfold perstSync
  exact .foldl h (fun _ _ h0 => (State.put_evolves h0))

theorem clearIslands_evolves {s0 s : State} (h : Evolves s0 s) : Evolves s0 (clearIslands s) :=
  have k := stashStop_evolves h
  perstSync_evolves (k.trans { Evolves.refl (stashStop s) with regs := fun r => tsorted_filter r })

theorem cleanStop_evolves {s0 s : State} {a0} (h : Evolves s0 s) : Evolves s0 (cleanStop a0 s) := by
  unfold cleanStop
  exact .ite (State.onStore_evolves h) h

theorem resetLog_evolves {s0 s : State} {a0 a1 a2 a3} (h : Evolves s0 s) : Evolves s0 (resetLog a0 a1 a2 a3 s) := by
  unfold resetLog
  extract_lets -merge -underBinder x0 x1
  have h0 : Evolves s0 x0 := (State.onEvr_evolves (cleanStop_evolves h))
  clear_value x0
  have h1 : Evolves s0 x1 := (State.inc_evolves (State.put_evolves (State.put_evolves (State.put_evolves (State.put_evolves (State.put_evolves h0))))))
  clear_value x1
  exact State.onPwr_evolves (State.put_evolves h1)

theorem resetRegs_evolves {s0 s : State} (h : Evolves s0 s) : Evolves s0 (resetRegs s) := by
  unfold resetRegs
  extract_lets -merge -underBinder x0 x1 x3
  have h0 : Evolves s0 x0 := (hgSync_evolves (State.put_evolves (State.put_evolves h)))
  clear_value x0
  have h1 : Evolves s0 x1 := (.foldl h0 (fun _ _ h2 => (State.put_evolves h2)))
  clear_value x1
  have h3 : Evolves s0 x3 := (State.put_evolves (State.put_evolves h1))
  clear_value x3
  exact State.put_evolves (State.put_evolves (State.put_evolves h3))

theorem resetEvents_evolves {s0 s : State} {a0} (h : Evolves s0 s) : Evolves s0 (resetEvents a0 s) := by
  unfold resetEvents
  extract_lets -merge -underBinder x0
  have h0 : Evolves s0 x0 := (raise_evolves h)
  clear_value x0
  exact .ite (raise_evolves (State.onEvr_evolves h0)) h0

theorem moduleReset_evolves {s0 s : State} {a0 a1 a2 a3} (h : Evolves s0 s) : Evolves s0 (moduleReset a0 a1 a2 a3 s) := by
  unfold moduleReset
  exact resetEvents_evolves (setMode_evolves (resetRegs_evolves (clearIslands_evolves (resetLog_evolves h))))

theorem powerOff_evolves {s0 s : State} (h : Evolves s0 s) : Evolves s0 (powerOff s) := by
  unfold powerOff
  extract_lets -merge -underBinder x0 x1
  have h0 : Evolves s0 x0 := (stashStop_evolves h)
  clear_value x0 x1
  exact .same h0

theorem enterBringup_evolves {s0 s : State} (h : Evolves s0 s) : Evolves s0 (enterBringup s) := by
  unfold enterBringup
  extract_lets -merge -underBinder x0 x1 x2 x3
  clear_value x0
  have h1 : Evolves s0 x1 := (.same h)
  clear_value x1
  have h2 : Evolves s0 x2 := (State.put_evolves (State.put_evolves (State.put_evolves (State.put_evolves (State.put_evolves h1)))))
  clear_value x2
  have h3 : Evolves s0 x3 := (State.put_evolves (State.put_evolves h2))
  clear_value x3
  exact hgSync_evolves (setMode_evolves h3)

theorem ethDown_evolves {s0 s : State} (h : Evolves s0 s) : Evolves s0 (ethDown s) := by
  unfold ethDown
  exact .foldl h (fun _ _ h0 => (State.put_evolves h0))

theorem frameSync_evolves {s0 s : State} {a0} (h : Evolves s0 s) : Evolves s0 (frameSync a0 s) := by
  unfold frameSync
  extract_lets -merge -underBinder x0 x1 x2 x3
  clear_value x0
  have h1 : Evolves s0 x1 := (State.put_evolves (State.put_evolves (State.put_evolves (State.put_evolves (State.put_evolves h)))))
  clear_value x1
  have h2 : Evolves s0 x2 := (State.put_evolves h1)
  clear_value x2
  have h3 : Evolves s0 x3 := (State.put_evolves h2)
  clear_value x3
  exact State.put_evolves h3

theorem loseFrames_evolves {s0 s : State} (h : Evolves s0 s) : Evolves s0 (loseFrames s) := by
  unfold loseFrames
  exact .foldl (State.onFrm_evolves h) (fun _ _ h0 => (frameSync_evolves h0))

theorem abortPegs_evolves {s0 s : State} (h : Evolves s0 s) : Evolves s0 (abortPegs s) := by
  unfold abortPegs
  exact .foldl h (fun _ _ h0 => (completeW_evolves h0))

theorem enterRecovery_evolves {s0 s : State} (h : Evolves s0 s) : Evolves s0 (enterRecovery s) := by
  unfold enterRecovery
  extract_lets -merge -underBinder x0 x1 x2
  have h0 : Evolves s0 x0 := (ethDown_evolves (loseFrames_evolves (abortPegs_evolves h)))
  clear_value x0 x1
  have h2 : Evolves s0 x2 := (setMode_evolves (.same h0))
  clear_value x2
  split
  · exact complete_evolves (State.onPwr_evolves h2)
  · exact h2

theorem preReset_evolves {s0 s : State} {a0} (h : Evolves s0 s) : Evolves s0 (preReset a0 s) := by
  unfold preReset
  exact spillOnInput_evolves (.ite (fenceSelf_evolves (spillMarks_evolves h)) h)

theorem applyAfter_evolves {s0 s : State} {a0 a1 a2 a3} (h : Evolves s0 s) : Evolves s0 (applyAfter a0 a1 a2 a3 s) := by
  unfold applyAfter
  split
  · extract_lets -merge -underBinder x1
    clear_value x1
    exact .ite (moduleReset_evolves (.same h)) (powerOff_evolves h)
  · exact enterRecovery_evolves (stashStop_evolves h)
  · extract_lets -merge -underBinder x4
    clear_value x4
    exact moduleReset_evolves (.same h)
  · exact moduleReset_evolves h

theorem hostViolation_evolves {s0 s : State} {a0} (h : Evolves s0 s) : Evolves s0 (hostViolation a0 s) := by
  unfold hostViolation
  extract_lets -merge -underBinder x0
  have h0 : Evolves s0 x0 := (State.onHpt_evolves h)
  clear_value x0
  exact State.addSat_evolves (State.addSat_evolves h0)

theorem jrnlSync_evolves {s0 s : State} (h : Evolves s0 s) : Evolves s0 (jrnlSync s) := by
  unfold jrnlSync
  extract_lets -merge -underBinder x0 x1
  clear_value x0 x1
  exact State.put_evolves (State.put_evolves (State.put_evolves (State.put_evolves h)))

theorem jrnlWord_evolves {s0 s : State} (h : Evolves s0 s) : Evolves s0 (jrnlWord s) := by
  unfold jrnlWord
  extract_lets -merge -underBinder x0
  have h0 : Evolves s0 x0 := (.ite h (raise_evolves (State.onStore_evolves h)))
  clear_value x0
  exact State.onStore_evolves h0

theorem jrnlLink_evolves {s0 s : State} (h : Evolves s0 s) : Evolves s0 (jrnlLink s) := by
  unfold jrnlLink
  exact jrnlSync_evolves (jrnlWord_evolves h)

/-! ### Media -/

theorem storeSync_evolves {s0 s : State} (h : Evolves s0 s) : Evolves s0 (storeSync s) := by
  unfold storeSync
  extract_lets -merge -underBinder x0 x1 x2 x3 x4
  clear_value x0
  have h1 : Evolves s0 x1 := (State.put_evolves (State.put_evolves (State.put_evolves h)))
  clear_value x1
  have h2 : Evolves s0 x2 := (State.put_evolves (State.put_evolves h1))
  clear_value x2
  have h3 : Evolves s0 x3 := (State.put_evolves (State.put_evolves h2))
  clear_value x3
  have h4 : Evolves s0 x4 := (State.put_evolves h3)
  clear_value x4
  exact .foldl h4 (fun _ _ h5 => (State.put_evolves h5))

theorem retryCistern_evolves {s0 s : State} (h : Evolves s0 s) : Evolves s0 (retryCistern s) := by
  unfold retryCistern
  exact .ite (State.put_evolves h) h

/-! ### TierOps -/

theorem poolSync_evolves {s0 s : State} (h : Evolves s0 s) : Evolves s0 (poolSync s) := by
  unfold poolSync
  extract_lets -merge -underBinder x0 x1 x2
  clear_value x0 x1
  have h2 : Evolves s0 x2 := (State.put_evolves (State.put_evolves h))
  clear_value x2
  exact State.put_evolves (State.put_evolves h2)

theorem countFrame_evolves {s0 s : State} {a0 a1 a2} (h : Evolves s0 s) : Evolves s0 (countFrame a0 a1 a2 s) := by
  unfold countFrame
  extract_lets -merge -underBinder x0 x1
  clear_value x0 x1
  exact .ite (.ite (State.sub_evolves (State.add_evolves (State.add_evolves h))) (State.add_evolves (State.sub_evolves (State.sub_evolves h)))) h

theorem setGran_evolves {s0 s : State} {a0 a1} (h : Evolves s0 s) : Evolves s0 (setGran a0 a1 s) := by
  unfold setGran
  extract_lets -merge -underBinder x0 x1 x2
  clear_value x0
  have h1 : Evolves s0 x1 := (countFrame_evolves (countFrame_evolves h))
  clear_value x1
  have h2 : Evolves s0 x2 := (State.onTir_evolves h1)
  clear_value x2
  exact countFrame_evolves (countFrame_evolves h2)

theorem modGran_evolves {s0 s : State} {a0 a1} (h : Evolves s0 s) : Evolves s0 (modGran a0 a1 s) := by
  unfold modGran
  exact setGran_evolves h

theorem touch_evolves {s0 s : State} {a0 a1} (h : Evolves s0 s) : Evolves s0 (touch a0 a1 s) := by
  unfold touch
  extract_lets -merge -underBinder x0 x1 x2 x3
  clear_value x0 x1 x2
  have h3 : Evolves s0 x3 := (setGran_evolves h)
  clear_value x3
  exact .ite (State.inc_evolves h3) h3

theorem allocFloor_evolves {s0 s : State} {a0 a1 a2 a3} (h : Evolves s0 s) : OptEvolves s0 (allocFloor a0 a1 a2 a3 s) := by
  unfold allocFloor
  split
  · exact trivial
  · extract_lets -merge -underBinder x2 x3 x4
    have h2 : Evolves s0 x2.2 := (State.free_evolves h)
    clear_value x2 x3 x4
    exact setGran_evolves (State.onTir_evolves h2)

theorem allocLoft_evolves {s0 s : State} {a0 a1} (h : Evolves s0 s) : OptEvolves s0 (allocLoft a0 a1 s) := by
  unfold allocLoft
  split
  · exact trivial
  · extract_lets -merge -underBinder x2 x3 x4
    have h2 : Evolves s0 x2.2 := (State.free_evolves h)
    clear_value x2 x3 x4
    exact setGran_evolves (State.onTir_evolves h2)

theorem frameWait_evolves {s0 s : State} {a0} (h : Evolves s0 s) : Evolves s0 (frameWait a0 s) := by
  unfold frameWait
  exact State.inc_evolves (State.put_evolves h)

theorem takeLock_evolves {s0 s : State} {a0 a1} (h : Evolves s0 s) : Evolves s0 (takeLock a0 a1 s).2 := by
  unfold takeLock
  extract_lets -merge -underBinder x0
  clear_value x0
  split
  · exact .snd_mk (setGran_evolves h)
  · exact .snd_mk (setGran_evolves h)

theorem dropLock_evolves {s0 s : State} {a0} (h : Evolves s0 s) : Evolves s0 (dropLock a0 s) := by
  unfold dropLock
  exact modGran_evolves h

theorem poolStateSync_evolves {s0 s : State} (h : Evolves s0 s) : Evolves s0 (poolStateSync s) := by
  unfold poolStateSync
  extract_lets -merge -underBinder x0
  exact State.put_evolves (State.put_evolves h)

theorem slotSync_evolves {s0 s : State} (h : Evolves s0 s) : Evolves s0 (slotSync s) := by
  unfold slotSync
  exact State.put_evolves (State.put_evolves (State.put_evolves (State.put_evolves h)))

theorem takeSlot_evolves {s0 s : State} {a0} (h : Evolves s0 s) : OptEvolves2 s0 (takeSlot a0 s) := by
  unfold takeSlot
  extract_lets -merge -underBinder x0
  clear_value x0
  split
  · exact .snd_mk (slotSync_evolves (State.onTir_evolves h))
  · exact trivial

theorem giveSlot_evolves {s0 s : State} {a0} (h : Evolves s0 s) : Evolves s0 (giveSlot a0 s) := by
  unfold giveSlot
  exact slotSync_evolves (State.onTir_evolves h)

theorem setPoison_evolves {s0 s : State} {a0 a1} (h : Evolves s0 s) : Evolves s0 (setPoison a0 a1 s) := by
  unfold setPoison
  exact State.onTir_evolves h

theorem loseLine_evolves {s0 s : State} {a0} (h : Evolves s0 s) : Evolves s0 (loseLine a0 s) := by
  unfold loseLine
  extract_lets -merge -underBinder x0
  have h0 : Evolves s0 x0.2 := (State.freeBytes_evolves h)
  clear_value x0
  exact setPoison_evolves (State.onTir_evolves h0)

theorem injectWrite_evolves {s0 s : State} {a0} (h : Evolves s0 s) : Evolves s0 (injectWrite a0 s) := by
  unfold injectWrite
  split
  · extract_lets -merge -underBinder x3 x4
    clear_value x3
    have h4 : Evolves s0 x4 := (State.put_evolves (State.onTir_evolves h))
    clear_value x4
    exact .ite (.ite (setPoison_evolves h4) h4) h
  · exact h

theorem installLines_evolves {s0 s : State} {a0 a1 a2 a3} (h : Evolves s0 s) : Evolves s0 (installLines a0 a1 a2 a3 s) := by
  unfold installLines
  extract_lets -merge -underBinder x0 x1 x2 x3 x4
  clear_value x1 x2
  clear_value x3 x4
  exact State.onTir_evolves h

theorem putWay_evolves {s0 s : State} {a0 a1 a2} (h : Evolves s0 s) : Evolves s0 (putWay a0 a1 a2 s) := by
  unfold putWay
  exact State.onTir_evolves h

theorem dirtySync_evolves {s0 s : State} {a0} (h : Evolves s0 s) : Evolves s0 (dirtySync a0 s) := by
  unfold dirtySync
  exact State.put_evolves h

theorem victimSync_evolves {s0 s : State} (h : Evolves s0 s) : Evolves s0 (victimSync s) := by
  unfold victimSync
  exact State.put_evolves h

theorem evictWay_evolves {s0 s : State} {a0} (h : Evolves s0 s) : Evolves s0 (evictWay a0 s) := by
  unfold evictWay
  extract_lets -merge -underBinder x0 x1
  clear_value x0
  have h1 : Evolves s0 x1 := (State.inc_evolves h)
  clear_value x1
  exact .ite h1 (victimSync_evolves (State.inc_evolves (State.onTir_evolves h1)))

theorem reserveWay_evolves {s0 s : State} {a0 a1} (h : Evolves s0 s) : Evolves s0 (reserveWay a0 a1 s) := by
  unfold reserveWay
  split
  · exact putWay_evolves h
  · split
    · exact State.put_evolves h
    · extract_lets -merge -underBinder x6 x10
      have h6 : Evolves s0 x6 := (State.put_evolves (.foldl h (fun _ _ h7 => (by
            split
            · exact putWay_evolves h7
            · exact h7))))
      clear_value x6
      have h10 : Evolves s0 x10 := (by
          unfold x10
          split
          · exact evictWay_evolves h6
          · exact h6)
      clear_value x10
      exact dirtySync_evolves (putWay_evolves h10)

theorem issueFill_evolves {s0 s : State} {a0 a1 a2 a3 a4} (h : Evolves s0 s) : Evolves s0 (issueFill a0 a1 a2 a3 a4 s) := by
  unfold issueFill
  exact .ite h (reserveWay_evolves (State.onTir_evolves h))

theorem benchLookup_evolves {s0 s : State} {a0 a1} (h : Evolves s0 s) : Evolves s0 (benchLookup a0 a1 s).2 := by
  unfold benchLookup
  extract_lets -merge -underBinder x0 x1
  clear_value x0 x1
  split
  · exact .snd_mk (State.inc_evolves h)
  · split
    · split
      · exact .snd_mk (State.inc_evolves (putWay_evolves h))
      · exact .snd_mk (State.inc_evolves h)
    · exact .snd_mk (State.inc_evolves h)

theorem benchUpdate_evolves {s0 s : State} {a0} (h : Evolves s0 s) : Evolves s0 (benchUpdate a0 s) := by
  unfold benchUpdate
  split
  · exact .ite (putWay_evolves h) h
  · exact h

/-! ### WindowOps -/

theorem openWindow_evolves {s0 s : State} {a0 a1} (h : Evolves s0 s) : Evolves s0 (openWindow a0 a1 s) := by
  unfold openWindow
  extract_lets -merge -underBinder x0 x1
  have h0 : Evolves s0 x0 := (.same h)
  clear_value x0
  have h1 : Evolves s0 x1 := (State.onRdm_evolves h0)
  clear_value x1
  exact countLd_evolves (countReaches_evolves (tellLocal_evolves h1))

theorem startClose_evolves {s0 s : State} {a0 a1} (h : Evolves s0 s) : Evolves s0 (startClose a0 a1 s) := by
  unfold startClose
  exact closeIfIdle_evolves (modWindow_evolves h)

theorem beginAccess_evolves {s0 s : State} {a0} (h : Evolves s0 s) : Evolves s0 (beginAccess a0 s) := by
  unfold beginAccess
  exact modWindow_evolves h

theorem takeTicket_evolves {s0 s : State} {a0} (h : Evolves s0 s) : OptEvolves2 s0 (takeTicket a0 s) := by
  unfold takeTicket
  extract_lets -merge -underBinder x0
  clear_value x0
  split
  · exact .snd_mk (ticketSync_evolves (State.onCis_evolves h))
  · exact trivial

/-! ### LinkOps -/

theorem clearGran_evolves {s0 s : State} {a0} (h : Evolves s0 s) : Evolves s0 (clearGran a0 s) := by
  unfold clearGran
  extract_lets -merge -underBinder x0 x1
  clear_value x0 x1
  exact .ite (cubSync_evolves (State.onTwn_evolves h)) (cubSync_evolves (State.onTwn_evolves h))

end Sys2Proof.Machine
end

