-- ==== Sys2Proof/Laws/EvolveCistern.lean ====
section
/-!
SUPPORT. Sys2Proof/Laws/EvolveCistern.lean: what every command leaves in place (`Evolves`), one lemma for each of
the shared operations of the cistern, the ports, the drain, the reaches, the tiers, the yard and the twin link.
-/
set_option Elab.async false

namespace Sys2Proof.Machine

open Sys2Proof

/-! ### CisternOps -/

theorem place_evolves {s0 s : State} {a0} (h : Evolves s0 s) : Evolves s0 (place a0 s) := by
  unfold place
  extract_lets -merge -underBinder x0 x1 x2 x3 x4 x5 x6 x7 x8 x9 x10
  clear_value x0 x1
  clear_value x2 x3
  have h4 : Evolves s0 x4 := (.ite (State.add_evolves (State.put_evolves (State.onCis_evolves h))) h)
  clear_value x4 x5 x6
  have h7 : Evolves s0 x7 := (State.inc_evolves (State.put_evolves (State.onCis_evolves h4)))
  clear_value x7
  have h8 : Evolves s0 x8 := (State.add_evolves h7)
  clear_value x8
  have h9 : Evolves s0 x9 := (modGran_evolves h8)
  clear_value x9
  have h10 : Evolves s0 x10 := (.ite (.ite (markGran_evolves h9) (.ite (State.onTwn_evolves h9) h9)) (.ite (State.inc_evolves h8) h8))
  clear_value x10
  exact admitSync_evolves h10

theorem append_evolves {s0 s : State} {a0 a1} (h : Evolves s0 s) : Evolves s0 (append a0 a1 s) := by
  unfold append
  exact .ite (State.onCis_evolves h) (place_evolves h)

theorem resumeAppends_evolves {s0 : State} : ∀ {n : Nat} {s : State}, Evolves s0 s → Evolves s0 (resumeAppends n s)
  | 0, _, h => h
  | n + 1, s, h => by
    unfold resumeAppends
    split
    · exact h
    · exact .ite h (resumeAppends_evolves (place_evolves (State.onCis_evolves h)))

theorem applyLine_evolves {s0 s : State} {a0 a1} (h : Evolves s0 s) : Evolves s0 (applyLine a0 a1 s) := by
  unfold applyLine
  extract_lets -merge -underBinder x0 x1 x2 x3 x4 x5
  clear_value x0 x1 x2
  have h3 : Evolves s0 x3 := (State.onTir_evolves h)
  clear_value x3 x4
  have h5 : Evolves s0 x5 := (.ite (setPoison_evolves h3) (.ite (.ite (State.inc_evolves (setPoison_evolves h3)) h3) h3))
  clear_value x5
  exact benchUpdate_evolves (injectWrite_evolves h5)

theorem startWriteFill_evolves {s0 s : State} {a0} (h : Evolves s0 s) : Evolves s0 (startWriteFill a0 s) := by
  unfold startWriteFill
  exact State.inc_evolves (modGran_evolves h)

theorem prepareApply_evolves {s0 s : State} {a0} (h : Evolves s0 s) : Evolves s0 (prepareApply a0 s).2 := by
  unfold prepareApply
  extract_lets -merge -underBinder x0 x1 x2 x3 x4 x5
  clear_value x0 x1
  clear_value x2 x3 x4
  have h5 : OptEvolves s0 x5 := (by
      unfold x5
      split
      · exact h
      · exact (OptEvolves.map (allocFloor_evolves h) (fun _ h6 => (.ite (startWriteFill_evolves h6) h6))))
  clear_value x5
  split
  · exact .snd_mk h
  · split
    · exact .snd_mk (.ite h (frameWait_evolves h))
    · rename_i y8
      have g8 : Evolves s0 y8 := h5
      extract_lets -merge -underBinder x9
      clear_value x9
      split
      · exact .snd_mk g8
      · exact .snd_mk (modGran_evolves g8)

theorem modRec_evolves {s0 s : State} {a0 a1} (h : Evolves s0 s) : Evolves s0 (modRec a0 a1 s) := by
  unfold modRec
  exact State.onCis_evolves h

theorem advance_evolves {s0 s : State} {a0 a1 a2} (h : Evolves s0 s) : Evolves s0 (advance a0 a1 a2 s) := by
  unfold advance
  exact State.onTwn_evolves (State.onCis_evolves h)

theorem applyRec_evolves {s0 s : State} {a0} (h : Evolves s0 s) : Evolves s0 (applyRec a0 s).2 := by
  unfold applyRec
  extract_lets -merge -underBinder x0 x1
  clear_value x0
  have h1 : Evolves s0 x1.2 := (prepareApply_evolves h)
  clear_value x1
  split
  · exact .snd_mk (State.onTwn_evolves h)
  · split
    · exact .snd_mk (.foldl h1 (fun _ _ h2 => (applyLine_evolves h2)))
    · exact h1

theorem applyPass_evolves {s0 : State} : ∀ {rs : List Rec} {s : State}, Evolves s0 s → Evolves s0 (applyPass rs s)
  | [], _, h => h
  | r :: rs, s, h => by
    unfold applyPass
    exact .ite (applyPass_evolves h) (.ite (.ite (applyPass_evolves (advance_evolves (modRec_evolves h))) (.ite (applyPass_evolves (modRec_evolves h))
      (applyPass_evolves h))) (.ite (.ite (applyPass_evolves (modRec_evolves h)) (applyPass_evolves h)) (.ite (applyPass_evolves h)
      (.ite (applyPass_evolves h) (by
        extract_lets x0 x1
        have h0 : Evolves s0 x0.2 := applyRec_evolves h
        have h1 : Evolves s0 x1 := modRec_evolves h0
        clear_value x1 x0
        exact .ite (applyPass_evolves (.ite (advance_evolves h1) h1)) (applyPass_evolves h0))))))

theorem applyPasses_evolves {s0 : State} : ∀ {n : Nat} {s : State}, Evolves s0 s → Evolves s0 (applyPasses n s)
  | 0, _, h => h
  | n + 1, s, h => by
    unfold applyPasses
    exact .ite (applyPass_evolves h) (applyPasses_evolves (applyPass_evolves h))

theorem applyAll_evolves {s0 s : State} (h : Evolves s0 s) : Evolves s0 (applyAll s) := by
  unfold applyAll
  exact applyPasses_evolves h

theorem respond_evolves {s0 s : State} {a0 a1 a2 a3 a4} (h : Evolves s0 s) : Evolves s0 (respond a0 a1 a2 a3 a4 s) := by
  unfold respond
  exact .ite h (State.send_evolves (State.put_evolves h))

theorem answer_evolves {s0 s : State} {a0 a1 a2} (h : Evolves s0 s) : Evolves s0 (answer a0 a1 a2 s) := by
  unfold answer
  split
  · exact respond_evolves (State.inc_evolves h)
  · exact State.onRdm_evolves h
  · exact linkSend_evolves h
  · exact respond_evolves h
  · exact State.send_evolves h
  · exact h
  · exact h

theorem finishOp_evolves {s0 s : State} {a0 a1 a2} (h : Evolves s0 s) : Evolves s0 (finishOp a0 a1 a2 s) := by
  unfold finishOp
  split
  · exact h
  · exact h
  · exact h
  · extract_lets -merge -underBinder x6
    have h6 : Evolves s0 x6 := (endAccess_evolves (giveTicket_evolves h))
    clear_value x6
    exact State.onCis_evolves h6

theorem gpfSync_evolves {s0 s : State} (h : Evolves s0 s) : Evolves s0 (gpfSync s) := by
  unfold gpfSync
  extract_lets -merge -underBinder x0 x1 x2
  clear_value x0
  have h1 : Evolves s0 x1 := (State.onCis_evolves h)
  clear_value x1
  have h2 : Evolves s0 x2 := (.foldl h1 (fun _ _ h3 => (State.put_evolves (respond_evolves (State.inc_evolves h3)))))
  clear_value x2
  exact State.put_evolves h2

theorem completeOps_evolves {s0 s : State} (h : Evolves s0 s) : Evolves s0 (completeOps s) := by
  unfold completeOps
  extract_lets -merge -underBinder x0 x1 x2
  clear_value x1
  have h2 : Evolves s0 x2 := (State.onCis_evolves h)
  clear_value x2
  exact .ite h (gpfSync_evolves (.foldl h2 (fun _ _ h3 => (answer_evolves (finishOp_evolves h3)))))

theorem sequenceReach_evolves {s0 s : State} {a0 a1 a2 a3} (h : Evolves s0 s) : Evolves s0 (sequenceReach a0 a1 a2 a3 s) := by
  unfold sequenceReach
  extract_lets -merge -underBinder x0 x1 x2
  clear_value x0 x1
  have h2 : Evolves s0 x2 := (State.onCis_evolves h)
  clear_value x2
  exact (.foldl h2 (fun _ _ h3 => (by
      extract_lets -merge -underBinder x4
      have h4 : Evolves s0 x4 := (append_evolves h3)
      clear_value x4
      exact (.ite (linkSend_evolves h4) h4))))

theorem forwardReach_evolves {s0 s : State} {a0 a1} (h : Evolves s0 s) : Evolves s0 (forwardReach a0 a1 s) := by
  unfold forwardReach
  extract_lets -merge -underBinder x0
  clear_value x0
  exact State.put_evolves (linkSend_evolves h)

theorem applyVolatile_evolves {s0 s : State} {a0} (h : Evolves s0 s) : Evolves s0 (applyVolatile a0 s) := by
  unfold applyVolatile
  exact (.foldl h (fun _ _ h0 => (by
      extract_lets -merge -underBinder x1 x2 x3 x5
      clear_value x1 x2
      have h3 : Evolves s0 x3 := (.foldl h0 (fun _ _ h4 => (applyLine_evolves h4)))
      clear_value x3 x5
      exact (modGran_evolves h3))))

theorem sequence_evolves {s0 s : State} {a0 a1 a2} (h : Evolves s0 s) : Evolves s0 (sequence a0 a1 a2 s) := by
  unfold sequence
  extract_lets -merge -underBinder x0 x1 x2 x3 x5 x6
  clear_value x0 x1 x2
  have h3 : Evolves s0 x3 := (.foldl h (fun _ _ h4 => (sequenceReach_evolves h4)))
  clear_value x3 x5
  have h6 : Evolves s0 x6 := (.foldl h3 (fun _ _ h7 => (forwardReach_evolves h7)))
  clear_value x6
  exact State.onCis_evolves h6

theorem trackMiss_evolves {s0 s : State} {a0 a1} (h : Evolves s0 s) : Evolves s0 (trackMiss a0 a1 s).2 := by
  unfold trackMiss
  extract_lets -merge -underBinder x0
  clear_value x0
  split
  · extract_lets -merge -underBinder x2
    clear_value x2
    exact .snd_mk (State.onTir_evolves h)
  · extract_lets -merge -underBinder x4
    clear_value x4
    exact .snd_mk (State.onTir_evolves h)

theorem startFill_evolves {s0 s : State} {a0 a1 a2 a3} (h : Evolves s0 s) : OptEvolves s0 (startFill a0 a1 a2 a3 s) := by
  unfold startFill
  extract_lets -merge -underBinder x0 x1
  have h0 : Evolves s0 x0.2 := (trackMiss_evolves h)
  clear_value x0 x1
  exact (OptEvolves.map (allocFloor_evolves h0) (fun _ h2 => (by
      extract_lets -merge -underBinder x3 x4
      have h3 : Evolves s0 x3 := (modGran_evolves h2)
      clear_value x3
      have h4 : Evolves s0 x4 := (State.inc_evolves h3)
      clear_value x4
      exact (.ite (State.inc_evolves h4) h4))))

theorem maybePromote_evolves {s0 s : State} {a0 a1} (h : Evolves s0 s) : Evolves s0 (maybePromote a0 a1 s) := by
  unfold maybePromote
  extract_lets -merge -underBinder x0
  have h0 : Evolves s0 x0 := (modGran_evolves h)
  clear_value x0
  exact (.ite h (by
      split
      · exact State.inc_evolves h0
      · rename_i y2 y3 hq
        have g3 : Evolves s0 y3 := .of_some2 hq (takeSlot_evolves h0)
        exact (.ite (takeLock_evolves g3) (by
            split
            · exact State.inc_evolves h0
            · rename_i y5 hq
              have g5 : Evolves s0 y5 := .of_some hq (allocLoft_evolves g3)
              exact (takeLock_evolves g5)))))

theorem benchFillFor_evolves {s0 s : State} {a0 a1} (h : Evolves s0 s) : Evolves s0 (benchFillFor a0 a1 s) := by
  unfold benchFillFor
  exact .ite h (.ite (issueFill_evolves (State.inc_evolves h)) (issueFill_evolves h))

theorem poisonedRead_evolves {s0 s : State} {a0 a1} (h : Evolves s0 s) : Evolves s0 (poisonedRead a0 a1 s) := by
  unfold poisonedRead
  extract_lets -merge -underBinder x0
  clear_value x0
  exact .ite h (.ite (State.inc_evolves h) (State.inc_evolves h))

theorem reachLine_evolves {s0 s : State} {a0} (h : Evolves s0 s) : Evolves s0 (reachLine a0 s).2 := by
  unfold reachLine
  extract_lets -merge -underBinder x0 x1 x2 x3 x4 x5 x6
  clear_value x0
  have h1 : Evolves s0 x1.2 := (benchLookup_evolves h)
  clear_value x1
  have h2 : Evolves s0 x2 := h1
  clear_value x2 x3 x4
  have h5 : Evolves s0 x5 := (.ite h2 (touch_evolves (poisonedRead_evolves (State.inc_evolves h2))))
  clear_value x5
  have h6 : Evolves s0 x6 := (.ite h5 (maybePromote_evolves h5))
  clear_value x6
  split
  · exact .snd_mk h
  · split
    · exact .snd_mk h1
    · split
      · exact .snd_mk h2
      · split
        · exact .snd_mk (benchFillFor_evolves h6)
        · split
          · exact .snd_mk h2
          · split
            · split
              · exact .snd_mk (.ite h2 (takeLock_evolves h2))
              · split
                · rename_i y7 hq
                  have g7 : Evolves s0 y7 := .of_some hq (startFill_evolves h2)
                  exact .snd_mk g7
                · exact .snd_mk (.ite h2 (frameWait_evolves h2))
            · exact .snd_mk (State.inc_evolves h2)

theorem consumePoison_evolves {s0 s : State} {a0} (h : Evolves s0 s) : Evolves s0 (consumePoison a0 s) := by
  unfold consumePoison
  extract_lets -merge -underBinder x0
  have h0 : Evolves s0 x0 := (by
      unfold x0
      split
      · exact State.inc_evolves h
      · exact State.inc_evolves h
      · exact h)
  clear_value x0
  exact raiseRl_evolves h0

theorem runAtomic_evolves {s0 s : State} {a0 a1} (h : Evolves s0 s) : Evolves s0 (runAtomic a0 a1 s) := by
  unfold runAtomic
  extract_lets -merge -underBinder x0 x1
  clear_value x0 x1
  exact (.ite (answer_evolves (finishOp_evolves (consumePoison_evolves h))) (by
      split
      · exact answer_evolves (finishOp_evolves h)
      · extract_lets -merge -underBinder x4
        clear_value x4
        exact (.ite (answer_evolves (finishOp_evolves (applyVolatile_evolves h))) (by
            split
            · exact sequenceReach_evolves (State.onCis_evolves h)
            · exact (sequence_evolves h)))))

theorem deliver_evolves {s0 s : State} {a0} (h : Evolves s0 s) : Evolves s0 (deliver a0 s) := by
  unfold deliver
  split
  · exact runAtomic_evolves h
  · extract_lets -merge -underBinder x2 x3
    clear_value x2 x3
    split
    · exact finishOp_evolves h
    · exact finishOp_evolves h
    · extract_lets -merge -underBinder x9
      have h9 : Evolves s0 x9 := (.ite (State.inc_evolves (consumePoison_evolves h)) h)
      clear_value x9
      exact respond_evolves (finishOp_evolves (State.inc_evolves h9))
    · exact answer_evolves (finishOp_evolves (.ite (consumePoison_evolves h) h))

theorem servePass_evolves {s0 : State} : ∀ {rs : List Req} {s : State}, Evolves s0 s → Evolves s0 (servePass rs s)
  | [], _, h => h
  | r :: rs, s, h => by
    unfold servePass
    exact .ite (servePass_evolves (deliver_evolves (State.onTir_evolves (reachLine_evolves h))))
      (servePass_evolves (State.onTir_evolves (reachLine_evolves h)))

theorem serveWaiting_evolves {s0 s : State} (h : Evolves s0 s) : Evolves s0 (serveWaiting s) := by
  unfold serveWaiting
  exact .ite (servePass_evolves h) h

theorem settleOps_evolves {s0 s : State} (h : Evolves s0 s) : Evolves s0 (settleOps s) := by
  unfold settleOps
  exact poolStateSync_evolves (serveWaiting_evolves (completeOps_evolves (applyAll_evolves h)))

theorem request_evolves {s0 s : State} {a0} (h : Evolves s0 s) : Evolves s0 (request a0 s) := by
  unfold request
  extract_lets -merge -underBinder x0 x1 x2
  have h0 : Evolves s0 x0.2 := (reachLine_evolves h)
  clear_value x0 x1
  have h2 : Evolves s0 x2 := (.ite (State.inc_evolves h0) h0)
  clear_value x2
  exact .ite (deliver_evolves h0) (State.onTir_evolves h2)

theorem startOp_evolves {s0 s : State} {a0} (h : Evolves s0 s) : Evolves s0 (startOp a0 s) := by
  unfold startOp
  extract_lets -merge -underBinder x0
  have h0 : Evolves s0 x0 := (.ite (State.onCis_evolves h) h)
  clear_value x0
  split
  · extract_lets -merge -underBinder x2 x3 x4
    clear_value x2 x3
    have h4 : Evolves s0 x4 := (State.put_evolves (linkSend_evolves h0))
    clear_value x4
    exact .ite (request_evolves h0) (State.onCis_evolves h4)
  · exact .ite (answer_evolves (finishOp_evolves (applyVolatile_evolves h0))) (sequence_evolves h0)

theorem admitOp_evolves {s0 s : State} {a0} (h : Evolves s0 s) : Evolves s0 (admitOp a0 s) := by
  unfold admitOp
  exact .ite (State.onCis_evolves h) (startOp_evolves h)

theorem admitOps_evolves {s0 s : State} (h : Evolves s0 s) : Evolves s0 (admitOps s) := by
  unfold admitOps
  extract_lets -merge -underBinder x0
  clear_value x0
  exact .ite (.foldl (State.onCis_evolves h) (fun _ _ h1 => (startOp_evolves h1))) h

/-! ### PortOps -/

theorem noteLd_evolves {s0 s : State} {a0 a1 a2} (h : Evolves s0 s) : Evolves s0 (noteLd a0 a1 a2 s) := by
  unfold noteLd
  exact State.onHpt_evolves h

theorem notePort_evolves {s0 s : State} {a0 a1 a2} (h : Evolves s0 s) : Evolves s0 (notePort a0 a1 a2 s) := by
  unfold notePort
  exact .foldl h (fun _ _ h0 => (noteLd_evolves h0))

theorem refuseMsg_evolves {s0 s : State} {a0 a1} (h : Evolves s0 s) : Evolves s0 (refuseMsg a0 a1 s) := by
  unfold refuseMsg
  extract_lets -merge -underBinder x0 x1 x2 x3
  clear_value x0 x1
  have h2 : Evolves s0 x2 := (raiseRl_evolves (State.inc_evolves h))
  clear_value x2
  have h3 : Evolves s0 x3 := (.ite (noteLd_evolves h2) h2)
  clear_value x3
  exact .ite (respond_evolves h3) (respond_evolves h3)

theorem startRead_evolves {s0 s : State} {a0 a1 a2 a3 a4} (h : Evolves s0 s) : Evolves s0 (startRead a0 a1 a2 a3 a4 s) := by
  unfold startRead
  exact request_evolves (beginAccess_evolves h)

theorem startWrite_evolves {s0 s : State} {a0 a1 a2 a3 a4} (h : Evolves s0 s) : Evolves s0 (startWrite a0 a1 a2 a3 a4 s) := by
  unfold startWrite
  extract_lets -merge -underBinder x0 x1
  have h0 : Evolves s0 x0 := (beginAccess_evolves h)
  clear_value x0
  have h1 : Evolves s0 x1 := (.ite (State.inc_evolves (State.inc_evolves h0)) h0)
  clear_value x1
  exact admitOp_evolves h1

theorem pumpReq_evolves {s0 : State} : ∀ {ms : List HMsg} {stuck : List Nat} {s : State}, Evolves s0 s → Evolves s0 (pumpReq ms stuck s)
  | [], _, _, h => h
  | m :: ms, stuck, s, h => by
    unfold pumpReq
    refine .ite (pumpReq_evolves h) ?_
    extract_lets x0
    split
    · exact pumpReq_evolves (refuseMsg_evolves (State.onHpt_evolves h))
    · split
      · rename_i y z hq
        have g : Evolves s0 z := .of_some2 hq (takeTicket_evolves h)
        exact pumpReq_evolves (startRead_evolves (State.onHpt_evolves g))
      · exact pumpReq_evolves h

theorem pumpRwd_evolves {s0 : State} : ∀ {ms : List HMsg} {stuck : List Nat} {s : State}, Evolves s0 s → Evolves s0 (pumpRwd ms stuck s)
  | [], _, _, h => h
  | m :: ms, stuck, s, h => by
    unfold pumpRwd
    refine .ite (pumpRwd_evolves h) ?_
    extract_lets x0
    split
    · exact pumpRwd_evolves (refuseMsg_evolves (State.onHpt_evolves h))
    · refine .ite (pumpRwd_evolves (State.put_evolves h)) ?_
      split
      · rename_i y z hq
        have g : Evolves s0 z := .of_some2 hq (takeTicket_evolves h)
        exact pumpRwd_evolves (startWrite_evolves (State.onHpt_evolves g))
      · exact pumpRwd_evolves h

theorem queueLens_evolves {s0 s : State} (h : Evolves s0 s) : Evolves s0 (queueLens s) := by
  unfold queueLens
  exact .foldl h (fun _ _ h0 => (State.put_evolves (State.put_evolves h0)))

theorem pumpPorts_evolves {s0 s : State} (h : Evolves s0 s) : Evolves s0 (pumpPorts s) := by
  unfold pumpPorts
  extract_lets -merge -underBinder x0 x2
  have h0 : Evolves s0 x0 := (.foldl h (fun _ _ h1 => (State.put_evolves h1)))
  clear_value x0
  have h2 : Evolves s0 x2 := (pumpReq_evolves h0)
  clear_value x2
  exact .ite h (queueLens_evolves (pumpRwd_evolves h2))

theorem linkLost_evolves {s0 s : State} {a0} (h : Evolves s0 s) : Evolves s0 (linkLost a0 s) := by
  unfold linkLost
  extract_lets -merge -underBinder x0 x1 x2 x3 x5 x6
  have h0 : Evolves s0 x0 := (State.onCis_evolves h)
  clear_value x0
  have h1 : Evolves s0 x1 := (State.onTir_evolves h0)
  clear_value x1
  have h2 : Evolves s0 x2 := (State.onHpt_evolves h1)
  clear_value x2
  have h3 : Evolves s0 x3 := (.foldl h2 (fun _ _ h4 => (State.put_evolves h4)))
  clear_value x3
  have h5 : Evolves s0 x5 := (State.put_evolves (State.put_evolves (State.put_evolves (State.put_evolves (State.put_evolves h3)))))
  clear_value x5
  have h6 : Evolves s0 x6 := (State.inc_evolves (State.put_evolves h5))
  clear_value x6
  exact queueLens_evolves (notePort_evolves (raise_evolves h6))

/-! ### RdmaOps -/

theorem modQp_evolves {s0 s : State} {a0 a1} (h : Evolves s0 s) : Evolves s0 (modQp a0 a1 s) := by
  unfold modQp
  exact State.onRdm_evolves h

theorem modMsg_evolves {s0 s : State} {a0 a1 a2} (h : Evolves s0 s) : Evolves s0 (modMsg a0 a1 a2 s) := by
  unfold modMsg
  exact modQp_evolves h

theorem ingressSync_evolves {s0 s : State} {a0} (h : Evolves s0 s) : Evolves s0 (ingressSync a0 s) := by
  unfold ingressSync
  extract_lets -merge -underBinder x0 x1 x2
  clear_value x0
  have h1 : Evolves s0 x1 := (State.put_evolves h)
  clear_value x1 x2
  exact .ite h1 (.ite (State.send_evolves (State.put_evolves h1)) (.ite (State.send_evolves (State.put_evolves h1)) h1))

theorem rdmSync_evolves {s0 s : State} (h : Evolves s0 s) : Evolves s0 (rdmSync s) := by
  unfold rdmSync
  extract_lets -merge -underBinder x0 x1 x2
  clear_value x0
  have h1 : Evolves s0 x1 := (State.put_evolves (State.put_evolves h))
  clear_value x1
  have h2 : Evolves s0 x2 := (State.put_evolves (State.put_evolves (State.put_evolves (State.put_evolves h1))))
  clear_value x2
  exact .foldl h2 (fun _ _ h3 => (ingressSync_evolves h3))

theorem endMsg_evolves {s0 s : State} {a0} (h : Evolves s0 s) : Evolves s0 (endMsg a0 s) := by
  unfold endMsg
  extract_lets -merge -underBinder x0
  have h0 : Evolves s0 x0 := (by
      unfold x0
      split
      · exact giveTicket_evolves h
      · exact h)
  clear_value x0
  split
  · exact endAccess_evolves h0
  · exact h0

theorem dropMsgs_evolves {s0 s : State} {a0 a1} (h : Evolves s0 s) : Evolves s0 (dropMsgs a0 a1 s) := by
  unfold dropMsgs
  split
  · exact h
  · extract_lets -merge -underBinder x2 x3
    clear_value x2
    have h3 : Evolves s0 x3 := (modQp_evolves h)
    clear_value x3
    exact (.foldl h3 (fun _ _ h4 => (by
        extract_lets -merge -underBinder x5
        have h5 : Evolves s0 x5 := (endMsg_evolves h4)
        clear_value x5
        exact (.ite (by
            split
            · exact State.onRdm_evolves h5
            · exact h5) h5))))

theorem rdmaSend_evolves {s0 s : State} {a0 a1 a2 a3 a4} (h : Evolves s0 s) : Evolves s0 (rdmaSend a0 a1 a2 a3 a4 s) := by
  unfold rdmaSend
  extract_lets -merge -underBinder x0
  clear_value x0
  exact .ite h (.ite (State.onRdm_evolves h) (State.inc_evolves (State.send_evolves h)))

theorem ringWrite_evolves {s0 s : State} {a0 a1 a2 a3 a4 a5 a6} (h : Evolves s0 s) : Evolves s0 (ringWrite a0 a1 a2 a3 a4 a5 a6 s) := by
  unfold ringWrite
  exact admitOp_evolves h

theorem appendReport_evolves {s0 s : State} {a0 a1} (h : Evolves s0 s) : Evolves s0 (appendReport a0 a1 s) := by
  unfold appendReport
  split
  · exact h
  · split
    · exact h
    · extract_lets -merge -underBinder x4 x5 x6
      clear_value x4 x5
      have h6 : Evolves s0 x6 := (State.onRdm_evolves h)
      clear_value x6
      exact .ite h (.ite (raise_evolves h) (ringWrite_evolves h6))

theorem writeReport_evolves {s0 s : State} {a0 a1 a2 a3 a4 a5 a6} (h : Evolves s0 s) : Evolves s0 (writeReport a0 a1 a2 a3 a4 a5 a6 s) := by
  unfold writeReport
  extract_lets -merge -underBinder x0
  clear_value x0
  exact appendReport_evolves (modQp_evolves h)

theorem enterError_evolves {s0 s : State} {a0 a1} (h : Evolves s0 s) : Evolves s0 (enterError a0 a1 s) := by
  unfold enterError
  exact raiseRl_evolves (modQp_evolves h)

theorem failReq_evolves {s0 s : State} {a0 a1 a2 a3 a4 a5} (h : Evolves s0 s) : Evolves s0 (failReq a0 a1 a2 a3 a4 a5 s) := by
  unfold failReq
  split
  · exact h
  · extract_lets -merge -underBinder x2
    have h2 : Evolves s0 x2 := (dropMsgs_evolves h)
    clear_value x2
    exact .ite h (.ite (modQp_evolves h2) h2)

theorem rnrNak_evolves {s0 s : State} {a0 a1 a2} (h : Evolves s0 s) : Evolves s0 (rnrNak a0 a1 a2 s) := by
  unfold rnrNak
  split
  · exact h
  · extract_lets -merge -underBinder x2 x3
    have h2 : Evolves s0 x2 := (dropMsgs_evolves h)
    clear_value x2
    have h3 : Evolves s0 x3 := (modQp_evolves h2)
    clear_value x3
    exact .ite h (rdmaSend_evolves (State.inc_evolves h3))

theorem startMsg_evolves {s0 s : State} {a0 a1} (h : Evolves s0 s) : Evolves s0 (startMsg a0 a1 s) := by
  unfold startMsg
  extract_lets -merge -underBinder x0
  have h0 : Evolves s0 x0 := (modMsg_evolves h)
  clear_value x0
  split
  · exact h0
  · extract_lets -merge -underBinder x4 x5 x6
    clear_value x4 x5 x6
    exact .ite (.foldl (modMsg_evolves h0) (fun _ _ h7 => (request_evolves h7))) (.ite (admitOp_evolves (modMsg_evolves h0)) (.ite (modMsg_evolves h0) h0))

theorem startMsgs_evolves {s0 : State} {q : Nat} : ∀ {before ms : List RMsg} {s : State}, Evolves s0 s → Evolves s0 (startMsgs q before ms s)
  | _, [], _, h => by
    unfold startMsgs
    exact h
  | before, m :: ms, s, h => by
    unfold startMsgs
    refine .ite (startMsgs_evolves h) ?_
    split
    · exact h
    · refine .ite h ?_
      split
      · split
        · exact h
        · rename_i y z hq
          have g : Evolves s0 z := .of_some2 hq (takeTicket_evolves h)
          exact startMsgs_evolves (startMsg_evolves (modMsg_evolves g))
      · exact h
      · exact rnrNak_evolves h

theorem handOn_evolves {s0 s : State} {a0 a1 a2} (h : Evolves s0 s) : Evolves s0 (handOn a0 a1 a2 s) := by
  unfold handOn
  extract_lets -merge -underBinder x0
  have h0 : Evolves s0 x0 := (.ite h (by
        split
        · exact h
        · extract_lets -merge -underBinder x4
          have h4 : Evolves s0 x4 := (modMsg_evolves h)
          clear_value x4
          exact (.foldl h4 (fun _ _ h5 => (ringWrite_evolves h5)))))
  clear_value x0
  exact (.ite h (.ite (by
        split
        · exact h0
        · extract_lets -merge -underBinder x9 x10 x11 x12 x13 x14
          clear_value x9 x10 x11
          have h12 : Evolves s0 x12 := (State.onRdm_evolves h0)
          clear_value x12 x13
          have h14 : Evolves s0 x14 := (modMsg_evolves h12)
          clear_value x14
          exact (ringWrite_evolves h14)) h0))

theorem takeUp_evolves {s0 s : State} {a0} (h : Evolves s0 s) : Evolves s0 (takeUp a0 s) := by
  unfold takeUp
  extract_lets -merge -underBinder x0 x1
  clear_value x0
  have h1 : Evolves s0 x1 := (State.onRdm_evolves h)
  clear_value x1
  exact .foldl h1 (fun _ _ h2 => (modMsg_evolves h2))

theorem moveOn_evolves {s0 s : State} {a0 a1 a2 a3} (h : Evolves s0 s) : Evolves s0 (moveOn a0 a1 a2 a3 s) := by
  unfold moveOn
  extract_lets -merge -underBinder x0
  exact (.ite (.ite (modMsg_evolves h) h) (.ite (.ite (modMsg_evolves h) h) (.ite (by
          split
          · exact (.ite (by
                split
                · exact ringWrite_evolves (modMsg_evolves h)
                · exact (modMsg_evolves h)) h)
          · exact (.ite h (modMsg_evolves h))) (.ite (by
            split
            · exact modMsg_evolves (State.onRdm_evolves h)
            · exact (modMsg_evolves h)) h))))

theorem finalize_evolves {s0 s : State} {a0 a1} (h : Evolves s0 s) : Evolves s0 (finalize a0 a1 s) := by
  unfold finalize
  split
  · exact h
  · extract_lets -merge -underBinder x2 x3 x4 x5
    have h2 : Evolves s0 x2 := (modQp_evolves h)
    clear_value x2
    have h3 : Evolves s0 x3 := (State.inc_evolves h2)
    clear_value x3
    have h4 : Evolves s0 x4 := (.ite (State.add_evolves h3) (.ite (State.add_evolves h3) (.ite (State.inc_evolves h3) (.ite (State.inc_evolves h3) (State.inc_evolves h3)))))
    clear_value x4
    have h5 : Evolves s0 x5 := (.ite (State.onRdm_evolves h4) h4)
    clear_value x5
    exact endMsg_evolves h5

theorem sendAck_evolves {s0 s : State} {a0 a1} (h : Evolves s0 s) : Evolves s0 (sendAck a0 a1 s) := by
  unfold sendAck
  split
  · exact h
  · extract_lets -merge -underBinder x2
    clear_value x2
    split
    · exact h
    · extract_lets -merge -underBinder x5
      have h5 : Evolves s0 x5 := (.foldl (modQp_evolves h) (fun _ _ h6 => (finalize_evolves h6)))
      clear_value x5
      exact .ite (rdmaSend_evolves h5) h5

theorem readPacket_evolves {s0 s : State} {a0 a1 a2} (h : Evolves s0 s) : Evolves s0 (readPacket a0 a1 a2 s) := by
  unfold readPacket
  extract_lets -merge -underBinder x0 x1 x2 x3 x4 x5 x6
  clear_value x0 x1
  clear_value x2 x3
  clear_value x4 x5 x6
  exact (.ite h (by
      split
      · exact raise_evolves (failReq_evolves (dropMsgs_evolves h))
      · extract_lets -merge -underBinder x9 x10 x11 x12
        clear_value x9 x10
        have h11 : Evolves s0 x11 := (rdmaSend_evolves h)
        clear_value x11 x12
        exact (.ite (finalize_evolves h11) (modMsg_evolves h11))))

theorem atomicAnswer_evolves {s0 s : State} {a0 a1 a2} (h : Evolves s0 s) : Evolves s0 (atomicAnswer a0 a1 a2 s) := by
  unfold atomicAnswer
  split
  · exact h
  · exact raise_evolves (failReq_evolves h)
  · extract_lets -merge -underBinder x5
    have h5 : Evolves s0 x5 := (modQp_evolves h)
    clear_value x5
    exact rdmaSend_evolves (finalize_evolves h5)

theorem speak_evolves {s0 s : State} {a0} (h : Evolves s0 s) : Evolves s0 (speak a0 s) := by
  unfold speak
  split
  · exact h
  · extract_lets -merge -underBinder x2
    clear_value x2
    exact (.ite (dropMsgs_evolves h) (by
        split
        · extract_lets -merge -underBinder x4
          clear_value x4
          exact .ite (readPacket_evolves (sendAck_evolves h)) (.ite (atomicAnswer_evolves (sendAck_evolves h)) (.ite (.ite (sendAck_evolves h) (modQp_evolves h)) h))
        · extract_lets -merge -underBinder x6
          clear_value x6
          exact (.ite (sendAck_evolves h) (modQp_evolves h))))

theorem drainQp_evolves {s0 s : State} {a0} (h : Evolves s0 s) : Evolves s0 (drainQp a0 s) := by
  unfold drainQp
  split
  · exact h
  · exact (.ite h (by
        split
        · extract_lets -merge -underBinder x7 x8
          clear_value x7
          have h8 : Evolves s0 x8 := (sendAck_evolves h)
          clear_value x8
          exact (.ite (by
              split
              · exact h8
              · extract_lets -merge -underBinder x11
                have h11 : Evolves s0 x11 := (rdmaSend_evolves (State.inc_evolves h8))
                clear_value x11
                exact (enterError_evolves (writeReport_evolves h11))) h)
        · exact (.ite (enterError_evolves (sendAck_evolves h)) h)))

theorem releaseQp_evolves {s0 s : State} {a0} (h : Evolves s0 s) : Evolves s0 (releaseQp a0 s) := by
  unfold releaseQp
  split
  · exact h
  · extract_lets -merge -underBinder x2
    have h2 : Evolves s0 x2 := (.ite (State.onRdm_evolves h) (modQp_evolves h))
    clear_value x2
    exact .ite h (.foldl h2 (fun _ _ h3 => (complete_evolves h3)))

theorem qpRound_evolves {s0 s : State} {a0} (h : Evolves s0 s) : Evolves s0 (qpRound a0 s) := by
  unfold qpRound
  extract_lets -merge -underBinder x0 x1 x4 x8
  have h0 : Evolves s0 x0 := (takeUp_evolves h)
  clear_value x0
  have h1 : Evolves s0 x1 := (by
      unfold x1
      split
      · exact startMsgs_evolves h0
      · exact h0)
  clear_value x1
  have h4 : Evolves s0 x4 := (by
      unfold x4
      split
      · exact .foldl h1 (fun _ _ h6 => (handOn_evolves h6))
      · exact h1)
  clear_value x4
  have h8 : Evolves s0 x8 := (by
      unfold x8
      split
      · exact .foldl h4 (fun _ _ h10 => (moveOn_evolves h10))
      · exact h4)
  clear_value x8
  exact releaseQp_evolves (drainQp_evolves (speak_evolves h8))

theorem reportRound_evolves {s0 s : State} (h : Evolves s0 s) : Evolves s0 (reportRound s) := by
  unfold reportRound
  extract_lets -merge -underBinder x0 x1 x2
  clear_value x0
  have h1 : Evolves s0 x1 := (State.onRdm_evolves h)
  clear_value x1
  have h2 : Evolves s0 x2 := (.foldl h1 (fun _ _ h3 => (State.onRdm_evolves h3)))
  clear_value x2
  exact (.foldl h2 (fun _ _ h4 => (.ite (by
        split
        · extract_lets -merge -underBinder x6
          have h6 : Evolves s0 x6 := (State.onRdm_evolves h4)
          clear_value x6
          exact ringWrite_evolves h6
        · exact h4) h4)))

theorem rdmaRounds_evolves {s0 : State} : ∀ {n : Nat} {s : State}, Evolves s0 s → Evolves s0 (rdmaRounds n s)
  | 0, _, h => h
  | n + 1, s, h => by
    unfold rdmaRounds
    have g : Evolves s0 (reportRound ((busyQps s).foldl (fun s q => qpRound q s) s)) :=
      reportRound_evolves (.foldl h (fun _ _ k => qpRound_evolves k))
    exact .ite g (rdmaRounds_evolves g)

theorem rdmaSettle_evolves {s0 s : State} (h : Evolves s0 s) : Evolves s0 (rdmaSettle s) := by
  unfold rdmaSettle
  exact .ite h (rdmSync_evolves (rdmaRounds_evolves h))

theorem startFetches_evolves {s0 s : State} (h : Evolves s0 s) : Evolves s0 (startFetches s) := by
  unfold startFetches
  extract_lets -merge -underBinder x0
  clear_value x0
  exact State.add_evolves (State.onRdm_evolves h)

theorem contextLost_evolves {s0 s : State} {a0} (h : Evolves s0 s) : Evolves s0 (contextLost a0 s) := by
  unfold contextLost
  extract_lets -merge -underBinder x0 x1
  clear_value x0
  have h1 : Evolves s0 x1 := (State.onRdm_evolves h)
  clear_value x1
  split
  · exact rdmSync_evolves (startFetches_evolves h1)
  · extract_lets -merge -underBinder x4 x5 x6
    have h4 : Evolves s0 x4 := (State.add_evolves h1)
    clear_value x4 x5
    have h6 : Evolves s0 x6 := (modQp_evolves (dropMsgs_evolves h4))
    clear_value x6
    exact rdmSync_evolves (startFetches_evolves (raise_evolves (enterError_evolves h6)))

theorem settle_evolves {s0 s : State} (h : Evolves s0 s) : Evolves s0 (settle s) := by
  unfold settle
  exact rdmaSettle_evolves (pumpPorts_evolves (settleOps_evolves h))

theorem admitAll_evolves {s0 s : State} (h : Evolves s0 s) : Evolves s0 (admitAll s) := by
  unfold admitAll
  exact rdmaSettle_evolves (pumpPorts_evolves (admitOps_evolves h))

/-! ### DrainOps -/

theorem stripeSync_evolves {s0 s : State} (h : Evolves s0 s) : Evolves s0 (stripeSync s) := by
  unfold stripeSync
  extract_lets -merge -underBinder x0 x1 x2 x3 x4 x5 x6 x7
  clear_value x0 x1
  have h2 : Evolves s0 x2 := (State.put_evolves (State.put_evolves h))
  clear_value x2 x3
  have h4 : Evolves s0 x4 := (State.put_evolves h2)
  clear_value x4 x5
  clear_value x6 x7
  exact State.put_evolves (State.put_evolves (State.put_evolves h4))

theorem setStripe_evolves {s0 s : State} {a0 a1} (h : Evolves s0 s) : Evolves s0 (setStripe a0 a1 s) := by
  unfold setStripe
  exact stripeSync_evolves (State.onMed_evolves h)

theorem modStripe_evolves {s0 s : State} {a0 a1} (h : Evolves s0 s) : Evolves s0 (modStripe a0 a1 s) := by
  unfold modStripe
  exact setStripe_evolves h

theorem closeStripe_evolves {s0 s : State} {a0} (h : Evolves s0 s) : Evolves s0 (closeStripe a0 s) := by
  unfold closeStripe
  exact State.onMed_evolves (modStripe_evolves h)

theorem groupRequest_evolves {s0 s : State} {a0} (h : Evolves s0 s) : Evolves s0 (groupRequest a0 s) := by
  unfold groupRequest
  extract_lets -merge -underBinder x0
  have h0 : Evolves s0 x0.2 := (hgRequest_evolves h)
  clear_value x0
  exact .ite h0 (.ite (State.inc_evolves (State.put_evolves h0)) (State.inc_evolves (State.put_evolves h0)))

theorem openGroup_evolves {s0 s : State} {a0 a1} (h : Evolves s0 s) : OptEvolves2 s0 (openGroup a0 a1 s) := by
  have mk : ∀ {o : Option Nat} {t : State}, Evolves s0 t → OptEvolves2 s0 (o.map fun k => (k, t)) := by
    intro o t g
    cases o with
    | none => trivial
    | some k => exact g
  unfold openGroup
  refine OptEvolves2.map2 ?_ fun r g => .snd_mk (groupRequest_evolves (State.onTir_evolves (setStripe_evolves g)))
  split
  · split
    · exact h
    · extract_lets -merge x
      have hx : Evolves s0 x := closeStripe_evolves h
      clear_value x
      exact mk hx
  · exact mk h

theorem placeGran_evolves {s0 s : State} {a0 a1 a2} (h : Evolves s0 s) : OptEvolves2 s0 (placeGran a0 a1 a2 s) := by
  unfold placeGran
  refine OptEvolves2.map2 ?_ fun r g => .snd_mk (State.onTir_evolves g)
  split
  · exact h
  · exact openGroup_evolves h

theorem packSync_evolves {s0 s : State} (h : Evolves s0 s) : Evolves s0 (packSync s) := by
  unfold packSync
  exact State.put_evolves (State.put_evolves h)

theorem takeGen_evolves {s0 s : State} {a0} (h : Evolves s0 s) : OptEvolves2 s0 (takeGen a0 s) := by
  unfold takeGen
  extract_lets -merge -underBinder x0 x1 x2 x3
  clear_value x0
  have h1 : Evolves s0 x1 := (State.onStore_evolves h)
  clear_value x1
  have h2 : Evolves s0 x2 := (State.put_evolves (State.put_evolves h1))
  clear_value x2
  have h3 : Evolves s0 x3 := (raise_evolves (State.inc_evolves h2))
  clear_value x3
  split
  · exact .snd_mk (State.onTir_evolves h)
  · split
    · exact trivial
    · exact .snd_mk (State.onTir_evolves h3)

theorem wrapHeld_evolves {s0 s : State} {a0} (h : Evolves s0 s) : Evolves s0 (wrapHeld a0 s) := by
  unfold wrapHeld
  exact State.onStore_evolves h

theorem startPack_evolves {s0 s : State} {a0 a1 a2 a3} (h : Evolves s0 s) : OptEvolves s0 (startPack a0 a1 a2 a3 s) := by
  unfold startPack
  split
  · trivial
  · rename_i y z hq
    have g : Evolves s0 z := .of_some2 hq (takeGen_evolves h)
    exact (placeGran_evolves g).map fun r k => packSync_evolves (State.put_evolves (State.onTir_evolves k))

theorem packWaits_evolves {s0 s : State} {a0} (h : Evolves s0 s) : Evolves s0 (packWaits a0 s) := by
  unfold packWaits
  split
  · exact .ite h (raise_evolves (State.put_evolves h))
  · exact State.put_evolves h

theorem tailSync_evolves {s0 s : State} (h : Evolves s0 s) : Evolves s0 (tailSync s) := by
  unfold tailSync
  exact State.put_evolves (State.put_evolves h)

theorem journal_evolves {s0 s : State} {a0 a1 a2} (h : Evolves s0 s) : Evolves s0 (journal a0 a1 a2 s) := by
  unfold journal
  extract_lets -merge -underBinder x0 x1 x2 x3 x4
  clear_value x0 x1 x2
  have h3 : Evolves s0 x3 := (place_evolves h)
  clear_value x3 x4
  exact tailSync_evolves (State.onTir_evolves (State.onCis_evolves h3))

theorem moveLive_evolves {s0 s : State} {a0 a1} (h : Evolves s0 s) : Evolves s0 (moveLive a0 a1 s) := by
  unfold moveLive
  extract_lets -merge -underBinder x0
  have h0 : Evolves s0 x0 := (by
      unfold x0
      split
      · exact modStripe_evolves h
      · exact h)
  clear_value x0
  exact modStripe_evolves h0

theorem freeSegments_evolves {s0 : State} : ∀ {n : Nat} {s : State}, Evolves s0 s → Evolves s0 (freeSegments n s)
  | 0, _, h => h
  | n + 1, s, h => by
    unfold freeSegments
    exact .ite h (.ite (freeSegments_evolves (State.put_evolves (State.onCis_evolves h))) h)

theorem retireWhere_evolves {s0 s : State} {a0} (h : Evolves s0 s) : Evolves s0 (retireWhere a0 s) := by
  unfold retireWhere
  extract_lets -merge -underBinder x0 x1 x2 x4
  clear_value x0
  have h1 : Evolves s0 x1 := (State.onCis_evolves h)
  clear_value x1
  have h2 : Evolves s0 x2 := (.foldl h1 (fun _ _ h3 => (.ite (modGran_evolves h3) h3)))
  clear_value x2
  have h4 : Evolves s0 x4 := (State.add_evolves h2)
  clear_value x4
  exact tailSync_evolves (admitSync_evolves (freeSegments_evolves h4))

theorem retireGran_evolves {s0 s : State} {a0 a1} (h : Evolves s0 s) : Evolves s0 (retireGran a0 a1 s) := by
  unfold retireGran
  exact retireWhere_evolves h

theorem retireXlates_evolves {s0 s : State} (h : Evolves s0 s) : Evolves s0 (retireXlates s) := by
  unfold retireXlates
  exact retireWhere_evolves h

theorem startCheckpoint_evolves {s0 s : State} {a0 a1} (h : Evolves s0 s) : Evolves s0 (startCheckpoint a0 a1 s) := by
  unfold startCheckpoint
  extract_lets -merge -underBinder x0
  clear_value x0
  exact (.ite h (by
      split
      · exact h
      · rename_i y2 y3 hq
        have g3 : Evolves s0 y3 := .of_some2 hq (placeGran_evolves h)
        extract_lets -merge -underBinder x4 x5
        clear_value x4 x5
        exact (tailSync_evolves (State.onTir_evolves g3))))

theorem checkpointDue_evolves {s0 s : State} {a0} (h : Evolves s0 s) : Evolves s0 (checkpointDue a0 s) := by
  unfold checkpointDue
  exact .foldl h (fun _ _ h0 => (startCheckpoint_evolves h0))

theorem queuePack_evolves {s0 s : State} {a0} (h : Evolves s0 s) : Evolves s0 (queuePack a0 s) := by
  unfold queuePack
  exact .ite h (State.onTir_evolves h)

theorem hgWaitSync_evolves {s0 s : State} (h : Evolves s0 s) : Evolves s0 (hgWaitSync s) := by
  unfold hgWaitSync
  extract_lets -merge -underBinder x0 x1
  clear_value x1
  exact State.put_evolves (State.put_evolves h)

theorem groupPhase_evolves {s0 s : State} {a0 a1} (h : Evolves s0 s) : Evolves s0 (groupPhase a0 a1 s) := by
  unfold groupPhase
  exact State.onTir_evolves h

theorem hgDrop_evolves {s0 s : State} {a0} (h : Evolves s0 s) : Evolves s0 (hgDrop a0 s) := by
  unfold hgDrop
  exact hgReturn_evolves (State.onPwr_evolves h)

theorem failGroup_evolves {s0 s : State} {a0} (h : Evolves s0 s) : Evolves s0 (failGroup a0 s) := by
  unfold failGroup
  exact hgWaitSync_evolves (groupPhase_evolves (hgDrop_evolves h))

theorem stopMediaWork_evolves {s0 s : State} (h : Evolves s0 s) : Evolves s0 (stopMediaWork s) := by
  unfold stopMediaWork
  extract_lets -merge -underBinder x0 x1 x2 x3 x5
  clear_value x0 x2
  have h3 : Evolves s0 x3 := (.foldl h (fun _ _ h4 => (.ite h4 (giveSlot_evolves h4))))
  clear_value x3
  have h5 : Evolves s0 x5 := (.foldl h3 (fun _ _ h6 => (modStripe_evolves h6)))
  clear_value x5
  exact packSync_evolves (State.onTir_evolves h5)

/-! ### ReachOps -/

theorem dropReach_evolves {s0 s : State} {a0} (h : Evolves s0 s) : Evolves s0 (dropReach a0 s) := by
  unfold dropReach
  extract_lets -merge -underBinder x0 x1 x3 x4 x6 x7
  clear_value x0
  have h1 : Evolves s0 x1 := (.foldl h (fun _ _ h2 => (modStripe_evolves h2)))
  clear_value x1 x3
  have h4 : Evolves s0 x4 := (.foldl h1 (fun _ _ h5 => (countFrame_evolves (countFrame_evolves h5))))
  clear_value x4
  have h6 : Evolves s0 x6 := (State.onTir_evolves h4)
  clear_value x6
  have h7 : Evolves s0 x7 := (State.onStore_evolves h6)
  clear_value x7
  exact State.onMed_evolves (State.put_evolves h7)

theorem provisionReach_evolves {s0 s : State} {a0 a1 a2} (h : Evolves s0 s) : Evolves s0 (provisionReach a0 a1 a2 s) := by
  unfold provisionReach
  extract_lets -merge -underBinder x0 x1 x2 x3 x4
  have h0 : Evolves s0 x0 := (dropReach_evolves h)
  clear_value x0
  have h1 : Evolves s0 x1 := (State.put_evolves (State.put_evolves (State.put_evolves h0)))
  clear_value x1
  have h2 : Evolves s0 x2 := (State.put_evolves (State.put_evolves h1))
  clear_value x2
  have h3 : Evolves s0 x3 := (State.onCis_evolves h2)
  clear_value x3
  have h4 : Evolves s0 x4 := (.ite (State.onStore_evolves h3) h3)
  clear_value x4
  exact poolSync_evolves h4

theorem releaseReach_evolves {s0 s : State} {a0} (h : Evolves s0 s) : Evolves s0 (releaseReach a0 s) := by
  unfold releaseReach
  extract_lets -merge -underBinder x0 x1 x2 x3 x4
  clear_value x0
  have h1 : Evolves s0 x1 := (State.add_evolves (retireWhere_evolves h))
  clear_value x1
  have h2 : Evolves s0 x2 := (dropReach_evolves h1)
  clear_value x2
  have h3 : Evolves s0 x3 := (State.put_evolves (State.put_evolves (State.put_evolves h2)))
  clear_value x3
  have h4 : Evolves s0 x4 := (State.put_evolves (State.put_evolves (State.put_evolves h3)))
  clear_value x4
  exact poolSync_evolves (State.put_evolves h4)

theorem reachOpsSync_evolves {s0 s : State} (h : Evolves s0 s) : Evolves s0 (reachOpsSync s) := by
  unfold reachOpsSync
  extract_lets -merge -underBinder x0 x1 x2
  clear_value x1
  have h2 : Evolves s0 x2 := (State.onTwn_evolves h)
  clear_value x2
  exact (.foldl h2 (fun _ _ h3 => (by
      extract_lets -merge -underBinder x4
      have h4 : Evolves s0 x4 := (.ite (provisionReach_evolves h3) (releaseReach_evolves h3))
      clear_value x4
      split
      · exact .ite h4 (complete_evolves h4)
      · exact (linkSend_evolves h4))))

theorem passReach_evolves {s0 s : State} {a0} (h : Evolves s0 s) : Evolves s0 (passReach a0 s) := by
  unfold passReach
  extract_lets -merge -underBinder x0 x1 x2 x3 x4 x5 x6
  clear_value x0 x1
  have h2 : Evolves s0 x2 := (linkSend_evolves (append_evolves h))
  clear_value x2
  have h3 : Evolves s0 x3 := (State.put_evolves (State.put_evolves h2))
  clear_value x3
  have h4 : Evolves s0 x4 := (linkSend_evolves h3)
  clear_value x4 x5
  have h6 : Evolves s0 x6 := (State.onCis_evolves h4)
  clear_value x6
  exact .foldl h6 (fun _ _ h7 => (linkSend_evolves h7))

theorem handoverSync_evolves {s0 s : State} (h : Evolves s0 s) : Evolves s0 (handoverSync s) := by
  unfold handoverSync
  extract_lets -merge -underBinder x0 x1 x2
  clear_value x1
  have h2 : Evolves s0 x2 := (State.onTwn_evolves h)
  clear_value x2
  exact .foldl h2 (fun _ _ h3 => (passReach_evolves h3))

theorem beginHandover_evolves {s0 s : State} {a0 a1} (h : Evolves s0 s) : Evolves s0 (beginHandover a0 a1 s) := by
  unfold beginHandover
  extract_lets -merge -underBinder x0
  have h0 : Evolves s0 x0 := (State.put_evolves h)
  clear_value x0
  exact handoverSync_evolves (State.onTwn_evolves h0)

theorem endHandover_evolves {s0 s : State} {a0 a1} (h : Evolves s0 s) : Evolves s0 (endHandover a0 a1 s) := by
  unfold endHandover
  extract_lets -merge -underBinder x0 x1 x2 x3
  clear_value x0
  have h1 : Evolves s0 x1 := (State.onTwn_evolves h)
  clear_value x1
  have h2 : Evolves s0 x2 := (State.put_evolves h1)
  clear_value x2
  have h3 : Evolves s0 x3 := (by
      unfold x3
      split
      · exact complete_evolves h2
      · exact h2)
  clear_value x3
  exact admitAll_evolves h3

theorem returnIfHeld_evolves {s0 s : State} {a0} (h : Evolves s0 s) : Evolves s0 (returnIfHeld a0 s) := by
  unfold returnIfHeld
  extract_lets -merge -underBinder x0 x1 x2
  clear_value x0 x1
  have h2 : Evolves s0 x2 := (State.onCis_evolves h)
  clear_value x2
  exact .ite (linkSend_evolves h2) h

theorem recordHeld_evolves {s0 s : State} {a0} (h : Evolves s0 s) : Evolves s0 (recordHeld a0 s) := by
  unfold recordHeld
  split
  · exact h
  · extract_lets -merge -underBinder x2 x3 x4 x5 x6
    clear_value x2
    have h3 : Evolves s0 x3 := (modRec_evolves h)
    clear_value x3
    have h4 : Evolves s0 x4 := (.ite (State.put_evolves h3) h3)
    clear_value x4
    have h5 : Evolves s0 x5 := (.ite (State.onTwn_evolves h4) h4)
    clear_value x5
    have h6 : Evolves s0 x6 := (.ite (State.onTwn_evolves h5) h5)
    clear_value x6
    exact reachOpsSync_evolves (settle_evolves (returnIfHeld_evolves h6))

theorem ackEntry_evolves {s0 s : State} {a0} (h : Evolves s0 s) : Evolves s0 (ackEntry a0 s) := by
  unfold ackEntry
  extract_lets -merge -underBinder x0
  have h0 : Evolves s0 x0 := (State.onCis_evolves h)
  clear_value x0
  exact .ite h (State.onCis_evolves h0)

/-! ### IntegrityOps -/

theorem logUe_evolves {s0 s : State} {a0 a1 a2 a3} (h : Evolves s0 s) : Evolves s0 (logUe a0 a1 a2 a3 s) := by
  unfold logUe
  exact State.put_evolves (State.put_evolves (State.put_evolves (State.put_evolves (State.put_evolves h))))

theorem logParity_evolves {s0 s : State} {a0 a1 a2 a3 a4 a5 a6} (h : Evolves s0 s) : Evolves s0 (logParity a0 a1 a2 a3 a4 a5 a6 s) := by
  unfold logParity
  extract_lets -merge -underBinder x0
  have h0 : Evolves s0 x0 := (State.put_evolves (State.put_evolves (State.put_evolves (State.put_evolves h))))
  clear_value x0
  exact State.put_evolves (State.put_evolves (State.put_evolves (State.put_evolves h0)))

theorem softParity_evolves {s0 s : State} {a0} (h : Evolves s0 s) : Evolves s0 (softParity a0 s) := by
  unfold softParity
  extract_lets -merge -underBinder x0
  have h0 : Evolves s0 x0 := (State.onTir_evolves (State.inc_evolves h))
  clear_value x0
  exact raise_evolves h0

theorem benchParity_evolves {s0 s : State} {a0 a1 a2 a3} (h : Evolves s0 s) : Evolves s0 (benchParity a0 a1 a2 a3 s) := by
  unfold benchParity
  split
  · exact h
  · extract_lets -merge -underBinder x3 x4 x5 x6
    clear_value x3 x4
    have h5 : Evolves s0 x5 := (logParity_evolves h)
    clear_value x5
    have h6 : Evolves s0 x6 := (softParity_evolves h5)
    clear_value x6
    exact .ite (failFatal_evolves (raise_evolves h5)) (.ite (putWay_evolves h6) (putWay_evolves h6))

theorem startRebuild_evolves {s0 s : State} {a0} (h : Evolves s0 s) : Evolves s0 (startRebuild a0 s) := by
  unfold startRebuild
  extract_lets -merge -underBinder x0
  have h0 : Evolves s0 x0 := (takeLock_evolves h)
  clear_value x0
  exact State.inc_evolves (State.onTir_evolves h0)

theorem eccCount_evolves {s0 s : State} {a0 a1 a2} (h : Evolves s0 s) : Evolves s0 (eccCount a0 a1 a2 s) := by
  unfold eccCount
  exact .ite (State.inc_evolves h) (State.inc_evolves h)

theorem noteErr_evolves {s0 s : State} {a0} (h : Evolves s0 s) : Evolves s0 (noteErr a0 s) := by
  unfold noteErr
  exact State.onTir_evolves h

theorem deviceError_evolves {s0 s : State} {a0 a1} (h : Evolves s0 s) : Evolves s0 (deviceError a0 a1 s) := by
  unfold deviceError
  exact noteErr_evolves (State.addSat_evolves h)

theorem unitError_evolves {s0 s : State} {a0 a1} (h : Evolves s0 s) : Evolves s0 (unitError a0 a1 s) := by
  unfold unitError
  exact .ite (noteErr_evolves (State.inc_evolves h)) (noteErr_evolves (State.inc_evolves h))

theorem lineUncorrectable_evolves {s0 s : State} {a0 a1 a2} (h : Evolves s0 s) : Evolves s0 (lineUncorrectable a0 a1 a2 s) := by
  unfold lineUncorrectable
  extract_lets -merge -underBinder x0 x1 x2 x3 x4 x5 x6 x7
  clear_value x0 x1 x2
  have h3 : Evolves s0 x3 := (unitError_evolves h)
  clear_value x3 x4
  have h5 : Evolves s0 x5 := (logUe_evolves h3)
  clear_value x5
  have h6 : Evolves s0 x6 := (raise_evolves (eccCount_evolves h5))
  clear_value x6 x7
  exact .ite h (.ite (raise_evolves (State.inc_evolves (loseLine_evolves h5))) (.ite h6 (startRebuild_evolves h6)))

theorem lineCorrected_evolves {s0 s : State} {a0 a1 a2} (h : Evolves s0 s) : Evolves s0 (lineCorrected a0 a1 a2 s) := by
  unfold lineCorrected
  extract_lets -merge -underBinder x0 x1
  clear_value x0
  have h1 : Evolves s0 x1 := (eccCount_evolves h)
  clear_value x1
  exact .ite (raiseRl_evolves h1) (raiseRl_evolves (deviceError_evolves h1))

theorem memFault_evolves {s0 s : State} {a0 a1} (h : Evolves s0 s) : Evolves s0 (memFault a0 a1 s) := by
  unfold memFault
  split
  · exact h
  · exact benchParity_evolves h
  · exact .ite (failFatal_evolves (raise_evolves (logParity_evolves h))) h
  · exact lineCorrected_evolves h
  · exact lineUncorrectable_evolves h
  · exact .ite (raise_evolves h) (failFatal_evolves (raise_evolves h))
  · exact State.inc_evolves h
  · exact State.inc_evolves h
  · extract_lets -merge -underBinder x14
    have h14 : Evolves s0 x14 := (raise_evolves (State.inc_evolves h))
    clear_value x14
    exact State.onTir_evolves h14
  · exact raiseRl_evolves (State.inc_evolves h)
  · exact raise_evolves (.foldl (logUe_evolves (State.inc_evolves h)) (fun _ _ h17 => (State.inc_evolves (setPoison_evolves h17))))
  · extract_lets -merge -underBinder x21
    have h21 : Evolves s0 x21 := (raise_evolves (logUe_evolves (State.inc_evolves h)))
    clear_value x21
    split
    · exact failGroup_evolves h21
    · exact h21
  · extract_lets -merge -underBinder x26 x27 x28
    have h26 : Evolves s0 x26 := (raise_evolves (logUe_evolves (State.inc_evolves h)))
    clear_value x26 x27
    have h28 : Evolves s0 x28 := (State.onRdm_evolves h26)
    clear_value x28
    exact .ite (contextLost_evolves h28) (.ite (rdmSync_evolves (State.inc_evolves (State.onRdm_evolves h28))) h28)
  · exact failFatal_evolves (raise_evolves (logUe_evolves (State.inc_evolves h)))

theorem mergeFault_evolves {s0 s : State} {a0 a1} (h : Evolves s0 s) : Evolves s0 (mergeFault a0 a1 s) := by
  unfold mergeFault
  split
  · exact .ite (raise_evolves h) h
  · exact h

/-! ### TierMoves -/

theorem beginEvict_evolves {s0 s : State} {a0 a1 a2} (h : Evolves s0 s) : Evolves s0 (beginEvict a0 a1 a2 s) := by
  unfold beginEvict
  extract_lets -merge -underBinder x0 x1 x2
  clear_value x0 x1
  exact (.ite (modGran_evolves h) (.ite (by
        split
        · exact giveSlot_evolves (modGran_evolves h)
        · rename_i y4 hq
          have g4 : Evolves s0 y4 := .of_some hq (allocFloor_evolves h)
          exact (modGran_evolves g4)) (giveSlot_evolves (modGran_evolves h))))

theorem dropCopy_evolves {s0 s : State} {a0 a1} (h : Evolves s0 s) : Evolves s0 (dropCopy a0 a1 s) := by
  unfold dropCopy
  exact .ite (modGran_evolves h) (modGran_evolves h)

theorem refetchAfterDrop_evolves {s0 s : State} {a0} (h : Evolves s0 s) : Evolves s0 (refetchAfterDrop a0 s) := by
  unfold refetchAfterDrop
  extract_lets -merge -underBinder x0
  clear_value x0
  exact .ite (State.inc_evolves (State.onTir_evolves h)) h

theorem endMove_evolves {s0 s : State} {a0} (h : Evolves s0 s) : Evolves s0 (endMove a0 s) := by
  unfold endMove
  extract_lets -merge -underBinder x0
  clear_value x0
  split
  · exact refetchAfterDrop_evolves (giveSlot_evolves (dropLock_evolves (State.inc_evolves (dropCopy_evolves h))))
  · exact refetchAfterDrop_evolves (giveSlot_evolves (dropLock_evolves (State.inc_evolves (dropCopy_evolves h))))
  · extract_lets -merge -underBinder x4
    have h4 : Evolves s0 x4 := (modGran_evolves h)
    clear_value x4
    exact giveSlot_evolves (dropLock_evolves (State.inc_evolves h4))
  · extract_lets -merge -underBinder x6
    have h6 : Evolves s0 x6 := (modGran_evolves h)
    clear_value x6
    exact giveSlot_evolves (dropLock_evolves (State.inc_evolves (dropCopy_evolves h6)))
  · exact h

theorem abandonMove_evolves {s0 s : State} {a0} (h : Evolves s0 s) : Evolves s0 (abandonMove a0 s) := by
  unfold abandonMove
  extract_lets -merge -underBinder x0
  clear_value x0
  split
  · exact giveSlot_evolves (dropLock_evolves (dropCopy_evolves h))
  · exact giveSlot_evolves (dropLock_evolves h)
  · exact giveSlot_evolves (dropLock_evolves h)
  · exact giveSlot_evolves (dropLock_evolves h)
  · exact dropLock_evolves h
  · exact h

theorem loseCopy_evolves {s0 s : State} {a0 a1} (h : Evolves s0 s) : Evolves s0 (loseCopy a0 a1 s) := by
  unfold loseCopy
  extract_lets -merge -underBinder x0 x1
  have h0 : Evolves s0 x0 := (dropCopy_evolves (abandonMove_evolves h))
  clear_value x0 x1
  exact .ite (startRebuild_evolves h0) h0

theorem moveVolatile_evolves {s0 s : State} {a0 a1} (h : Evolves s0 s) : Evolves s0 (moveVolatile a0 a1 s) := by
  unfold moveVolatile
  extract_lets -merge -underBinder x0 x1
  clear_value x0 x1
  split
  · extract_lets -merge -underBinder x3
    have h3 : Evolves s0 x3.2 := (State.free_evolves h)
    clear_value x3
    exact setGran_evolves h3
  · exact .ite h (.foldl h (fun _ _ h5 => (loseLine_evolves h5)))

theorem loseChannel_evolves {s0 s : State} {a0} (h : Evolves s0 s) : Evolves s0 (loseChannel a0 s) := by
  unfold loseChannel
  extract_lets -merge -underBinder x0 x1 x2 x4
  have h0 : Evolves s0 x0 := (unitFault_evolves h)
  clear_value x0 x1
  have h2 : Evolves s0 x2 := (.foldl h0 (fun _ _ h3 => (loseCopy_evolves h3)))
  clear_value x2
  have h4 : Evolves s0 x4 := (.foldl h2 (fun _ _ h5 => (moveVolatile_evolves h5)))
  clear_value x4
  exact poolSync_evolves (raise_evolves h4)

theorem sweepOne_evolves {s0 s : State} {a0} (h : Evolves s0 s) : Evolves s0 (sweepOne a0 s) := by
  unfold sweepOne
  extract_lets -merge -underBinder x0 x1 x2 x3 x4 x5 x6
  clear_value x0 x1
  clear_value x2 x3
  clear_value x4 x5
  have h6 : Evolves s0 x6 := (setGran_evolves h)
  clear_value x6
  exact .ite h (State.onTir_evolves h6)

theorem startSweep_evolves {s0 s : State} (h : Evolves s0 s) : Evolves s0 (startSweep s) := by
  unfold startSweep
  extract_lets -merge -underBinder x0
  have h0 : Evolves s0 x0 := (State.put_evolves (State.onTir_evolves h))
  clear_value x0
  exact .foldl h0 (fun _ _ h1 => (sweepOne_evolves h1))

theorem installQuarter_evolves {s0 s : State} {a0 a1} (h : Evolves s0 s) : Evolves s0 (installQuarter a0 a1 s) := by
  unfold installQuarter
  extract_lets -merge -underBinder x0 x1 x2 x3 x4
  clear_value x0 x1
  clear_value x2 x3
  have h4 : Evolves s0 x4 := (setGran_evolves h)
  clear_value x4
  exact .ite h (.ite (dropLock_evolves h4) h4)

theorem relieve_evolves {s0 : State} {p : Nat} {s : State} : ∀ {n cut : Nat}, Evolves s0 s → Evolves s0 (relieve p s n cut).2
  | 0, _, h => h
  | n + 1, cut, h => by
    unfold relieve
    extract_lets x0 x1
    have h1 : Evolves s0 x1 := State.add_evolves (State.put_evolves h)
    clear_value x1
    split
    · exact h1
    · split
      · exact State.put_evolves h1
      · exact relieve_evolves h1

/-! ### LadderOps -/

theorem rememberShift_evolves {s0 s : State} {a0 a1 a2} (h : Evolves s0 s) : Evolves s0 (rememberShift a0 a1 a2 s) := by
  unfold rememberShift
  split
  · exact State.onTir_evolves h
  · exact h

theorem mergeAnswer_evolves {s0 s : State} {a0 a1 a2 a3 a4} (h : Evolves s0 s) : Evolves s0 (mergeAnswer a0 a1 a2 a3 a4 s) := by
  unfold mergeAnswer
  extract_lets -merge -underBinder x0
  have h0 : Evolves s0 x0 := (installLines_evolves h)
  clear_value x0
  exact .foldl h0 (fun _ _ h1 => (.ite (.foldl h1 (fun _ _ h2 => (.ite (applyLine_evolves h2) h2))) h1))

theorem modLadder_evolves {s0 s : State} {a0 a1 a2} (h : Evolves s0 s) : Evolves s0 (modLadder a0 a1 a2 s) := by
  unfold modLadder
  exact State.onTir_evolves h

theorem dropLadder_evolves {s0 s : State} {a0 a1} (h : Evolves s0 s) : Evolves s0 (dropLadder a0 a1 s) := by
  unfold dropLadder
  exact State.onTir_evolves h

theorem ladderGood_evolves {s0 s : State} {a0 a1} (h : Evolves s0 s) : Evolves s0 (ladderGood a0 a1 s) := by
  unfold ladderGood
  exact settle_evolves (installQuarter_evolves (dropLadder_evolves h))

theorem ladderPoison_evolves {s0 s : State} {a0 a1 a2} (h : Evolves s0 s) : Evolves s0 (ladderPoison a0 a1 a2 s) := by
  unfold ladderPoison
  extract_lets -merge -underBinder x0 x1 x2 x4 x5 x6 x7
  clear_value x0 x1
  have h2 : Evolves s0 x2 := (.foldl h (fun _ _ h3 => (loseLine_evolves h3)))
  clear_value x2
  have h4 : Evolves s0 x4 := (State.inc_evolves (State.add_evolves h2))
  clear_value x4
  have h5 : Evolves s0 x5 := (.ite (State.inc_evolves h4) h4)
  clear_value x5 x6
  have h7 : Evolves s0 x7 := (logUe_evolves h5)
  clear_value x7
  exact ladderGood_evolves (queuePack_evolves (raise_evolves h7))

theorem ladderAsk_evolves {s0 s : State} {a0 a1} (h : Evolves s0 s) : Evolves s0 (ladderAsk a0 a1 s) := by
  unfold ladderAsk
  exact .ite (linkSend_evolves (modLadder_evolves h)) (ladderPoison_evolves h)

theorem ladderRebuild_evolves {s0 s : State} {a0 a1} (h : Evolves s0 s) : Evolves s0 (ladderRebuild a0 a1 s) := by
  unfold ladderRebuild
  exact .ite (modLadder_evolves h) (ladderAsk_evolves h)

theorem startLadder_evolves {s0 s : State} {a0 a1} (h : Evolves s0 s) : Evolves s0 (startLadder a0 a1 s) := by
  unfold startLadder
  extract_lets -merge -underBinder x0 x1 x2 x3
  clear_value x0 x1
  have h2 : Evolves s0 x2 := (State.inc_evolves (State.onTir_evolves h))
  clear_value x2 x3
  exact .ite h (logUe_evolves (State.add_evolves h2))

theorem ladderShift_evolves {s0 s : State} {a0 a1 a2 a3} (h : Evolves s0 s) : Evolves s0 (ladderShift a0 a1 a2 a3 s) := by
  unfold ladderShift
  extract_lets -merge -underBinder x0 x1 x2 x3
  clear_value x0
  have h1 : Evolves s0 x1 := (State.inc_evolves h)
  clear_value x1 x2
  have h3 : Evolves s0 x3 := (State.inc_evolves (rememberShift_evolves (State.inc_evolves h1)))
  clear_value x3
  exact .ite (ladderGood_evolves (.ite h3 (queuePack_evolves h3))) (.ite (modLadder_evolves h1) (ladderRebuild_evolves (raise_evolves (modLadder_evolves h1))))

theorem ladderStripe_evolves {s0 s : State} {a0 a1 a2} (h : Evolves s0 s) : Evolves s0 (ladderStripe a0 a1 a2 s) := by
  unfold ladderStripe
  exact .ite (ladderGood_evolves (queuePack_evolves (raise_evolves (State.inc_evolves (State.inc_evolves h))))) (ladderAsk_evolves h)

theorem ladderAnswer_evolves {s0 s : State} {a0 a1 a2 a3 a4} (h : Evolves s0 s) : Evolves s0 (ladderAnswer a0 a1 a2 a3 a4 s) := by
  unfold ladderAnswer
  split
  · exact h
  · extract_lets -merge -underBinder x2 x3 x4 x5 x6 x7
    clear_value x2 x3 x4
    have h5 : Evolves s0 x5 := (mergeAnswer_evolves h)
    clear_value x5 x6
    have h7 : Evolves s0 x7 := (.foldl h5 (fun _ _ h8 => (raise_evolves (State.inc_evolves h8))))
    clear_value x7
    exact .ite h (ladderGood_evolves (queuePack_evolves (raise_evolves (State.inc_evolves h7))))

theorem ladderTwinLost_evolves {s0 s : State} (h : Evolves s0 s) : Evolves s0 (ladderTwinLost s) := by
  unfold ladderTwinLost
  exact .foldl h (fun _ _ h0 => (ladderPoison_evolves h0))

/-! ### YardOps -/

theorem yardSync_evolves {s0 s : State} {a0} (h : Evolves s0 s) : Evolves s0 (yardSync a0 s) := by
  unfold yardSync
  extract_lets -merge -underBinder x0 x1
  clear_value x0
  have h1 : Evolves s0 x1 := (State.put_evolves h)
  clear_value x1
  exact .ite (State.put_evolves h1) h1

theorem yardFault_evolves {s0 s : State} {a0 a1 a2} (h : Evolves s0 s) : Evolves s0 (yardFault a0 a1 a2 s) := by
  unfold yardFault
  extract_lets -merge -underBinder x0 x1
  clear_value x0
  have h1 : Evolves s0 x1 := (State.put_evolves (State.put_evolves (State.put_evolves h)))
  clear_value x1
  exact .ite (raise_evolves (State.inc_evolves h1)) (raise_evolves (State.inc_evolves h1))

theorem freeBuf_evolves {s0 s : State} {a0} (h : Evolves s0 s) : Evolves s0 (freeBuf a0 s) := by
  unfold freeBuf
  extract_lets -merge -underBinder x0
  clear_value x0
  exact yardSync_evolves (State.inc_evolves (State.onYrd_evolves h))

theorem ditchSync_evolves {s0 s : State} (h : Evolves s0 s) : Evolves s0 (ditchSync s) := by
  unfold ditchSync
  extract_lets -merge -underBinder x0 x1 x2 x3
  clear_value x0 x1
  have h2 : Evolves s0 x2 := (State.put_evolves (State.put_evolves h))
  clear_value x2
  have h3 : Evolves s0 x3 := (State.put_evolves h2)
  clear_value x3
  exact .ite h (State.put_evolves (State.put_evolves h3))

theorem cellEvents_evolves {s0 s : State} (h : Evolves s0 s) : Evolves s0 (cellEvents s) := by
  unfold cellEvents
  extract_lets -merge -underBinder x0
  have h0 : Evolves s0 x0 := (.ite (raiseRl_evolves h) h)
  clear_value x0
  exact .ite (raiseRl_evolves h0) h0

theorem putQueue_evolves {s0 s : State} {a0 a1} (h : Evolves s0 s) : Evolves s0 (putQueue a0 a1 s) := by
  unfold putQueue
  exact State.onYrd_evolves h

theorem freeCells_evolves {s0 s : State} {a0} (h : Evolves s0 s) : Evolves s0 (freeCells a0 s) := by
  unfold freeCells
  exact State.onYrd_evolves h

theorem closeQueue_evolves {s0 s : State} {a0} (h : Evolves s0 s) : Evolves s0 (closeQueue a0 s) := by
  unfold closeQueue
  split
  · exact .ite (State.onYrd_evolves h) h
  · exact h

theorem dropOpen_evolves {s0 s : State} {a0 a1} (h : Evolves s0 s) : Evolves s0 (dropOpen a0 a1 s).2 := by
  unfold dropOpen
  split
  · exact .snd_mk h
  · split
    · exact .snd_mk h
    · extract_lets -merge -underBinder x4 x5
      have h4 : Evolves s0 x4 := (freeCells_evolves (putQueue_evolves h))
      clear_value x4
      have h5 : Evolves s0 x5 := (State.add_evolves (State.inc_evolves h4))
      clear_value x5
      exact .snd_mk (ditchSync_evolves (closeQueue_evolves h5))

theorem startYard_evolves {s0 s : State} (h : Evolves s0 s) : Evolves s0 (startYard s) := by
  unfold startYard
  extract_lets -merge -underBinder x0
  have h0 : Evolves s0 x0 := (State.onYrd_evolves h)
  clear_value x0
  exact ditchSync_evolves (.foldl h0 (fun _ _ h1 => (State.put_evolves (State.put_evolves (State.put_evolves h1)))))

theorem seekCopy_evolves {s0 s : State} {a0} (h : Evolves s0 s) : Evolves s0 (seekCopy a0 s) := by
  unfold seekCopy
  extract_lets -merge -underBinder x0
  have h0 : Evolves s0 x0 := (State.onCis_evolves h)
  clear_value x0
  split
  · exact State.put_evolves (State.onCis_evolves h0)
  · exact raise_evolves (State.put_evolves h0)

theorem cisternFence_evolves {s0 s : State} {a0} (h : Evolves s0 s) : Evolves s0 (cisternFence a0 s) := by
  unfold cisternFence
  extract_lets -merge -underBinder x0
  clear_value x0
  exact (.ite h (.ite (by
        split
        · exact seekCopy_evolves h
        · exact (failStop_evolves h)) (.ite (failStop_evolves h) (seekCopy_evolves h))))

theorem ditchFence_evolves {s0 s : State} {a0} (h : Evolves s0 s) : Evolves s0 (ditchFence a0 s) := by
  unfold ditchFence
  extract_lets -merge -underBinder x0 x1
  have h1 : Evolves s0 x1 := (.foldl h (fun _ _ h2 => (by
        extract_lets -merge -underBinder x3 x4 x5 x6
        clear_value x3 x4 x5
        have h6 : Evolves s0 x6 := (freeCells_evolves h2)
        clear_value x6
        exact (closeQueue_evolves (putQueue_evolves h6)))))
  clear_value x1
  exact ditchSync_evolves (State.onYrd_evolves h1)

theorem fenceStack_evolves {s0 s : State} {a0} (h : Evolves s0 s) : Evolves s0 (fenceStack a0 s) := by
  unfold fenceStack
  extract_lets -merge -underBinder x0 x1 x2 x3 x5 x7
  have h0 : Evolves s0 x0 := (unitFault_evolves h)
  clear_value x0
  have h1 : Evolves s0 x1 := (cisternFence_evolves h0)
  clear_value x1 x2
  have h3 : Evolves s0 x3 := (.foldl h1 (fun _ _ h4 => (loseCopy_evolves h4)))
  clear_value x3
  have h5 : Evolves s0 x5 := (.foldl h3 (fun _ _ h6 => (.ite (State.put_evolves h6) h6)))
  clear_value x5
  have h7 : Evolves s0 x7 := (.ite (ditchFence_evolves h5) (.ite (ditchFence_evolves h5) h5))
  clear_value x7
  exact settle_evolves (degradedSync_evolves (poolSync_evolves (raise_evolves h7)))

/-! ### TwinOps -/

theorem violate_evolves {s0 s : State} {a0} (h : Evolves s0 s) : Evolves s0 (violate a0 s) := by
  unfold violate
  extract_lets -merge -underBinder x0 x1
  have h0 : Evolves s0 x0 := (State.addSat_evolves h)
  clear_value x0
  have h1 : Evolves s0 x1 := (.ite h0 (State.inc_evolves h0))
  clear_value x1
  exact State.onTwn_evolves h1

theorem portSync_evolves {s0 s : State} (h : Evolves s0 s) : Evolves s0 (portSync s) := by
  unfold portSync
  extract_lets -merge -underBinder x0 x1
  have h1 : Evolves s0 x1 := (State.put_evolves (State.put_evolves h))
  clear_value x1
  exact downSync_evolves h1

theorem portGone_evolves {s0 s : State} {a0 a1} (h : Evolves s0 s) : Evolves s0 (portGone a0 a1 s) := by
  unfold portGone
  extract_lets -merge -underBinder x0 x1 x2 x3 x4 x5
  clear_value x0
  have h1 : Evolves s0 x1 := (.ite (jrnlLink_evolves h) h)
  clear_value x1
  have h2 : Evolves s0 x2 := (State.put_evolves h1)
  clear_value x2
  have h3 : Evolves s0 x3 := (onPort_evolves h2)
  clear_value x3 x4
  have h5 : Evolves s0 x5 := (.ite (.foldl h3 (fun _ _ h6 => (by
          split
          · exact .ite h6 (sendOn_evolves h6)
          · exact h6))) h3)
  clear_value x5
  exact raise_evolves (portSync_evolves h5)

theorem fenceLink_evolves {s0 s : State} {a0} (h : Evolves s0 s) : Evolves s0 (fenceLink a0 s) := by
  unfold fenceLink
  extract_lets -merge -underBinder x0
  have h0 : Evolves s0 x0 := (State.put_evolves h)
  clear_value x0
  exact .ite (.ite h0 (raise_evolves (State.inc_evolves (State.put_evolves h0)))) (portGone_evolves h0)

theorem unfenceLink_evolves {s0 s : State} {a0} (h : Evolves s0 s) : Evolves s0 (unfenceLink a0 s) := by
  unfold unfenceLink
  extract_lets -merge -underBinder x0 x1
  have h0 : Evolves s0 x0 := (State.onTwn_evolves (State.put_evolves h))
  clear_value x0
  have h1 : Evolves s0 x1 := (State.put_evolves h0)
  clear_value x1
  exact .ite h (.ite (State.onTwn_evolves h1) (State.put_evolves h1))

theorem setGen_evolves {s0 s : State} {a0} (h : Evolves s0 s) : Evolves s0 (setGen a0 s) := by
  unfold setGen
  extract_lets -merge -underBinder x0
  clear_value x0
  exact State.onStore_evolves (State.put_evolves h)

theorem recordTwin_evolves {s0 s : State} {a0} (h : Evolves s0 s) : Evolves s0 (recordTwin a0 s) := by
  unfold recordTwin
  exact State.onStore_evolves (State.put_evolves h)

theorem joinSucceeds_evolves {s0 s : State} (h : Evolves s0 s) : Evolves s0 (joinSucceeds s) := by
  unfold joinSucceeds
  extract_lets -merge -underBinder x0 x1
  clear_value x0
  have h1 : Evolves s0 x1 := (setGen_evolves (State.onTwn_evolves h))
  clear_value x1
  split
  · exact recordTwin_evolves h1
  · exact h1

theorem adoptedActive_evolves {s0 s : State} (h : Evolves s0 s) : Evolves s0 (adoptedActive s) := by
  unfold adoptedActive
  exact .foldl h (fun _ _ h0 => (.ite (State.put_evolves h0) h0))

theorem resyncDone_evolves {s0 s : State} (h : Evolves s0 s) : Evolves s0 (resyncDone s) := by
  unfold resyncDone
  extract_lets -merge -underBinder x0 x1 x2
  have h0 : Evolves s0 x0 := (raise_evolves (State.inc_evolves h))
  clear_value x0 x1
  have h2 : Evolves s0 x2 := (cubSync_evolves (State.onTwn_evolves h0))
  clear_value x2
  exact .foldl h2 (fun _ _ h3 => (.ite (beginHandover_evolves h3) h3))

theorem arrive_evolves {s0 s : State} {a0} (h : Evolves s0 s) : Evolves s0 (arrive a0 s) := by
  unfold arrive
  extract_lets -merge -underBinder x0 x1 x2
  clear_value x0
  have h1 : Evolves s0 x1 := (State.onPwr_evolves (State.onTwn_evolves h))
  clear_value x1
  have h2 : Evolves s0 x2 := (by
      unfold x2
      split
      · extract_lets -merge -underBinder x4 x5
        have h4 : Evolves s0 x4 := (adoptedActive_evolves (joinSucceeds_evolves (setMode_evolves (setPair_evolves h1))))
        clear_value x4
        have h5 : Evolves s0 x5 := (State.onTwn_evolves (State.put_evolves h4))
        clear_value x5
        exact .ite (resyncDone_evolves h5) (cubSync_evolves h5)
      · extract_lets -merge -underBinder x7 x8 x9
        have h7 : Evolves s0 x7 := (setMode_evolves (setPair_evolves h1))
        clear_value x7
        have h8 : Evolves s0 x8 := (State.inc_evolves (State.onTwn_evolves h7))
        clear_value x8
        have h9 : Evolves s0 x9 := (cubSync_evolves h8)
        clear_value x9
        exact raise_evolves h9
      · exact setMode_evolves (setPair_evolves h1)
      · exact h1)
  clear_value x2
  exact admitAll_evolves (settle_evolves (admitSync_evolves h2))

theorem enterServing_evolves {s0 s : State} {a0} (h : Evolves s0 s) : Evolves s0 (enterServing a0 s) := by
  unfold enterServing
  exact .ite (.ite h (raise_evolves (State.onTwn_evolves h))) (arrive_evolves h)

theorem dropTwinCommands_evolves {s0 s : State} (h : Evolves s0 s) : Evolves s0 (dropTwinCommands s) := by
  unfold dropTwinCommands
  extract_lets -merge -underBinder x0 x1
  have h0 : Evolves s0 x0 := (dropTwinWork_evolves h)
  clear_value x0
  have h1 : Evolves s0 x1 := (by
      unfold x1
      split
      · exact .ite h0 (refuse_evolves h0)
      · exact h0)
  clear_value x1
  exact reachOpsSync_evolves h1

theorem fenceNow_evolves {s0 s : State} (h : Evolves s0 s) : Evolves s0 (fenceNow s) := by
  unfold fenceNow
  exact fenceSelf_evolves (reachOpsSync_evolves (dropTwinWork_evolves h))

theorem declareLost_evolves {s0 s : State} {a0 a1} (h : Evolves s0 s) : Evolves s0 (declareLost a0 a1 s) := by
  unfold declareLost
  extract_lets -merge -underBinder x0 x1 x2 x3 x4 x5 x6
  have h1 : Evolves s0 x1 := (State.put_evolves (State.put_evolves h))
  clear_value x1
  have h2 : Evolves s0 x2 := (setGen_evolves h1)
  clear_value x2
  have h3 : Evolves s0 x3 := (State.onTwn_evolves h2)
  clear_value x3
  have h4 : Evolves s0 x4 := (raise_evolves h3)
  clear_value x4
  have h5 : Evolves s0 x5 := (.ite h4 (State.send_evolves (State.put_evolves h4)))
  clear_value x5
  have h6 : Evolves s0 x6 := (ladderTwinLost_evolves (dropTwinCommands_evolves h5))
  clear_value x6
  exact (.ite h (by
      split
      · exact State.onTwn_evolves h6
      · exact h6))

theorem sweepReaches_evolves {s0 s : State} (h : Evolves s0 s) : Evolves s0 (sweepReaches s) := by
  unfold sweepReaches
  exact (.foldl h (fun _ _ h0 => (by
      extract_lets -merge -underBinder x1 x2 x3
      clear_value x1
      have h2 : Evolves s0 x2 := (State.put_evolves (State.put_evolves (State.put_evolves h0)))
      clear_value x2
      have h3 : Evolves s0 x3 := (State.put_evolves h2)
      clear_value x3
      exact (.ite (State.onCis_evolves h3) (.ite (State.put_evolves h0) h0)))))

theorem appendVoid_evolves {s0 s : State} {a0 a1} (h : Evolves s0 s) : Evolves s0 (appendVoid a0 a1 s) := by
  unfold appendVoid
  extract_lets -merge -underBinder x0
  clear_value x0
  exact place_evolves h

theorem takeoverVoids_evolves {s0 s : State} {a0} (h : Evolves s0 s) : Evolves s0 (takeoverVoids a0 s) := by
  unfold takeoverVoids
  exact .foldl h (fun _ _ h0 => (.foldl h0 (fun _ _ h1 => (appendVoid_evolves (State.onTwn_evolves h1)))))

theorem gapFlags_evolves {s0 s : State} {a0 a1} (h : Evolves s0 s) : Evolves s0 (gapFlags a0 a1 s) := by
  unfold gapFlags
  extract_lets -merge -underBinder x0 x1 x2 x3 x4 x6 x8
  clear_value x0 x1 x3
  have h4 : Evolves s0 x4 := (.foldl h (fun _ _ h5 => (modWindow_evolves h5)))
  clear_value x4
  have h6 : Evolves s0 x6 := (.foldl h4 (fun _ _ h7 => (modWindow_evolves h7)))
  clear_value x6 x8
  exact .ite h6 (raise_evolves h6)

theorem resequence_evolves {s0 s : State} (h : Evolves s0 s) : Evolves s0 (resequence s) := by
  unfold resequence
  extract_lets -merge -underBinder x0
  clear_value x0
  exact (.foldl h (fun _ _ h1 => (by
      split
      · exact startOp_evolves (State.onCis_evolves h1)
      · extract_lets -merge -underBinder x4 x6
        have h4 : Evolves s0 x4 := (.foldl h1 (fun _ _ h5 => (State.put_evolves (sequenceReach_evolves h5))))
        clear_value x4 x6
        exact (State.onCis_evolves h4))))

theorem takeoverReaches_evolves {s0 s : State} (h : Evolves s0 s) : Evolves s0 (takeoverReaches s) := by
  unfold takeoverReaches
  extract_lets -merge -underBinder x0 x1 x2 x3 x4 x5 x7
  clear_value x0 x1
  have h2 : Evolves s0 x2 := (sweepReaches_evolves h)
  clear_value x2
  have h3 : Evolves s0 x3 := (takeoverVoids_evolves h2)
  clear_value x3
  have h4 : Evolves s0 x4 := (gapFlags_evolves h3)
  clear_value x4
  have h5 : Evolves s0 x5 := (.foldl h4 (fun _ _ h6 => (.ite (markGran_evolves h6) h6)))
  clear_value x5
  have h7 : Evolves s0 x7 := (State.onTwn_evolves h5)
  clear_value x7
  exact State.onCis_evolves h7

theorem takeoverEnd_evolves {s0 s : State} (h : Evolves s0 s) : Evolves s0 (takeoverEnd s) := by
  unfold takeoverEnd
  extract_lets -merge -underBinder x0 x1 x2 x3 x4 x5 x6 x7 x8 x9 x10 x11 x12 x13 x14 x17
  clear_value x0 x1
  clear_value x2 x3
  have h4 : Evolves s0 x4 := (State.onTwn_evolves h)
  clear_value x4
  have h5 : Evolves s0 x5 := (.ite (takeoverReaches_evolves h4) h4)
  clear_value x5 x6
  have h7 : Evolves s0 x7 := (State.put_evolves h5)
  clear_value x7
  have h8 : Evolves s0 x8 := (State.put_evolves (State.put_evolves h7))
  clear_value x8
  have h9 : Evolves s0 x9 := (State.put_evolves (State.put_evolves h8))
  clear_value x9
  have h10 : Evolves s0 x10 := (State.put_evolves (State.onTwn_evolves h9))
  clear_value x10
  have h11 : Evolves s0 x11 := (arrive_evolves (cubSync_evolves h10))
  clear_value x11
  have h12 : Evolves s0 x12 := (.ite (resequence_evolves h11) h11)
  clear_value x12
  have h13 : Evolves s0 x13 := (raise_evolves h12)
  clear_value x13
  have h14 : Evolves s0 x14 := (by
      unfold x14
      split
      · exact complete_evolves h13
      · exact h13)
  clear_value x14
  have h17 : Evolves s0 x17 := (by
      unfold x17
      split
      · exact complete_evolves h14
      · exact h14)
  clear_value x17
  exact admitAll_evolves (settle_evolves (State.onTwn_evolves h17))

theorem sendHistory_evolves {s0 s : State} (h : Evolves s0 s) : Evolves s0 (sendHistory s) := by
  unfold sendHistory
  extract_lets -merge -underBinder x0 x1 x2
  clear_value x0 x1
  have h2 : Evolves s0 x2 := (linkSend_evolves h)
  clear_value x2
  exact .foldl h2 (fun _ _ h3 => (tellReach_evolves h3))

theorem markReach_evolves {s0 s : State} {a0} (h : Evolves s0 s) : Evolves s0 (markReach a0 s) := by
  unfold markReach
  extract_lets -merge -underBinder x0
  clear_value x0
  exact cubSync_evolves (State.onTwn_evolves h)

theorem markAllGrans_evolves {s0 s : State} (h : Evolves s0 s) : Evolves s0 (markAllGrans s) := by
  unfold markAllGrans
  exact .foldl h (fun _ _ h0 => (markReach_evolves h0))

theorem startJoin_evolves {s0 s : State} (h : Evolves s0 s) : Evolves s0 (startJoin s) := by
  unfold startJoin
  extract_lets -merge -underBinder x0 x1 x2
  have h0 : Evolves s0 x0 := (unfenceLink_evolves (unfenceLink_evolves (unfenceLink_evolves h)))
  clear_value x0 x1
  have h2 : Evolves s0 x2 := (State.onTwn_evolves h0)
  clear_value x2
  exact sendHistory_evolves (.ite h2 (setPair_evolves h2))

theorem closeWindows_evolves {s0 s : State} (h : Evolves s0 s) : Evolves s0 (closeWindows s) := by
  unfold closeWindows
  extract_lets -merge -underBinder x0 x1 x2 x3
  clear_value x0 x1
  have h2 : Evolves s0 x2 := (.same h)
  clear_value x2
  have h3 : Evolves s0 x3 := (.foldl h2 (fun _ _ h4 => (.ite (refuse_evolves h4) (complete_evolves h4))))
  clear_value x3
  exact (.foldl h3 (fun _ _ h5 => (by
      split
      · exact .ite h5 (freeWindow_evolves h5)
      · exact h5)))

theorem discardRecs_evolves {s0 s : State} {a0 a1} (h : Evolves s0 s) : Evolves s0 (discardRecs a0 a1 s) := by
  unfold discardRecs
  extract_lets -merge -underBinder x0
  clear_value x0
  split
  · exact h
  · extract_lets -merge -underBinder x4 x5 x6 x8 x9
    clear_value x4 x5
    have h6 : Evolves s0 x6 := (.foldl h (fun _ _ h7 => (markGran_evolves h7)))
    clear_value x6
    have h8 : Evolves s0 x8 := (State.add_evolves h6)
    clear_value x8
    have h9 : Evolves s0 x9 := (retireWhere_evolves h8)
    clear_value x9
    exact raise_evolves h9

theorem followHistory_evolves {s0 s : State} {a0 a1} (h : Evolves s0 s) : Evolves s0 (followHistory a0 a1 s) := by
  unfold followHistory
  exact (.foldl h (fun _ _ h0 => (by
      extract_lets -merge -underBinder x1 x2 x3 x4 x6 x7 x8
      clear_value x1
      have h2 : Evolves s0 x2 := (.ite (discardRecs_evolves h0) (.ite (discardRecs_evolves h0) h0))
      clear_value x2 x3
      have h4 : Evolves s0 x4 := (.foldl h2 (fun _ _ h5 => (markGran_evolves h5)))
      clear_value x4
      have h6 : Evolves s0 x6 := (State.onCis_evolves h4)
      clear_value x6
      have h7 : Evolves s0 x7 := (State.put_evolves h6)
      clear_value x7
      have h8 : Evolves s0 x8 := (State.put_evolves (State.put_evolves h7))
      clear_value x8
      exact (.ite h0 (State.put_evolves h8)))))

theorem sendMap_evolves {s0 s : State} (h : Evolves s0 s) : Evolves s0 (sendMap s) := by
  unfold sendMap
  extract_lets -merge -underBinder x0
  have h0 : Evolves s0 x0 := (linkSend_evolves h)
  clear_value x0
  exact linkSend_evolves h0

theorem sendVoids_evolves {s0 s : State} (h : Evolves s0 s) : Evolves s0 (sendVoids s) := by
  unfold sendVoids
  extract_lets -merge -underBinder x0
  have h0 : Evolves s0 x0 := (linkSend_evolves h)
  clear_value x0
  exact linkSend_evolves h0

theorem settleCatching_evolves {s0 s : State} {a0 a1} (h : Evolves s0 s) : Evolves s0 (settleCatching a0 a1 s) := by
  unfold settleCatching
  split
  · exact h
  · extract_lets -merge -underBinder x2 x3 x4 x5 x6
    have h2 : Evolves s0 x2 := (followHistory_evolves (closeWindows_evolves h))
    clear_value x2
    have h3 : Evolves s0 x3 := (.ite (markAllGrans_evolves h2) h2)
    clear_value x3
    have h4 : Evolves s0 x4 := (State.onTwn_evolves h3)
    clear_value x4
    have h5 : Evolves s0 x5 := (.ite (setMode_evolves h4) h4)
    clear_value x5
    have h6 : Evolves s0 x6 := (.ite (setPair_evolves h5) (setPair_evolves (State.onTwn_evolves h5)))
    clear_value x6
    exact admitSync_evolves (cubSync_evolves (sendMap_evolves h6))

theorem settleAuthority_evolves {s0 s : State} {a0} (h : Evolves s0 s) : Evolves s0 (settleAuthority a0 s) := by
  unfold settleAuthority
  extract_lets -merge -underBinder x0 x1 x3 x4
  have h0 : Evolves s0 x0 := (.ite (markAllGrans_evolves h) h)
  clear_value x0
  have h1 : Evolves s0 x1 := (.foldl h0 (fun _ _ h2 => (markReach_evolves h2)))
  clear_value x1
  have h3 : Evolves s0 x3 := (.ite (State.send_evolves (State.put_evolves h1)) h1)
  clear_value x3
  have h4 : Evolves s0 x4 := (State.onTwn_evolves h3)
  clear_value x4
  exact sendVoids_evolves (sendMap_evolves (cubSync_evolves h4))

theorem contest_evolves {s0 s : State} (h : Evolves s0 s) : Evolves s0 (contest s) := by
  unfold contest
  extract_lets -merge -underBinder x0
  have h0 : Evolves s0 x0 := (State.onTwn_evolves h)
  clear_value x0
  exact setMode_evolves (setPair_evolves h0)

theorem sendGranule_evolves {s0 s : State} {a0} (h : Evolves s0 s) : Evolves s0 (sendGranule a0 s) := by
  unfold sendGranule
  extract_lets -merge -underBinder x0 x1 x2 x3
  clear_value x0 x1 x2
  exact linkSend_evolves (linkSend_evolves h)

theorem supply_evolves {s0 s : State} {a0 a1 a2} (h : Evolves s0 s) : Evolves s0 (supply a0 a1 a2 s) := by
  unfold supply
  extract_lets -merge -underBinder x0
  clear_value x0
  exact .ite (.foldl h (fun _ _ h1 => (.ite h1 (sendGranule_evolves (State.onTwn_evolves h1))))) (.foldl h (fun _ _ h2 => (linkSend_evolves h2)))

theorem reconcileReach_evolves {s0 s : State} {a0 a1 a2 a4} (h : Evolves s0 s) : Evolves s0 (reconcileReach a0 a1 a2 s a4) := by
  unfold reconcileReach
  extract_lets -merge -underBinder x0 x1 x2 x3 x4 x5 x7 x9
  clear_value x0 x1
  clear_value x3 x4
  have h5 : Evolves s0 x5 := (.foldl h (fun _ _ h6 => (.ite (supply_evolves h6) h6)))
  clear_value x5
  have h7 : Evolves s0 x7 := (.foldl h5 (fun _ _ h8 => (appendVoid_evolves h8)))
  clear_value x7 x9
  exact State.onTwn_evolves h7

theorem reconcileSync_evolves {s0 s : State} (h : Evolves s0 s) : Evolves s0 (reconcileSync s) := by
  unfold reconcileSync
  extract_lets -merge -underBinder x0 x2 x4 x5
  have h0 : Evolves s0 x0 := (.foldl h (fun _ _ h1 => (appendVoid_evolves h1)))
  clear_value x0
  have h2 : Evolves s0 x2 := (.foldl h0 (fun _ _ h3 => (.ite (State.put_evolves h3) h3)))
  clear_value x2
  have h4 : Evolves s0 x4 := (State.onTwn_evolves h2)
  clear_value x4
  have h5 : Evolves s0 x5 := (State.onCis_evolves h4)
  clear_value x5
  exact .ite h (enterServing_evolves (applyAll_evolves h5))

theorem reconcile_evolves {s0 s : State} {a0 a1 a2 a3} (h : Evolves s0 s) : Evolves s0 (reconcile a0 a1 a2 a3 s) := by
  unfold reconcile
  extract_lets -merge -underBinder x0
  have h0 : Evolves s0 x0 := (State.onTwn_evolves h)
  clear_value x0
  exact reconcileSync_evolves (.foldl h0 (fun _ _ h1 => (reconcileReach_evolves h1)))

theorem sendSplit_evolves {s0 s : State} {a0} (h : Evolves s0 s) : Evolves s0 (sendSplit a0 s) := by
  unfold sendSplit
  exact linkSend_evolves h

theorem beginDepart_evolves {s0 s : State} {a0} (h : Evolves s0 s) : Evolves s0 (beginDepart a0 s) := by
  unfold beginDepart
  extract_lets -merge -underBinder x0
  have h0 : Evolves s0 x0 := (sendSplit_evolves (State.onTwn_evolves h))
  clear_value x0
  exact .foldl h0 (fun _ _ h1 => (beginHandover_evolves h1))

theorem splitSync_evolves {s0 s : State} (h : Evolves s0 s) : Evolves s0 (splitSync s) := by
  unfold splitSync
  split
  · exact .ite (fenceSelf_evolves (sendSplit_evolves h)) h
  · exact h

end Sys2Proof.Machine
end

