-- ==== Sys2Proof/Laws/EvolveCommands.lean ====
section
/-!
SUPPORT. Sys2Proof/Laws/EvolveCommands.lean: what every command leaves in place (`Evolves`), one lemma for each of
the meanings of the commands of a module that concern it alone.
-/
set_option Elab.async false

namespace Sys2Proof.Machine

open Sys2Proof

/-! ### Mailbox -/

theorem queueSync_evolves {s0 s : State} (h : Evolves s0 s) : Evolves s0 (queueSync s) := by
  unfold queueSync
  exact State.put_evolves (State.put_evolves (State.put_evolves (State.put_evolves h)))

theorem ringEntered_evolves {s0 s : State} {a0} (h : Evolves s0 s) : Evolves s0 (ringEntered a0 s) := by
  unfold ringEntered
  extract_lets -merge -underBinder x0 x1 x2 x3
  clear_value x0 x1
  have h2 : Evolves s0 x2 := (State.inc_evolves (State.onMbx_evolves h))
  clear_value x2
  have h3 : Evolves s0 x3 := (State.put_evolves (State.put_evolves (State.put_evolves (State.put_evolves h2))))
  clear_value x3
  exact State.put_evolves (State.put_evolves h3)

theorem enqueue_evolves {s0 s : State} {a0} (h : Evolves s0 s) : Evolves s0 (enqueue a0 s) := by
  unfold enqueue
  exact queueSync_evolves (State.onMbx_evolves h)

theorem ringAccepted_evolves {s0 s : State} {a0 a1 a2} (h : Evolves s0 s) : Evolves s0 (ringAccepted a0 a1 a2 s) := by
  unfold ringAccepted
  extract_lets -merge -underBinder x0
  have h0 : Evolves s0 x0 := (ringEntered_evolves h)
  clear_value x0
  split
  · exact refuse_evolves h0
  · extract_lets -merge -underBinder x4
    have h4 : Evolves s0 x4 := (State.inc_evolves h0)
    clear_value x4
    exact (.ite (.ite (refuse_evolves h4) (enqueue_evolves h4)) (by
        split
        · exact completeW_evolves (State.put_evolves (State.inc_evolves h0))
        · exact (enqueue_evolves h0)))

theorem execMbxRing_evolves {s0 s : State} {a0 a1 a2} (h : Evolves s0 s) : OutEvolves s0 (execMbxRing a0 a1 a2 s) := by
  unfold execMbxRing
  exact .ite h (.ite (State.inc_evolves h) (ringAccepted_evolves h))

theorem execMbxCancel_evolves {s0 s : State} {a0} (h : Evolves s0 s) : OutEvolves s0 (execMbxCancel a0 s) := by
  unfold execMbxCancel
  exact .ite (queueSync_evolves (completeW_evolves h)) h

theorem execMbxAck_evolves {s0 s : State} {a0} (h : Evolves s0 s) : OutEvolves s0 (execMbxAck a0 s) := by
  unfold execMbxAck
  extract_lets -merge -underBinder x0
  have h0 : Evolves s0 x0 := (State.put_evolves (State.put_evolves h))
  clear_value x0
  exact .ite (.ite h0 (State.put_evolves h0)) h

theorem execMbxCommandStart_evolves {s0 s : State} {a0} (h : Evolves s0 s) : OutEvolves s0 (execMbxCommandStart a0 s) := by
  unfold execMbxCommandStart
  extract_lets -merge -underBinder x0 x1
  clear_value x0
  have h1 : Evolves s0 x1 := (State.put_evolves (State.onMbx_evolves h))
  clear_value x1
  exact .ite (.ite (queueSync_evolves (.ite h1 (State.inc_evolves h1))) h) h

theorem execPairMailboxCommand_evolves {s0 s : State} {a0 a1 a2} (h : Evolves s0 s) : OutEvolves s0 (execPairMailboxCommand a0 a1 a2 s) := by
  unfold execPairMailboxCommand
  extract_lets -merge -underBinder x0 x1 x2
  clear_value x0
  have h1 : Evolves s0 x1 := (State.onMbx_evolves h)
  clear_value x1
  have h2 : Evolves s0 x2 := (State.put_evolves (State.put_evolves (State.put_evolves h1)))
  clear_value x2
  exact .ite (ringAccepted_evolves h2) h

theorem writeFields_evolves {s0 s : State} {a0 a1 a2 a3 a4 a5} (h : Evolves s0 s) : Evolves s0 (writeFields a0 a1 a2 a3 a4 a5 s) := by
  unfold writeFields
  exact .foldl h (fun _ _ h0 => (.ite (State.put_evolves h0) h0))

theorem discardWrite_evolves {s0 s : State} {a0 a1} (h : Evolves s0 s) : Evolves s0 (discardWrite a0 a1 s) := by
  unfold discardWrite
  exact State.addSat_evolves (State.put_evolves (State.put_evolves h))

theorem discardBelow_evolves {s0 s : State} {a0 a1} (h : Evolves s0 s) : Evolves s0 (discardBelow a0 a1 s) := by
  unfold discardBelow
  exact .ite (discardWrite_evolves h) (hostViolation_evolves (discardWrite_evolves h))

theorem mgmtReply_evolves {s0 s : State} {a0 a1} (h : Evolves s0 s) : Evolves s0 (mgmtReply a0 a1 s) := by
  unfold mgmtReply
  exact .ite (State.send_evolves h) h

theorem pulseWrite_evolves {s0 s : State} {acc off l : Nat} {f : State → State} (h : Evolves s0 s) (hf : Evolves s0 (f s)) :
    Evolves s0 (pulseWrite acc off l f s) := by
  unfold pulseWrite
  exact .ite h (.ite (mgmtReply_evolves (discardBelow_evolves h)) (mgmtReply_evolves hf))

theorem writeView_evolves {s0 s : State} {a0 a1 a2 a3} (h : Evolves s0 s) : Evolves s0 (writeView a0 a1 a2 a3 s) := by
  unfold writeView
  extract_lets -merge -underBinder x0 x1 x2
  clear_value x0 x1 x2
  exact (.ite (State.inc_evolves h) (.ite (.foldl h (fun _ _ h3 => (by
          extract_lets -merge -underBinder x4
          clear_value x4
          exact (.ite (State.put_evolves h3) h3)))) (.ite (State.onMbx_evolves h) h)))

theorem directWrite_evolves {s0 s : State} {a0 a1 a2 a3} (h : Evolves s0 s) : Evolves s0 (directWrite a0 a1 a2 a3 s) := by
  unfold directWrite
  split
  · exact mgmtReply_evolves h
  · split
    · exact mgmtReply_evolves (discardWrite_evolves h)
    · exact .ite (mgmtReply_evolves (discardBelow_evolves h)) (.ite (mgmtReply_evolves (writeView_evolves h)) (.ite (mgmtReply_evolves (State.put_evolves h)) (.ite (mgmtReply_evolves (State.put_evolves (State.put_evolves h))) (mgmtReply_evolves (writeFields_evolves h)))))

theorem badAccess_evolves {s0 s : State} {a0} (h : Evolves s0 s) : Evolves s0 (badAccess a0 s) := by
  unfold badAccess
  exact .ite (mgmtReply_evolves h) (respond_evolves (hostViolation_evolves h))

theorem execRegisterWrite_evolves {s0 s : State} {a0 a1 a2 a3} (h : Evolves s0 s) : OutEvolves s0 (execRegisterWrite a0 a1 a2 a3 s) := by
  unfold execRegisterWrite
  exact onLive_evolves h (fun _ h0 => (.ite h0 (.ite h0 (.ite (badAccess_evolves h0) (.ite (mgmtReply_evolves h0) (.ite (mgmtReply_evolves h0) (.ite (mgmtReply_evolves h0) (directWrite_evolves h0))))))))

theorem execMgmtRaiseLevel_evolves {s0 s : State} {a0 a1} (h : Evolves s0 s) : OutEvolves s0 (execMgmtRaiseLevel a0 a1 s) := by
  unfold execMgmtRaiseLevel
  exact (onLive_evolves h (fun _ h0 => (.ite h0 (by
        split
        · exact h0
        · exact (.ite h0 (.ite (State.send_evolves h0) (.ite (State.send_evolves (State.put_evolves (.same h0))) (State.send_evolves (State.onStore_evolves h0)))))))))

theorem execIdentify_evolves {s0 s : State} {a0} (h : Evolves s0 s) : OutEvolves s0 (execIdentify a0 s) := by
  unfold execIdentify
  exact onCmd_evolves h (fun _ h0 => (complete_evolves h0))

theorem execHealth_evolves {s0 s : State} {a0} (h : Evolves s0 s) : OutEvolves s0 (execHealth a0 s) := by
  unfold execHealth
  exact onCmd_evolves h (fun _ h0 => (complete_evolves h0))

theorem execStatsRead_evolves {s0 s : State} {a0} (h : Evolves s0 s) : OutEvolves s0 (execStatsRead a0 s) := by
  unfold execStatsRead
  exact (onCmd_evolves h (fun _ h0 => (by
      extract_lets -merge -underBinder x1 x2
      clear_value x1 x2
      exact (.ite (refuse_evolves h0) (.ite (refuse_evolves h0) (by
            split
            · exact refuse_evolves h0
            · exact (complete_evolves h0)))))))

theorem completeFree_evolves {s0 s : State} {a0 a1} (h : Evolves s0 s) : Evolves s0 (completeFree a0 a1 s) := by
  unfold completeFree
  extract_lets -merge -underBinder x0
  have h0 : Evolves s0 x0.2 := (State.freeBytes_evolves h)
  clear_value x0
  exact complete_evolves h0

/-! ### Bench -/

theorem execBchBankInvalidate_evolves {s0 s : State} {a0 a1} (h : Evolves s0 s) : OutEvolves s0 (execBchBankInvalidate a0 a1 s) := by
  unfold execBchBankInvalidate
  exact (onUp_evolves h (fun _ h0 => (by
      extract_lets -merge -underBinder x1
      clear_value x1
      exact (pulseWrite_evolves h0 (.ite (State.put_evolves h0) (raise_evolves h0))))))

theorem execBankInvalidateDone_evolves {s0 s : State} {a0} (h : Evolves s0 s) : OutEvolves s0 (execBankInvalidateDone a0 s) := by
  unfold execBankInvalidateDone
  exact (onUp_evolves h (fun _ h0 => (by
      extract_lets -merge -underBinder x1 x2
      clear_value x1
      have h2 : Evolves s0 x2 := (State.onTir_evolves h0)
      clear_value x2
      exact (.ite h0 (dirtySync_evolves (State.put_evolves (State.put_evolves h2)))))))

theorem execBankWritebackDone_evolves {s0 s : State} {a0} (h : Evolves s0 s) : OutEvolves s0 (execBankWritebackDone a0 s) := by
  unfold execBankWritebackDone
  exact (onUp_evolves h (fun _ h0 => (by
      extract_lets -merge -underBinder x1 x2 x3
      clear_value x1 x2
      have h3 : Evolves s0 x3 := (State.onTir_evolves h0)
      clear_value x3
      exact (.ite h0 (dirtySync_evolves (State.put_evolves (State.add_evolves h3)))))))

theorem execParityLimitReached_evolves {s0 s : State} {a0} (h : Evolves s0 s) : OutEvolves s0 (execParityLimitReached a0 s) := by
  unfold execParityLimitReached
  exact (onUp_evolves h (fun _ h0 => (by
      extract_lets -merge -underBinder x1 x2 x3
      clear_value x1 x2 x3
      exact (.ite h0 (raise_evolves (State.put_evolves (State.put_evolves (State.put_evolves h0))))))))

theorem maintDone_evolves {s0 s : State} (h : Evolves s0 s) : Evolves s0 (maintDone s) := by
  unfold maintDone
  split
  · exact .ite h (State.put_evolves (State.put_evolves (State.onTir_evolves h)))
  · exact h

theorem maintCut_evolves {s0 s : State} {a0} (h : Evolves s0 s) : Evolves s0 (maintCut a0 s) := by
  unfold maintCut
  extract_lets -merge -underBinder x0 x1 x2 x3 x4 x9
  clear_value x0 x1
  clear_value x2 x3
  have h4 : Evolves s0 x4 := (.foldl h (fun _ _ h5 => (by
        extract_lets -merge -underBinder x6 x7 x8
        clear_value x6 x7
        have h8 : Evolves s0 x8 := (putWay_evolves h5)
        clear_value x8
        exact (dirtySync_evolves (.ite h8 (State.inc_evolves h8))))))
  clear_value x4
  have h9 : Evolves s0 x9 := (State.onTir_evolves h4)
  clear_value x9
  exact maintDone_evolves (State.put_evolves h9)

theorem maintGo_evolves {s0 s : State} {a0 a1} (h : Evolves s0 s) : Evolves s0 (maintGo a0 a1 s) := by
  unfold maintGo
  extract_lets -merge -underBinder x0
  have h0 : Evolves s0 x0 := (State.put_evolves h)
  clear_value x0
  exact (.ite (State.put_evolves h) (by
      split
      · exact State.put_evolves h0
      · exact (maintCut_evolves h0)))

theorem execBenchInvalidate_evolves {s0 s : State} {a0} (h : Evolves s0 s) : OutEvolves s0 (execBenchInvalidate a0 s) := by
  unfold execBenchInvalidate
  exact onUp_evolves h (fun _ h0 => (pulseWrite_evolves h0 (maintGo_evolves h0)))

theorem execBenchClean_evolves {s0 s : State} {a0} (h : Evolves s0 s) : OutEvolves s0 (execBenchClean a0 s) := by
  unfold execBenchClean
  exact onUp_evolves h (fun _ h0 => (pulseWrite_evolves h0 (maintGo_evolves h0)))

theorem execBenchFlush_evolves {s0 s : State} {a0} (h : Evolves s0 s) : OutEvolves s0 (execBenchFlush a0 s) := by
  unfold execBenchFlush
  exact onUp_evolves h (fun _ h0 => (pulseWrite_evolves h0 (maintGo_evolves h0)))

theorem installFill_evolves {s0 s : State} {a0} (h : Evolves s0 s) : Evolves s0 (installFill a0 s) := by
  unfold installFill
  extract_lets -merge -underBinder x0
  have h0 : Evolves s0 x0 := (.ite (reserveWay_evolves h) h)
  clear_value x0
  split
  · exact h0
  · extract_lets -merge -underBinder x4 x5 x6 x7 x8
    have h4 : Evolves s0 x4 := (State.onTir_evolves h0)
    clear_value x4 x5
    clear_value x6 x7 x8
    exact dirtySync_evolves (putWay_evolves h4)

theorem execBenchFillLanded_evolves {s0 s : State} {a0 a1} (h : Evolves s0 s) : OutEvolves s0 (execBenchFillLanded a0 a1 s) := by
  unfold execBenchFillLanded
  exact (onUp_evolves h (fun _ h0 => (by
      split
      · exact h0
      · extract_lets -merge -underBinder x3 x4
        have h3 : Evolves s0 x3 := (State.onTir_evolves h0)
        clear_value x3
        have h4 : Evolves s0 x4 := (State.inc_evolves h3)
        clear_value x4
        exact (.ite (maintDone_evolves h3) (.ite (maintDone_evolves (issueFill_evolves h4)) (installFill_evolves h0))))))

theorem execVictimWritebackAck_evolves {s0 s : State} {a0} (h : Evolves s0 s) : OutEvolves s0 (execVictimWritebackAck a0 s) := by
  unfold execVictimWritebackAck
  exact (onUp_evolves h (fun _ h0 => (by
      split
      · exact h0
      · extract_lets -merge -underBinder x3 x4
        have h3 : Evolves s0 x3 := (victimSync_evolves (State.onTir_evolves h0))
        clear_value x3
        have h4 : Evolves s0 x4 := (reserveWay_evolves h3)
        clear_value x4
        exact (.ite h3 (by
            split
            · exact h4
            · extract_lets -merge -underBinder x8
              clear_value x8
              exact (dirtySync_evolves (putWay_evolves h4)))))))

/-! ### Cistern -/

theorem execCisternAppend_evolves {s0 s : State} {a0} (h : Evolves s0 s) : OutEvolves s0 (execCisternAppend a0 s) := by
  unfold execCisternAppend
  exact (onUp_evolves h (fun _ h0 => (by
      extract_lets -merge -underBinder x1 x2 x3
      clear_value x1 x2
      have h3 : Evolves s0 x3 := (append_evolves (.ite (State.onCis_evolves h0) h0))
      clear_value x3
      exact (.ite h0 (.ite (linkSend_evolves h3) h3)))))

theorem execRecordHeld_evolves {s0 s : State} {a0 a1} (h : Evolves s0 s) : OutEvolves s0 (execRecordHeld a0 a1 s) := by
  unfold execRecordHeld
  exact (onUp_evolves h (fun _ h0 => (by
      split
      · exact h0
      · exact (.ite h0 (recordHeld_evolves (mergeFault_evolves (memFault_evolves h0)))))))

theorem execWriteAdmitted_evolves {s0 s : State} (h : Evolves s0 s) : OutEvolves s0 (execWriteAdmitted s) := by
  unfold execWriteAdmitted
  exact onUp_evolves h (fun _ h0 => (.ite (admitAll_evolves (settle_evolves h0)) h0))

theorem execAppendResume_evolves {s0 s : State} (h : Evolves s0 s) : OutEvolves s0 (execAppendResume s) := by
  unfold execAppendResume
  exact onUp_evolves h (fun _ h0 => (resumeAppends_evolves h0))

theorem evictForRoom_evolves {s0 s : State} {a0} (h : Evolves s0 s) : Evolves s0 (evictForRoom a0 s) := by
  unfold evictForRoom
  extract_lets -merge -underBinder x0
  clear_value x0
  exact (.ite h (.ite (State.inc_evolves (setGran_evolves h)) (by
        split
        · exact h
        · rename_i y2 hq
          have g2 : Evolves s0 y2 := .of_some hq (allocFloor_evolves h)
          exact (State.inc_evolves (modGran_evolves g2)))))

theorem makeRoom_evolves {s0 s : State} {a0} (h : Evolves s0 s) : Evolves s0 (makeRoom a0 s) := by
  unfold makeRoom
  extract_lets -merge -underBinder x0 x2
  have h0 : Evolves s0 x0 := (.foldl h (fun _ _ h1 => (.ite (evictForRoom_evolves h1) h1)))
  clear_value x0
  have h2 : Evolves s0 x2 := (hgRequest_evolves h0)
  clear_value x2
  exact poolSync_evolves (State.onCis_evolves h2)

theorem execCisternRoomMade_evolves {s0 s : State} (h : Evolves s0 s) : OutEvolves s0 (execCisternRoomMade s) := by
  unfold execCisternRoomMade
  exact (onUp_evolves h (fun _ h0 => (by
      split
      · exact h0
      · exact (.ite h0 (makeRoom_evolves h0)))))

theorem execCisternCopyDone_evolves {s0 s : State} (h : Evolves s0 s) : OutEvolves s0 (execCisternCopyDone s) := by
  unfold execCisternCopyDone
  exact (onUp_evolves h (fun _ h0 => (by
      extract_lets -merge -underBinder x1
      have h1 : Evolves s0 x1 := (raise_evolves (State.put_evolves h0))
      clear_value x1
      exact (.ite (degradedSync_evolves (poolSync_evolves (hgReturn_evolves (State.onCis_evolves h1)))) h0))))

theorem execCisternStatus_evolves {s0 s : State} {a0} (h : Evolves s0 s) : OutEvolves s0 (execCisternStatus a0 s) := by
  unfold execCisternStatus
  exact onCmd_evolves h (fun _ h0 => (completeFree_evolves h0))

/-! ### Drain -/

theorem execDrainPackStart_evolves {s0 s : State} {a0} (h : Evolves s0 s) : OutEvolves s0 (execDrainPackStart a0 s) := by
  unfold execDrainPackStart
  exact (onUp_evolves h (fun _ h0 => (.ite h0 (by
        split
        · exact h0
        · extract_lets -merge -underBinder x3
          clear_value x3
          exact (.ite (State.add_evolves (retireGran_evolves h0)) (by
              split
              · exact h0
              · rename_i y5 y6 hq
                have g6 : Evolves s0 y6 := .of_some2 hq (takeSlot_evolves h0)
                extract_lets -merge -underBinder x7 x8
                clear_value x7 x8
                exact (.ite (takeLock_evolves g6) (by
                    split
                    · rename_i y9 hq
                      have g9 : Evolves s0 y9 := .of_some hq (startPack_evolves g6)
                      exact g9
                    · exact (packWaits_evolves h0)))))))))

theorem endPack_evolves {s0 s : State} {a0} (h : Evolves s0 s) : Evolves s0 (endPack a0 s) := by
  unfold endPack
  extract_lets -merge -underBinder x0
  have h0 : Evolves s0 x0 := (packSync_evolves (State.onTir_evolves h))
  clear_value x0
  exact .ite h0 (giveSlot_evolves h0)

theorem confirmPack_evolves {s0 s : State} {a0 a1} (h : Evolves s0 s) : Evolves s0 (confirmPack a0 a1 s) := by
  unfold confirmPack
  extract_lets -merge -underBinder x0 x1 x2 x3 x4 x5 x6 x7 x8 x9
  clear_value x0 x1
  have h2 : Evolves s0 x2 := (journal_evolves (moveLive_evolves h))
  clear_value x2
  have h3 : Evolves s0 x3 := (modGran_evolves h2)
  clear_value x3
  have h4 : Evolves s0 x4 := (retireGran_evolves (wrapHeld_evolves h3))
  clear_value x4
  have h5 : Evolves s0 x5 := (State.add_evolves (State.inc_evolves h4))
  clear_value x5
  have h6 : Evolves s0 x6 := (State.onCis_evolves h5)
  clear_value x6
  have h7 : Evolves s0 x7 := (.ite (State.inc_evolves h6) h6)
  clear_value x7
  have h8 : Evolves s0 x8 := (.ite (linkSend_evolves (clearGran_evolves (State.onTwn_evolves h7))) h7)
  clear_value x8
  have h9 : Evolves s0 x9 := (State.onTir_evolves h8)
  clear_value x9
  exact checkpointDue_evolves (endPack_evolves h9)

theorem execPackConfirmed_evolves {s0 s : State} {a0} (h : Evolves s0 s) : OutEvolves s0 (execPackConfirmed a0 s) := by
  unfold execPackConfirmed
  exact (onUp_evolves h (fun _ h0 => (by
      split
      · exact h0
      · exact (.ite (endPack_evolves h0) (confirmPack_evolves h0)))))

theorem execPackProgramFailed_evolves {s0 s : State} {a0 a1} (h : Evolves s0 s) : OutEvolves s0 (execPackProgramFailed a0 a1 s) := by
  unfold execPackProgramFailed
  exact (onUp_evolves h (fun _ h0 => (by
      split
      · exact h0
      · extract_lets -merge -underBinder x3
        have h3 : Evolves s0 x3 := (State.inc_evolves (State.onTir_evolves h0))
        clear_value x3
        exact (.ite h0 (by
            split
            · rename_i y4 hq
              have g4 : Evolves s0 y4 := .of_some hq (startPack_evolves h3)
              exact g4
            · exact (packWaits_evolves h0))))))

theorem confirmCheckpoint_evolves {s0 s : State} {a0 a1} (h : Evolves s0 s) : Evolves s0 (confirmCheckpoint a0 a1 s) := by
  unfold confirmCheckpoint
  extract_lets -merge -underBinder x0
  have h0 : Evolves s0 x0 := (State.onMed_evolves h)
  clear_value x0
  exact retireXlates_evolves (State.inc_evolves (endPack_evolves h0))

theorem execCheckpointConfirmed_evolves {s0 s : State} {a0} (h : Evolves s0 s) : OutEvolves s0 (execCheckpointConfirmed a0 s) := by
  unfold execCheckpointConfirmed
  exact (onUp_evolves h (fun _ h0 => (by
      split
      · exact h0
      · exact (confirmCheckpoint_evolves h0))))

theorem countLane_evolves {s0 s : State} {a0 a1} (h : Evolves s0 s) : Evolves s0 (countLane a0 a1 s) := by
  unfold countLane
  exact .foldl h (fun _ _ h0 => (.ite h0 (State.inc_evolves h0)))

theorem execRowGroupPadTimeout_evolves {s0 s : State} {a0 a1 a2} (h : Evolves s0 s) : OutEvolves s0 (execRowGroupPadTimeout a0 a1 a2 s) := by
  unfold execRowGroupPadTimeout
  exact (onUp_evolves h (fun _ h0 => (by
      split
      · exact h0
      · exact (.ite h0 (State.onTir_evolves (State.add_evolves h0))))))

theorem evacuate_evolves {s0 s : State} {a0} (h : Evolves s0 s) : Evolves s0 (evacuate a0 s) := by
  unfold evacuate
  extract_lets -merge -underBinder x0 x1 x2 x3
  clear_value x0
  have h1 : Evolves s0 x1 := (setStripe_evolves h)
  clear_value x1
  have h2 : Evolves s0 x2 := (State.inc_evolves h1)
  clear_value x2
  have h3 : Evolves s0 x3 := (.ite h (closeStripe_evolves h))
  clear_value x3
  exact .ite h (.ite (.ite (raise_evolves h2) h2) (State.onTir_evolves h3))

theorem badUnit_evolves {s0 s : State} {a0 a1} (h : Evolves s0 s) : Evolves s0 (badUnit a0 a1 s) := by
  unfold badUnit
  extract_lets -merge -underBinder x0 x1 x2 x3
  clear_value x0 x1 x2
  have h3 : Evolves s0 x3 := (State.inc_evolves (State.onMed_evolves h))
  clear_value x3
  exact .ite (raise_evolves h3) (evacuate_evolves (raise_evolves h))

theorem storeGroup_evolves {s0 s : State} {a0} (h : Evolves s0 s) : Evolves s0 (storeGroup a0 s) := by
  unfold storeGroup
  exact .foldl h (fun _ _ h0 => (State.onMed_evolves h0))

theorem programEnded_evolves {s0 s : State} {a0 a1} (h : Evolves s0 s) : Evolves s0 (programEnded a0 a1 s) := by
  unfold programEnded
  extract_lets -merge -underBinder x0 x1
  have h0 : Evolves s0 x0 := (State.onTir_evolves h)
  clear_value x0
  have h1 : Evolves s0 x1 := (by
      unfold x1
      split
      · exact .ite (State.put_evolves (State.onTir_evolves h0)) h0
      · exact h0)
  clear_value x1
  exact hgReturn_evolves h1

theorem execProgramStatus_evolves {s0 s : State} {a0 a1 a2 a3 a4} (h : Evolves s0 s) : OutEvolves s0 (execProgramStatus a0 a1 a2 a3 a4 s) := by
  unfold execProgramStatus
  exact (onUp_evolves h (fun _ h0 => (by
      split
      · exact h0
      · extract_lets -merge -underBinder x3 x4 x5
        clear_value x3 x4
        have h5 : Evolves s0 x5 := (programEnded_evolves h0)
        clear_value x5
        exact (.ite h0 (.ite (hgWaitSync_evolves (groupPhase_evolves (storeGroup_evolves (countLane_evolves h5)))) (.ite (hgWaitSync_evolves (badUnit_evolves (closeStripe_evolves (groupPhase_evolves (raise_evolves (State.inc_evolves h5)))))) (hgWaitSync_evolves (groupPhase_evolves (raise_evolves (State.inc_evolves h5))))))))))

theorem resawSync_evolves {s0 s : State} (h : Evolves s0 s) : Evolves s0 (resawSync s) := by
  unfold resawSync
  exact State.put_evolves h

theorem renewCheckpoints_evolves {s0 s : State} {a0 a1} (h : Evolves s0 s) : Evolves s0 (renewCheckpoints a0 a1 s) := by
  unfold renewCheckpoints
  exact .foldl h (fun _ _ h0 => (startCheckpoint_evolves h0))

theorem takeVictim_evolves {s0 s : State} {a0} (h : Evolves s0 s) : Evolves s0 (takeVictim a0 s) := by
  unfold takeVictim
  extract_lets -merge -underBinder x0
  have h0 : Evolves s0 x0 := (State.onTir_evolves h)
  clear_value x0
  exact renewCheckpoints_evolves (State.put_evolves h0)

theorem execResawStart_evolves {s0 s : State} (h : Evolves s0 s) : OutEvolves s0 (execResawStart s) := by
  unfold execResawStart
  exact (onUp_evolves h (fun _ h0 => (.ite h0 (.ite (State.put_evolves h0) (by
          split
          · exact h0
          · exact (takeVictim_evolves h0))))))

theorem beginReloc_evolves {s0 s : State} {a0 a1 a2 a3 a4} (h : Evolves s0 s) : OptEvolves s0 (beginReloc a0 a1 a2 a3 a4 s) :=
  (placeGran_evolves h).map fun _ k => packSync_evolves (State.onTir_evolves k)

theorem endReloc_evolves {s0 s : State} {a0} (h : Evolves s0 s) : Evolves s0 (endReloc a0 s) := by
  unfold endReloc
  extract_lets -merge -underBinder x0 x1 x2 x3 x4 x5 x6 x7 x8 x9
  clear_value x0 x1
  clear_value x2 x3
  have h4 : Evolves s0 x4 := (endPack_evolves h)
  clear_value x4 x5
  have h6 : Evolves s0 x6 := (journal_evolves (moveLive_evolves h4))
  clear_value x6
  have h7 : Evolves s0 x7 := (State.onTir_evolves h6)
  clear_value x7
  have h8 : Evolves s0 x8 := (.ite h7 (State.inc_evolves h7))
  clear_value x8
  have h9 : Evolves s0 x9 := (.ite (State.inc_evolves h8) (.ite (State.inc_evolves h8) (State.inc_evolves h8)))
  clear_value x9
  exact .ite (.ite (evacuate_evolves (State.onTir_evolves h9)) h9) (State.inc_evolves h4)

theorem execResawRelocate_evolves {s0 s : State} {a0 a1 a2} (h : Evolves s0 s) : OutEvolves s0 (execResawRelocate a0 a1 a2 s) := by
  unfold execResawRelocate
  exact (onUp_evolves h (fun _ h0 => (.ite h0 (by
        split
        · extract_lets -merge -underBinder x2 x3
          clear_value x2
          have h3 : Evolves s0 x3 := (State.onTir_evolves h0)
          clear_value x3
          exact .ite (.ite (.ite h0 (takeLock_evolves h0)) (endReloc_evolves h0)) (.ite (OptEvolves.getD (beginReloc_evolves h3) h0) h0)
        · split
          · exact h0
          · exact (.ite h0 (by
                split
                · exact h0
                · rename_i y8 y9 hq
                  have g9 : Evolves s0 y9 := .of_some2 hq (takeSlot_evolves h0)
                  exact (OptEvolves.getD (beginReloc_evolves g9) h0)))))))

theorem execResawErase_evolves {s0 s : State} {a0} (h : Evolves s0 s) : OutEvolves s0 (execResawErase a0 s) := by
  unfold execResawErase
  exact (onUp_evolves h (fun _ h0 => (by
      extract_lets -merge -underBinder x1 x2
      have h1 : Evolves s0 x1.2 := (hgRequest_evolves h0)
      clear_value x1
      have h2 : Evolves s0 x2 := (State.onTir_evolves h1)
      clear_value x2
      exact (.ite h0 (.ite h2 (.ite (State.inc_evolves (State.put_evolves h2)) (State.onTir_evolves h2)))))))

theorem erased_evolves {s0 s : State} {a0} (h : Evolves s0 s) : Evolves s0 (erased a0 s) := by
  unfold erased
  extract_lets -merge -underBinder x0 x1 x2 x3 x4
  clear_value x0 x1
  clear_value x2 x3
  have h4 : Evolves s0 x4 := (setStripe_evolves h)
  clear_value x4
  exact State.add_evolves (State.onMed_evolves h4)

theorem stripeDone_evolves {s0 s : State} {a0} (h : Evolves s0 s) : Evolves s0 (stripeDone a0 s) := by
  unfold stripeDone
  extract_lets -merge -underBinder x0
  have h0 : Evolves s0 x0 := (.ite (State.inc_evolves (State.onTir_evolves h)) (State.onTir_evolves h))
  clear_value x0
  exact .ite (State.put_evolves h0) (resawSync_evolves h0)

theorem eraseEnded_evolves {s0 s : State} {a0 a1} (h : Evolves s0 s) : Evolves s0 (eraseEnded a0 a1 s) := by
  unfold eraseEnded
  extract_lets -merge -underBinder x0
  have h0 : Evolves s0 x0 := (countLane_evolves (hgReturn_evolves (State.onTir_evolves h)))
  clear_value x0
  exact erased_evolves (.ite (raise_evolves (State.onMed_evolves h0)) h0)

theorem eraseFailed_evolves {s0 s : State} {a0 a1} (h : Evolves s0 s) : Evolves s0 (eraseFailed a0 a1 s) := by
  unfold eraseFailed
  extract_lets -merge -underBinder x0
  clear_value x0
  exact badUnit_evolves (raise_evolves (State.inc_evolves h))

theorem execEraseStatus_evolves {s0 s : State} {a0 a1 a2} (h : Evolves s0 s) : OutEvolves s0 (execEraseStatus a0 a1 a2 s) := by
  unfold execEraseStatus
  exact (onUp_evolves h (fun _ h0 => (by
      extract_lets -merge -underBinder x1
      have h1 : Evolves s0 x1 := (eraseEnded_evolves h0)
      clear_value x1
      exact (.ite h0 (hgWaitSync_evolves (stripeDone_evolves (by
          split
          · exact h1
          · exact (eraseFailed_evolves h1))))))))

theorem execWearRelocation_evolves {s0 s : State} (h : Evolves s0 s) : OutEvolves s0 (execWearRelocation s) := by
  unfold execWearRelocation
  exact (onUp_evolves h (fun _ h0 => (.ite h0 (by
        split
        · exact h0
        · exact (renewCheckpoints_evolves (State.onMed_evolves (State.onTir_evolves h0)))))))

theorem execSuspendDone_evolves {s0 s : State} {a0 a1} (h : Evolves s0 s) : OutEvolves s0 (execSuspendDone a0 a1 s) := by
  unfold execSuspendDone
  exact (onUp_evolves h (fun _ h0 => (by
      extract_lets -merge -underBinder x1 x2
      clear_value x1 x2
      exact (.ite h0 (State.inc_evolves (State.onTir_evolves h0))))))

/-! ### Footing -/

theorem execQuarterReadDone_evolves {s0 s : State} {a0 a1 a2} (h : Evolves s0 s) : OutEvolves s0 (execQuarterReadDone a0 a1 a2 s) := by
  unfold execQuarterReadDone
  exact (onUp_evolves h (fun _ h0 => (by
      extract_lets -merge -underBinder x1 x2
      clear_value x1
      have h2 : Evolves s0 x2 := (State.inc_evolves h0)
      clear_value x2
      split
      · exact .ite h2 (startLadder_evolves h2)
      · exact (.ite (ladderPoison_evolves h2) (.ite (ladderShift_evolves h2) (.ite (ladderStripe_evolves h2) h2))))))

theorem execLadderDeadline_evolves {s0 s : State} {a0 a1} (h : Evolves s0 s) : OutEvolves s0 (execLadderDeadline a0 a1 s) := by
  unfold execLadderDeadline
  exact (onUp_evolves h (fun _ h0 => (by
      split
      · exact h0
      · exact (.ite h0 (ladderPoison_evolves h0)))))

theorem abandonErases_evolves {s0 s : State} (h : Evolves s0 s) : Evolves s0 (abandonErases s) := by
  unfold abandonErases
  extract_lets -merge -underBinder x0
  clear_value x0
  exact .foldl (State.onTir_evolves h) (fun _ _ h1 => (hgDrop_evolves h1))

theorem padAndClose_evolves {s0 s : State} (h : Evolves s0 s) : Evolves s0 (padAndClose s) := by
  unfold padAndClose
  extract_lets -merge -underBinder x0 x1 x3
  clear_value x0
  have h1 : Evolves s0 x1 := (.foldl h (fun _ _ h2 => (State.add_evolves h2)))
  clear_value x1
  have h3 : Evolves s0 x3 := (State.onTir_evolves h1)
  clear_value x3
  exact .foldl h3 (fun _ _ h4 => (closeStripe_evolves h4))

theorem boardsCheck_evolves {s0 s : State} (h : Evolves s0 s) : Evolves s0 (boardsCheck s) := by
  unfold boardsCheck
  extract_lets -merge -underBinder x0 x1
  clear_value x0
  have h1 : Evolves s0 x1 := (setBlock_evolves h)
  clear_value x1
  exact .ite (failStop_evolves h1) h1

theorem boardAbsent_evolves {s0 s : State} {a0 a1} (h : Evolves s0 s) : Evolves s0 (boardAbsent a0 a1 s) := by
  unfold boardAbsent
  extract_lets -merge -underBinder x0 x1 x2
  have h0 : Evolves s0 x0 := (State.put_evolves (State.put_evolves (State.put_evolves h)))
  clear_value x0
  have h1 : Evolves s0 x1 := (raise_evolves (State.onMed_evolves h0))
  clear_value x1
  have h2 : Evolves s0 x2 := (.ite (.foldl h1 (fun _ _ h3 => (failGroup_evolves h3))) h1)
  clear_value x2
  exact boardsCheck_evolves (.ite (.foldl h2 (fun _ _ h4 => (closeStripe_evolves h4))) h2)

theorem retireLane_evolves {s0 s : State} {a0} (h : Evolves s0 s) : Evolves s0 (retireLane a0 s) := by
  unfold retireLane
  extract_lets -merge -underBinder x0 x1 x2 x3 x5 x6
  clear_value x0 x1 x2
  have h3 : Evolves s0 x3 := (.foldl h (fun _ _ h4 => (failGroup_evolves h4)))
  clear_value x3
  have h5 : Evolves s0 x5 := (State.onMed_evolves h3)
  clear_value x5
  have h6 : Evolves s0 x6 := (.foldl (stripeSync_evolves (State.add_evolves h5)) (fun _ _ h7 => (evacuate_evolves h7)))
  clear_value x6
  exact .ite (raise_evolves h6) h6

theorem execDieTimeout_evolves {s0 s : State} {a0 a1} (h : Evolves s0 s) : OutEvolves s0 (execDieTimeout a0 a1 s) := by
  unfold execDieTimeout
  exact (onUp_evolves h (fun _ h0 => (by
      extract_lets -merge -underBinder x1 x2 x3
      clear_value x1 x2 x3
      exact (.ite h0 (retireLane_evolves (raise_evolves (State.put_evolves h0)))))))

theorem sluiceFailed_evolves {s0 s : State} {a0} (h : Evolves s0 s) : Evolves s0 (sluiceFailed a0 s) := by
  unfold sluiceFailed
  exact State.put_evolves (unitFault_evolves (State.put_evolves h))

theorem execChannelTrainingFail_evolves {s0 s : State} {a0} (h : Evolves s0 s) : OutEvolves s0 (execChannelTrainingFail a0 s) := by
  unfold execChannelTrainingFail
  exact (onUp_evolves h (fun _ h0 => (by
      extract_lets -merge -underBinder x1 x2
      clear_value x1
      have h2 : Evolves s0 x2 := (raise_evolves (sluiceFailed_evolves h0))
      clear_value x2
      exact (.ite h2 (boardAbsent_evolves h2)))))

theorem execBoardSurpriseAbsent_evolves {s0 s : State} {a0} (h : Evolves s0 s) : OutEvolves s0 (execBoardSurpriseAbsent a0 s) := by
  unfold execBoardSurpriseAbsent
  exact (onUp_evolves h (fun _ h0 => (by
      extract_lets -merge -underBinder x1
      clear_value x1
      exact (.ite h0 (boardAbsent_evolves (.foldl h0 (fun _ _ h2 => (sluiceFailed_evolves h2))))))))

theorem execBoardRelease_evolves {s0 s : State} {a0} (h : Evolves s0 s) : OutEvolves s0 (execBoardRelease a0 s) := by
  unfold execBoardRelease
  exact (onCmd_evolves h (fun _ h0 => (by
      extract_lets -merge -underBinder x1
      clear_value x1
      exact (.ite (refuse_evolves h0) (.ite (complete_evolves h0) (complete_evolves (boardAbsent_evolves (.foldl (abandonErases_evolves (padAndClose_evolves h0)) (fun _ _ h2 => (State.put_evolves h2))))))))))

theorem admitBoard_evolves {s0 s : State} {a0 a1 a2} (h : Evolves s0 s) : Evolves s0 (admitBoard a0 a1 a2 s) := by
  unfold admitBoard
  extract_lets -merge -underBinder x0 x1 x2 x3 x8 x9 x10
  have h1 : Evolves s0 x1 := (State.onMed_evolves h)
  clear_value x1
  have h2 : Evolves s0 x2 := (State.add_evolves h1)
  clear_value x2
  have h3 : Evolves s0 x3 := (.foldl h2 (fun _ _ h4 => (by
        extract_lets -merge -underBinder x5 x6 x7
        clear_value x5
        have h6 : Evolves s0 x6 := (State.put_evolves (State.put_evolves (State.put_evolves h4)))
        clear_value x6
        have h7 : Evolves s0 x7 := (State.put_evolves (State.put_evolves h6))
        clear_value x7
        exact (unitServing_evolves h7))))
  clear_value x3 x8
  have h9 : Evolves s0 x9 := (State.onMed_evolves h3)
  clear_value x9
  have h10 : Evolves s0 x10 := (State.put_evolves (State.put_evolves (State.put_evolves h9)))
  clear_value x10
  exact setBlock_evolves h10

theorem execBoardAdmit_evolves {s0 s : State} {a0 a1 a2 a3 a4} (h : Evolves s0 s) : OutEvolves s0 (execBoardAdmit a0 a1 a2 a3 a4 s) := by
  unfold execBoardAdmit
  exact (onCmd_evolves h (fun _ h0 => (by
      extract_lets -merge -underBinder x1 x2
      clear_value x1 x2
      exact (.ite (refuse_evolves h0) (.ite (refuse_evolves h0) (.ite (refuse_evolves h0) (.ite (refuse_evolves (raise_evolves (sluiceFailed_evolves h0))) (.ite (refuse_evolves (raise_evolves (State.put_evolves h0))) (.ite (refuse_evolves (raise_evolves h0)) (complete_evolves (admitBoard_evolves h0)))))))))))

theorem execBoardRebuildDone_evolves {s0 s : State} {a0} (h : Evolves s0 s) : OutEvolves s0 (execBoardRebuildDone a0 s) := by
  unfold execBoardRebuildDone
  exact (onUp_evolves h (fun _ h0 => (by
      extract_lets -merge -underBinder x1 x2 x3
      clear_value x1 x2
      have h3 : Evolves s0 x3 := (State.add_evolves (State.onMed_evolves h0))
      clear_value x3
      exact (.ite h0 (raise_evolves (State.put_evolves (State.put_evolves h3)))))))

theorem formatFooting_evolves {s0 s : State} {a0} (h : Evolves s0 s) : Evolves s0 (formatFooting a0 s) := by
  unfold formatFooting
  extract_lets -merge -underBinder x0 x1 x2 x3 x4 x5 x6 x7
  clear_value x0
  have h1 : Evolves s0 x1 := (State.onMed_evolves h)
  clear_value x1
  have h2 : Evolves s0 x2 := (State.onTir_evolves h1)
  clear_value x2
  have h3 : Evolves s0 x3 := (State.add_evolves (State.put_evolves (State.onMed_evolves h2)))
  clear_value x3
  have h4 : Evolves s0 x4 := (stripeSync_evolves (spillwaySync_evolves h3))
  clear_value x4
  have h5 : Evolves s0 x5 := (stripeSync_evolves (State.put_evolves h4))
  clear_value x5
  have h6 : Evolves s0 x6 := (evrSync_evolves (State.onEvr_evolves h5))
  clear_value x6
  have h7 : Evolves s0 x7 := (setBlock_evolves (State.onStore_evolves h6))
  clear_value x7
  exact .ite (evrSync_evolves (State.put_evolves h7)) h7

theorem execFootingFormat_evolves {s0 s : State} {a0 a1} (h : Evolves s0 s) : OutEvolves s0 (execFootingFormat a0 a1 s) := by
  unfold execFootingFormat
  exact onCmd_evolves h (fun _ h0 => (.ite (refuse_evolves h0) (.ite (refuse_evolves h0) (completeFree_evolves (formatFooting_evolves h0)))))

theorem execFootingStatus_evolves {s0 s : State} {a0} (h : Evolves s0 s) : OutEvolves s0 (execFootingStatus a0 s) := by
  unfold execFootingStatus
  exact onCmd_evolves h (fun _ h0 => (completeFree_evolves h0))

/-! ### Foreman -/

theorem discardFrames_evolves {s0 s : State} (h : Evolves s0 s) : Evolves s0 (discardFrames s) := by
  unfold discardFrames
  extract_lets -merge -underBinder x0 x1
  clear_value x0
  have h1 : Evolves s0 x1 := (State.onFrm_evolves h)
  clear_value x1
  exact .ite h (raise_evolves (State.add_evolves (.foldl h1 (fun _ _ h2 => (frameSync_evolves h2)))))

theorem emptyBay_evolves {s0 s : State} {a0} (h : Evolves s0 s) : Evolves s0 (emptyBay a0 s) := by
  unfold emptyBay
  extract_lets -merge -underBinder x0
  have h0 : Evolves s0 x0 := (State.onJnb_evolves h)
  clear_value x0
  exact State.put_evolves (State.put_evolves (State.put_evolves h0))

theorem dropLoads_evolves {s0 s : State} (h : Evolves s0 s) : Evolves s0 (dropLoads s) := by
  unfold dropLoads
  exact .foldl h (fun _ _ h0 => (.ite (emptyBay_evolves h0) h0))

theorem forgetWaiters_evolves {s0 s : State} {a0} (h : Evolves s0 s) : Evolves s0 (forgetWaiters a0 s) := by
  unfold forgetWaiters
  extract_lets -merge -underBinder x0 x1 x2 x3 x4 x5 x6 x7
  have h0 : Evolves s0 x0 := (State.onFrm_evolves h)
  clear_value x0
  have h1 : Evolves s0 x1 := (State.onJnb_evolves h0)
  clear_value x1
  have h2 : Evolves s0 x2 := (.same h1)
  clear_value x2
  have h3 : Evolves s0 x3 := (State.onRdm_evolves h2)
  clear_value x3
  have h4 : Evolves s0 x4 := (State.onCph_evolves h3)
  clear_value x4
  have h5 : Evolves s0 x5 := (State.onTwn_evolves h4)
  clear_value x5
  have h6 : Evolves s0 x6 := (State.onPwr_evolves h5)
  clear_value x6
  have h7 : Evolves s0 x7 := (State.onStore_evolves h6)
  clear_value x7
  exact State.put_evolves (State.put_evolves h7)

theorem hotRestart_evolves {s0 s : State} (h : Evolves s0 s) : Evolves s0 (hotRestart s) := by
  unfold hotRestart
  extract_lets -merge -underBinder x0 x1 x2 x3
  clear_value x0
  have h1 : Evolves s0 x1 := (State.onMbx_evolves h)
  clear_value x1
  have h2 : Evolves s0 x2 := (State.onFmn_evolves (forgetWaiters_evolves h1))
  clear_value x2
  have h3 : Evolves s0 x3 := (State.put_evolves (State.put_evolves (State.put_evolves h2)))
  clear_value x3
  exact dropLoads_evolves (discardFrames_evolves (State.inc_evolves h3))

theorem endRestart_evolves {s0 s : State} (h : Evolves s0 s) : Evolves s0 (endRestart s) := by
  unfold endRestart
  extract_lets -merge -underBinder x0 x1 x3
  clear_value x0
  have h1 : Evolves s0 x1 := (.foldl h (fun _ _ h2 => (completeW_evolves h2)))
  clear_value x1
  have h3 : Evolves s0 x3 := (State.onMbx_evolves h1)
  clear_value x3
  exact raise_evolves (queueSync_evolves (State.put_evolves (State.put_evolves (State.put_evolves h3))))

theorem execFmnWdtKick_evolves {s0 s : State} (h : Evolves s0 s) : OutEvolves s0 (execFmnWdtKick s) := by
  unfold execFmnWdtKick
  exact onUp_evolves h (fun _ h0 => (.ite (endRestart_evolves h0) h0))

theorem foremanLost_evolves {s0 s : State} (h : Evolves s0 s) : Evolves s0 (foremanLost s) := by
  unfold foremanLost
  extract_lets -merge -underBinder x0 x1
  have h0 : Evolves s0 x0 := (raise_evolves h)
  clear_value x0
  have h1 : Evolves s0 x1 := (.ite (spillOnInput_evolves h0) (.ite (preReset_evolves h0) (enterRecovery_evolves h0)))
  clear_value x1
  exact State.put_evolves h1

theorem expiry_evolves {s0 s : State} {a0} (h : Evolves s0 s) : Evolves s0 (expiry a0 s) := by
  unfold expiry
  extract_lets -merge -underBinder x0 x1 x2 x3
  clear_value x0
  have h1 : Evolves s0 x1 := (State.onFmn_evolves h)
  clear_value x1
  have h2 : Evolves s0 x2 := (State.inc_evolves (State.put_evolves h1))
  clear_value x2
  have h3 : Evolves s0 x3 := (State.put_evolves (State.put_evolves h2))
  clear_value x3
  exact .ite (hotRestart_evolves (raise_evolves h3)) (foremanLost_evolves h3)

theorem execWatchdogExpiry_evolves {s0 s : State} (h : Evolves s0 s) : OutEvolves s0 (execWatchdogExpiry s) := by
  unfold execWatchdogExpiry
  exact .ite (expiry_evolves h) h

theorem execGraceEnd_evolves {s0 s : State} (h : Evolves s0 s) : OutEvolves s0 (execGraceEnd s) := by
  unfold execGraceEnd
  exact .ite (foremanLost_evolves h) h

theorem execLockstepMismatch_evolves {s0 s : State} (h : Evolves s0 s) : OutEvolves s0 (execLockstepMismatch s) := by
  unfold execLockstepMismatch
  exact .ite (expiry_evolves (raise_evolves h)) h

theorem excSync_evolves {s0 s : State} (h : Evolves s0 s) : Evolves s0 (excSync s) := by
  unfold excSync
  exact State.put_evolves h

theorem execExceptionPost_evolves {s0 s : State} {a0 a1} (h : Evolves s0 s) : OutEvolves s0 (execExceptionPost a0 a1 s) := by
  unfold execExceptionPost
  exact (onUp_evolves h (fun _ h0 => (by
      extract_lets -merge -underBinder x1
      have h1 : Evolves s0 x1 := (State.inc_evolves h0)
      clear_value x1
      exact (.ite (excSync_evolves (State.onFmn_evolves h1)) (raiseRl_evolves (State.inc_evolves h1))))))

theorem execExceptionHandle_evolves {s0 s : State} (h : Evolves s0 s) : OutEvolves s0 (execExceptionHandle s) := by
  unfold execExceptionHandle
  exact (onUp_evolves h (fun _ h0 => (by
      split
      · exact .ite (excSync_evolves (State.inc_evolves (State.onFmn_evolves h0))) h0
      · exact h0)))

/-! ### Integrity -/

theorem scrubProgress_evolves {s0 s : State} {a0 a1} (h : Evolves s0 s) : Evolves s0 (scrubProgress a0 a1 s) := by
  unfold scrubProgress
  extract_lets -merge -underBinder x0 x1 x2 x3
  have h0 : Evolves s0 x0 := (.ite h (State.onTir_evolves (State.put_evolves h)))
  clear_value x0 x1
  have h2 : Evolves s0 x2 := (State.inc_evolves (State.put_evolves (State.put_evolves h0)))
  clear_value x2
  have h3 : Evolves s0 x3 := (State.onTir_evolves h2)
  clear_value x3
  exact .ite (State.put_evolves h0) (.ite h3 (State.put_evolves h3))

theorem scrubLine_evolves {s0 s : State} {a0 a1 a2 a3 a4 a5} (h : Evolves s0 s) : Evolves s0 (scrubLine a0 a1 a2 a3 a4 a5 s) := by
  unfold scrubLine
  extract_lets -merge -underBinder x0 x1 x2
  have h2 : Evolves s0 x2 := (.ite (State.inc_evolves (.ite (State.inc_evolves h) (State.inc_evolves h))) (State.inc_evolves (.ite (State.inc_evolves h) (State.inc_evolves h))))
  clear_value x2
  exact .ite (.ite (raiseRl_evolves h2) (raiseRl_evolves (deviceError_evolves h2))) (.ite (.ite (State.inc_evolves h) (State.inc_evolves h)) (.ite (.ite (settle_evolves (lineUncorrectable_evolves h)) (.ite (raise_evolves (.ite (State.inc_evolves (unitError_evolves h)) (State.inc_evolves (unitError_evolves h)))) (raise_evolves (.ite (State.inc_evolves (unitError_evolves h)) (State.inc_evolves (unitError_evolves h)))))) h))

theorem scrubQuarter_evolves {s0 s : State} {a0 a1 a2 a3} (h : Evolves s0 s) : Evolves s0 (scrubQuarter a0 a1 a2 a3 s) := by
  unfold scrubQuarter
  extract_lets -merge -underBinder x0 x1
  clear_value x0 x1
  exact (.ite (.ite (by
        split
        · exact startCheckpoint_evolves h
        · exact h) h) (.ite h (.ite (startLadder_evolves h) (.ite (queuePack_evolves h) h))))

theorem execScrubRead_evolves {s0 s : State} {a0 a1 a2 a3 a4 a5 a6} (h : Evolves s0 s) : OutEvolves s0 (execScrubRead a0 a1 a2 a3 a4 a5 a6 s) := by
  unfold execScrubRead
  exact (onUp_evolves h (fun _ h0 => (by
      extract_lets -merge -underBinder x1 x2
      clear_value x1
      have h2 : Evolves s0 x2 := (scrubProgress_evolves h0)
      clear_value x2
      exact (.ite h0 (.ite (scrubQuarter_evolves h2) (scrubLine_evolves h2))))))

theorem execScrubPassLate_evolves {s0 s : State} {a0} (h : Evolves s0 s) : OutEvolves s0 (execScrubPassLate a0 s) := by
  unfold execScrubPassLate
  exact (onUp_evolves h (fun _ h0 => (by
      extract_lets -merge -underBinder x1
      clear_value x1
      split
      · exact .ite h0 (raise_evolves (State.put_evolves h0))
      · exact h0)))

theorem execEccThresholdReached_evolves {s0 s : State} {a0 a1 a2} (h : Evolves s0 s) : OutEvolves s0 (execEccThresholdReached a0 a1 a2 s) := by
  unfold execEccThresholdReached
  exact (onUp_evolves h (fun _ h0 => (by
      extract_lets -merge -underBinder x1 x2 x3 x4 x5 x6 x7 x8 x9
      clear_value x1 x2
      clear_value x3 x4
      clear_value x5 x6
      clear_value x7 x8 x9
      exact (.ite (.ite h0 (raise_evolves h0)) (.ite (.ite h0 (settle_evolves (loseChannel_evolves (raise_evolves h0)))) (.ite h0 (fenceStack_evolves (raise_evolves h0))))))))

theorem execEccInjectArm_evolves {s0 s : State} {a0 a1 a2 a3} (h : Evolves s0 s) : OutEvolves s0 (execEccInjectArm a0 a1 a2 a3 s) := by
  unfold execEccInjectArm
  exact onUp_evolves h (fun _ h0 => (pulseWrite_evolves h0 (State.onTir_evolves (State.put_evolves (State.put_evolves (State.put_evolves (State.put_evolves h0)))))))

/-! ### Logbook -/

theorem execRecordPeriodClose_evolves {s0 s : State} {a0 a1} (h : Evolves s0 s) : OutEvolves s0 (execRecordPeriodClose a0 a1 s) := by
  unfold execRecordPeriodClose
  exact onLive_evolves h (fun _ h0 => (evrSync_evolves (State.onEvr_evolves h0)))

theorem execLogPageWrite_evolves {s0 s : State} (h : Evolves s0 s) : OutEvolves s0 (execLogPageWrite s) := by
  unfold execLogPageWrite
  exact .ite (State.onEvr_evolves h) h

theorem wrapStore_evolves {s0 s : State} (h : Evolves s0 s) : Evolves s0 (wrapStore s) := by
  unfold wrapStore
  extract_lets -merge -underBinder x0 x1 x2 x3
  clear_value x0 x1 x2
  have h3 : Evolves s0 x3 := (State.add_evolves (State.onEvr_evolves h))
  clear_value x3
  exact .ite h (raise_evolves (State.put_evolves h3))

theorem pageOut_evolves {s0 s : State} (h : Evolves s0 s) : Evolves s0 (pageOut s) := by
  unfold pageOut
  extract_lets -merge -underBinder x0 x1 x2 x3
  clear_value x0 x1 x2
  have h3 : Evolves s0 x3 := (State.onEvr_evolves h)
  clear_value x3
  exact wrapStore_evolves (evrSync_evolves (State.inc_evolves h3))

theorem execLogPageConfirmed_evolves {s0 s : State} (h : Evolves s0 s) : OutEvolves s0 (execLogPageConfirmed s) := by
  unfold execLogPageConfirmed
  exact onUp_evolves h (fun _ h0 => (.ite h0 (pageOut_evolves h0)))

theorem execOpTimeBaseUpdate_evolves {s0 s : State} (h : Evolves s0 s) : OutEvolves s0 (execOpTimeBaseUpdate s) := by
  unfold execOpTimeBaseUpdate
  exact (onLive_evolves h (fun _ h0 => (by
      split
      · exact h0
      · exact (State.onEvr_evolves (State.onStore_evolves h0)))))

theorem execLogRead_evolves {s0 s : State} {a0} (h : Evolves s0 s) : OutEvolves s0 (execLogRead a0 s) := by
  unfold execLogRead
  exact (onCmd_evolves h (fun _ h0 => (by
      extract_lets -merge -underBinder x1
      clear_value x1
      exact (.ite (refuse_evolves h0) (complete_evolves h0)))))

theorem execLogStatus_evolves {s0 s : State} {a0} (h : Evolves s0 s) : OutEvolves s0 (execLogStatus a0 s) := by
  unfold execLogStatus
  exact onCmd_evolves h (fun _ h0 => (complete_evolves h0))

theorem execLogNote_evolves {s0 s : State} {a0} (h : Evolves s0 s) : OutEvolves s0 (execLogNote a0 s) := by
  unfold execLogNote
  exact onCmd_evolves h (fun _ h0 => (.ite (refuse_evolves h0) (complete_evolves (raiseW_evolves h0))))

theorem execSelftestReport_evolves {s0 s : State} {a0} (h : Evolves s0 s) : OutEvolves s0 (execSelftestReport a0 s) := by
  unfold execSelftestReport
  exact onCmd_evolves h (fun _ h0 => (completeFree_evolves h0))

theorem execSurveyInfo_evolves {s0 s : State} {a0} (h : Evolves s0 s) : OutEvolves s0 (execSurveyInfo a0 s) := by
  unfold execSurveyInfo
  exact onCmd_evolves h (fun _ h0 => (completeFree_evolves h0))

theorem execFreeze_evolves {s0 s : State} {a0} (h : Evolves s0 s) : OutEvolves s0 (execFreeze a0 s) := by
  unfold execFreeze
  exact onCmd_evolves h (fun _ h0 => (.ite (refuse_evolves h0) (complete_evolves (State.onEvr_evolves h0))))

theorem execFreezeCommandTrigger_evolves {s0 s : State} (h : Evolves s0 s) : OutEvolves s0 (execFreezeCommandTrigger s) := by
  unfold execFreezeCommandTrigger
  exact onLive_evolves h (fun _ h0 => (.ite (freezeTrigger_evolves (State.onEvr_evolves h0)) h0))

theorem execFreezeNFall_evolves {s0 s : State} (h : Evolves s0 s) : OutEvolves s0 (execFreezeNFall s) := by
  unfold execFreezeNFall
  exact onLive_evolves h (fun _ h0 => (freezeTrigger_evolves (State.put_evolves h0)))

theorem execIslandsStop_evolves {s0 s : State} (h : Evolves s0 s) : OutEvolves s0 (execIslandsStop s) := by
  unfold execIslandsStop
  exact (onLive_evolves h (fun _ h0 => (by
      split
      · exact h0
      · exact (loseFrames_evolves (State.put_evolves (State.put_evolves (State.onEvr_evolves h0)))))))

theorem surveyBlock_evolves {s0 s : State} {a0} (h : Evolves s0 s) : Evolves s0 (surveyBlock a0 s).2 := by
  unfold surveyBlock
  split
  · exact .snd_mk h
  · split
    · exact .snd_mk h
    · split
      · exact .snd_mk h
      · exact .snd_mk h
      · split
        · exact .snd_mk h
        · exact State.freeBytes_evolves h
      · exact .snd_mk h

theorem execExtest_evolves {s0 s : State} (h : Evolves s0 s) : OutEvolves s0 (execExtest s) := by
  unfold execExtest
  extract_lets -merge -underBinder x0
  have h0 : Evolves s0 x0.2 := (State.free_evolves h)
  clear_value x0
  exact .ite (State.send_evolves h0) h

theorem execSamplePreload_evolves {s0 s : State} (h : Evolves s0 s) : OutEvolves s0 (execSamplePreload s) := by
  unfold execSamplePreload
  extract_lets -merge -underBinder x0
  have h0 : Evolves s0 x0.2 := (State.free_evolves h)
  clear_value x0
  exact .ite (State.send_evolves h0) h

theorem execIdcode_evolves {s0 s : State} (h : Evolves s0 s) : OutEvolves s0 (execIdcode s) := by
  unfold execIdcode
  exact .ite (State.send_evolves h) h

theorem execSvyAddr_evolves {s0 s : State} {a0} (h : Evolves s0 s) : OutEvolves s0 (execSvyAddr a0 s) := by
  unfold execSvyAddr
  exact onPrivate_evolves h (fun _ h0 => (.ite (State.onEvr_evolves h0) h0))

theorem execSvyData_evolves {s0 s : State} {a0} (h : Evolves s0 s) : OutEvolves s0 (execSvyData a0 s) := by
  unfold execSvyData
  exact (onPrivate_evolves h (fun _ h0 => (by
      extract_lets -merge -underBinder x1
      have h1 : Evolves s0 x1.2 := (surveyBlock_evolves h0)
      clear_value x1
      exact (.ite (State.send_evolves (State.put_evolves (State.onEvr_evolves h1))) (State.send_evolves h0)))))

theorem execSvyStatus_evolves {s0 s : State} {a0} (h : Evolves s0 s) : OutEvolves s0 (execSvyStatus a0 s) := by
  unfold execSvyStatus
  exact onPrivate_evolves h (fun _ h0 => (State.send_evolves h0))

theorem execUnlock_evolves {s0 s : State} {a0 a1} (h : Evolves s0 s) : OutEvolves s0 (execUnlock a0 a1 s) := by
  unfold execUnlock
  exact (onPrivate_evolves h (fun _ h0 => (by
      extract_lets -merge -underBinder x1
      have h1 : Evolves s0 x1 := (State.onEvr_evolves h0)
      clear_value x1
      exact (.ite h0 (.ite (makeRec_evolves h0) (.ite (State.onEvr_evolves h0) (makeRec_evolves h1)))))))

theorem resumed_evolves {s0 s : State} {a0} (h : Evolves s0 s) : Evolves s0 (resumed a0 s) := by
  unfold resumed
  exact State.put_evolves (State.put_evolves (State.put_evolves (State.onEvr_evolves h)))

theorem fenceThawed_evolves {s0 s : State} (h : Evolves s0 s) : Evolves s0 (fenceThawed s) := by
  unfold fenceThawed
  extract_lets -merge -underBinder x0
  have h0 : Evolves s0 x0 := (.ite (fenceSelf_evolves h) (setPair_evolves (State.onPwr_evolves h)))
  clear_value x0
  exact State.onTwn_evolves h0

theorem thawed_evolves {s0 s : State} {a0 a1 a2 a3} (h : Evolves s0 s) : Evolves s0 (thawed a0 a1 a2 a3 s) := by
  unfold thawed
  extract_lets -merge -underBinder x0
  have h0 : Evolves s0 x0 := (raise_evolves (.ite (resumed_evolves h) (fenceThawed_evolves (resumed_evolves h))))
  clear_value x0
  exact .ite (raise_evolves h0) h0

theorem execThaw_evolves {s0 s : State} {a0} (h : Evolves s0 s) : OutEvolves s0 (execThaw a0 s) := by
  unfold execThaw
  exact onPrivate_evolves h (fun _ h0 => (.ite h0 (thawed_evolves h0)))

theorem execJtagBypass_evolves {s0 s : State} {a0} (h : Evolves s0 s) : OutEvolves s0 (execJtagBypass a0 s) := by
  unfold execJtagBypass
  exact .ite (State.send_evolves h) h

/-! ### Power -/

theorem coldStart_evolves {s0 s : State} (h : Evolves s0 s) : Evolves s0 (coldStart s) := by
  have k : Evolves s { State.reset with store := { s.store with unlockFail := 0, raiseFail := 0, opMbx := none }, med := s.med, sent := s.sent,
                                        fresh := s.fresh, pending := s.pending, evr := { LogSt.init with store := s.evr.store } } :=
    { Evolves.refl s with regs := fun _ => rfl }
  exact State.put_evolves (State.put_evolves (State.put_evolves (State.put_evolves (State.inc_evolves (State.put_evolves (State.put_evolves
    (State.put_evolves (State.put_evolves (State.put_evolves (h.trans k))))))))))

theorem execPowerOn_evolves {s0 s : State} (h : Evolves s0 s) : OutEvolves s0 (execPowerOn s) := by
  unfold execPowerOn
  exact .ite h (enterBringup_evolves (storeSync_evolves (coldStart_evolves h)))

theorem execInputFallsBelow34v_evolves {s0 s : State} (h : Evolves s0 s) : OutEvolves s0 (execInputFallsBelow34v s) := by
  unfold execInputFallsBelow34v
  exact .ite (State.put_evolves (State.onPwr_evolves h)) h

theorem spillEntry_evolves {s0 s : State} {a0} (h : Evolves s0 s) : Evolves s0 (spillEntry a0 s) := by
  unfold spillEntry
  extract_lets -merge -underBinder x0 x1
  have h0 : Evolves s0 x0 := (.ite (State.put_evolves h) h)
  clear_value x0
  have h1 : Evolves s0 x1 := (setMode_evolves (stopMediaWork_evolves (hgWithdraw_evolves (stashStop_evolves (spillMarks_evolves h0)))))
  clear_value x1
  exact State.send_evolves (State.onPwr_evolves h1)

theorem declarePowerFail_evolves {s0 s : State} (h : Evolves s0 s) : Evolves s0 (declarePowerFail s) := by
  unfold declarePowerFail
  extract_lets -merge -underBinder x0 x1 x2 x3 x4
  clear_value x0 x1 x2
  have h3 : Evolves s0 x3 := (State.put_evolves (State.inc_evolves (State.onPwr_evolves h)))
  clear_value x3
  have h4 : Evolves s0 x4 := (loseFrames_evolves (State.put_evolves (raise_evolves h3)))
  clear_value x4
  exact .ite (spillEntry_evolves h4) (.ite h4 (hgWithdraw_evolves h4))

theorem execPowerFailDeclared_evolves {s0 s : State} (h : Evolves s0 s) : OutEvolves s0 (execPowerFailDeclared s) := by
  unfold execPowerFailDeclared
  exact .ite (declarePowerFail_evolves h) h

theorem execInputDipCarried_evolves {s0 s : State} (h : Evolves s0 s) : OutEvolves s0 (execInputDipCarried s) := by
  unfold execInputDipCarried
  exact .ite (raiseRl_evolves (State.put_evolves (State.inc_evolves (State.onPwr_evolves h)))) h

theorem execOvervoltageDetected_evolves {s0 s : State} (h : Evolves s0 s) : OutEvolves s0 (execOvervoltageDetected s) := by
  unfold execOvervoltageDetected
  exact .ite h (declarePowerFail_evolves (raise_evolves (State.inc_evolves (State.put_evolves h))))

theorem execInputGoodAfterOv_evolves {s0 s : State} (h : Evolves s0 s) : OutEvolves s0 (execInputGoodAfterOv s) := by
  unfold execInputGoodAfterOv
  extract_lets -merge -underBinder x0
  have h0 : Evolves s0 x0 := (State.put_evolves (State.put_evolves h))
  clear_value x0
  exact .ite (.ite h0 (State.put_evolves h0)) h

theorem execRailTrip_evolves {s0 s : State} {a0} (h : Evolves s0 s) : OutEvolves s0 (execRailTrip a0 s) := by
  unfold execRailTrip
  exact .ite h (declarePowerFail_evolves (raise_evolves h))

theorem execUvloShutdown_evolves {s0 s : State} (h : Evolves s0 s) : OutEvolves s0 (execUvloShutdown s) := by
  unfold execUvloShutdown
  exact .ite h (powerOff_evolves h)

theorem writeSlot_evolves {s0 s : State} {a0 a1} (h : Evolves s0 s) : Evolves s0 (writeSlot a0 a1 s) := by
  unfold writeSlot
  extract_lets -merge -underBinder x0 x1 x2 x3 x4 x5
  clear_value x0 x1 x2
  have h3 : Evolves s0 x3 := (.same h)
  clear_value x3 x4
  have h5 : Evolves s0 x5 := (spillwaySync_evolves (State.put_evolves (State.put_evolves h3)))
  clear_value x5
  exact .ite (raise_evolves h5) h5

theorem execSpillStreamStart_evolves {s0 s : State} (h : Evolves s0 s) : OutEvolves s0 (execSpillStreamStart s) := by
  unfold execSpillStreamStart
  exact (onLive_evolves h (fun _ h0 => (by
      split
      · extract_lets -merge -underBinder x2 x3 x4
        have h2 : Evolves s0 x2 := (State.onPwr_evolves h0)
        clear_value x2
        have h3 : Evolves s0 x3 := (.ite h2 (stashStop_evolves h2))
        clear_value x3 x4
        exact .ite h0 (writeSlot_evolves h3)
      · exact h0)))

theorem execSpillCommitMarker_evolves {s0 s : State} {a0 a1 a2 a3} (h : Evolves s0 s) : OutEvolves s0 (execSpillCommitMarker a0 a1 a2 a3 s) := by
  unfold execSpillCommitMarker
  exact (onLive_evolves h (fun _ h0 => (by
      split
      · extract_lets -merge -underBinder x3 x4
        have h3 : Evolves s0 x3 := (writeSlot_evolves h0)
        clear_value x3
        have h4 : Evolves s0 x4 := (State.inc_evolves (State.inc_evolves (State.onMed_evolves h3)))
        clear_value x4
        exact (.ite h0 (by
            split
            · exact freezeNow_evolves (State.onPwr_evolves (State.onEvr_evolves h4))
            · exact (applyAfter_evolves h4)))
      · exact h0)))

theorem execBankAt30v_evolves {s0 s : State} {a0} (h : Evolves s0 s) : OutEvolves s0 (execBankAt30v a0 s) := by
  unfold execBankAt30v
  exact (.ite h (.ite (powerOff_evolves h) (by
        split
        · exact .ite (applyAfter_evolves (State.onEvr_evolves h)) h
        · exact h)))

theorem execBankCharged_evolves {s0 s : State} (h : Evolves s0 s) : OutEvolves s0 (execBankCharged s) := by
  unfold execBankCharged
  exact (onLive_evolves h (fun _ h0 => (by
      extract_lets -merge -underBinder x1 x2 x3 x4
      have h1 : Evolves s0 x1 := (State.put_evolves h0)
      clear_value x1
      have h2 : Evolves s0 x2 := (.ite (State.put_evolves h1) h1)
      clear_value x2 x3
      have h4 : Evolves s0 x4 := (State.put_evolves h2)
      clear_value x4
      exact (.ite h4 (setBlock_evolves h4)))))

theorem execBankRechargeStart_evolves {s0 s : State} (h : Evolves s0 s) : OutEvolves s0 (execBankRechargeStart s) := by
  unfold execBankRechargeStart
  exact onLive_evolves h (fun _ h0 => (.ite h0 (State.put_evolves h0)))

theorem execBankFault_evolves {s0 s : State} {a0} (h : Evolves s0 s) : OutEvolves s0 (execBankFault a0 s) := by
  unfold execBankFault
  exact (onLive_evolves h (fun _ h0 => (by
      extract_lets -merge -underBinder x1
      have h1 : Evolves s0 x1 := (setBlock_evolves (State.put_evolves h0))
      clear_value x1
      exact (.ite h0 (failStop_evolves (raise_evolves h1))))))

theorem execBankFaultEnd_evolves {s0 s : State} (h : Evolves s0 s) : OutEvolves s0 (execBankFaultEnd s) := by
  unfold execBankFaultEnd
  exact onLive_evolves h (fun _ h0 => (.ite h0 (setBlock_evolves (State.put_evolves (State.put_evolves h0)))))

theorem startTest_evolves {s0 s : State} (h : Evolves s0 s) : Evolves s0 (startTest s) := by
  unfold startTest
  exact State.put_evolves (State.onPwr_evolves h)

theorem execDischargeTestDue_evolves {s0 s : State} (h : Evolves s0 s) : OutEvolves s0 (execDischargeTestDue s) := by
  unfold execDischargeTestDue
  exact onLive_evolves h (fun _ h0 => (.ite (raise_evolves (State.inc_evolves h0)) (.ite (startTest_evolves h0) h0)))

theorem recordTest_evolves {s0 s : State} {a0 a1} (h : Evolves s0 s) : Evolves s0 (recordTest a0 a1 s) := by
  unfold recordTest
  extract_lets -merge -underBinder x0 x1 x2
  clear_value x0
  have h1 : Evolves s0 x1 := (State.put_evolves (State.put_evolves (State.put_evolves (State.put_evolves h))))
  clear_value x1
  have h2 : Evolves s0 x2 := (State.onPwr_evolves (State.onStore_evolves h1))
  clear_value x2
  exact State.inc_evolves (State.put_evolves (State.put_evolves h2))

theorem execDischargeTestEnd_evolves {s0 s : State} {a0 a1} (h : Evolves s0 s) : OutEvolves s0 (execDischargeTestEnd a0 a1 s) := by
  unfold execDischargeTestEnd
  exact (onLive_evolves h (fun _ h0 => (by
      extract_lets -merge -underBinder x1 x2 x3 x4
      clear_value x1 x2
      have h3 : Evolves s0 x3 := (raise_evolves (retryCistern_evolves (resizeCistern_evolves (recordTest_evolves h0))))
      clear_value x3
      have h4 : Evolves s0 x4 := (.ite (failStop_evolves h3) h3)
      clear_value x4
      exact (.ite h0 (by
          split
          · exact h4
          · exact (complete_evolves (State.onPwr_evolves h4)))))))

theorem execHeadgateReq_evolves {s0 s : State} {a0 a1 a2 a3} (h : Evolves s0 s) : OutEvolves s0 (execHeadgateReq a0 a1 a2 a3 s) := by
  unfold execHeadgateReq
  exact (onUp_evolves h (fun _ h0 => (by
      extract_lets -merge -underBinder x1
      have h1 : Evolves s0 x1.2 := (hgRequest_evolves h0)
      clear_value x1
      exact (State.send_evolves h1))))

theorem execHeadgateReturn_evolves {s0 s : State} {a0 a1} (h : Evolves s0 s) : OutEvolves s0 (execHeadgateReturn a0 a1 s) := by
  unfold execHeadgateReturn
  exact onUp_evolves h (fun _ h0 => (hgReturn_evolves h0))

theorem execHeadgateGrant_evolves {s0 s : State} (h : Evolves s0 s) : OutEvolves s0 (execHeadgateGrant s) := by
  unfold execHeadgateGrant
  exact (onUp_evolves h (fun _ h0 => (by
      split
      · exact hgGive_evolves (State.onPwr_evolves h0)
      · exact h0)))

theorem execInputPowerOverLimit_evolves {s0 s : State} {a0} (h : Evolves s0 s) : OutEvolves s0 (execInputPowerOverLimit a0 s) := by
  unfold execInputPowerOverLimit
  exact (onLive_evolves h (fun _ h0 => (by
      extract_lets -merge -underBinder x1
      have h1 : Evolves s0 x1 := (State.put_evolves h0)
      clear_value x1
      exact (.ite (raiseRl_evolves (State.put_evolves h1)) h1))))

theorem execInputPowerBelowLimit_evolves {s0 s : State} {a0} (h : Evolves s0 s) : OutEvolves s0 (execInputPowerBelowLimit a0 s) := by
  unfold execInputPowerBelowLimit
  exact (onLive_evolves h (fun _ h0 => (by
      extract_lets -merge -underBinder x1
      have h1 : Evolves s0 x1 := (State.put_evolves h0)
      clear_value x1
      exact (.ite (hgServe_evolves (State.put_evolves h1)) h1))))

theorem setThrottle_evolves {s0 s : State} {a0} (h : Evolves s0 s) : Evolves s0 (setThrottle a0 s) := by
  unfold setThrottle
  extract_lets -merge -underBinder x0 x1 x2
  clear_value x0
  have h1 : Evolves s0 x1 := (State.put_evolves h)
  clear_value x1
  have h2 : Evolves s0 x2 := (.ite (raise_evolves h1) (raise_evolves h1))
  clear_value x2
  exact .ite h (hgServe_evolves h2)

theorem putTemps_evolves {s0 : State} {bad : List Nat} : ∀ {ts : List Nat} {i : Nat} {s : State}, Evolves s0 s →
    Evolves s0 (putTemps bad i ts s)
  | [], _, _, h => by
    unfold putTemps
    exact h
  | t :: ts, i, s, h => by
    unfold putTemps
    exact putTemps_evolves (.ite (raise_evolves (State.put_evolves (State.put_evolves h))) (State.put_evolves (State.put_evolves h)))

theorem readTemps_evolves {s0 s : State} {a0 a1} (h : Evolves s0 s) : Evolves s0 (readTemps a0 a1 s) := by
  unfold readTemps
  extract_lets -merge -underBinder x0 x1
  have h0 : Evolves s0 x0 := (putTemps_evolves h)
  clear_value x0
  have h1 : Evolves s0 x1 := (State.put_evolves (State.put_evolves h0))
  clear_value x1
  exact .ite (State.put_evolves h1) h1

theorem execTemperatureSample_evolves {s0 s : State} {a0 a1} (h : Evolves s0 s) : OutEvolves s0 (execTemperatureSample a0 a1 s) := by
  unfold execTemperatureSample
  exact (onLive_evolves h (fun _ h0 => (by
      extract_lets -merge -underBinder x1 x2
      clear_value x1
      have h2 : Evolves s0 x2 := (setThrottle_evolves (readTemps_evolves h0))
      clear_value x2
      exact (.ite (raiseW_evolves h2) h2))))

theorem execThermalShutdown_evolves {s0 s : State} (h : Evolves s0 s) : OutEvolves s0 (execThermalShutdown s) := by
  unfold execThermalShutdown
  exact (onLive_evolves h (fun _ h0 => (by
      extract_lets -merge -underBinder x1 x2
      have h1 : Evolves s0 x1 := (hgWithdraw_evolves (setThrottle_evolves h0))
      clear_value x1
      have h2 : Evolves s0 x2 := (.ite (stopService_evolves h1) (.ite (fenceSelf_evolves h1) h1))
      clear_value x2
      exact (.ite h0 (.ite (spillOnInput_evolves h2) (applyAfter_evolves h2))))))

theorem execThermalShutdownExit_evolves {s0 s : State} (h : Evolves s0 s) : OutEvolves s0 (execThermalShutdownExit s) := by
  unfold execThermalShutdownExit
  exact (onLive_evolves h (fun _ h0 => (by
      extract_lets -merge -underBinder x1
      have h1 : Evolves s0 x1 := (setThrottle_evolves (State.onPwr_evolves h0))
      clear_value x1
      exact (.ite (.ite (enterBringup_evolves h1) h1) h0))))

theorem tickPorts_evolves {s0 s : State} (h : Evolves s0 s) : Evolves s0 (tickPorts s) := by
  unfold tickPorts
  extract_lets -merge -underBinder x0
  have h0 : Evolves s0 x0 := (.foldl h (fun _ _ h1 => (by
        extract_lets -merge -underBinder x2
        have h2 : Evolves s0 x2 := (.ite (State.inc_evolves h1) h1)
        clear_value x2
        exact (.ite (State.inc_evolves h2) h2))))
  clear_value x0
  exact (.foldl h0 (fun _ _ h3 => (by
      extract_lets -merge -underBinder x4
      have h4 : Evolves s0 x4 := (.ite (State.inc_evolves h3) h3)
      clear_value x4
      exact (.ite (State.inc_evolves h4) h4))))

theorem tickSecond_evolves {s0 s : State} (h : Evolves s0 s) : Evolves s0 (tickSecond s) := by
  unfold tickSecond
  extract_lets -merge -underBinder x0 x1
  have h0 : Evolves s0 x0 := (State.put_evolves (State.put_evolves (State.put_evolves h)))
  clear_value x0
  have h1 : Evolves s0 x1 := (.foldl h0 (fun _ _ h2 => (State.put_evolves h2)))
  clear_value x1
  exact .foldl h1 (fun _ _ h3 => (State.put_evolves h3))

theorem tickCounters_evolves {s0 s : State} (h : Evolves s0 s) : Evolves s0 (tickCounters s) := by
  unfold tickCounters
  extract_lets -merge -underBinder x0 x1 x2 x3 x4
  clear_value x0
  have h1 : Evolves s0 x1 := (.ite (State.inc_evolves h) (.ite (State.inc_evolves h) h))
  clear_value x1
  have h2 : Evolves s0 x2 := (.ite (State.inc_evolves h1) h1)
  clear_value x2
  have h3 : Evolves s0 x3 := (.ite h2 (State.inc_evolves h2))
  clear_value x3 x4
  exact .ite (State.inc_evolves h3) (.ite (State.inc_evolves h3) h3)

theorem tickAges_evolves {s0 s : State} (h : Evolves s0 s) : Evolves s0 (tickAges s) := by
  unfold tickAges
  extract_lets -merge -underBinder x0
  have h0 : Evolves s0 x0 := (.ite (State.addSat_evolves h) h)
  clear_value x0
  exact .ite h0 (State.put_evolves h0)

theorem tickOwn_evolves {s0 s : State} (h : Evolves s0 s) : Evolves s0 (tickOwn s) := by
  unfold tickOwn
  extract_lets -merge -underBinder x0 x1 x2 x3 x4 x5 x6 x7
  have h0 : Evolves s0 x0 := (tickAges_evolves (tickCounters_evolves (State.inc_evolves h)))
  clear_value x0
  have h1 : Evolves s0 x1 := (.ite (State.inc_evolves h0) h0)
  clear_value x1
  have h2 : Evolves s0 x2 := (.ite (State.inc_evolves h1) h1)
  clear_value x2
  have h3 : Evolves s0 x3 := (State.put_evolves h2)
  clear_value x3
  have h4 : Evolves s0 x4 := (.ite h3 (State.addSat_evolves h3))
  clear_value x4
  have h5 : Evolves s0 x5 := (State.put_evolves h4)
  clear_value x5
  have h6 : Evolves s0 x6 := (.ite (tickSecond_evolves h5) h5)
  clear_value x6
  have h7 : Evolves s0 x7 := (.ite (State.put_evolves h6) h6)
  clear_value x7
  exact State.put_evolves h7

theorem sendWord_evolves {s0 s : State} (h : Evolves s0 s) : Evolves s0 (sendWord s) := by
  unfold sendWord
  exact State.inc_evolves (State.onTwn_evolves (State.send_evolves h))

theorem keepAge_evolves {s0 s : State} (h : Evolves s0 s) : Evolves s0 (keepAge s) := by
  unfold keepAge
  exact State.onStore_evolves h

theorem ageErrs_evolves {s0 s : State} (h : Evolves s0 s) : Evolves s0 (ageErrs s) := by
  unfold ageErrs
  extract_lets -merge -underBinder x0 x1
  clear_value x0
  have h1 : Evolves s0 x1 := (.foldl h (fun _ _ h2 => (.ite (State.sub_evolves h2) h2)))
  clear_value x1
  exact State.onTir_evolves h1

theorem execEpochTick_evolves {s0 s : State} (h : Evolves s0 s) : OutEvolves s0 (execEpochTick s) := by
  unfold execEpochTick
  exact (onLive_evolves h (fun _ h0 => (by
      extract_lets -merge -underBinder x1
      have h1 : Evolves s0 x1 := (keepAge_evolves (ageErrs_evolves (tickOwn_evolves h0)))
      clear_value x1
      exact (.ite (sendWord_evolves (tickPorts_evolves h1)) h1))))

theorem execPowerStatus_evolves {s0 s : State} {a0} (h : Evolves s0 s) : OutEvolves s0 (execPowerStatus a0 s) := by
  unfold execPowerStatus
  exact onCmd_evolves h (fun _ h0 => (complete_evolves h0))

theorem execDischargeTest_evolves {s0 s : State} {a0} (h : Evolves s0 s) : OutEvolves s0 (execDischargeTest a0 s) := by
  unfold execDischargeTest
  exact onCmd_evolves h (fun _ h0 => (.ite (refuse_evolves h0) (.ite (refuse_evolves h0) (startTest_evolves (State.onPwr_evolves h0)))))

theorem execHeadgateStatus_evolves {s0 s : State} {a0} (h : Evolves s0 s) : OutEvolves s0 (execHeadgateStatus a0 s) := by
  unfold execHeadgateStatus
  exact onCmd_evolves h (fun _ h0 => (complete_evolves h0))

/-! ### Reach -/

theorem execReachProvision_evolves {s0 s : State} {a0} (h : Evolves s0 s) : OutEvolves s0 (execReachProvision a0 s) := by
  unfold execReachProvision
  exact (onCmd_evolves h (fun _ h0 => (by
      extract_lets -merge -underBinder x1 x2 x3
      clear_value x1 x2 x3
      split
      · exact refuse_evolves h0
      · extract_lets -merge -underBinder x7 x8 x9
        have h7 : Evolves s0 x7 := (provisionReach_evolves h0)
        clear_value x7 x8
        have h9 : Evolves s0 x9 := (append_evolves (State.onTwn_evolves h0))
        clear_value x9
        exact (.ite (complete_evolves (.ite (linkSend_evolves h7) h7)) (linkSend_evolves h9)))))

theorem execReachRelease_evolves {s0 s : State} {a0 a1} (h : Evolves s0 s) : OutEvolves s0 (execReachRelease a0 a1 s) := by
  unfold execReachRelease
  exact (onCmd_evolves h (fun _ h0 => (by
      extract_lets -merge -underBinder x1 x2 x3 x4 x5
      clear_value x1 x2 x3
      have h4 : Evolves s0 x4 := (State.put_evolves (State.onTwn_evolves h0))
      clear_value x4
      have h5 : Evolves s0 x5 := (append_evolves h4)
      clear_value x5
      exact (.ite (refuse_evolves h0) (.ite (refuse_evolves h0) (.ite (refuse_evolves h0) (.ite (refuse_evolves h0) (.ite (complete_evolves (releaseReach_evolves (.ite (linkSend_evolves h0) h0))) (linkSend_evolves h5)))))))))

theorem execReachHandover_evolves {s0 s : State} {a0} (h : Evolves s0 s) : OutEvolves s0 (execReachHandover a0 s) := by
  unfold execReachHandover
  exact (onCmd_evolves h (fun _ h0 => (by
      extract_lets -merge -underBinder x1
      clear_value x1
      exact (.ite (refuse_evolves h0) (.ite (refuse_evolves h0) (.ite (refuseBusy_evolves h0) (.ite (refuse_evolves h0) (.ite (beginHandover_evolves h0) (linkSend_evolves (State.onTwn_evolves h0))))))))))

theorem execDirRead_evolves {s0 s : State} {a0} (h : Evolves s0 s) : OutEvolves s0 (execDirRead a0 s) := by
  unfold execDirRead
  exact (onCmd_evolves h (fun _ h0 => (by
      extract_lets -merge -underBinder x1
      clear_value x1
      exact (.ite (refuse_evolves h0) (complete_evolves h0)))))

theorem execReachRead_evolves {s0 s : State} {a0} (h : Evolves s0 s) : OutEvolves s0 (execReachRead a0 s) := by
  unfold execReachRead
  exact onCmd_evolves h (fun _ h0 => (completeFree_evolves h0))

/-! ### Spdm -/

theorem spdmAnswer_evolves {s0 s : State} {a0 a1 a2 a3} (h : Evolves s0 s) : OutEvolves s0 (spdmAnswer a0 a1 a2 a3 s) := by
  unfold spdmAnswer
  exact .ite (State.send_evolves h) h

theorem execSpdmGetVersion_evolves {s0 s : State} {a0} (h : Evolves s0 s) : OutEvolves s0 (execSpdmGetVersion a0 s) := by
  unfold execSpdmGetVersion
  exact spdmAnswer_evolves h

theorem execSpdmGetCapabilities_evolves {s0 s : State} {a0} (h : Evolves s0 s) : OutEvolves s0 (execSpdmGetCapabilities a0 s) := by
  unfold execSpdmGetCapabilities
  exact spdmAnswer_evolves h

theorem execSpdmNegotiateAlgorithms_evolves {s0 s : State} {a0} (h : Evolves s0 s) : OutEvolves s0 (execSpdmNegotiateAlgorithms a0 s) := by
  unfold execSpdmNegotiateAlgorithms
  exact spdmAnswer_evolves h

theorem execSpdmGetDigests_evolves {s0 s : State} {a0} (h : Evolves s0 s) : OutEvolves s0 (execSpdmGetDigests a0 s) := by
  unfold execSpdmGetDigests
  exact spdmAnswer_evolves h

theorem execSpdmGetCertificate_evolves {s0 s : State} {a0 a1} (h : Evolves s0 s) : OutEvolves s0 (execSpdmGetCertificate a0 a1 s) := by
  unfold execSpdmGetCertificate
  split
  · exact spdmAnswer_evolves h
  · exact .ite (State.send_evolves h) h

theorem execSpdmChallenge_evolves {s0 s : State} {a0 a1} (h : Evolves s0 s) : OutEvolves s0 (execSpdmChallenge a0 a1 s) := by
  unfold execSpdmChallenge
  exact spdmAnswer_evolves h

theorem execSpdmGetMeasurements_evolves {s0 s : State} {a0 a1} (h : Evolves s0 s) : OutEvolves s0 (execSpdmGetMeasurements a0 a1 s) := by
  unfold execSpdmGetMeasurements
  exact .ite h (.ite (State.send_evolves h) (State.send_evolves h))

theorem execSpdmKeyExchange_evolves {s0 s : State} {a0 a1} (h : Evolves s0 s) : OutEvolves s0 (execSpdmKeyExchange a0 a1 s) := by
  unfold execSpdmKeyExchange
  exact (.ite h (by
      split
      · exact State.send_evolves h
      · extract_lets -merge -underBinder x2 x3
        clear_value x2 x3
        exact (State.send_evolves (.same h))))

theorem sessSync_evolves {s0 s : State} {a0} (h : Evolves s0 s) : Evolves s0 (sessSync a0 s) := by
  unfold sessSync
  extract_lets -merge -underBinder x0
  have h0 : Evolves s0 x0 := (State.put_evolves h)
  clear_value x0
  split
  · exact State.put_evolves h0
  · exact State.put_evolves (State.put_evolves (State.put_evolves (State.put_evolves (State.put_evolves h0))))

theorem execSpdmFinish_evolves {s0 s : State} {a0 a1 a2} (h : Evolves s0 s) : OutEvolves s0 (execSpdmFinish a0 a1 a2 s) := by
  unfold execSpdmFinish
  exact .ite h (.ite (State.send_evolves (sessSync_evolves (.same h))) (State.send_evolves (sessSync_evolves (raise_evolves (.same h)))))

theorem execSpdmKeyUpdate_evolves {s0 s : State} {a0 a1} (h : Evolves s0 s) : OutEvolves s0 (execSpdmKeyUpdate a0 a1 s) := by
  unfold execSpdmKeyUpdate
  split
  · exact spdmAnswer_evolves h
  · exact h

theorem execSpdmHeartbeat_evolves {s0 s : State} {a0 a1} (h : Evolves s0 s) : OutEvolves s0 (execSpdmHeartbeat a0 a1 s) := by
  unfold execSpdmHeartbeat
  split
  · exact spdmAnswer_evolves h
  · exact h

theorem execSpdmEndSession_evolves {s0 s : State} {a0 a1} (h : Evolves s0 s) : OutEvolves s0 (execSpdmEndSession a0 a1 s) := by
  unfold execSpdmEndSession
  exact .ite (State.send_evolves (sessSync_evolves (.same h))) h

theorem execSpdmUnsupportedRequest_evolves {s0 s : State} {a0} (h : Evolves s0 s) : OutEvolves s0 (execSpdmUnsupportedRequest a0 s) := by
  unfold execSpdmUnsupportedRequest
  exact .ite (State.send_evolves h) h

/-! ### Store -/

theorem markSuspect_evolves {s0 s : State} {a0} (h : Evolves s0 s) : Evolves s0 (markSuspect a0 s) := by
  unfold markSuspect
  exact .ite h (storeSync_evolves (raise_evolves (State.onStore_evolves h)))

theorem programWord_evolves {s0 s : State} {a0 a1 a2} (h : Evolves s0 s) : Evolves s0 (programWord a0 a1 a2 s).2 := by
  unfold programWord
  extract_lets -merge -underBinder x0 x1 x2 x3
  clear_value x0 x1
  have h2 : Evolves s0 x2 := (State.onStore_evolves h)
  clear_value x2
  have h3 : Evolves s0 x3 := (State.inc_evolves h2)
  clear_value x3
  split
  · exact .snd_mk (raise_evolves (State.inc_evolves h))
  · split
    · exact .snd_mk (raise_evolves (State.inc_evolves h))
    · split
      · exact .snd_mk h
      · split
        · exact .snd_mk (raise_evolves (State.inc_evolves h))
        · split
          · exact .snd_mk (markSuspect_evolves h3)
          · exact .snd_mk h3

theorem programWords_evolves {s0 : State} {fail : Option Nat} : ∀ {ws : List Nat} {i addr : Nat} {s : State}, Evolves s0 s →
    Evolves s0 (programWords fail i addr ws s).2.2
  | [], _, _, _, h => by
    unfold programWords
    exact h
  | w :: ws, i, addr, s, h => by
    unfold programWords
    have g := programWord_evolves (a0 := addr) (a1 := w) (a2 := fail == some i) h
    split
    · rename_i y hq
      rw [hq] at g
      exact programWords_evolves g
    · rename_i y z _ hq
      rw [hq] at g
      exact g

theorem eraseSector_evolves {s0 s : State} {a0} (h : Evolves s0 s) : Evolves s0 (eraseSector a0 s) := by
  unfold eraseSector
  extract_lets -merge -underBinder x0 x1 x2 x3
  clear_value x1
  have h2 : Evolves s0 x2 := (State.onStore_evolves h)
  clear_value x2
  have h3 : Evolves s0 x3 := (storeSync_evolves (State.inc_evolves h2))
  clear_value x3
  exact .ite (raise_evolves h3) h3

theorem growBad_evolves {s0 s : State} {a0} (h : Evolves s0 s) : Evolves s0 (growBad a0 s) := by
  unfold growBad
  extract_lets -merge -underBinder x0
  have h0 : Evolves s0 x0 := (State.onStore_evolves h)
  clear_value x0
  exact .ite (storeSync_evolves (raise_evolves (State.inc_evolves (eraseSector_evolves (State.onStore_evolves h0))))) (storeSync_evolves (raise_evolves (State.onStore_evolves h0)))

theorem holdForeman_evolves {s0 s : State} {a0 a1 a2 a3} (h : Evolves s0 s) : Evolves s0 (holdForeman a0 a1 a2 a3 s) := by
  unfold holdForeman
  extract_lets -merge -underBinder x0
  have h0 : Evolves s0 x0 := (State.put_evolves (State.put_evolves (State.put_evolves h)))
  clear_value x0
  exact State.onStore_evolves (State.put_evolves (State.put_evolves h0))

theorem releaseForeman_evolves {s0 s : State} (h : Evolves s0 s) : Evolves s0 (releaseForeman s) := by
  unfold releaseForeman
  extract_lets -merge -underBinder x0
  have h0 : Evolves s0 x0 := (State.onStore_evolves (State.put_evolves (State.put_evolves h)))
  clear_value x0
  exact State.put_evolves (State.put_evolves h0)

theorem appendCfg_evolves {s0 s : State} {a0} (h : Evolves s0 s) : Evolves s0 (appendCfg a0 s) := by
  unfold appendCfg
  exact .ite (State.onStore_evolves h) (raise_evolves (State.inc_evolves (State.onStore_evolves h)))

theorem opAborted_evolves {s0 s : State} {a0 a1 a2} (h : Evolves s0 s) : Evolves s0 (opAborted a0 a1 a2 s) := by
  unfold opAborted
  extract_lets -merge -underBinder x0 x1
  have h0 : Evolves s0 x0 := (raise_evolves (State.inc_evolves (State.inc_evolves h)))
  clear_value x0
  have h1 : Evolves s0 x1 := (.ite (growBad_evolves h0) (markSuspect_evolves h0))
  clear_value x1
  split
  · exact refuse_evolves (releaseForeman_evolves h1)
  · exact releaseForeman_evolves h1

theorem execStoreOpTimeout_evolves {s0 s : State} (h : Evolves s0 s) : OutEvolves s0 (execStoreOpTimeout s) := by
  unfold execStoreOpTimeout
  exact onUp_evolves h (fun _ h0 => (.ite h0 (opAborted_evolves h0)))

theorem imageSync_evolves {s0 s : State} {a0} (h : Evolves s0 s) : Evolves s0 (imageSync a0 s) := by
  unfold imageSync
  extract_lets -merge -underBinder x0 x1
  have h1 : Evolves s0 x1 := (State.put_evolves (State.put_evolves h))
  clear_value x1
  exact .ite h (State.put_evolves h1)

theorem finishImageWrite_evolves {s0 s : State} {a0 a1} (h : Evolves s0 s) : Evolves s0 (finishImageWrite a0 a1 s) := by
  unfold finishImageWrite
  extract_lets x0 x1 x2 x3
  have h2 : Evolves s0 x2.2.2 := programWords_evolves h
  clear_value x2
  have h3 : Evolves s0 x3 := releaseForeman_evolves (imageSync_evolves h2)
  clear_value x3
  exact .ite (complete_evolves h3) (refuse_evolves h3)

theorem execImageWrite_evolves {s0 s : State} {a0 a1} (h : Evolves s0 s) : OutEvolves s0 (execImageWrite a0 a1 s) := by
  unfold execImageWrite
  exact (onCmd_evolves h (fun _ h0 => (by
      extract_lets -merge -underBinder x1 x2 x3 x4
      clear_value x1 x2
      clear_value x3 x4
      split
      · exact refuse_evolves h0
      · extract_lets -merge -underBinder x8
        clear_value x8
        exact (.ite h0 (.ite (holdForeman_evolves (State.onStore_evolves h0)) (finishImageWrite_evolves h0))))))

theorem execStoreEraseDone_evolves {s0 s : State} {a0 a1} (h : Evolves s0 s) : OutEvolves s0 (execStoreEraseDone a0 a1 s) := by
  unfold execStoreEraseDone
  exact (onUp_evolves h (fun _ h0 => (by
      extract_lets -merge -underBinder x1
      clear_value x1
      exact (.ite h0 (by
          split
          · exact releaseForeman_evolves h0
          · exact (.ite (finishImageWrite_evolves (eraseSector_evolves h0)) (.ite (refuse_evolves (releaseForeman_evolves (growBad_evolves h0))) (refuse_evolves (releaseForeman_evolves (raise_evolves h0))))))))))

theorem commitMarker_evolves {s0 s : State} {a0 a1} (h : Evolves s0 s) : Evolves s0 (commitMarker a0 a1 s) := by
  unfold commitMarker
  extract_lets -merge -underBinder x0 x1
  clear_value x0 x1
  exact storeSync_evolves (State.onStore_evolves h)

theorem execImageCommit_evolves {s0 s : State} {a0 a1 a2} (h : Evolves s0 s) : OutEvolves s0 (execImageCommit a0 a1 a2 s) := by
  unfold execImageCommit
  exact (onCmd_evolves h (fun _ h0 => (by
      extract_lets -merge -underBinder x1 x2 x3
      clear_value x1
      have h3 : Evolves s0 x3 := (commitMarker_evolves (State.put_evolves (imageSync_evolves h0)))
      clear_value x3
      exact (.ite (refuse_evolves h0) (.ite (refuse_evolves h0) (.ite (refuse_evolves (raise_evolves (State.put_evolves h0))) (.ite (refuse_evolves (raise_evolves h0)) (.ite (refuse_evolves h0) (complete_evolves (raise_evolves h3))))))))))

theorem execHotRestart_evolves {s0 s : State} {a0 a1} (h : Evolves s0 s) : OutEvolves s0 (execHotRestart a0 a1 s) := by
  unfold execHotRestart
  exact onCmd_evolves h (fun _ h0 => (.ite (refuse_evolves h0) (.ite (refuse_evolves h0) (hotRestart_evolves (complete_evolves h0)))))

theorem execRegionUnlock_evolves {s0 s : State} {a0 a1} (h : Evolves s0 s) : OutEvolves s0 (execRegionUnlock a0 a1 s) := by
  unfold execRegionUnlock
  exact (onCmd_evolves h (fun _ h0 => (by
      extract_lets -merge -underBinder x1
      clear_value x1
      exact (.ite (refuse_evolves h0) (.ite (refuse_evolves h0) (.ite (complete_evolves (raise_evolves (State.put_evolves h0))) (refuse_evolves (raise_evolves (State.inc_evolves (State.onStore_evolves h0))))))))))

theorem execStoreStatus_evolves {s0 s : State} {a0} (h : Evolves s0 s) : OutEvolves s0 (execStoreStatus a0 s) := by
  unfold execStoreStatus
  exact onCmd_evolves h (fun _ h0 => (complete_evolves h0))

/-! ### Tiers -/

theorem execTicketGet_evolves {s0 s : State} {a0} (h : Evolves s0 s) : OutEvolves s0 (execTicketGet a0 s) := by
  unfold execTicketGet
  exact (onUp_evolves h (fun _ h0 => (by
      split
      · rename_i y1 y2 hq
        have g2 : Evolves s0 y2 := .of_some2 hq (takeTicket_evolves h0)
        exact State.send_evolves g2
      · exact (State.send_evolves h0))))

theorem execTicketPut_evolves {s0 s : State} {a0} (h : Evolves s0 s) : OutEvolves s0 (execTicketPut a0 s) := by
  unfold execTicketPut
  exact onUp_evolves h (fun _ h0 => (State.send_evolves (giveTicket_evolves h0)))

theorem execSlotGet_evolves {s0 s : State} {a0} (h : Evolves s0 s) : OutEvolves s0 (execSlotGet a0 s) := by
  unfold execSlotGet
  exact (onUp_evolves h (fun _ h0 => (by
      split
      · rename_i y1 y2 hq
        have g2 : Evolves s0 y2 := .of_some2 hq (takeSlot_evolves h0)
        exact State.send_evolves g2
      · exact (State.send_evolves h0))))

theorem execSlotPut_evolves {s0 s : State} {a0} (h : Evolves s0 s) : OutEvolves s0 (execSlotPut a0 s) := by
  unfold execSlotPut
  exact onUp_evolves h (fun _ h0 => (State.send_evolves (giveSlot_evolves h0)))

theorem execWindowCheck_evolves {s0 s : State} {a0 a1 a2 a3} (h : Evolves s0 s) : OutEvolves s0 (execWindowCheck a0 a1 a2 a3 s) := by
  unfold execWindowCheck
  exact (onUp_evolves h (fun _ h0 => (by
      split
      · exact State.send_evolves h0
      · split
        · exact State.send_evolves h0
        · exact (State.send_evolves (beginAccess_evolves h0)))))

theorem readMeta_evolves {s0 s : State} {a0} (h : Evolves s0 s) : Evolves s0 (readMeta a0 s) := by
  unfold readMeta
  extract_lets -merge -underBinder x0
  have h0 : Evolves s0 x0.2 := (benchLookup_evolves h)
  clear_value x0
  exact .ite h0 (.ite (State.onTir_evolves (State.inc_evolves h0)) (issueFill_evolves h0))

theorem writeMeta_evolves {s0 s : State} {a0} (h : Evolves s0 s) : Evolves s0 (writeMeta a0 s) := by
  unfold writeMeta
  extract_lets -merge -underBinder x0 x1
  clear_value x0
  have h1 : Evolves s0 x1.2 := (benchLookup_evolves h)
  clear_value x1
  exact (.ite h1 (.ite (by
        split
        · exact dirtySync_evolves (putWay_evolves h1)
        · exact h1) (.ite (State.onTir_evolves (State.inc_evolves h1)) (issueFill_evolves h1))))

theorem execDirLookup_evolves {s0 s : State} {a0 a1 a2} (h : Evolves s0 s) : OutEvolves s0 (execDirLookup a0 a1 a2 s) := by
  unfold execDirLookup
  exact (onUp_evolves h (fun _ h0 => (by
      extract_lets -merge -underBinder x1
      have h1 : Evolves s0 x1 := (readMeta_evolves (memFault_evolves h0))
      clear_value x1
      exact (State.send_evolves h1))))

theorem execDirLock_evolves {s0 s : State} {a0 a1 a2 a3} (h : Evolves s0 s) : OutEvolves s0 (execDirLock a0 a1 a2 a3 s) := by
  unfold execDirLock
  exact (onUp_evolves h (fun _ h0 => (by
      extract_lets -merge -underBinder x1
      have h1 : Evolves s0 x1.2 := (takeLock_evolves (writeMeta_evolves h0))
      clear_value x1
      exact (State.send_evolves h1))))

theorem execDirUnlock_evolves {s0 s : State} {a0 a1} (h : Evolves s0 s) : OutEvolves s0 (execDirUnlock a0 a1 s) := by
  unfold execDirUnlock
  exact onUp_evolves h (fun _ h0 => (State.send_evolves (settle_evolves (dropLock_evolves (writeMeta_evolves h0)))))

theorem execXltLookup_evolves {s0 s : State} {a0 a1 a2} (h : Evolves s0 s) : OutEvolves s0 (execXltLookup a0 a1 a2 s) := by
  unfold execXltLookup
  exact (onUp_evolves h (fun _ h0 => (by
      extract_lets -merge -underBinder x1
      have h1 : Evolves s0 x1 := (readMeta_evolves (memFault_evolves h0))
      clear_value x1
      exact (State.send_evolves h1))))

theorem execTierRead_evolves {s0 s : State} {a0 a1 a2 a3 a4 a5} (h : Evolves s0 s) : OutEvolves s0 (execTierRead a0 a1 a2 a3 a4 a5 s) := by
  unfold execTierRead
  exact onUp_evolves h (fun _ h0 => (.ite (State.send_evolves h0) (request_evolves (memFault_evolves h0))))

theorem execTierWrite_evolves {s0 s : State} {a0 a1} (h : Evolves s0 s) : OutEvolves s0 (execTierWrite a0 a1 s) := by
  unfold execTierWrite
  exact (onUp_evolves h (fun _ h0 => (by
      split
      · exact h0
      · exact (settle_evolves (applyPass_evolves (mergeFault_evolves (memFault_evolves h0)))))))

theorem execQuarterArrived_evolves {s0 s : State} {a0 a1} (h : Evolves s0 s) : OutEvolves s0 (execQuarterArrived a0 a1 s) := by
  unfold execQuarterArrived
  exact onUp_evolves h (fun _ h0 => (.ite h0 (settle_evolves (installQuarter_evolves h0))))

theorem execFrameWaitResume_evolves {s0 s : State} {a0} (h : Evolves s0 s) : OutEvolves s0 (execFrameWaitResume a0 s) := by
  unfold execFrameWaitResume
  exact onUp_evolves h (fun _ h0 => (.ite h0 (settle_evolves (State.put_evolves h0))))

theorem execMoveDone_evolves {s0 s : State} {a0} (h : Evolves s0 s) : OutEvolves s0 (execMoveDone a0 s) := by
  unfold execMoveDone
  exact onUp_evolves h (fun _ h0 => (settle_evolves (endMove_evolves h0)))

theorem grantLock_evolves {s0 s : State} {a0 a1 a2} (h : Evolves s0 s) : Evolves s0 (grantLock a0 a1 a2 s) := by
  unfold grantLock
  extract_lets -merge -underBinder x0
  clear_value x0
  split
  · exact (.ite (by
        split
        · rename_i y2 hq
          have g2 : Evolves s0 y2 := .of_some hq (allocLoft_evolves h)
          exact modGran_evolves g2
        · exact (State.inc_evolves (giveSlot_evolves h))) (giveSlot_evolves h))
  · exact beginEvict_evolves h
  · exact beginEvict_evolves h
  · exact beginEvict_evolves h
  · split
    · rename_i y8 hq
      have g8 : Evolves s0 y8 := .of_some hq (startPack_evolves h)
      exact g8
    · exact giveSlot_evolves (packWaits_evolves h)
  · exact modGran_evolves h
  · exact giveSlot_evolves h
  · exact h

theorem execMoveLockGranted_evolves {s0 s : State} {a0 a1} (h : Evolves s0 s) : OutEvolves s0 (execMoveLockGranted a0 a1 s) := by
  unfold execMoveLockGranted
  exact (onUp_evolves h (fun _ h0 => (by
      extract_lets -merge -underBinder x1
      clear_value x1
      split
      · exact settle_evolves (grantLock_evolves (setGran_evolves h0))
      · exact h0)))

theorem execSweepPassStart_evolves {s0 s : State} (h : Evolves s0 s) : OutEvolves s0 (execSweepPassStart s) := by
  unfold execSweepPassStart
  exact onUp_evolves h (fun _ h0 => (.ite h0 (.ite (.ite h0 (State.inc_evolves (State.onTir_evolves h0))) (startSweep_evolves h0))))

theorem execSweepPassEnd_evolves {s0 s : State} (h : Evolves s0 s) : OutEvolves s0 (execSweepPassEnd s) := by
  unfold execSweepPassEnd
  exact (onUp_evolves h (fun _ h0 => (by
      extract_lets -merge -underBinder x1
      have h1 : Evolves s0 x1 := (State.put_evolves (State.put_evolves h0))
      clear_value x1
      exact (.ite h0 (.ite (startSweep_evolves h1) h1)))))

theorem execAgeEviction_evolves {s0 s : State} (h : Evolves s0 s) : OutEvolves s0 (execAgeEviction s) := by
  unfold execAgeEviction
  exact (onUp_evolves h (fun _ h0 => (by
      split
      · exact h0
      · extract_lets -merge -underBinder x5 x6 x7 x8
        clear_value x5 x6
        have h7 : Evolves s0 x7 := (State.onTir_evolves h0)
        clear_value x7 x8
        exact (.ite h7 (.ite (modGran_evolves h7) (by
              split
              · exact h0
              · rename_i y10 y11 hq
                have g11 : Evolves s0 y11 := .of_some2 hq (takeSlot_evolves h7)
                exact (.ite (takeLock_evolves g11) (poolStateSync_evolves (beginEvict_evolves g11)))))))))

theorem execPressureEviction_evolves {s0 s : State} {a0} (h : Evolves s0 s) : OutEvolves s0 (execPressureEviction a0 s) := by
  refine onUp_evolves h fun t g => ?_
  extract_lets x0 x1 x2
  have h2 : Evolves s0 x2.2 := relieve_evolves (State.put_evolves g)
  clear_value x2
  refine .ite (State.put_evolves g) (.ite (State.put_evolves g) ?_)
  split
  · rename_i n u _ hq
    have k : Evolves s0 u := .of_some2 hq (takeSlot_evolves h2)
    exact poolStateSync_evolves (beginEvict_evolves (State.onTir_evolves k))
  · exact poolStateSync_evolves h2

theorem rebuildDone_evolves {s0 s : State} {a0} (h : Evolves s0 s) : Evolves s0 (rebuildDone a0 s) := by
  unfold rebuildDone
  exact settle_evolves (dropLock_evolves (State.onTir_evolves h))

theorem execCopyRebuildDone_evolves {s0 s : State} {a0} (h : Evolves s0 s) : OutEvolves s0 (execCopyRebuildDone a0 s) := by
  unfold execCopyRebuildDone
  exact (onUp_evolves h (fun _ h0 => (by
      extract_lets -merge -underBinder x1
      clear_value x1
      exact (.ite h0 (.ite (rebuildDone_evolves h0) (by
            split
            · rename_i y2 hq
              have g2 : Evolves s0 y2 := .of_some hq (allocFloor_evolves h0)
              exact rebuildDone_evolves g2
            · exact (frameWait_evolves h0)))))))

theorem execFloorChannelLost_evolves {s0 s : State} {a0} (h : Evolves s0 s) : OutEvolves s0 (execFloorChannelLost a0 s) := by
  unfold execFloorChannelLost
  exact onUp_evolves h (fun _ h0 => (.ite h0 (settle_evolves (loseChannel_evolves h0))))

/-! ### Yard -/

theorem execYardAlloc_evolves {s0 s : State} {a0 a1 a2} (h : Evolves s0 s) : OutEvolves s0 (execYardAlloc a0 a1 a2 s) := by
  unfold execYardAlloc
  exact (onUp_evolves h (fun _ h0 => (by
      extract_lets -merge -underBinder x1
      clear_value x1
      exact (.ite (State.send_evolves h0) (.ite (State.send_evolves h0) (by
            split
            · extract_lets -merge -underBinder x3
              clear_value x3
              exact State.send_evolves (raiseRl_evolves (State.inc_evolves h0))
            · extract_lets -merge -underBinder x5 x6
              clear_value x5
              have h6 : Evolves s0 x6 := (yardSync_evolves (State.inc_evolves (State.onYrd_evolves h0)))
              clear_value x6
              exact (State.send_evolves h6)))))))

theorem execYardFree_evolves {s0 s : State} {a0 a1} (h : Evolves s0 s) : OutEvolves s0 (execYardFree a0 a1 s) := by
  unfold execYardFree
  exact (onUp_evolves h (fun _ h0 => (by
      split
      · exact State.send_evolves (freeBuf_evolves h0)
      · exact (State.send_evolves (.ite (yardFault_evolves h0) h0)))))

theorem execYardHandover_evolves {s0 s : State} {a0 a1 a2} (h : Evolves s0 s) : OutEvolves s0 (execYardHandover a0 a1 a2 s) := by
  unfold execYardHandover
  exact (onUp_evolves h (fun _ h0 => (by
      split
      · exact State.send_evolves (State.inc_evolves (State.onYrd_evolves h0))
      · exact (State.send_evolves (.ite (yardFault_evolves h0) h0)))))

theorem reclaimOwner_evolves {s0 s : State} {a0} (h : Evolves s0 s) : Evolves s0 (reclaimOwner a0 s).2 := by
  unfold reclaimOwner
  extract_lets -merge -underBinder x0 x1 x3 x4
  clear_value x0
  have h1 : Evolves s0 x1 := (.foldl h (fun _ _ h2 => (freeBuf_evolves h2)))
  clear_value x1 x3
  have h4 : Evolves s0 x4 := (.foldl h1 (fun _ _ h5 => (dropOpen_evolves h5)))
  clear_value x4
  exact .snd_mk (.ite h4 (raise_evolves h4))

theorem execReclaim_evolves {s0 s : State} {a0} (h : Evolves s0 s) : OutEvolves s0 (execReclaim a0 s) := by
  unfold execReclaim
  exact (onCmd_evolves h (fun _ h0 => (by
      extract_lets -merge -underBinder x1
      have h1 : Evolves s0 x1.2 := (reclaimOwner_evolves h0)
      clear_value x1
      exact (complete_evolves h1))))

theorem execYardInspect_evolves {s0 s : State} {a0} (h : Evolves s0 s) : OutEvolves s0 (execYardInspect a0 s) := by
  unfold execYardInspect
  exact onCmd_evolves h (fun _ h0 => (completeFree_evolves h0))

theorem postNotice_evolves {s0 s : State} {a0 a1 a2} (h : Evolves s0 s) : Evolves s0 (postNotice a0 a1 a2 s) := by
  unfold postNotice
  exact State.send_evolves h

theorem appendCell_evolves {s0 s : State} {a0 a1 a2 a3 a4 a5 a6} (h : Evolves s0 s) : Evolves s0 (appendCell a0 a1 a2 a3 a4 a5 a6 s) := by
  unfold appendCell
  extract_lets -merge -underBinder x0 x1 x2 x3 x4 x5
  clear_value x0 x1 x2
  have h3 : Evolves s0 x3 := (State.onYrd_evolves h)
  clear_value x3
  have h4 : Evolves s0 x4 := (.ite h3 (State.inc_evolves h3))
  clear_value x4
  have h5 : Evolves s0 x5 := (by
      unfold x5
      split
      · exact State.put_evolves (State.onTir_evolves h4)
      · exact h4)
  clear_value x5
  exact .ite (ditchSync_evolves (postNotice_evolves (State.inc_evolves (putQueue_evolves h5)))) (ditchSync_evolves (putQueue_evolves h5))

theorem execDitchEnq_evolves {s0 s : State} {a0 a1 a2 a3 a4} (h : Evolves s0 s) : OutEvolves s0 (execDitchEnq a0 a1 a2 a3 a4 s) := by
  unfold execDitchEnq
  exact (onUp_evolves h (fun _ h0 => (by
      extract_lets -merge -underBinder x1
      split
      · exact State.send_evolves h0
      · extract_lets -merge -underBinder x4
        clear_value x4
        exact (.ite (State.send_evolves h0) (.ite (State.send_evolves h0) (.ite (State.send_evolves h0) (.ite (State.send_evolves (State.inc_evolves h0)) (.ite (State.send_evolves (raise_evolves (dropOpen_evolves h0))) (.ite (State.send_evolves (State.inc_evolves h0)) (by
                      split
                      · exact State.send_evolves (cellEvents_evolves (raiseRl_evolves (State.inc_evolves h0)))
                      · exact (State.send_evolves (cellEvents_evolves (appendCell_evolves h0)))))))))))))

theorem deliverCell_evolves {s0 s : State} {a0 a1 a2 a3 a4 a5} (h : Evolves s0 s) : Evolves s0 (deliverCell a0 a1 a2 a3 a4 a5 s) := by
  unfold deliverCell
  extract_lets -merge -underBinder x0 x1 x2
  have h0 : Evolves s0 x0 := (.ite h (.ite (raise_evolves (State.inc_evolves h)) (raise_evolves h)))
  clear_value x0
  have h1 : Evolves s0 x1 := (freeCells_evolves h0)
  clear_value x1
  have h2 : Evolves s0 x2 := (.ite (State.inc_evolves (putQueue_evolves h1)) (putQueue_evolves h1))
  clear_value x2
  exact State.send_evolves (ditchSync_evolves (closeQueue_evolves h2))

theorem execDitchDeq_evolves {s0 s : State} {a0 a1 a2} (h : Evolves s0 s) : OutEvolves s0 (execDitchDeq a0 a1 a2 s) := by
  unfold execDitchDeq
  exact (onUp_evolves h (fun _ h0 => (by
      split
      · exact State.send_evolves h0
      · exact (.ite (State.send_evolves h0) (.ite (State.send_evolves (raise_evolves h0)) (by
              split
              · exact State.send_evolves h0
              · exact h0
              · exact (deliverCell_evolves h0)))))))

theorem execDropRemainder_evolves {s0 s : State} {a0 a1} (h : Evolves s0 s) : OutEvolves s0 (execDropRemainder a0 a1 s) := by
  unfold execDropRemainder
  exact (onUp_evolves h (fun _ h0 => (by
      split
      · exact State.send_evolves h0
      · extract_lets -merge -underBinder x3
        have h3 : Evolves s0 x3.2 := (dropOpen_evolves h0)
        clear_value x3
        exact (.ite (State.send_evolves h3) (.ite (by
              split
              · extract_lets -merge -underBinder x6 x7
                have h6 : Evolves s0 x6 := (freeCells_evolves (putQueue_evolves h0))
                clear_value x6
                have h7 : Evolves s0 x7 := (State.add_evolves (State.inc_evolves h6))
                clear_value x7
                exact State.send_evolves (ditchSync_evolves (closeQueue_evolves h7))
              · exact (State.send_evolves h0)) (State.send_evolves h0))))))

theorem execQopen_evolves {s0 s : State} {a0 a1 a2} (h : Evolves s0 s) : OutEvolves s0 (execQopen a0 a1 a2 s) := by
  unfold execQopen
  exact (onUp_evolves h (fun _ h0 => (by
      extract_lets -merge -underBinder x1 x2
      clear_value x1 x2
      exact (.ite (State.send_evolves h0) (.ite (State.send_evolves h0) (State.send_evolves (ditchSync_evolves (putQueue_evolves h0))))))))

theorem closeNow_evolves {s0 s : State} {a0 a1} (h : Evolves s0 s) : Evolves s0 (closeNow a0 a1 s) := by
  unfold closeNow
  extract_lets -merge -underBinder x0
  have h0 : Evolves s0 x0 := (.foldl (putQueue_evolves h) (fun _ _ h1 => (dropOpen_evolves h1)))
  clear_value x0
  exact ditchSync_evolves (freeCells_evolves (State.onYrd_evolves h0))

theorem execQclose_evolves {s0 s : State} {a0 a1} (h : Evolves s0 s) : OutEvolves s0 (execQclose a0 a1 s) := by
  unfold execQclose
  exact (onUp_evolves h (fun _ h0 => (by
      split
      · exact State.send_evolves h0
      · exact (.ite (State.send_evolves (raise_evolves h0)) (.ite (State.send_evolves h0) (State.send_evolves (closeNow_evolves h0)))))))

theorem execDitchInspect_evolves {s0 s : State} {a0} (h : Evolves s0 s) : OutEvolves s0 (execDitchInspect a0 s) := by
  unfold execDitchInspect
  exact onCmd_evolves h (fun _ h0 => (complete_evolves h0))

theorem lockPairStep_evolves {s0 s : State} {a0 a1} (h : Evolves s0 s) : Evolves s0 (lockPairStep a0 a1 s) := by
  unfold lockPairStep
  extract_lets -merge -underBinder x0 x1 x2 x3 x4
  clear_value x0 x1
  have h2 : Evolves s0 x2 := (.ite (State.inc_evolves (State.put_evolves h)) (.ite (State.inc_evolves (State.put_evolves h)) h))
  clear_value x2
  have h3 : Evolves s0 x3 := (.ite (.ite (State.put_evolves h2) (.ite (State.put_evolves h2) h2)) h2)
  clear_value x3
  have h4 : Evolves s0 x4 := (State.put_evolves h3)
  clear_value x4
  exact State.put_evolves h4

theorem execLockPairFillDone_evolves {s0 s : State} {a0 a1} (h : Evolves s0 s) : OutEvolves s0 (execLockPairFillDone a0 a1 s) := by
  unfold execLockPairFillDone
  exact (onUp_evolves h (fun _ h0 => (by
      extract_lets -merge -underBinder x1 x2 x3 x4
      clear_value x1 x2 x3
      have h4 : Evolves s0 x4 := (.ite (State.put_evolves h0) (.ite (State.put_evolves h0) (.ite (State.put_evolves h0) (.ite (State.put_evolves h0) h0))))
      clear_value x4
      exact (lockPairStep_evolves h4))))

theorem execLockPairDrainDone_evolves {s0 s : State} {a0 a1} (h : Evolves s0 s) : OutEvolves s0 (execLockPairDrainDone a0 a1 s) := by
  unfold execLockPairDrainDone
  exact (onUp_evolves h (fun _ h0 => (by
      extract_lets -merge -underBinder x1 x2 x3 x4
      clear_value x1 x2 x3
      have h4 : Evolves s0 x4 := (.ite (State.put_evolves h0) (.ite (State.put_evolves h0) h0))
      clear_value x4
      exact (lockPairStep_evolves h4))))

theorem execLoftStackFenced_evolves {s0 s : State} {a0} (h : Evolves s0 s) : OutEvolves s0 (execLoftStackFenced a0 s) := by
  unfold execLoftStackFenced
  exact onUp_evolves h (fun _ h0 => (.ite h0 (fenceStack_evolves h0)))

end Sys2Proof.Machine
end

