-- ==== Sys2Proof/Laws/EvolvePeers.lean ====
section
/-!
SUPPORT. Sys2Proof/Laws/EvolvePeers.lean: what every command leaves in place (`Evolves`), one lemma for each of
the meanings of the commands of the twin link, the ports, the ciphers, the joiners, the frames and the modes.
-/
set_option Elab.async false

namespace Sys2Proof.Machine

open Sys2Proof

/-! ### Twin -/

theorem setCableFault_evolves {s0 s : State} (h : Evolves s0 s) : Evolves s0 (setCableFault s) := by
  unfold setCableFault
  exact .ite h (raise_evolves (State.inc_evolves (State.put_evolves h)))

theorem twinFenced_evolves {s0 s : State} (h : Evolves s0 s) : Evolves s0 (twinFenced s) := by
  unfold twinFenced
  exact (.ite h (by
      split
      · exact declareLost_evolves h
      · exact (declareLost_evolves h)))

theorem twinPf_evolves {s0 s : State} (h : Evolves s0 s) : Evolves s0 (twinPf s) := by
  unfold twinPf
  exact .ite h (declareLost_evolves h)

theorem twinStatus_evolves {s0 s : State} {a0 a1} (h : Evolves s0 s) : Evolves s0 (twinStatus a0 a1 s) := by
  unfold twinStatus
  exact .ite (twinFenced_evolves h) (.ite (twinPf_evolves h) (.ite (enterServing_evolves h) h))

theorem wordHeard_evolves {s0 s : State} {a0} (h : Evolves s0 s) : Evolves s0 (wordHeard a0 s) := by
  unfold wordHeard
  exact State.onTwn_evolves (State.inc_evolves h)

theorem wordNoted_evolves {s0 s : State} {a0 a1 a2 a3} (h : Evolves s0 s) : Evolves s0 (wordNoted a0 a1 a2 a3 s) := by
  unfold wordNoted
  extract_lets -merge -underBinder x0 x1
  clear_value x0 x1
  exact State.put_evolves (State.onTwn_evolves (wordHeard_evolves h))

theorem execHeartbeatWordReceived_evolves {s0 s : State} {a0 a1 a2 a3 a4 a5 a6 a7 a8} (h : Evolves s0 s) : OutEvolves s0 (execHeartbeatWordReceived a0 a1 a2 a3 a4 a5 a6 a7 a8 s) := by
  unfold execHeartbeatWordReceived
  exact (onUp_evolves h (fun _ h0 => (by
      extract_lets -merge -underBinder x1
      have h1 : Evolves s0 x1 := (wordNoted_evolves h0)
      clear_value x1
      exact (.ite (violate_evolves (State.inc_evolves h0)) (.ite (violate_evolves (setCableFault_evolves (wordHeard_evolves h0))) (.ite (wordHeard_evolves h0) (.ite h1 (twinStatus_evolves (State.put_evolves h1)))))))))

theorem execPairFenceInAssert_evolves {s0 s : State} (h : Evolves s0 s) : OutEvolves s0 (execPairFenceInAssert s) := by
  unfold execPairFenceInAssert
  exact (onUp_evolves h (fun _ h0 => (by
      extract_lets -merge -underBinder x1
      have h1 : Evolves s0 x1 := (State.put_evolves h0)
      clear_value x1
      exact (.ite h1 (fenceNow_evolves h1)))))

theorem execPairFenceInDeassert_evolves {s0 s : State} (h : Evolves s0 s) : OutEvolves s0 (execPairFenceInDeassert s) := by
  unfold execPairFenceInDeassert
  exact (onUp_evolves h (fun _ h0 => (by
      extract_lets -merge -underBinder x1
      have h1 : Evolves s0 x1 := (State.put_evolves h0)
      clear_value x1
      exact (.ite (admitSync_evolves (cubSync_evolves (setPair_evolves (State.onTwn_evolves h1)))) h1))))

theorem execPairPfInAssert_evolves {s0 s : State} (h : Evolves s0 s) : OutEvolves s0 (execPairPfInAssert s) := by
  unfold execPairPfInAssert
  exact (onUp_evolves h (fun _ h0 => (by
      extract_lets -merge -underBinder x1
      have h1 : Evolves s0 x1 := (State.put_evolves h0)
      clear_value x1
      exact (.ite h1 (twinPf_evolves h1)))))

theorem execPairInputPulse_evolves {s0 s : State} {a0} (h : Evolves s0 s) : OutEvolves s0 (execPairInputPulse a0 s) := by
  unfold execPairInputPulse
  exact onUp_evolves h (fun _ h0 => (violate_evolves (State.inc_evolves h0)))

theorem execCableFaultSet_evolves {s0 s : State} (h : Evolves s0 s) : OutEvolves s0 (execCableFaultSet s) := by
  unfold execCableFaultSet
  exact onUp_evolves h (fun _ h0 => (.ite (setCableFault_evolves h0) h0))

theorem execCableFaultClear_evolves {s0 s : State} (h : Evolves s0 s) : OutEvolves s0 (execCableFaultClear s) := by
  unfold execCableFaultClear
  exact (onUp_evolves h (fun _ h0 => (by
      extract_lets -merge -underBinder x1
      have h1 : Evolves s0 x1 := (raise_evolves (State.put_evolves h0))
      clear_value x1
      exact (.ite (.ite (fenceNow_evolves h1) (.ite (twinPf_evolves h1) (.ite (admitSync_evolves (cubSync_evolves (setPair_evolves (State.onTwn_evolves h1)))) h1))) h0))))

theorem execHbTimeout_evolves {s0 s : State} (h : Evolves s0 s) : OutEvolves s0 (execHbTimeout s) := by
  unfold execHbTimeout
  exact onUp_evolves h (fun _ h0 => (.ite (declareLost_evolves h0) h0))

theorem execStall_evolves {s0 s : State} (h : Evolves s0 s) : OutEvolves s0 (execStall s) := by
  unfold execStall
  exact onUp_evolves h (fun _ h0 => (.ite (declareLost_evolves h0) h0))

theorem execMirrorPathArbitration_evolves {s0 s : State} (h : Evolves s0 s) : OutEvolves s0 (execMirrorPathArbitration s) := by
  unfold execMirrorPathArbitration
  exact (onUp_evolves h (fun _ h0 => (by
      split
      · extract_lets -merge -underBinder x2 x3
        clear_value x2 x3
        exact .ite (.ite (fenceNow_evolves h0) (State.onTwn_evolves h0)) h0
      · exact h0)))

theorem execLinkAndCable_evolves {s0 s : State} (h : Evolves s0 s) : OutEvolves s0 (execLinkAndCable s) := by
  unfold execLinkAndCable
  exact onUp_evolves h (fun _ h0 => (.ite h0 (.ite (.ite (fenceNow_evolves h0) h0) (.ite (declareLost_evolves h0) h0))))

theorem execFenceMarginEnd_evolves {s0 s : State} (h : Evolves s0 s) : OutEvolves s0 (execFenceMarginEnd s) := by
  unfold execFenceMarginEnd
  exact onUp_evolves h (fun _ h0 => (.ite (takeoverEnd_evolves h0) h0))

theorem execJoinStart_evolves {s0 s : State} {a0} (h : Evolves s0 s) : OutEvolves s0 (execJoinStart a0 s) := by
  unfold execJoinStart
  exact onUp_evolves h (fun _ h0 => (.ite h0 (.ite (startJoin_evolves h0) (.ite h0 (raise_evolves (State.onTwn_evolves h0))))))

theorem execJoinAbandon_evolves {s0 s : State} (h : Evolves s0 s) : OutEvolves s0 (execJoinAbandon s) := by
  unfold execJoinAbandon
  exact (onUp_evolves h (fun _ h0 => (by
      extract_lets -merge -underBinder x1
      have h1 : Evolves s0 x1 := (State.onTwn_evolves h0)
      clear_value x1
      exact (.ite (.ite (setPair_evolves h1) h1) h0))))

theorem execJoinSettle_evolves {s0 s : State} {a0 a1 a2} (h : Evolves s0 s) : OutEvolves s0 (execJoinSettle a0 a1 a2 s) := by
  unfold execJoinSettle
  exact (onUp_evolves h (fun _ h0 => (by
      split
      · exact h0
      · exact (.ite h0 (by
            split
            · exact contest_evolves h0
            · exact settleCatching_evolves h0
            · exact settleCatching_evolves h0
            · exact settleAuthority_evolves h0
            · exact settleAuthority_evolves h0
            · exact (reconcile_evolves h0))))))

theorem execResyncStream_evolves {s0 s : State} (h : Evolves s0 s) : OutEvolves s0 (execResyncStream s) := by
  unfold execResyncStream
  exact (onUp_evolves h (fun _ h0 => (.ite h0 (by
        split
        · exact h0
        · extract_lets -merge -underBinder x3 x4
          clear_value x3
          have h4 : Evolves s0 x4 := (sendGranule_evolves (State.onTwn_evolves h0))
          clear_value x4
          exact (.ite h0 (State.inc_evolves h4))))))

theorem execResyncEnd_evolves {s0 s : State} (h : Evolves s0 s) : OutEvolves s0 (execResyncEnd s) := by
  unfold execResyncEnd
  exact (onUp_evolves h (fun _ h0 => (by
      extract_lets -merge -underBinder x1
      clear_value x1
      exact (.ite h0 (.ite (arrive_evolves h0) (.ite (enterServing_evolves h0) h0))))))

theorem execPairStatus_evolves {s0 s : State} {a0} (h : Evolves s0 s) : OutEvolves s0 (execPairStatus a0 s) := by
  unfold execPairStatus
  exact onCmd_evolves h (fun _ h0 => (completeFree_evolves h0))

theorem execPairJoinAccept_evolves {s0 s : State} {a0} (h : Evolves s0 s) : OutEvolves s0 (execPairJoinAccept a0 s) := by
  unfold execPairJoinAccept
  exact (onCmd_evolves h (fun _ h0 => (by
      extract_lets -merge -underBinder x1
      have h1 : Evolves s0 x1 := (complete_evolves (State.onTwn_evolves h0))
      clear_value x1
      exact (.ite (refuse_evolves h0) (.ite (startJoin_evolves h1) h1)))))

theorem execPairSplit_evolves {s0 s : State} {a0} (h : Evolves s0 s) : OutEvolves s0 (execPairSplit a0 s) := by
  unfold execPairSplit
  exact (onCmd_evolves h (fun _ h0 => (by
      extract_lets -merge -underBinder x1
      clear_value x1
      exact (.ite (refuse_evolves h0) (.ite (refuse_evolves h0) (.ite (refuseBusy_evolves h0) (.ite (splitSync_evolves (beginDepart_evolves h0)) (sendSplit_evolves (State.onTwn_evolves h0)))))))))

theorem resolveTo_evolves {s0 s : State} {a0} (h : Evolves s0 s) : Evolves s0 (resolveTo a0 s) := by
  unfold resolveTo
  exact .ite h (.ite (settleAuthority_evolves h) (settleCatching_evolves h))

theorem execPairResolve_evolves {s0 s : State} {a0} (h : Evolves s0 s) : OutEvolves s0 (execPairResolve a0 s) := by
  unfold execPairResolve
  exact (onCmd_evolves h (fun _ h0 => (by
      extract_lets -merge -underBinder x1
      clear_value x1
      exact (.ite (refuse_evolves h0) (.ite (refuse_evolves h0) (resolveTo_evolves (complete_evolves (linkSend_evolves h0))))))))

theorem execSoloStart_evolves {s0 s : State} {a0} (h : Evolves s0 s) : OutEvolves s0 (execSoloStart a0 s) := by
  unfold execSoloStart
  exact onCmd_evolves h (fun _ h0 => (.ite (refuse_evolves h0) (.ite (refuse_evolves h0) (.ite (refuse_evolves h0) (.ite (refuse_evolves h0) (.ite (complete_evolves (arrive_evolves h0)) (declareLost_evolves (State.onTwn_evolves h0))))))))

theorem execLinkUnfence_evolves {s0 s : State} {a0} (h : Evolves s0 s) : OutEvolves s0 (execLinkUnfence a0 s) := by
  unfold execLinkUnfence
  exact (onCmd_evolves h (fun _ h0 => (by
      extract_lets -merge -underBinder x1
      clear_value x1
      exact (.ite (complete_evolves (unfenceLink_evolves h0)) (.ite (complete_evolves (portSync_evolves (unfenceLink_evolves h0))) (refuse_evolves h0))))))

/-! ### Rilram -/

theorem ackAgain_evolves {s0 s : State} {a0} (h : Evolves s0 s) : Evolves s0 (ackAgain a0 s) := by
  unfold ackAgain
  exact State.onTwn_evolves h

theorem replaceRec_evolves {s0 s : State} {a0 a1} (h : Evolves s0 s) : Evolves s0 (replaceRec a0 a1 s) := by
  unfold replaceRec
  extract_lets -merge -underBinder x0 x1 x2 x3 x4 x5 x6
  have h0 : Evolves s0 x0 := (State.inc_evolves (State.onCis_evolves h))
  clear_value x0
  have h1 : Evolves s0 x1 := (modGran_evolves h0)
  clear_value x1 x2 x3
  have h4 : Evolves s0 x4 := (place_evolves h1)
  clear_value x4 x5 x6
  exact (.ite (by
      split
      · exact mergeAnswer_evolves h4
      · exact (mergeAnswer_evolves h4)) h4)

theorem recvRecord_evolves {s0 s : State} {a0 a2} (h : Evolves s0 s) : Evolves s0 (recvRecord a0 s a2) := by
  unfold recvRecord
  extract_lets -merge -underBinder x0 x1 x2
  clear_value x0 x1
  have h2 : Evolves s0 x2 := (State.onTwn_evolves h)
  clear_value x2
  exact (.ite h (.ite h (.ite (violate_evolves h) (.ite (violate_evolves h) (.ite (append_evolves h2) (by
              split
              · extract_lets -merge -underBinder x4
                exact .ite (replaceRec_evolves h2) (.ite (ackAgain_evolves h2) h2)
              · extract_lets -merge -underBinder x6
                have h6 : Evolves s0 x6 := (.ite (State.onCis_evolves h2) h2)
                clear_value x6
                exact (.ite (ackAgain_evolves h2) (.ite h2 (append_evolves h6)))))))))

theorem recvForward_evolves {s0 s : State} {a0 a1 a2 a3 a4} (h : Evolves s0 s) : Evolves s0 (recvForward a0 a1 a2 a3 a4 s) := by
  unfold recvForward
  extract_lets -merge -underBinder x0 x1 x2 x3
  clear_value x0 x1
  clear_value x2 x3
  exact (.ite h (.ite (linkSend_evolves h) (.ite (State.onCis_evolves h) (by
          split
          · exact request_evolves h
          · exact (sequenceReach_evolves h)))))

theorem recvReturn_evolves {s0 s : State} {a0 a1 a2 a3 a4 a5} (h : Evolves s0 s) : Evolves s0 (recvReturn a0 a1 a2 a3 a4 a5 s) := by
  unfold recvReturn
  split
  · exact h
  · extract_lets -merge -underBinder x2
    have h2 : Evolves s0 x2 := (State.sub_evolves h)
    clear_value x2
    split
    · extract_lets -merge -underBinder x5 x7
      have h5 : Evolves s0 x5 := (.foldl h2 (fun _ _ h6 => (.ite h6 (append_evolves h6))))
      clear_value x5 x7
      exact State.onCis_evolves h5
    · extract_lets -merge -underBinder x9
      have h9 : Evolves s0 x9 := (State.onCis_evolves h2)
      clear_value x9
      exact (.ite (by
          split
          · exact startOp_evolves (State.onCis_evolves h2)
          · extract_lets -merge -underBinder x12 x13
            have h12 : Evolves s0 x12 := (sequenceReach_evolves h2)
            clear_value x12 x13
            exact (State.onCis_evolves h12)) (answer_evolves (finishOp_evolves h9)))

theorem answerAsk_evolves {s0 s : State} {a1} (h : Evolves s0 s) : Evolves s0 (answerAsk s a1) := by
  unfold answerAsk
  extract_lets -merge -underBinder x0 x1 x2
  clear_value x0 x1 x2
  exact linkSend_evolves h

theorem recvState_evolves {s0 s : State} {a0 a1 a2 a3 a4 a5} (h : Evolves s0 s) : Evolves s0 (recvState a0 a1 a2 a3 a4 a5 s) := by
  unfold recvState
  extract_lets -merge -underBinder x0 x1 x3 x5 x7 x8
  have h0 : Evolves s0 x0 := (State.put_evolves (State.put_evolves h))
  clear_value x0
  have h1 : Evolves s0 x1 := (.foldl h0 (fun _ _ h2 => (State.put_evolves h2)))
  clear_value x1
  have h3 : Evolves s0 x3 := (.foldl h1 (fun _ _ h4 => (answerAsk_evolves h4)))
  clear_value x3
  have h5 : Evolves s0 x5 := (.foldl h3 (fun _ _ h6 => (ladderAnswer_evolves h6)))
  clear_value x5
  have h7 : Evolves s0 x7 := (admitAll_evolves (settle_evolves (admitSync_evolves h5)))
  clear_value x7
  have h8 : Evolves s0 x8 := (.ite (twinStatus_evolves h7) h7)
  clear_value x8
  exact .ite (splitSync_evolves (beginDepart_evolves h8)) (.ite (State.onTwn_evolves h8) (.ite (declareLost_evolves h8) h8))

theorem recvHandover_evolves {s0 s : State} {a0 a1 a2} (h : Evolves s0 s) : Evolves s0 (recvHandover a0 a1 a2 s) := by
  unfold recvHandover
  extract_lets -merge -underBinder x0 x1
  have h0 : Evolves s0 x0 := (State.onCis_evolves h)
  clear_value x0
  have h1 : Evolves s0 x1 := (State.put_evolves (State.put_evolves h0))
  clear_value x1
  exact .ite h (.ite (.ite (beginHandover_evolves h) h) (.ite (.ite h (endHandover_evolves (linkSend_evolves h1))) (.ite (splitSync_evolves (endHandover_evolves h)) h)))

theorem recvReachCtl_evolves {s0 s : State} {a0 a1 a2 a3} (h : Evolves s0 s) : Evolves s0 (recvReachCtl a0 a1 a2 a3 s) := by
  unfold recvReachCtl
  extract_lets -merge -underBinder x0 x1 x2
  clear_value x0
  have h1 : Evolves s0 x1 := (State.onTwn_evolves h)
  clear_value x1
  have h2 : Evolves s0 x2 := (.ite (State.put_evolves h1) h1)
  clear_value x2
  exact .ite (reachOpsSync_evolves (State.onTwn_evolves h)) (.ite (.ite (.ite (provisionReach_evolves h) h) (.ite (releaseReach_evolves h) h)) (append_evolves h2))

theorem recvHistory_evolves {s0 s : State} {a0} (h : Evolves s0 s) : Evolves s0 (recvHistory a0 s) := by
  unfold recvHistory
  extract_lets -merge -underBinder x0 x1
  clear_value x0
  have h1 : Evolves s0 x1 := (State.onTwn_evolves h)
  clear_value x1
  exact .ite (followHistory_evolves h1) (.ite (sendHistory_evolves h1) h1)

theorem recvMap_evolves {s0 s : State} {a0 a1} (h : Evolves s0 s) : Evolves s0 (recvMap a0 a1 s) := by
  unfold recvMap
  extract_lets -merge -underBinder x0
  have h0 : Evolves s0 x0 := (.foldl h (fun _ _ h1 => (.ite h1 (State.onTwn_evolves h1))))
  clear_value x0
  exact cubSync_evolves (.foldl h0 (fun _ _ h2 => (markGran_evolves h2)))

theorem recvVoids_evolves {s0 s : State} {a0 a1} (h : Evolves s0 s) : Evolves s0 (recvVoids a0 a1 s) := by
  unfold recvVoids
  extract_lets -merge -underBinder x0
  have h0 : Evolves s0 x0 := (.foldl h (fun _ _ h1 => (discardRecs_evolves h1)))
  clear_value x0
  exact (.foldl h0 (fun _ _ h2 => (by
      extract_lets -merge -underBinder x3
      clear_value x3
      exact (markReach_evolves (discardRecs_evolves h2)))))

theorem mergeGranule_evolves {s0 s : State} {a0 a1 a2 a3} (h : Evolves s0 s) : Evolves s0 (mergeGranule a0 a1 a2 a3 s) := by
  unfold mergeGranule
  extract_lets -merge -underBinder x0 x1 x4 x5 x6
  clear_value x0
  have h1 : Evolves s0 x1 := (.ite h (by
        split
        · rename_i y2 hq
          have g2 : Evolves s0 y2 := .of_some hq (allocFloor_evolves h)
          exact g2
        · exact (frameWait_evolves h)))
  clear_value x1
  have h4 : Evolves s0 x4 := (mergeAnswer_evolves h1)
  clear_value x4
  have h5 : Evolves s0 x5 := (modGran_evolves h4)
  clear_value x5
  have h6 : Evolves s0 x6 := (State.onTwn_evolves h5)
  clear_value x6
  exact reconcileSync_evolves (queuePack_evolves h6)

theorem recvGranule_evolves {s0 s : State} {a0 a1 a2 a3 a4} (h : Evolves s0 s) : Evolves s0 (recvGranule a0 a1 a2 a3 a4 s) := by
  unfold recvGranule
  extract_lets -merge -underBinder x0
  clear_value x0
  split
  · extract_lets -merge -underBinder x5
    clear_value x5
    exact mergeGranule_evolves h
  · exact State.onTwn_evolves h

theorem recvGranuleAck_evolves {s0 s : State} {a0} (h : Evolves s0 s) : Evolves s0 (recvGranuleAck a0 s) := by
  unfold recvGranuleAck
  exact .ite h (.foldl h (fun _ _ h0 => (clearGran_evolves (State.onTwn_evolves h0))))

theorem ackFrom_evolves {s0 s : State} {a0 a1} (h : Evolves s0 s) : Evolves s0 (ackFrom a0 a1 s) := by
  unfold ackFrom
  exact .ite (violate_evolves h) (ackEntry_evolves h)

theorem resendFrom_evolves {s0 s : State} {a0 a1} (h : Evolves s0 s) : Evolves s0 (resendFrom a0 a1 s) := by
  unfold resendFrom
  exact .foldl h (fun _ _ h0 => (State.inc_evolves (State.send_evolves h0)))

theorem deliverBody_evolves {s0 s : State} {a0 a1} (h : Evolves s0 s) : Evolves s0 (deliverBody a0 a1 s) := by
  unfold deliverBody
  split
  · exact h
  · exact h
  · exact resendFrom_evolves h
  · extract_lets -merge -underBinder x6
    clear_value x6
    exact State.put_evolves (onPort_evolves h)
  · exact (.ite h (by
        split
        · exact reconcileSync_evolves (settle_evolves (.foldl h (fun _ _ h9 => (recvRecord_evolves h9))))
        · exact settle_evolves (recvForward_evolves h)
        · exact admitAll_evolves (settle_evolves (recvReturn_evolves h))
        · exact splitSync_evolves (handoverSync_evolves (settle_evolves (.foldl h (fun _ _ h22 => (ackFrom_evolves h22)))))
        · exact recvState_evolves h
        · exact admitAll_evolves (settle_evolves (recvHandover_evolves h))
        · exact recvReachCtl_evolves h
        · exact .ite (recvHistory_evolves h) (violate_evolves h)
        · exact resolveTo_evolves h
        · exact .ite (recvMap_evolves h) (violate_evolves h)
        · exact .ite (recvVoids_evolves h) (violate_evolves h)
        · exact .ite (recvGranule_evolves h) (violate_evolves h)
        · exact recvGranuleAck_evolves h
        · exact h))

theorem deliverKept_evolves {s0 : State} {p : Nat} : ∀ {n : Nat} {s : State}, Evolves s0 s → Evolves s0 (deliverKept p n s)
  | 0, _, h => h
  | n + 1, s, h => by
    unfold deliverKept
    split
    · exact h
    · exact deliverKept_evolves (deliverBody_evolves (onPort_evolves h))

theorem askResend_evolves {s0 s : State} {a0} (h : Evolves s0 s) : Evolves s0 (askResend a0 s) := by
  unfold askResend
  exact State.inc_evolves (sendOn_evolves h)

theorem frameTaken_evolves {s0 s : State} {a0 a1 a2} (h : Evolves s0 s) : Evolves s0 (frameTaken a0 a1 a2 s) := by
  unfold frameTaken
  extract_lets -merge -underBinder x0 x1 x2 x3
  clear_value x0 x1 x2
  have h3 : Evolves s0 x3 := (State.onTwn_evolves (State.inc_evolves h))
  clear_value x3
  exact onPort_evolves h3

theorem frameRefused_evolves {s0 s : State} {a0 a1} (h : Evolves s0 s) : Evolves s0 (frameRefused a0 a1 s) := by
  unfold frameRefused
  extract_lets -merge -underBinder x0
  have h0 : Evolves s0 x0 := (.ite (State.inc_evolves h) h)
  clear_value x0
  exact violate_evolves (.ite (askResend_evolves h0) h0)

theorem receive_evolves {s0 s : State} {a0 a1 a2} (h : Evolves s0 s) : Evolves s0 (receive a0 a1 a2 s) := by
  unfold receive
  extract_lets -merge -underBinder x0 x1
  clear_value x0 x1
  exact (.ite h (.ite h (by
        split
        · exact frameRefused_evolves h
        · exact (deliverKept_evolves (frameTaken_evolves h)))))

theorem onFrame_evolves {s0 s : State} {a0 a1} (h : Evolves s0 s) : OutEvolves s0 (onFrame a0 a1 s) := by
  unfold onFrame
  exact onUp_evolves h (fun _ h0 => (receive_evolves h0))

theorem execKeepaliveFrame_evolves {s0 s : State} {a0} (h : Evolves s0 s) : OutEvolves s0 (execKeepaliveFrame a0 s) := by
  unfold execKeepaliveFrame
  exact onFrame_evolves h

theorem execRecordsFrame_evolves {s0 s : State} {a0 a1} (h : Evolves s0 s) : OutEvolves s0 (execRecordsFrame a0 a1 s) := by
  unfold execRecordsFrame
  exact onFrame_evolves h

theorem execForwardFrame_evolves {s0 s : State} {a0 a1 a2 a3 a4 a5} (h : Evolves s0 s) : OutEvolves s0 (execForwardFrame a0 a1 a2 a3 a4 a5 s) := by
  unfold execForwardFrame
  exact onFrame_evolves h

theorem execReturnFrame_evolves {s0 s : State} {a0 a1 a2 a3 a4 a5 a6} (h : Evolves s0 s) : OutEvolves s0 (execReturnFrame a0 a1 a2 a3 a4 a5 a6 s) := by
  unfold execReturnFrame
  exact onFrame_evolves h

theorem execAckFrame_evolves {s0 s : State} {a0 a1} (h : Evolves s0 s) : OutEvolves s0 (execAckFrame a0 a1 s) := by
  unfold execAckFrame
  exact onFrame_evolves h

theorem execResendFrame_evolves {s0 s : State} {a0 a1} (h : Evolves s0 s) : OutEvolves s0 (execResendFrame a0 a1 s) := by
  unfold execResendFrame
  exact onFrame_evolves h

theorem execStateFrame_evolves {s0 s : State} {a0 a1 a2 a3 a4 a5 a6 a7} (h : Evolves s0 s) : OutEvolves s0 (execStateFrame a0 a1 a2 a3 a4 a5 a6 a7 s) := by
  unfold execStateFrame
  exact onFrame_evolves h

theorem execHandoverFrame_evolves {s0 s : State} {a0 a1 a2 a3} (h : Evolves s0 s) : OutEvolves s0 (execHandoverFrame a0 a1 a2 a3 s) := by
  unfold execHandoverFrame
  exact onFrame_evolves h

theorem execReachCtlFrame_evolves {s0 s : State} {a0 a1 a2 a3 a4} (h : Evolves s0 s) : OutEvolves s0 (execReachCtlFrame a0 a1 a2 a3 a4 s) := by
  unfold execReachCtlFrame
  exact onFrame_evolves h

theorem execCatchupMapFrame_evolves {s0 s : State} {a0 a1} (h : Evolves s0 s) : OutEvolves s0 (execCatchupMapFrame a0 a1 s) := by
  unfold execCatchupMapFrame
  split
  · exact onFrame_evolves h
  · exact onFrame_evolves h
  · exact onFrame_evolves h
  · exact onFrame_evolves h
  · exact onUp_evolves h (fun _ h7 => (violate_evolves h7))

theorem execGranuleFrame_evolves {s0 s : State} {a0 a1 a2 a3 a4 a5} (h : Evolves s0 s) : OutEvolves s0 (execGranuleFrame a0 a1 a2 a3 a4 a5 s) := by
  unfold execGranuleFrame
  exact onFrame_evolves h

theorem execGranuleAckFrame_evolves {s0 s : State} {a0 a1} (h : Evolves s0 s) : OutEvolves s0 (execGranuleAckFrame a0 a1 s) := by
  unfold execGranuleAckFrame
  exact onFrame_evolves h

theorem execRekeyFrame_evolves {s0 s : State} {a0 a1} (h : Evolves s0 s) : OutEvolves s0 (execRekeyFrame a0 a1 s) := by
  unfold execRekeyFrame
  exact onFrame_evolves h

theorem execParityFrame_evolves {s0 s : State} {a0 a1} (h : Evolves s0 s) : OutEvolves s0 (execParityFrame a0 a1 s) := by
  unfold execParityFrame
  exact (onUp_evolves h (fun _ h0 => (by
      extract_lets -merge -underBinder x1 x2
      clear_value x1
      have h2 : Evolves s0 x2 := (receive_evolves h0)
      clear_value x2
      exact (.ite h0 (by
          split
          · exact .ite (receive_evolves (State.inc_evolves h2)) (askResend_evolves h2)
          · exact (.ite h2 (askResend_evolves h2)))))))

theorem portKeyed_evolves {s0 s : State} {a0 a1} (h : Evolves s0 s) : Evolves s0 (portKeyed a0 a1 s) := by
  unfold portKeyed
  extract_lets -merge -underBinder x0 x1 x2 x3
  have h0 : Evolves s0 x0.2 := (State.free_evolves h)
  clear_value x0
  have h1 : Evolves s0 x1 := (State.put_evolves (State.put_evolves (State.put_evolves h0)))
  clear_value x1
  have h2 : Evolves s0 x2 := (State.put_evolves (State.put_evolves h1))
  clear_value x2
  have h3 : Evolves s0 x3 := (onPort_evolves h2)
  clear_value x3
  exact raise_evolves (portSync_evolves (jrnlLink_evolves (State.add_evolves h3)))

theorem sendSetup_evolves {s0 s : State} {a0} (h : Evolves s0 s) : Evolves s0 (sendSetup a0 s) := by
  unfold sendSetup
  exact State.inc_evolves (State.send_evolves h)

theorem execSetupFrame_evolves {s0 s : State} {a0 a1 a2 a3} (h : Evolves s0 s) : OutEvolves s0 (execSetupFrame a0 a1 a2 a3 s) := by
  unfold execSetupFrame
  exact (onUp_evolves h (fun _ h0 => (by
      extract_lets -merge -underBinder x1 x2
      clear_value x1
      have h2 : Evolves s0 x2 := (receive_evolves h0)
      clear_value x2
      exact (.ite h0 (.ite (portGone_evolves h2) (.ite (portKeyed_evolves h2) (sendSetup_evolves h2)))))))

theorem execTwinSend_evolves {s0 s : State} {a0} (h : Evolves s0 s) : OutEvolves s0 (execTwinSend a0 s) := by
  unfold execTwinSend
  exact (onUp_evolves h (fun _ h0 => (by
      extract_lets -merge -underBinder x1 x2
      clear_value x1 x2
      exact (State.send_evolves (.ite h0 (.ite (linkSend_evolves h0) (.ite (linkSend_evolves h0) h0)))))))

theorem execKeepaliveSend_evolves {s0 s : State} {a0} (h : Evolves s0 s) : OutEvolves s0 (execKeepaliveSend a0 s) := by
  unfold execKeepaliveSend
  exact onUp_evolves h (fun _ h0 => (.ite (sendOn_evolves h0) h0))

theorem execParityFrameSend_evolves {s0 s : State} {a0} (h : Evolves s0 s) : OutEvolves s0 (execParityFrameSend a0 s) := by
  unfold execParityFrameSend
  exact onUp_evolves h (fun _ h0 => (.ite (sendParity_evolves h0) h0))

theorem execAckFrameSend_evolves {s0 s : State} (h : Evolves s0 s) : OutEvolves s0 (execAckFrameSend s) := by
  unfold execAckFrameSend
  exact (onUp_evolves h (fun _ h0 => (by
      extract_lets -merge -underBinder x1
      clear_value x1
      exact (.ite h0 (linkSend_evolves (State.onTwn_evolves h0))))))

theorem execRekeyDue_evolves {s0 s : State} {a0} (h : Evolves s0 s) : OutEvolves s0 (execRekeyDue a0 s) := by
  unfold execRekeyDue
  exact (onUp_evolves h (fun _ h0 => (by
      extract_lets -merge -underBinder x1 x2 x3 x4
      clear_value x1 x2 x3
      have h4 : Evolves s0 x4 := (State.put_evolves (State.put_evolves (sendOn_evolves h0)))
      clear_value x4
      exact (.ite h0 (jrnlLink_evolves (jrnlLink_evolves (State.add_evolves (onPort_evolves h4))))))))

theorem execRekeyRetry_evolves {s0 s : State} {a0} (h : Evolves s0 s) : OutEvolves s0 (execRekeyRetry a0 s) := by
  unfold execRekeyRetry
  exact (onUp_evolves h (fun _ h0 => (by
      extract_lets -merge -underBinder x1
      clear_value x1
      split
      · exact .ite (sendOn_evolves (onPort_evolves h0)) h0
      · exact h0)))

theorem execOldKeyDrop_evolves {s0 s : State} {a0} (h : Evolves s0 s) : OutEvolves s0 (execOldKeyDrop a0 s) := by
  unfold execOldKeyDrop
  exact (onUp_evolves h (fun _ h0 => (by
      split
      · exact .ite (onPort_evolves h0) h0
      · exact h0)))

theorem execKeyUseLimit_evolves {s0 s : State} {a0} (h : Evolves s0 s) : OutEvolves s0 (execKeyUseLimit a0 s) := by
  unfold execKeyUseLimit
  exact (onUp_evolves h (fun _ h0 => (by
      extract_lets -merge -underBinder x1
      clear_value x1
      exact (.ite (fenceLink_evolves (raise_evolves h0)) h0))))

theorem execRilramPortDown_evolves {s0 s : State} {a0} (h : Evolves s0 s) : OutEvolves s0 (execRilramPortDown a0 s) := by
  unfold execRilramPortDown
  exact (onUp_evolves h (fun _ h0 => (by
      extract_lets -merge -underBinder x1
      clear_value x1
      exact (.ite h0 (portGone_evolves h0)))))

theorem execRilramPortUp_evolves {s0 s : State} {a0 a1 a2} (h : Evolves s0 s) : OutEvolves s0 (execRilramPortUp a0 a1 a2 s) := by
  unfold execRilramPortUp
  exact (onUp_evolves h (fun _ h0 => (by
      extract_lets -merge -underBinder x1
      clear_value x1
      exact (.ite h0 (.ite (raise_evolves (portSync_evolves (State.put_evolves (State.put_evolves (State.put_evolves (State.put_evolves h0)))))) (.ite (raise_evolves h0) (sendSetup_evolves (onPort_evolves (State.put_evolves (State.put_evolves h0))))))))))

theorem execRilramViolationLimit_evolves {s0 s : State} {a0} (h : Evolves s0 s) : OutEvolves s0 (execRilramViolationLimit a0 s) := by
  unfold execRilramViolationLimit
  exact (onUp_evolves h (fun _ h0 => (by
      extract_lets -merge -underBinder x1
      clear_value x1
      exact (.ite (fenceLink_evolves (raise_evolves h0)) h0))))

/-! ### Cipher -/

theorem jrnlPut_evolves {s0 s : State} {a0 a1} (h : Evolves s0 s) : Evolves s0 (jrnlPut a0 a1 s) := by
  unfold jrnlPut
  exact jrnlSync_evolves (State.onStore_evolves (jrnlWord_evolves h))

theorem modSlot_evolves {s0 s : State} {a0 a1} (h : Evolves s0 s) : Evolves s0 (modSlot a0 a1 s) := by
  unfold modSlot
  exact State.onCph_evolves h

theorem clearSync_evolves {s0 s : State} {a0} (h : Evolves s0 s) : Evolves s0 (clearSync a0 s) := by
  unfold clearSync
  split
  · split
    · extract_lets -merge -underBinder x2
      have h2 : Evolves s0 x2 := (State.onCph_evolves h)
      clear_value x2
      exact .ite (.ite (complete_evolves h2) h2) h
    · exact h
  · exact h

theorem loadSlot_evolves {s0 s : State} {a0 a1 a2 a3} (h : Evolves s0 s) : Evolves s0 (loadSlot a0 a1 a2 a3 s) := by
  unfold loadSlot
  exact State.onCph_evolves h

theorem firstRecord_evolves {s0 s : State} {a0 a1 a2} (h : Evolves s0 s) : Evolves s0 (firstRecord a0 a1 a2 s) := by
  unfold firstRecord
  extract_lets -merge -underBinder x0 x1 x2 x3 x4 x5
  clear_value x0
  have h1 : Evolves s0 x1 := (State.onCph_evolves h)
  clear_value x1 x2
  have h3 : Evolves s0 x3 := (.ite (State.onStore_evolves h) h)
  clear_value x3
  have h4 : Evolves s0 x4 := (jrnlPut_evolves h3)
  clear_value x4
  have h5 : Evolves s0 x5 := (modSlot_evolves (State.add_evolves h4))
  clear_value x5
  exact .ite (.ite (refuse_evolves (State.inc_evolves h1)) h1) (.ite (complete_evolves h5) h5)

theorem nextRecord_evolves {s0 s : State} {a0 a1} (h : Evolves s0 s) : Evolves s0 (nextRecord a0 a1 s) := by
  unfold nextRecord
  split
  · exact h
  · exact .ite h (modSlot_evolves (State.inc_evolves (jrnlPut_evolves h)))

theorem execKeyLoad_evolves {s0 s : State} {a0 a1 a2} (h : Evolves s0 s) : OutEvolves s0 (execKeyLoad a0 a1 a2 s) := by
  unfold execKeyLoad
  exact (onCmd_evolves h (fun _ h0 => (by
      extract_lets -merge -underBinder x1 x2 x3 x4
      clear_value x1 x2
      clear_value x3 x4
      exact (.ite (refuse_evolves h0) (.ite (refuse_evolves h0) (.ite (refuse_evolves h0) (.ite (refuse_evolves h0) (.ite (refuse_evolves h0) (by
                  split
                  · exact .ite (refuse_evolves (State.inc_evolves h0)) (loadSlot_evolves h0)
                  · exact (.ite (refuse_evolves h0) (loadSlot_evolves h0)))))))))))

theorem execCounterBlockRecorded_evolves {s0 s : State} {a0} (h : Evolves s0 s) : OutEvolves s0 (execCounterBlockRecorded a0 s) := by
  unfold execCounterBlockRecorded
  exact (onUp_evolves h (fun _ h0 => (by
      extract_lets -merge -underBinder x1 x2 x3
      clear_value x1 x2
      have h3 : Evolves s0 x3 := (onPort_evolves (jrnlLink_evolves h0))
      clear_value x3
      exact (.ite (.ite (portSync_evolves (State.inc_evolves (State.put_evolves h3))) h0) (by
          split
          · exact h0
          · split
            · exact firstRecord_evolves h0
            · exact (nextRecord_evolves h0))))))

theorem execKeyClear_evolves {s0 s : State} {a0} (h : Evolves s0 s) : OutEvolves s0 (execKeyClear a0 s) := by
  unfold execKeyClear
  exact (onCmd_evolves h (fun _ h0 => (by
      extract_lets -merge -underBinder x1
      clear_value x1
      exact (.ite (refuse_evolves h0) (by
          split
          · exact complete_evolves h0
          · exact (.ite (refuseBusy_evolves h0) (clearSync_evolves (modSlot_evolves h0))))))))

theorem execKeyForget_evolves {s0 s : State} {a0} (h : Evolves s0 s) : OutEvolves s0 (execKeyForget a0 s) := by
  unfold execKeyForget
  exact (onCmd_evolves h (fun _ h0 => (by
      extract_lets -merge -underBinder x1
      clear_value x1
      split
      · exact refuse_evolves h0
      · exact (complete_evolves (raise_evolves (jrnlPut_evolves h0))))))

theorem execSlotStatus_evolves {s0 s : State} {a0} (h : Evolves s0 s) : OutEvolves s0 (execSlotStatus a0 s) := by
  unfold execSlotStatus
  exact onCmd_evolves h (fun _ h0 => (completeFree_evolves h0))

theorem cipherRefused_evolves {s0 s : State} {a0 a1} (h : Evolves s0 s) : Evolves s0 (cipherRefused a0 a1 s) := by
  unfold cipherRefused
  extract_lets -merge -underBinder x0
  clear_value x0
  exact (.ite (raise_evolves (State.inc_evolves h)) (.ite (State.inc_evolves (by
        split
        · split
          · exact .ite h (raise_evolves (jrnlPut_evolves h))
          · exact h
        · exact h)) h))

theorem cipherIv_evolves {s0 s : State} {a0 a1 a2} (h : Evolves s0 s) : Evolves s0 (cipherIv a0 a1 a2 s).2 := by
  unfold cipherIv
  extract_lets -merge -underBinder x0 x1
  have h1 : Evolves s0 x1.2 := (State.free_evolves h)
  clear_value x1
  split
  · exact .snd_mk h
  · split
    · exact .snd_mk h
    · exact .snd_mk (State.inc_evolves h1)

theorem holdSync_evolves {s0 s : State} (h : Evolves s0 s) : Evolves s0 (holdSync s) := by
  unfold holdSync
  exact State.put_evolves h

theorem queueJob_evolves {s0 s : State} {a0 a1 a2 a3} (h : Evolves s0 s) : Evolves s0 (queueJob a0 a1 a2 a3 s).2 := by
  unfold queueJob
  extract_lets -merge -underBinder x0 x1 x2 x3 x4 x5 x6 x7 x8 x9
  clear_value x0 x1
  clear_value x2 x3
  have h4 : Evolves s0 x4.2 := (by
      unfold x4
      split
      · exact .snd_mk h
      · exact (cipherIv_evolves h))
  clear_value x4
  have h5 : Evolves s0 x5 := (.ite (modSlot_evolves h4) h4)
  clear_value x5 x6
  clear_value x7 x8
  have h9 : Evolves s0 x9 := (.ite h5 (State.inc_evolves h5))
  clear_value x9
  exact .snd_mk (holdSync_evolves (State.onCph_evolves h9))

theorem execCipherSubmission_evolves {s0 s : State} {a0 a1} (h : Evolves s0 s) : OutEvolves s0 (execCipherSubmission a0 a1 s) := by
  unfold execCipherSubmission
  exact (onUp_evolves h (fun _ h0 => (by
      extract_lets -merge -underBinder x1
      clear_value x1
      split
      · exact State.send_evolves (cipherRefused_evolves h0)
      · extract_lets -merge -underBinder x4
        have h4 : Evolves s0 x4.2 := (queueJob_evolves h0)
        clear_value x4
        exact (State.send_evolves h4))))

theorem execCipherSubmit_evolves {s0 s : State} {a0} (h : Evolves s0 s) : OutEvolves s0 (execCipherSubmit a0 s) := by
  unfold execCipherSubmit
  exact (onCmd_evolves h (fun _ h0 => (by
      extract_lets -merge -underBinder x1 x2 x3
      clear_value x1 x2 x3
      split
      · exact completeW_evolves (cipherRefused_evolves h0)
      · exact (queueJob_evolves h0))))

theorem startHeld_evolves {s0 s : State} (h : Evolves s0 s) : Evolves s0 (startHeld s) := by
  unfold startHeld
  exact holdSync_evolves (.foldl h (fun _ _ h0 => (.ite (State.onCph_evolves h0) h0)))

theorem coreSync_evolves {s0 s : State} (h : Evolves s0 s) : Evolves s0 (coreSync s) := by
  unfold coreSync
  extract_lets -merge -underBinder x0 x1
  clear_value x0
  have h1 : Evolves s0 x1 := (setBlock_evolves (State.put_evolves h))
  clear_value x1
  exact .ite (failStop_evolves (raise_evolves h1)) h1

theorem mapCoreOut_evolves {s0 s : State} {a0 a1} (h : Evolves s0 s) : Evolves s0 (mapCoreOut a0 a1 s) := by
  unfold mapCoreOut
  extract_lets -merge -underBinder x0 x1
  have h0 : Evolves s0 x0 := (State.onStore_evolves (State.put_evolves h))
  clear_value x0
  have h1 : Evolves s0 x1 := (State.addSat_evolves (State.put_evolves (State.put_evolves h0)))
  clear_value x1
  exact coreSync_evolves (raise_evolves h1)

theorem finishJob_evolves {s0 s : State} {a0 a1 a2} (h : Evolves s0 s) : Evolves s0 (finishJob a0 a1 a2 s) := by
  unfold finishJob
  extract_lets -merge -underBinder x0 x1 x2 x3 x6 x7 x8
  clear_value x0 x1
  have h2 : Evolves s0 x2 := (State.onCph_evolves h)
  clear_value x2
  have h3 : Evolves s0 x3 := (.ite (raiseRl_evolves (State.inc_evolves h2)) (.ite h2 (by
          split
          · exact State.onYrd_evolves h2
          · exact h2)))
  clear_value x3
  have h6 : Evolves s0 x6 := (State.add_evolves (State.inc_evolves h3))
  clear_value x6
  have h7 : Evolves s0 x7 := (State.add_evolves h6)
  clear_value x7
  have h8 : Evolves s0 x8 := (by
      unfold x8
      split
      · exact .ite h7 (.ite (refuse_evolves h7) (complete_evolves h7))
      · extract_lets -merge -underBinder x11
        clear_value x11
        exact (State.send_evolves h7))
  clear_value x8
  exact clearSync_evolves (startHeld_evolves h8)

theorem execCipherJobDone_evolves {s0 s : State} {a0 a1 a2} (h : Evolves s0 s) : OutEvolves s0 (execCipherJobDone a0 a1 a2 s) := by
  unfold execCipherJobDone
  exact (onUp_evolves h (fun _ h0 => (by
      split
      · exact h0
      · exact (.ite h0 (by
            split
            · exact mapCoreOut_evolves (State.inc_evolves h0)
            · exact (finishJob_evolves h0))))))

theorem execKatDue_evolves {s0 s : State} {a0 a1} (h : Evolves s0 s) : OutEvolves s0 (execKatDue a0 a1 s) := by
  unfold execKatDue
  exact (onUp_evolves h (fun _ h0 => (by
      extract_lets -merge -underBinder x1 x2 x3 x4
      clear_value x1 x2
      have h3 : Evolves s0 x3 := (State.inc_evolves h0)
      clear_value x3
      have h4 : Evolves s0 x4 := (State.inc_evolves h0)
      clear_value x4
      exact (.ite (.ite (coreSync_evolves (State.onStore_evolves (State.put_evolves h3))) (mapCoreOut_evolves h3)) (.ite h0 (.ite h4 (mapCoreOut_evolves h4)))))))

theorem execEntropyHealthFail_evolves {s0 s : State} (h : Evolves s0 s) : OutEvolves s0 (execEntropyHealthFail s) := by
  unfold execEntropyHealthFail
  exact onUp_evolves h (fun _ h0 => (raise_evolves (State.put_evolves h0)))

theorem execEntropyHealthPass_evolves {s0 s : State} (h : Evolves s0 s) : OutEvolves s0 (execEntropyHealthPass s) := by
  unfold execEntropyHealthPass
  exact onUp_evolves h (fun _ h0 => (State.put_evolves h0))

/-! ### Cxl -/

theorem arriveMsg_evolves {s0 s : State} {a0} (h : Evolves s0 s) : Evolves s0 (arriveMsg a0 s) := by
  unfold arriveMsg
  extract_lets -merge -underBinder x0 x1 x2
  clear_value x0 x1
  have h2 : Evolves s0 x2 := (hostViolation_evolves h)
  clear_value x2
  exact .ite h (.ite (.ite (respond_evolves h2) h2) (.ite (hostViolation_evolves h) (.ite (respond_evolves (hostViolation_evolves h)) (settle_evolves (queueLens_evolves (State.onHpt_evolves h))))))

theorem execMemRd_evolves {s0 s : State} {a0 a1 a2 a3} (h : Evolves s0 s) : OutEvolves s0 (execMemRd a0 a1 a2 a3 s) := by
  unfold execMemRd
  exact arriveMsg_evolves h

theorem execMemWr_evolves {s0 s : State} {a0 a1 a2 a3 a4 a5} (h : Evolves s0 s) : OutEvolves s0 (execMemWr a0 a1 a2 a3 a4 a5 s) := by
  unfold execMemWr
  exact arriveMsg_evolves h

theorem execMemWrPtl_evolves {s0 s : State} {a0 a1 a2 a3 a4 a5 a6} (h : Evolves s0 s) : OutEvolves s0 (execMemWrPtl a0 a1 a2 a3 a4 a5 a6 s) := by
  unfold execMemWrPtl
  exact arriveMsg_evolves h

theorem specDrop_evolves {s0 s : State} {a0} (h : Evolves s0 s) : Evolves s0 (specDrop a0 s) := by
  unfold specDrop
  exact State.inc_evolves h

theorem specRefused_evolves {s0 s : State} {a0 a1 a2} (h : Evolves s0 s) : Evolves s0 (specRefused a0 a1 a2 s) := by
  unfold specRefused
  extract_lets -merge -underBinder x0
  have h0 : Evolves s0 x0 := (raiseRl_evolves (specDrop_evolves (State.inc_evolves h)))
  clear_value x0
  exact .ite h0 (noteLd_evolves h0)

theorem execMemSpecRd_evolves {s0 s : State} {a0 a1 a2} (h : Evolves s0 s) : OutEvolves s0 (execMemSpecRd a0 a1 a2 s) := by
  unfold execMemSpecRd
  exact (.ite h (.ite (hostViolation_evolves h) (by
        split
        · exact specRefused_evolves h
        · exact (.ite (specDrop_evolves h) (by
              split
              · rename_i y3 y4 hq
                have g4 : Evolves s0 y4 := .of_some2 hq (takeTicket_evolves h)
                exact settle_evolves (startRead_evolves g4)
              · exact (specDrop_evolves h))))))

theorem execMemInv_evolves {s0 s : State} {a0 a1 a2} (h : Evolves s0 s) : OutEvolves s0 (execMemInv a0 a1 a2 s) := by
  unfold execMemInv
  exact .ite (.ite (hostViolation_evolves h) (respond_evolves h)) h

theorem execCxlViolation_evolves {s0 s : State} {a0 a1 a2 a3 a4} (h : Evolves s0 s) : OutEvolves s0 (execCxlViolation a0 a1 a2 a3 a4 s) := by
  unfold execCxlViolation
  extract_lets -merge -underBinder x0
  have h0 : Evolves s0 x0 := (hostViolation_evolves h)
  clear_value x0
  exact .ite (.ite (respond_evolves h0) (.ite (respond_evolves h0) h0)) h

theorem execCxlViolationLimit_evolves {s0 s : State} {a0} (h : Evolves s0 s) : OutEvolves s0 (execCxlViolationLimit a0 s) := by
  unfold execCxlViolationLimit
  exact .ite (settle_evolves (linkLost_evolves (notePort_evolves (raise_evolves (unitFault_evolves (State.put_evolves h)))))) h

theorem execHdmDecode_evolves {s0 s : State} {a0 a1 a2} (h : Evolves s0 s) : OutEvolves s0 (execHdmDecode a0 a1 a2 s) := by
  unfold execHdmDecode
  exact (onUp_evolves h (fun _ h0 => (by
      split
      · exact State.send_evolves h0
      · exact (.ite (State.send_evolves h0) (.ite (State.send_evolves h0) (State.send_evolves h0))))))

theorem execGpfPhase1_evolves {s0 s : State} {a0} (h : Evolves s0 s) : OutEvolves s0 (execGpfPhase1 a0 s) := by
  unfold execGpfPhase1
  exact .ite (respond_evolves (State.onHpt_evolves h)) h

theorem forceTicket_evolves {s0 s : State} {a0} (h : Evolves s0 s) : Evolves s0 (forceTicket a0 s).2 := by
  unfold forceTicket
  extract_lets -merge -underBinder x0
  clear_value x0
  exact .snd_mk (ticketSync_evolves (State.onCis_evolves h))

theorem gpfIssue_evolves {s0 s : State} {a0} (h : Evolves s0 s) : Evolves s0 (gpfIssue a0 s) := by
  unfold gpfIssue
  extract_lets -merge -underBinder x0 x1
  clear_value x0
  have h1 : Evolves s0 x1 := (State.onHpt_evolves h)
  clear_value x1
  exact (queueLens_evolves (.foldl h1 (fun _ _ h2 => (by
      split
      · exact refuseMsg_evolves h2
      · extract_lets -merge -underBinder x6
        have h6 : Evolves s0 x6.2 := (forceTicket_evolves h2)
        clear_value x6
        exact (startWrite_evolves h6)))))

theorem gpfTaken_evolves {s0 s : State} {a0} (h : Evolves s0 s) : Evolves s0 (gpfTaken a0 s) := by
  unfold gpfTaken
  extract_lets -merge -underBinder x0 x1
  have h0 : Evolves s0 x0 := (.ite h (hostViolation_evolves h))
  clear_value x0
  have h1 : Evolves s0 x1 := (State.onHpt_evolves h0)
  clear_value x1
  exact .ite (gpfIssue_evolves h1) h1

theorem gpfAwait_evolves {s0 s : State} {a0 a1} (h : Evolves s0 s) : Evolves s0 (gpfAwait a0 a1 s) := by
  unfold gpfAwait
  extract_lets -merge -underBinder x0 x1
  have h0 : Evolves s0 x0 := (State.onCis_evolves h)
  clear_value x0 x1
  exact .foldl (State.onCis_evolves h0) (fun _ _ h2 => (place_evolves h2))

theorem execGpfPhase2_evolves {s0 s : State} {a0} (h : Evolves s0 s) : OutEvolves s0 (execGpfPhase2 a0 s) := by
  unfold execGpfPhase2
  extract_lets -merge -underBinder x0
  have h0 : Evolves s0 x0 := (gpfTaken_evolves h)
  clear_value x0
  exact .ite (settle_evolves (gpfSync_evolves (State.put_evolves (gpfAwait_evolves h0)))) h

theorem linkTrained_evolves {s0 s : State} {a0 a1 a2} (h : Evolves s0 s) : Evolves s0 (linkTrained a0 a1 a2 s) := by
  unfold linkTrained
  extract_lets -merge -underBinder x0
  have h0 : Evolves s0 x0 := (State.put_evolves (State.put_evolves (State.put_evolves h)))
  clear_value x0
  exact notePort_evolves (raise_evolves h0)

theorem execHostLinkUp_evolves {s0 s : State} {a0 a1 a2 a3} (h : Evolves s0 s) : OutEvolves s0 (execHostLinkUp a0 a1 a2 a3 s) := by
  unfold execHostLinkUp
  exact (onUp_evolves h (fun _ h0 => (by
      extract_lets -merge -underBinder x1 x2 x3
      clear_value x1 x2
      have h3 : Evolves s0 x3 := (State.put_evolves h0)
      clear_value x3
      exact (.ite h0 (.ite (notePort_evolves (raise_evolves h3)) (.ite (notePort_evolves (raise_evolves (linkTrained_evolves h3))) (linkTrained_evolves h3)))))))

theorem execHostLinkDown_evolves {s0 s : State} {a0} (h : Evolves s0 s) : OutEvolves s0 (execHostLinkDown a0 s) := by
  unfold execHostLinkDown
  exact .ite (settle_evolves (linkLost_evolves h)) h

theorem execHpnPerstAssert_evolves {s0 s : State} {a0} (h : Evolves s0 s) : OutEvolves s0 (execHpnPerstAssert a0 s) := by
  unfold execHpnPerstAssert
  exact (onLive_evolves h (fun _ h0 => (by
      extract_lets -merge -underBinder x1 x2
      clear_value x1
      have h2 : Evolves s0 x2 := (.ite (State.put_evolves h0) h0)
      clear_value x2
      exact (.ite h0 (.ite h2 (settle_evolves (linkLost_evolves (State.put_evolves h2))))))))

theorem execHpnPerstRelease_evolves {s0 s : State} {a0} (h : Evolves s0 s) : OutEvolves s0 (execHpnPerstRelease a0 s) := by
  unfold execHpnPerstRelease
  exact (onLive_evolves h (fun _ h0 => (by
      extract_lets -merge -underBinder x1 x2
      clear_value x1
      have h2 : Evolves s0 x2 := (.ite h0 (State.put_evolves h0))
      clear_value x2
      exact (.ite h0 (.ite (State.put_evolves h2) h2)))))

theorem setDecoder_evolves {s0 s : State} {a0 a1 a2 a3} (h : Evolves s0 s) : Evolves s0 (setDecoder a0 a1 a2 a3 s) := by
  unfold setDecoder
  extract_lets -merge -underBinder x0 x1
  clear_value x0 x1
  exact State.put_evolves (State.onHpt_evolves h)

theorem refuseDecoder_evolves {s0 s : State} {a0 a1 a2} (h : Evolves s0 s) : Evolves s0 (refuseDecoder a0 a1 a2 s) := by
  unfold refuseDecoder
  extract_lets -merge -underBinder x0 x1 x2
  clear_value x0 x1
  have h2 : Evolves s0 x2 := (State.onHpt_evolves h)
  clear_value x2
  exact noteLd_evolves (raise_evolves (State.put_evolves h2))

theorem execHdmDecoderCommit_evolves {s0 s : State} {a0 a1 a2 a3 a4 a5 a6 a7} (h : Evolves s0 s) : OutEvolves s0 (execHdmDecoderCommit a0 a1 a2 a3 a4 a5 a6 a7 s) := by
  unfold execHdmDecoderCommit
  extract_lets -merge -underBinder x0
  clear_value x0
  exact .ite (.ite (setDecoder_evolves h) (refuseDecoder_evolves h)) h

theorem execCxlWindowOpen_evolves {s0 s : State} {a0} (h : Evolves s0 s) : OutEvolves s0 (execCxlWindowOpen a0 s) := by
  unfold execCxlWindowOpen
  exact (onCmd_evolves h (fun _ h0 => (by
      extract_lets -merge -underBinder x1 x2 x3 x4
      clear_value x1 x2
      clear_value x3 x4
      exact (.ite (refuse_evolves h0) (by
          split
          · exact refuse_evolves h0
          · extract_lets -merge -underBinder x8
            clear_value x8
            exact (.ite (refuse_evolves h0) (.ite (refuse_evolves h0) (.ite (refuse_evolves h0) (.ite (refuse_evolves h0) (complete_evolves (openWindow_evolves h0)))))))))))

theorem execCxlWindowClose_evolves {s0 s : State} {a0} (h : Evolves s0 s) : OutEvolves s0 (execCxlWindowClose a0 s) := by
  unfold execCxlWindowClose
  exact (onCmd_evolves h (fun _ h0 => (by
      extract_lets -merge -underBinder x1
      clear_value x1
      split
      · exact refuse_evolves h0
      · exact (.ite (refuse_evolves h0) (.ite (complete_evolves h0) (startClose_evolves h0))))))

theorem gapAck_evolves {s0 s : State} {a0 a1} (h : Evolves s0 s) : Evolves s0 (gapAck a0 a1 s) := by
  unfold gapAck
  extract_lets -merge -underBinder x0
  clear_value x0
  split
  · exact refuse_evolves h
  · extract_lets -merge -underBinder x3
    have h3 : Evolves s0 x3 := (modWindow_evolves h)
    clear_value x3
    exact .ite (refuse_evolves h) (complete_evolves (.ite (freeWindow_evolves h3) h3))

theorem execCxlGapAck_evolves {s0 s : State} {a0} (h : Evolves s0 s) : OutEvolves s0 (execCxlGapAck a0 s) := by
  unfold execCxlGapAck
  exact onCmd_evolves h (fun _ h0 => (gapAck_evolves h0))

theorem execWindowStatus_evolves {s0 s : State} {a0} (h : Evolves s0 s) : OutEvolves s0 (execWindowStatus a0 s) := by
  unfold execWindowStatus
  exact (onCmd_evolves h (fun _ h0 => (by
      extract_lets -merge -underBinder x1
      clear_value x1
      split
      · exact refuse_evolves h0
      · exact (.ite (refuse_evolves h0) (complete_evolves h0)))))

theorem execWindowList_evolves {s0 s : State} {a0} (h : Evolves s0 s) : OutEvolves s0 (execWindowList a0 s) := by
  unfold execWindowList
  exact onCmd_evolves h (fun _ h0 => (complete_evolves h0))

theorem execStaticCapacitySet_evolves {s0 s : State} {a0} (h : Evolves s0 s) : OutEvolves s0 (execStaticCapacitySet a0 s) := by
  unfold execStaticCapacitySet
  exact (onCmd_evolves h (fun _ h0 => (by
      extract_lets -merge -underBinder x1 x2 x3
      clear_value x1 x2 x3
      exact (.ite (refuse_evolves h0) (.ite (refuse_evolves h0) (complete_evolves (State.put_evolves h0)))))))

theorem setRegion_evolves {s0 s : State} {a0 a1 a2 a3 a4 a5 a6} (h : Evolves s0 s) : Evolves s0 (setRegion a0 a1 a2 a3 a4 a5 a6 s) := by
  unfold setRegion
  extract_lets -merge -underBinder x0 x1 x2 x3 x4 x5 x6
  clear_value x0 x1 x2
  have h3 : Evolves s0 x3 := (State.onHpt_evolves h)
  clear_value x3 x4
  have h5 : Evolves s0 x5 := (State.put_evolves h3)
  clear_value x5
  have h6 : Evolves s0 x6 := (State.put_evolves h5)
  clear_value x6
  exact .ite (State.onHpt_evolves h6) h6

theorem execDcRegionSet_evolves {s0 s : State} {a0} (h : Evolves s0 s) : OutEvolves s0 (execDcRegionSet a0 s) := by
  unfold execDcRegionSet
  exact (onCmd_evolves h (fun _ h0 => (by
      extract_lets -merge -underBinder x1 x2 x3 x4 x5 x6
      clear_value x1 x2
      clear_value x3 x4
      clear_value x5 x6
      exact (.ite (refuse_evolves h0) (.ite (refuse_evolves h0) (.ite (refuse_evolves h0) (.ite (refuse_evolves h0) (.ite (refuse_evolves h0) (complete_evolves (setRegion_evolves h0))))))))))

theorem execDcdExtentAdd_evolves {s0 s : State} {a0} (h : Evolves s0 s) : OutEvolves s0 (execDcdExtentAdd a0 s) := by
  unfold execDcdExtentAdd
  exact (onCmd_evolves h (fun _ h0 => (by
      extract_lets -merge -underBinder x1 x2 x3 x4
      clear_value x1 x2
      clear_value x3 x4
      exact (.ite (refuse_evolves h0) (by
          split
          · exact refuse_evolves h0
          · exact (.ite (refuse_evolves h0) (by
                split
                · exact refuse_evolves h0
                · extract_lets -merge -underBinder x10
                  clear_value x10
                  exact (.ite (refuse_evolves h0) (.ite (refuse_evolves h0) (.ite (refuse_evolves h0) (.ite (refuse_evolves h0) (.ite (refuse_evolves h0) (noteLd_evolves (openWindow_evolves h0))))))))))))))

theorem endOffer_evolves {s0 s : State} {a0 a1 a2} (h : Evolves s0 s) : Evolves s0 (endOffer a0 a1 a2 s) := by
  unfold endOffer
  extract_lets -merge -underBinder x0 x1 x2
  clear_value x0
  have h1 : Evolves s0 x1 := (freeWindow_evolves h)
  clear_value x1
  have h2 : Evolves s0 x2 := (.foldl h1 (fun _ _ h3 => (refuse_evolves h3)))
  clear_value x2
  exact noteLd_evolves (raise_evolves h2)

theorem acceptExtent_evolves {s0 s : State} {a0 a1 a2 a3} (h : Evolves s0 s) : Evolves s0 (acceptExtent a0 a1 a2 a3 s) := by
  unfold acceptExtent
  split
  · extract_lets -merge -underBinder x2 x3
    have h2 : Evolves s0 x2 := (modWindow_evolves h)
    clear_value x2
    have h3 : Evolves s0 x3 := (tellLocal_evolves h2)
    clear_value x3
    exact .foldl h3 (fun _ _ h4 => (complete_evolves h4))
  · exact h

theorem execAddDcResponse_evolves {s0 s : State} {a0 a1 a2} (h : Evolves s0 s) : OutEvolves s0 (execAddDcResponse a0 a1 a2 s) := by
  unfold execAddDcResponse
  exact (.ite h (.ite (respond_evolves (hostViolation_evolves h)) (.ite (by
          split
          · exact respond_evolves (hostViolation_evolves h)
          · exact (respond_evolves (endOffer_evolves h))) (respond_evolves (.foldl h (fun _ _ h2 => (acceptExtent_evolves h2)))))))

theorem execOfferTimeout_evolves {s0 s : State} {a0} (h : Evolves s0 s) : OutEvolves s0 (execOfferTimeout a0 s) := by
  unfold execOfferTimeout
  exact (onUp_evolves h (fun _ h0 => (by
      split
      · exact h0
      · exact (.ite (endOffer_evolves h0) h0))))

theorem forceRelease_evolves {s0 s : State} {a0 a1 a2} (h : Evolves s0 s) : Evolves s0 (forceRelease a0 a1 a2 s) := by
  unfold forceRelease
  extract_lets -merge -underBinder x0
  clear_value x0
  exact startClose_evolves (noteLd_evolves (raise_evolves h))

theorem execDcdExtentRelease_evolves {s0 s : State} {a0} (h : Evolves s0 s) : OutEvolves s0 (execDcdExtentRelease a0 s) := by
  unfold execDcdExtentRelease
  exact (onCmd_evolves h (fun _ h0 => (by
      extract_lets -merge -underBinder x1 x2
      clear_value x1 x2
      split
      · exact refuse_evolves h0
      · extract_lets -merge -underBinder x5
        have h5 : Evolves s0 x5 := (modWindow_evolves h0)
        clear_value x5
        exact (.ite (refuse_evolves h0) (.ite (complete_evolves h0) (.ite (startClose_evolves h0) (.ite (forceRelease_evolves h0) (.ite h5 (noteLd_evolves h5)))))))))

theorem execReleaseTimeout_evolves {s0 s : State} {a0} (h : Evolves s0 s) : OutEvolves s0 (execReleaseTimeout a0 s) := by
  unfold execReleaseTimeout
  exact (onUp_evolves h (fun _ h0 => (by
      split
      · exact h0
      · exact (.ite (forceRelease_evolves h0) h0))))

theorem execReleaseDynamicCapacity_evolves {s0 s : State} {a0 a1 a2} (h : Evolves s0 s) : OutEvolves s0 (execReleaseDynamicCapacity a0 a1 a2 s) := by
  unfold execReleaseDynamicCapacity
  extract_lets -merge -underBinder x0
  clear_value x0
  exact (.ite h (.ite (respond_evolves (.ite (hostViolation_evolves h) h)) (respond_evolves (.foldl h (fun _ _ h1 => (by
          split
          · exact startClose_evolves h1
          · exact h1))))))

theorem execHostLinkUnfence_evolves {s0 s : State} {a0} (h : Evolves s0 s) : OutEvolves s0 (execHostLinkUnfence a0 s) := by
  unfold execHostLinkUnfence
  exact (onCmd_evolves h (fun _ h0 => (by
      extract_lets -merge -underBinder x1
      clear_value x1
      exact (.ite (complete_evolves h0) (complete_evolves (unitServing_evolves (State.put_evolves (State.onHpt_evolves h0))))))))

theorem execCdatRead_evolves {s0 s : State} {a0 a1} (h : Evolves s0 s) : OutEvolves s0 (execCdatRead a0 a1 s) := by
  unfold execCdatRead
  exact onLd_evolves h (fun _ h0 => (respond_evolves (State.onHpt_evolves h0)))

theorem execIdentifyMemoryDevice_evolves {s0 s : State} {a0 a1} (h : Evolves s0 s) : OutEvolves s0 (execIdentifyMemoryDevice a0 a1 s) := by
  unfold execIdentifyMemoryDevice
  exact onLd_evolves h (fun _ h0 => (respond_evolves h0))

theorem execGetSupportedLogs_evolves {s0 s : State} {a0 a1} (h : Evolves s0 s) : OutEvolves s0 (execGetSupportedLogs a0 a1 s) := by
  unfold execGetSupportedLogs
  exact onLd_evolves h (fun _ h0 => (respond_evolves h0))

theorem execGetLog_evolves {s0 s : State} {a0 a1} (h : Evolves s0 s) : OutEvolves s0 (execGetLog a0 a1 s) := by
  unfold execGetLog
  exact onLd_evolves h (fun _ h0 => (respond_evolves h0))

theorem execGetEventRecords_evolves {s0 s : State} {a0 a1} (h : Evolves s0 s) : OutEvolves s0 (execGetEventRecords a0 a1 s) := by
  unfold execGetEventRecords
  exact onLd_evolves h (fun _ h0 => (respond_evolves h0))

theorem execClearEventRecords_evolves {s0 s : State} {a0 a1 a2 a3} (h : Evolves s0 s) : OutEvolves s0 (execClearEventRecords a0 a1 a2 a3 s) := by
  unfold execClearEventRecords
  exact (onLd_evolves h (fun _ h0 => (by
      extract_lets -merge -underBinder x1
      clear_value x1
      exact (respond_evolves (State.onHpt_evolves h0)))))

theorem execGetEventInterruptPolicy_evolves {s0 s : State} {a0 a1} (h : Evolves s0 s) : OutEvolves s0 (execGetEventInterruptPolicy a0 a1 s) := by
  unfold execGetEventInterruptPolicy
  exact onLd_evolves h (fun _ h0 => (respond_evolves h0))

theorem execSetEventInterruptPolicy_evolves {s0 s : State} {a0 a1 a2} (h : Evolves s0 s) : OutEvolves s0 (execSetEventInterruptPolicy a0 a1 a2 s) := by
  unfold execSetEventInterruptPolicy
  exact onLd_evolves h (fun _ h0 => (respond_evolves (State.onHpt_evolves h0)))

theorem execGetTimestamp_evolves {s0 s : State} {a0 a1} (h : Evolves s0 s) : OutEvolves s0 (execGetTimestamp a0 a1 s) := by
  unfold execGetTimestamp
  exact onLd_evolves h (fun _ h0 => (respond_evolves h0))

theorem execSetTimestamp_evolves {s0 s : State} {a0 a1 a2} (h : Evolves s0 s) : OutEvolves s0 (execSetTimestamp a0 a1 a2 s) := by
  unfold execSetTimestamp
  exact onLd_evolves h (fun _ h0 => (respond_evolves (State.onHpt_evolves h0)))

theorem execGetHealthInfo_evolves {s0 s : State} {a0 a1 a2} (h : Evolves s0 s) : OutEvolves s0 (execGetHealthInfo a0 a1 a2 s) := by
  unfold execGetHealthInfo
  exact onLd_evolves h (fun _ h0 => (respond_evolves h0))

theorem execGetPoisonList_evolves {s0 s : State} {a0 a1} (h : Evolves s0 s) : OutEvolves s0 (execGetPoisonList a0 a1 s) := by
  unfold execGetPoisonList
  exact onLd_evolves h (fun _ h0 => (respond_evolves h0))

theorem execClearPoison_evolves {s0 s : State} {a0 a1 a2 a3} (h : Evolves s0 s) : OutEvolves s0 (execClearPoison a0 a1 a2 a3 s) := by
  unfold execClearPoison
  exact (onLd_evolves h (fun _ h0 => (by
      extract_lets -merge -underBinder x1
      clear_value x1
      split
      · exact respond_evolves h0
      · exact (.ite (respond_evolves h0) (by
            split
            · exact respond_evolves h0
            · rename_i y6 y7 hq
              have g7 : Evolves s0 y7 := .of_some2 hq (takeTicket_evolves h0)
              extract_lets -merge -underBinder x8
              clear_value x8
              exact (settle_evolves (admitOp_evolves (beginAccess_evolves g7))))))))

theorem execGetDcConfiguration_evolves {s0 s : State} {a0 a1} (h : Evolves s0 s) : OutEvolves s0 (execGetDcConfiguration a0 a1 s) := by
  unfold execGetDcConfiguration
  exact onLd_evolves h (fun _ h0 => (respond_evolves h0))

theorem execGetDcExtentList_evolves {s0 s : State} {a0 a1} (h : Evolves s0 s) : OutEvolves s0 (execGetDcExtentList a0 a1 s) := by
  unfold execGetDcExtentList
  exact onLd_evolves h (fun _ h0 => (respond_evolves h0))

theorem execCxlUnsupportedOpcode_evolves {s0 s : State} {a0 a1} (h : Evolves s0 s) : OutEvolves s0 (execCxlUnsupportedOpcode a0 a1 s) := by
  unfold execCxlUnsupportedOpcode
  exact onLd_evolves h (fun _ h0 => (respond_evolves h0))

theorem execGetLdInfo_evolves {s0 s : State} {a0} (h : Evolves s0 s) : OutEvolves s0 (execGetLdInfo a0 s) := by
  unfold execGetLdInfo
  exact onFm_evolves h (fun _ h0 => (respond_evolves h0))

theorem execGetLdAllocations_evolves {s0 s : State} {a0} (h : Evolves s0 s) : OutEvolves s0 (execGetLdAllocations a0 s) := by
  unfold execGetLdAllocations
  exact onFm_evolves h (fun _ h0 => (respond_evolves h0))

theorem execSetLdAllocations_evolves {s0 s : State} {a0 a1} (h : Evolves s0 s) : OutEvolves s0 (execSetLdAllocations a0 a1 s) := by
  unfold execSetLdAllocations
  exact onFm_evolves h (fun _ h0 => (.ite (respond_evolves h0) (.ite (respond_evolves h0) (respond_evolves (State.put_evolves h0)))))

theorem execGetQosControl_evolves {s0 s : State} {a0} (h : Evolves s0 s) : OutEvolves s0 (execGetQosControl a0 s) := by
  unfold execGetQosControl
  exact onFm_evolves h (fun _ h0 => (respond_evolves h0))

theorem execSetQosControl_evolves {s0 s : State} {a0 a1} (h : Evolves s0 s) : OutEvolves s0 (execSetQosControl a0 a1 s) := by
  unfold execSetQosControl
  exact onFm_evolves h (fun _ h0 => (respond_evolves (State.onHpt_evolves h0)))

theorem execGetQosStatus_evolves {s0 s : State} {a0} (h : Evolves s0 s) : OutEvolves s0 (execGetQosStatus a0 s) := by
  unfold execGetQosStatus
  exact onFm_evolves h (fun _ h0 => (respond_evolves h0))

/-! ### Rdma -/

theorem ethViolation_evolves {s0 s : State} {a0} (h : Evolves s0 s) : Evolves s0 (ethViolation a0 s) := by
  unfold ethViolation
  extract_lets -merge -underBinder x0
  have h0 : Evolves s0 x0 := (State.onRdm_evolves h)
  clear_value x0
  exact State.addSat_evolves (State.addSat_evolves h0)

theorem cacheIn_evolves {s0 s : State} {a0} (h : Evolves s0 s) : OptEvolves s0 (cacheIn a0 s) := by
  unfold cacheIn
  split
  · exact State.onRdm_evolves h
  · split
    · exact State.onRdm_evolves h
    · split
      · exact State.onRdm_evolves h
      · exact trivial

theorem rnrPacket_evolves {s0 s : State} {a0 a1 a2} (h : Evolves s0 s) : Evolves s0 (rnrPacket a0 a1 a2 s) := by
  unfold rnrPacket
  extract_lets -merge -underBinder x0
  have h0 : Evolves s0 x0 := (.ite (State.inc_evolves h) h)
  clear_value x0
  exact rdmaSend_evolves (modQp_evolves h0)

theorem reserveSlot_evolves {s0 s : State} {a0} (h : Evolves s0 s) : Evolves s0 (reserveSlot a0 s) := by
  unfold reserveSlot
  split
  · exact h
  · extract_lets -merge -underBinder x3
    clear_value x3
    exact State.onRdm_evolves h

theorem beginMsg_evolves {s0 s : State} {a0 a1 a2 a3} (h : Evolves s0 s) : Evolves s0 (beginMsg a0 a1 a2 a3 s) := by
  unfold beginMsg
  extract_lets -merge -underBinder x0 x1 x2 x3 x6
  clear_value x0 x1 x2
  have h3 : Evolves s0 x3 := (by
      unfold x3
      split
      · exact beginAccess_evolves h
      · exact h)
  clear_value x3
  have h6 : Evolves s0 x6 := (.ite (reserveSlot_evolves h3) h3)
  clear_value x6
  exact modQp_evolves h6

theorem laterPacket_evolves {s0 s : State} {a0 a1 a2} (h : Evolves s0 s) : Evolves s0 (laterPacket a0 a1 a2 s) := by
  unfold laterPacket
  extract_lets -merge -underBinder x0 x1 x2 x3 x4
  clear_value x0 x2
  clear_value x3 x4
  exact (.ite (failReq_evolves (dropMsgs_evolves (.ite (ethViolation_evolves h) h))) (.ite (failReq_evolves (dropMsgs_evolves (.ite (ethViolation_evolves h) h))) (by
        split
        · exact rnrPacket_evolves h
        · exact failReq_evolves (dropMsgs_evolves (.ite (ethViolation_evolves h) h))
        · extract_lets -merge -underBinder x10 x11
          have h10 : Evolves s0 x10 := (.ite (reserveSlot_evolves h) h)
          clear_value x10
          have h11 : Evolves s0 x11 := (modMsg_evolves h10)
          clear_value x11
          exact (modQp_evolves h11))))

theorem inOrder_evolves {s0 s : State} {a0 a1} (h : Evolves s0 s) : Evolves s0 (inOrder a0 a1 s) := by
  unfold inOrder
  exact (.ite (by
      split
      · exact laterPacket_evolves h
      · exact (failReq_evolves (ethViolation_evolves h))) (by
      split
      · exact beginMsg_evolves h
      · exact rnrPacket_evolves h
      · extract_lets -merge -underBinder x7
        have h7 : Evolves s0 x7 := (.ite (ethViolation_evolves h) h)
        clear_value x7
        exact (failReq_evolves (dropMsgs_evolves h7))))

theorem duplicate_evolves {s0 s : State} {a0 a1} (h : Evolves s0 s) : Evolves s0 (duplicate a0 a1 s) := by
  unfold duplicate
  extract_lets -merge -underBinder x0
  have h0 : Evolves s0 x0 := (State.inc_evolves h)
  clear_value x0
  exact (.ite (.ite h0 (by
        split
        · exact .ite h0 (beginMsg_evolves h0)
        · exact failReq_evolves h0
        · exact h0)) (.ite (by
        split
        · exact rdmaSend_evolves h0
        · exact h0) (.ite h0 (rdmaSend_evolves h0))))

theorem congestion_evolves {s0 s : State} {a0 a1} (h : Evolves s0 s) : Evolves s0 (congestion a0 a1 s) := by
  unfold congestion
  extract_lets -merge -underBinder x0 x1
  clear_value x0
  have h1 : Evolves s0 x1 := (State.inc_evolves (modQp_evolves h))
  clear_value x1
  exact .ite (State.inc_evolves (State.send_evolves h1)) h

theorem takePacket_evolves {s0 s : State} {a0} (h : Evolves s0 s) : Evolves s0 (takePacket a0 s) := by
  unfold takePacket
  split
  · exact ethViolation_evolves h
  · extract_lets -merge -underBinder x2 x3
    have h2 : Evolves s0 x2 := (congestion_evolves h)
    clear_value x2 x3
    exact .ite (ethViolation_evolves h) (.ite (State.inc_evolves h) (.ite (inOrder_evolves h2) (.ite (.ite h2 (rdmaSend_evolves (State.inc_evolves (modQp_evolves h2)))) (duplicate_evolves h2))))

theorem arrivePacket_evolves {s0 s : State} {a0} (h : Evolves s0 s) : Evolves s0 (arrivePacket a0 s) := by
  unfold arrivePacket
  extract_lets -merge -underBinder x0
  have h0 : Evolves s0 x0 := (State.inc_evolves h)
  clear_value x0
  exact (.ite h (.ite (State.inc_evolves h0) (by
        split
        · exact ethViolation_evolves h0
        · exact (.ite (ethViolation_evolves h0) (.ite (settle_evolves (takePacket_evolves (State.onRdm_evolves h0))) (.ite (raiseRl_evolves (State.inc_evolves h0)) (rdmSync_evolves (startFetches_evolves (State.inc_evolves (State.onRdm_evolves h0))))))))))

theorem execRdmaSend_evolves {s0 s : State} {a0 a1 a2 a3 a4 a5 a6} (h : Evolves s0 s) : OutEvolves s0 (execRdmaSend a0 a1 a2 a3 a4 a5 a6 s) := by
  unfold execRdmaSend
  exact arrivePacket_evolves h

theorem execRdmaWrite_evolves {s0 s : State} {a0 a1 a2 a3 a4 a5 a6 a7 a8} (h : Evolves s0 s) : OutEvolves s0 (execRdmaWrite a0 a1 a2 a3 a4 a5 a6 a7 a8 s) := by
  unfold execRdmaWrite
  exact arrivePacket_evolves h

theorem execRdmaWriteWithImmediate_evolves {s0 s : State} {a0 a1 a2 a3 a4 a5 a6 a7 a8 a9} (h : Evolves s0 s) : OutEvolves s0 (execRdmaWriteWithImmediate a0 a1 a2 a3 a4 a5 a6 a7 a8 a9 s) := by
  unfold execRdmaWriteWithImmediate
  exact arrivePacket_evolves h

theorem execRdmaRead_evolves {s0 s : State} {a0 a1 a2 a3 a4 a5 a6} (h : Evolves s0 s) : OutEvolves s0 (execRdmaRead a0 a1 a2 a3 a4 a5 a6 s) := by
  unfold execRdmaRead
  exact arrivePacket_evolves h

theorem execCompareSwap_evolves {s0 s : State} {a0 a1 a2 a3 a4 a5 a6 a7} (h : Evolves s0 s) : OutEvolves s0 (execCompareSwap a0 a1 a2 a3 a4 a5 a6 a7 s) := by
  unfold execCompareSwap
  exact arrivePacket_evolves h

theorem execFetchAdd_evolves {s0 s : State} {a0 a1 a2 a3 a4 a5 a6} (h : Evolves s0 s) : OutEvolves s0 (execFetchAdd a0 a1 a2 a3 a4 a5 a6 s) := by
  unfold execFetchAdd
  exact arrivePacket_evolves h

theorem execAtomicWrite_evolves {s0 s : State} {a0 a1 a2 a3 a4 a5 a6} (h : Evolves s0 s) : OutEvolves s0 (execAtomicWrite a0 a1 a2 a3 a4 a5 a6 s) := by
  unfold execAtomicWrite
  exact arrivePacket_evolves h

theorem execRdmaFlush_evolves {s0 s : State} {a0 a1 a2 a3 a4 a5 a6 a7 a8} (h : Evolves s0 s) : OutEvolves s0 (execRdmaFlush a0 a1 a2 a3 a4 a5 a6 a7 a8 s) := by
  unfold execRdmaFlush
  exact arrivePacket_evolves h

theorem execRdmaWait_evolves {s0 s : State} {a0 a1 a2 a3 a4 a5} (h : Evolves s0 s) : OutEvolves s0 (execRdmaWait a0 a1 a2 a3 a4 a5 s) := by
  unfold execRdmaWait
  exact arrivePacket_evolves h

theorem execWaitTimeout_evolves {s0 s : State} {a0 a1} (h : Evolves s0 s) : OutEvolves s0 (execWaitTimeout a0 a1 s) := by
  unfold execWaitTimeout
  exact (onUp_evolves h (fun _ h0 => (by
      split
      · exact .ite h0 (settle_evolves (raise_evolves (failReq_evolves h0)))
      · exact h0)))

theorem execAdmissionWaitExpiry_evolves {s0 s : State} {a0} (h : Evolves s0 s) : OutEvolves s0 (execAdmissionWaitExpiry a0 s) := by
  unfold execAdmissionWaitExpiry
  exact (onUp_evolves h (fun _ h0 => (by
      split
      · exact h0
      · split
        · exact h0
        · exact (.ite h0 (settle_evolves (rnrNak_evolves h0))))))

theorem execAckCoalesceExpiry_evolves {s0 s : State} {a0} (h : Evolves s0 s) : OutEvolves s0 (execAckCoalesceExpiry a0 s) := by
  unfold execAckCoalesceExpiry
  exact onUp_evolves h (fun _ h0 => (.ite h0 (settle_evolves (sendAck_evolves h0))))

theorem execMessageAbandon_evolves {s0 s : State} {a0} (h : Evolves s0 s) : OutEvolves s0 (execMessageAbandon a0 s) := by
  unfold execMessageAbandon
  exact (onUp_evolves h (fun _ h0 => (by
      split
      · exact h0
      · extract_lets -merge -underBinder x3
        clear_value x3
        exact (.ite h0 (settle_evolves (raise_evolves (failReq_evolves (dropMsgs_evolves h0))))))))

theorem unpark_evolves {s0 s : State} {a0} (h : Evolves s0 s) : Evolves s0 (unpark a0 s) := by
  unfold unpark
  exact State.onRdm_evolves h

theorem execContextFetched_evolves {s0 s : State} {a0 a1} (h : Evolves s0 s) : OutEvolves s0 (execContextFetched a0 a1 s) := by
  unfold execContextFetched
  exact (onUp_evolves h (fun _ h0 => (by
      extract_lets -merge -underBinder x1
      clear_value x1
      exact (.ite h0 (.ite (settle_evolves (contextLost_evolves h0)) (by
            split
            · exact h0
            · rename_i y3 hq
              have g3 : Evolves s0 y3 := .of_some hq (cacheIn_evolves (unpark_evolves h0))
              exact (settle_evolves (rdmSync_evolves (startFetches_evolves (.foldl g3 (fun _ _ h4 => (takePacket_evolves h4))))))))))))

theorem execCnpReceived_evolves {s0 s : State} {a0 a1} (h : Evolves s0 s) : OutEvolves s0 (execCnpReceived a0 a1 s) := by
  unfold execCnpReceived
  extract_lets -merge -underBinder x0
  have h0 : Evolves s0 x0 := (State.inc_evolves h)
  clear_value x0
  exact (.ite h (by
      split
      · exact ethViolation_evolves h0
      · exact (.ite (ethViolation_evolves h0) (.ite h0 (modQp_evolves h0)))))

theorem execRateRecover_evolves {s0 s : State} {a0} (h : Evolves s0 s) : OutEvolves s0 (execRateRecover a0 s) := by
  unfold execRateRecover
  exact (onUp_evolves h (fun _ h0 => (by
      split
      · exact h0
      · exact (.ite h0 (modQp_evolves h0)))))

theorem releasePaused_evolves {s0 s : State} {a0 a1} (h : Evolves s0 s) : Evolves s0 (releasePaused a0 a1 s) := by
  unfold releasePaused
  extract_lets -merge -underBinder x0 x1 x2 x3
  have h0 : Evolves s0 x0 := (State.onRdm_evolves h)
  clear_value x0 x1
  have h2 : Evolves s0 x2 := (State.onRdm_evolves h0)
  clear_value x2
  have h3 : Evolves s0 x3 := (.foldl h2 (fun _ _ h4 => (State.inc_evolves (State.send_evolves h4))))
  clear_value x3
  exact State.put_evolves h3

theorem execPfcPauseReceived_evolves {s0 s : State} {a0 a1 a2} (h : Evolves s0 s) : OutEvolves s0 (execPfcPauseReceived a0 a1 a2 s) := by
  unfold execPfcPauseReceived
  exact .ite h (.ite (releasePaused_evolves h) (.ite h (State.put_evolves (State.onRdm_evolves h))))

theorem ignorePause_evolves {s0 s : State} {a0 a1} (h : Evolves s0 s) : Evolves s0 (ignorePause a0 a1 s) := by
  unfold ignorePause
  exact State.onRdm_evolves h

theorem execPfcStorm_evolves {s0 s : State} {a0 a1} (h : Evolves s0 s) : OutEvolves s0 (execPfcStorm a0 a1 s) := by
  unfold execPfcStorm
  exact .ite (releasePaused_evolves (raise_evolves (ethViolation_evolves (ignorePause_evolves h)))) h

theorem execArpRequest_evolves {s0 s : State} {a0 a1 a2} (h : Evolves s0 s) : OutEvolves s0 (execArpRequest a0 a1 a2 s) := by
  unfold execArpRequest
  extract_lets -merge -underBinder x0
  have h0 : Evolves s0 x0 := (State.inc_evolves h)
  clear_value x0
  exact .ite h (.ite (State.inc_evolves (State.send_evolves h0)) h0)

theorem execRdmaViolation_evolves {s0 s : State} {a0 a1 a2 a3} (h : Evolves s0 s) : OutEvolves s0 (execRdmaViolation a0 a1 a2 a3 s) := by
  unfold execRdmaViolation
  extract_lets -merge -underBinder x0
  have h0 : Evolves s0 x0 := (ethViolation_evolves (State.inc_evolves h))
  clear_value x0
  exact (.ite h (by
      split
      · exact .ite (settle_evolves (failReq_evolves (dropMsgs_evolves h0))) h0
      · exact h0))

theorem ethLinkLost_evolves {s0 s : State} {a0} (h : Evolves s0 s) : Evolves s0 (ethLinkLost a0 s) := by
  unfold ethLinkLost
  extract_lets -merge -underBinder x0 x1
  have h0 : Evolves s0 x0 := (State.onRdm_evolves h)
  clear_value x0
  have h1 : Evolves s0 x1 := (State.put_evolves (State.put_evolves (State.put_evolves h0)))
  clear_value x1
  exact raise_evolves (State.inc_evolves h1)

theorem execRdmaViolationLimit_evolves {s0 s : State} {a0} (h : Evolves s0 s) : OutEvolves s0 (execRdmaViolationLimit a0 s) := by
  unfold execRdmaViolationLimit
  exact .ite (ethLinkLost_evolves (raise_evolves (unitFault_evolves (State.put_evolves h)))) h

theorem execRdmaPortLinkDown_evolves {s0 s : State} {a0} (h : Evolves s0 s) : OutEvolves s0 (execRdmaPortLinkDown a0 s) := by
  unfold execRdmaPortLinkDown
  exact .ite (ethLinkLost_evolves h) h

theorem execRdmaPortLinkUp_evolves {s0 s : State} {a0 a1} (h : Evolves s0 s) : OutEvolves s0 (execRdmaPortLinkUp a0 a1 s) := by
  unfold execRdmaPortLinkUp
  exact onUp_evolves h (fun _ h0 => (.ite h0 (raise_evolves (State.put_evolves h0))))

theorem execPdCreate_evolves {s0 s : State} {a0} (h : Evolves s0 s) : OutEvolves s0 (execPdCreate a0 s) := by
  unfold execPdCreate
  exact (onCmd_evolves h (fun _ h0 => (by
      extract_lets -merge -underBinder x1 x2 x3 x4
      clear_value x1 x2
      clear_value x3 x4
      exact (.ite (refuse_evolves h0) (.ite (refuse_evolves h0) (.ite (refuse_evolves h0) (complete_evolves (State.onRdm_evolves h0))))))))

theorem execPdDestroy_evolves {s0 s : State} {a0} (h : Evolves s0 s) : OutEvolves s0 (execPdDestroy a0 s) := by
  unfold execPdDestroy
  exact (onCmd_evolves h (fun _ h0 => (by
      extract_lets -merge -underBinder x1
      clear_value x1
      exact (.ite (refuse_evolves h0) (.ite (refuse_evolves h0) (complete_evolves (State.onRdm_evolves h0)))))))

theorem execQpCreate_evolves {s0 s : State} {a0} (h : Evolves s0 s) : OutEvolves s0 (execQpCreate a0 s) := by
  unfold execQpCreate
  exact (onCmd_evolves h (fun _ h0 => (by
      split
      · exact refuse_evolves h0
      · extract_lets -merge -underBinder x4 x5
        clear_value x4
        have h5 : Evolves s0 x5 := (State.onRdm_evolves h0)
        clear_value x5
        exact (complete_evolves (rdmSync_evolves (OptEvolves.getD (cacheIn_evolves h5) h5))))))

theorem execQpModify_evolves {s0 s : State} {a0} (h : Evolves s0 s) : OutEvolves s0 (execQpModify a0 s) := by
  unfold execQpModify
  exact (onCmd_evolves h (fun _ h0 => (by
      extract_lets -merge -underBinder x1
      clear_value x1
      split
      · exact refuse_evolves h0
      · exact (complete_evolves (modQp_evolves h0)))))

theorem errorQp_evolves {s0 s : State} {a0 a1 a2} (h : Evolves s0 s) : Evolves s0 (errorQp a0 a1 a2 s) := by
  unfold errorQp
  split
  · exact refuse_evolves h
  · extract_lets -merge -underBinder x2 x3
    clear_value x2
    have h3 : Evolves s0 x3 := (.ite (modQp_evolves (dropMsgs_evolves (State.add_evolves h))) h)
    clear_value x3
    exact settle_evolves (rdmSync_evolves (modQp_evolves h3))

theorem execQpError_evolves {s0 s : State} {a0} (h : Evolves s0 s) : OutEvolves s0 (execQpError a0 s) := by
  unfold execQpError
  exact onCmd_evolves h (fun _ h0 => (errorQp_evolves h0))

theorem execQpDestroy_evolves {s0 s : State} {a0} (h : Evolves s0 s) : OutEvolves s0 (execQpDestroy a0 s) := by
  unfold execQpDestroy
  exact onCmd_evolves h (fun _ h0 => (errorQp_evolves h0))

theorem execRdmaGapAck_evolves {s0 s : State} {a0} (h : Evolves s0 s) : OutEvolves s0 (execRdmaGapAck a0 s) := by
  unfold execRdmaGapAck
  exact onCmd_evolves h (fun _ h0 => (gapAck_evolves h0))

theorem execCounterSet_evolves {s0 s : State} {a0} (h : Evolves s0 s) : OutEvolves s0 (execCounterSet a0 s) := by
  unfold execCounterSet
  exact (onCmd_evolves h (fun _ h0 => (by
      extract_lets -merge -underBinder x1
      clear_value x1
      exact (.ite (refuse_evolves h0) (settle_evolves (complete_evolves (State.onRdm_evolves h0)))))))

theorem execCounterRead_evolves {s0 s : State} {a0} (h : Evolves s0 s) : OutEvolves s0 (execCounterRead a0 s) := by
  unfold execCounterRead
  exact (onCmd_evolves h (fun _ h0 => (by
      extract_lets -merge -underBinder x1
      clear_value x1
      exact (.ite (refuse_evolves h0) (complete_evolves h0)))))

theorem execRdmaPortUnfence_evolves {s0 s : State} {a0} (h : Evolves s0 s) : OutEvolves s0 (execRdmaPortUnfence a0 s) := by
  unfold execRdmaPortUnfence
  exact (onCmd_evolves h (fun _ h0 => (by
      extract_lets -merge -underBinder x1
      clear_value x1
      exact (.ite (complete_evolves h0) (complete_evolves (unitServing_evolves (State.put_evolves (State.onRdm_evolves h0))))))))

theorem execRdmaWindowOpen_evolves {s0 s : State} {a0} (h : Evolves s0 s) : OutEvolves s0 (execRdmaWindowOpen a0 s) := by
  unfold execRdmaWindowOpen
  exact (onCmd_evolves h (fun _ h0 => (by
      extract_lets -merge -underBinder x1
      clear_value x1
      exact (.ite (refuse_evolves h0) (by
          split
          · exact refuse_evolves h0
          · extract_lets -merge -underBinder x5 x6
            clear_value x5
            have h6 : Evolves s0 x6 := (openWindow_evolves (State.onRdm_evolves h0))
            clear_value x6
            exact (.ite (refuse_evolves h0) (complete_evolves h6)))))))

theorem execRdmaWindowClose_evolves {s0 s : State} {a0} (h : Evolves s0 s) : OutEvolves s0 (execRdmaWindowClose a0 s) := by
  unfold execRdmaWindowClose
  exact (onCmd_evolves h (fun _ h0 => (by
      extract_lets -merge -underBinder x1 x2
      clear_value x1 x2
      split
      · exact refuse_evolves h0
      · exact (.ite (refuse_evolves h0) (.ite (complete_evolves h0) (startClose_evolves h0))))))

theorem execQpStatus_evolves {s0 s : State} {a0} (h : Evolves s0 s) : OutEvolves s0 (execQpStatus a0 s) := by
  unfold execQpStatus
  exact (onCmd_evolves h (fun _ h0 => (by
      extract_lets -merge -underBinder x1
      clear_value x1
      split
      · exact refuse_evolves h0
      · exact (complete_evolves h0))))

/-! ### Joiners -/

theorem readySync_evolves {s0 s : State} (h : Evolves s0 s) : Evolves s0 (readySync s) := by
  unfold readySync
  exact .foldl h (fun _ _ h0 => (State.put_evolves h0))

theorem joinersPut_evolves {s0 s : State} (h : Evolves s0 s) : Evolves s0 (joinersPut s) := by
  unfold joinersPut
  exact .foldl h (fun _ _ h0 => (State.put_evolves h0))

theorem joinerSync_evolves {s0 s : State} (h : Evolves s0 s) : Evolves s0 (joinerSync s) := by
  unfold joinerSync
  extract_lets -merge -underBinder x0 x1 x2 x3 x4
  clear_value x0
  have h1 : Evolves s0 x1 := (joinersPut_evolves h)
  clear_value x1 x2
  have h3 : Evolves s0 x3 := (.ite (raise_evolves h1) h1)
  clear_value x3
  have h4 : Evolves s0 x4 := (setBlock_evolves (degradedSync_evolves h3))
  clear_value x4
  exact .ite (failStop_evolves (raise_evolves h4)) h4

theorem postStep_evolves {s0 s : State} {a0 a1 a2 a3} (h : Evolves s0 s) : Evolves s0 (postStep a0 a1 a2 a3 s) := by
  unfold postStep
  split
  · exact h
  · exact readySync_evolves (State.onJnb_evolves h)

theorem moveSteps_evolves {s0 s : State} {a0} (h : Evolves s0 s) : Evolves s0 (moveSteps a0 s) := by
  unfold moveSteps
  extract_lets -merge -underBinder x0
  clear_value x0
  exact (readySync_evolves (.foldl h (fun _ _ h1 => (by
      split
      · exact h1
      · exact (State.inc_evolves (State.onJnb_evolves h1))))))

theorem storeBytes_evolves {s0 s : State} {a0} (h : Evolves s0 s) : Evolves s0 (storeBytes a0 s) := by
  unfold storeBytes
  exact .foldl h (fun _ _ h0 => (State.onYrd_evolves h0))

theorem runStep_evolves {s0 s : State} {a0 a1 a2 a3 a4 a5 a6} (h : Evolves s0 s) : Evolves s0 (runStep a0 a1 a2 a3 a4 a5 a6 s) := by
  unfold runStep
  extract_lets -merge -underBinder x0
  have h0 : Evolves s0 x0 := (State.inc_evolves (storeBytes_evolves h))
  clear_value x0
  exact .ite (postStep_evolves (State.onJnb_evolves h0)) (State.onJnb_evolves h0)

theorem execStepRun_evolves {s0 s : State} {a0 a1 a2 a3 a4} (h : Evolves s0 s) : OutEvolves s0 (execStepRun a0 a1 a2 a3 a4 s) := by
  unfold execStepRun
  exact (onUp_evolves h (fun _ h0 => (by
      split
      · exact runStep_evolves (readySync_evolves (State.onJnb_evolves h0))
      · extract_lets -merge -underBinder x3
        clear_value x3
        split
        · exact h0
        · split
          · exact h0
          · exact (runStep_evolves h0))))

theorem loseLock_evolves {s0 s : State} {a0 a1} (h : Evolves s0 s) : Evolves s0 (loseLock a0 a1 s) := by
  unfold loseLock
  extract_lets -merge -underBinder x0
  have h0 : Evolves s0 x0 := (dropLock_evolves h)
  clear_value x0
  split
  · exact h0
  · exact giveSlot_evolves (State.onTir_evolves (modGran_evolves h0))
  · exact giveSlot_evolves (State.onTir_evolves (modGran_evolves h0))
  · exact giveSlot_evolves (State.onTir_evolves (modGran_evolves h0))
  · extract_lets -merge -underBinder x6 x7
    clear_value x6
    have h7 : Evolves s0 x7 := (State.onTir_evolves h0)
    clear_value x7
    exact giveSlot_evolves h7
  · exact giveSlot_evolves h0

theorem loseLocks_evolves {s0 s : State} {a0} (h : Evolves s0 s) : Evolves s0 (loseLocks a0 s) := by
  unfold loseLocks
  exact .foldl h (fun _ _ h0 => (loseLock_evolves h0))

theorem abortAnswer_evolves {s0 s : State} {a0 a1} (h : Evolves s0 s) : Evolves s0 (abortAnswer a0 a1 s) := by
  unfold abortAnswer
  split
  · exact respond_evolves h
  · exact respond_evolves h
  · exact linkSend_evolves h
  · exact State.send_evolves h
  · exact h

theorem abortTicket_evolves {s0 s : State} {a0} (h : Evolves s0 s) : Evolves s0 (abortTicket a0 s) := by
  unfold abortTicket
  extract_lets -merge -underBinder x0 x1 x3 x4 x5 x6 x7 x8
  clear_value x0
  have h1 : Evolves s0 x1 := (.foldl h (fun _ _ h2 => (failReq_evolves h2)))
  clear_value x1 x4 x5
  have h6 : Evolves s0 x6 := (State.onTir_evolves h1)
  clear_value x6
  have h7 : Evolves s0 x7 := (State.onCis_evolves h6)
  clear_value x7
  have h8 : Evolves s0 x8 := (.foldl h7 (fun _ _ h9 => (abortAnswer_evolves (finishOp_evolves h9))))
  clear_value x8
  exact .foldl h8 (fun _ _ h10 => (abortAnswer_evolves (finishOp_evolves h10)))

theorem abandonStep_evolves {s0 s : State} {a0 a1 a2} (h : Evolves s0 s) : Evolves s0 (abandonStep a0 a1 a2 s) := by
  unfold abandonStep
  extract_lets -merge -underBinder x0 x1 x2 x3
  have h0 : Evolves s0 x0 := (State.onFmn_evolves h)
  clear_value x0
  have h1 : Evolves s0 x1 := (State.onJnb_evolves h0)
  clear_value x1
  have h2 : Evolves s0 x2 := (State.inc_evolves (State.inc_evolves (readySync_evolves h1)))
  clear_value x2
  have h3 : Evolves s0 x3 := (loseLocks_evolves (raise_evolves h2))
  clear_value x3
  exact .ite (abortTicket_evolves h3) h3

theorem execStepBudgetExceeded_evolves {s0 s : State} {a0 a1 a2} (h : Evolves s0 s) : OutEvolves s0 (execStepBudgetExceeded a0 a1 a2 s) := by
  unfold execStepBudgetExceeded
  exact (onUp_evolves h (fun _ h0 => (by
      extract_lets -merge -underBinder x1 x2
      clear_value x1
      have h2 : Evolves s0 x2 := (abandonStep_evolves h0)
      clear_value x2
      exact (settle_evolves (.ite (raiseRl_evolves h2) h2)))))

theorem mapOutJoiner_evolves {s0 s : State} {a0 a1} (h : Evolves s0 s) : Evolves s0 (mapOutJoiner a0 a1 s) := by
  unfold mapOutJoiner
  extract_lets -merge -underBinder x0 x1 x2
  clear_value x0 x1
  have h2 : Evolves s0 x2 := (State.onStore_evolves h)
  clear_value x2
  exact State.put_evolves (State.put_evolves (State.put_evolves h2))

theorem faultJoiner_evolves {s0 s : State} {a0 a1} (h : Evolves s0 s) : Evolves s0 (faultJoiner a0 a1 s) := by
  unfold faultJoiner
  extract_lets -merge -underBinder x0
  have h0 : Evolves s0 x0 := (State.addSat_evolves h)
  clear_value x0
  exact joinerSync_evolves (raise_evolves (mapOutJoiner_evolves h0))

theorem execJoinerFault_evolves {s0 s : State} {a0 a1 a2} (h : Evolves s0 s) : OutEvolves s0 (execJoinerFault a0 a1 a2 s) := by
  unfold execJoinerFault
  exact onUp_evolves h (fun _ h0 => (.ite h0 (faultJoiner_evolves (State.add_evolves h0))))

theorem retestJoiner_evolves {s0 s : State} {a0 a1} (h : Evolves s0 s) : Evolves s0 (retestJoiner a0 a1 s) := by
  unfold retestJoiner
  extract_lets -merge -underBinder x0 x1
  have h0 : Evolves s0 x0 := (State.onJnb_evolves h)
  clear_value x0
  have h1 : Evolves s0 x1 := (State.onStore_evolves h0)
  clear_value x1
  exact .ite (joinerSync_evolves (State.put_evolves (State.put_evolves h1))) (faultJoiner_evolves h0)

theorem execJoinerTestDue_evolves {s0 s : State} {a0 a1} (h : Evolves s0 s) : OutEvolves s0 (execJoinerTestDue a0 a1 s) := by
  unfold execJoinerTestDue
  exact (onUp_evolves h (fun _ h0 => (by
      extract_lets -merge -underBinder x1
      have h1 : Evolves s0 x1 := (State.onJnb_evolves h0)
      clear_value x1
      exact (.ite (retestJoiner_evolves h0) (.ite h0 (.ite h0 (.ite h1 (faultJoiner_evolves h1))))))))

theorem bayWaiter_evolves {s0 s : State} {a0} (h : Evolves s0 s) : Evolves s0 (bayWaiter a0 s).2 := by
  unfold bayWaiter
  exact .snd_mk (State.onJnb_evolves h)

theorem beginLoad_evolves {s0 s : State} {a0 a1} (h : Evolves s0 s) : Evolves s0 (beginLoad a0 a1 s) := by
  unfold beginLoad
  extract_lets -merge -underBinder x0 x1
  have h0 : Evolves s0 x0 := (State.onJnb_evolves h)
  clear_value x0
  have h1 : Evolves s0 x1 := (State.put_evolves (State.put_evolves (State.put_evolves h0)))
  clear_value x1
  exact State.put_evolves h1

theorem execJoineryLoad_evolves {s0 s : State} {a0 a1} (h : Evolves s0 s) : OutEvolves s0 (execJoineryLoad a0 a1 s) := by
  unfold execJoineryLoad
  exact (onCmd_evolves h (fun _ h0 => (by
      extract_lets -merge -underBinder x1 x2
      clear_value x1 x2
      exact (.ite (refuse_evolves h0) (.ite (refuseBusy_evolves h0) (by
            split
            · exact refuse_evolves (.ite (raise_evolves h0) h0)
            · exact (State.onJnb_evolves (beginLoad_evolves h0))))))))

theorem refuseOpen_evolves {s0 s : State} {a0} (h : Evolves s0 s) : Evolves s0 (refuseOpen a0 s) := by
  unfold refuseOpen
  extract_lets -merge -underBinder x0 x1
  have h0 : Evolves s0 x0.2 := (State.free_evolves h)
  clear_value x0 x1
  exact State.put_evolves (State.put_evolves (refuse_evolves h0))

theorem execBayLoadDone_evolves {s0 s : State} {a0 a1 a2} (h : Evolves s0 s) : OutEvolves s0 (execBayLoadDone a0 a1 a2 s) := by
  unfold execBayLoadDone
  exact (onUp_evolves h (fun _ h0 => (by
      extract_lets -merge -underBinder x1 x2 x3
      have h1 : Evolves s0 x1.2 := (bayWaiter_evolves h0)
      clear_value x1
      have h2 : Evolves s0 x2 := (emptyBay_evolves h1)
      clear_value x2
      have h3 : Evolves s0 x3 := (joinerSync_evolves (raise_evolves (State.put_evolves h1)))
      clear_value x3
      exact (.ite h0 (.ite (by
            split
            · exact refuseOpen_evolves h2
            · exact h2) (.ite (State.put_evolves h0) (by
              split
              · exact complete_evolves h3
              · exact h3)))))))

theorem execBayDrain_evolves {s0 s : State} {a0} (h : Evolves s0 s) : OutEvolves s0 (execBayDrain a0 s) := by
  unfold execBayDrain
  exact (onCmd_evolves h (fun _ h0 => (by
      extract_lets -merge -underBinder x1 x2 x3
      clear_value x1 x2
      have h3 : Evolves s0 x3 := (State.onJnb_evolves (raise_evolves (State.put_evolves h0)))
      clear_value x3
      exact (.ite (refuseBusy_evolves h0) (.ite (complete_evolves h0) (.ite (refuse_evolves h0) (.ite (refuse_evolves h0) (joinerSync_evolves (moveSteps_evolves h3)))))))))

theorem execBayEmpty_evolves {s0 s : State} {a0} (h : Evolves s0 s) : OutEvolves s0 (execBayEmpty a0 s) := by
  unfold execBayEmpty
  exact (onUp_evolves h (fun _ h0 => (by
      extract_lets -merge -underBinder x1 x2
      have h1 : Evolves s0 x1.2 := (bayWaiter_evolves h0)
      clear_value x1
      have h2 : Evolves s0 x2 := (emptyBay_evolves h1)
      clear_value x2
      exact (.ite h0 (by
          split
          · exact complete_evolves h2
          · exact h2)))))

theorem execBayStatus_evolves {s0 s : State} {a0} (h : Evolves s0 s) : OutEvolves s0 (execBayStatus a0 s) := by
  unfold execBayStatus
  exact onCmd_evolves h (fun _ h0 => (completeFree_evolves h0))

/-! ### Frames -/

theorem applyEntry_evolves {s0 s : State} {a0} (h : Evolves s0 s) : Evolves s0 (applyEntry a0 s) := by
  unfold applyEntry
  split
  · exact h
  · extract_lets -merge -underBinder x3 x4 x5
    clear_value x3 x4 x5
    exact .foldl h (fun _ _ h6 => (.ite (State.put_evolves h6) h6))

theorem proposed_evolves {s0 s : State} {a0 a1} (h : Evolves s0 s) : Evolves s0 (proposed a0 a1 s) := by
  unfold proposed
  extract_lets -merge -underBinder x0
  clear_value x0
  exact .foldl h (fun _ _ h1 => (applyEntry_evolves h1))

theorem benchEvent_evolves {s0 s : State} {a0 a1} (h : Evolves s0 s) : Evolves s0 (benchEvent a0 a1 s) := by
  unfold benchEvent
  exact .foldl h (fun _ _ h0 => (raise_evolves h0))

theorem putFrame_evolves {s0 s : State} {a0 a1} (h : Evolves s0 s) : Evolves s0 (putFrame a0 a1 s) := by
  unfold putFrame
  exact frameSync_evolves (State.onFrm_evolves h)

theorem freeFrame_evolves {s0 s : State} {a0} (h : Evolves s0 s) : Evolves s0 (freeFrame a0 s) := by
  unfold freeFrame
  exact frameSync_evolves (State.onFrm_evolves h)

theorem execFrameOpen_evolves {s0 s : State} {a0} (h : Evolves s0 s) : OutEvolves s0 (execFrameOpen a0 s) := by
  unfold execFrameOpen
  exact (onCmd_evolves h (fun _ h0 => (by
      split
      · exact refuse_evolves h0
      · extract_lets -merge -underBinder x3
        clear_value x3
        exact (complete_evolves (State.inc_evolves (putFrame_evolves h0))))))

theorem execFrameStage_evolves {s0 s : State} {a0} (h : Evolves s0 s) : OutEvolves s0 (execFrameStage a0 s) := by
  unfold execFrameStage
  exact (onCmd_evolves h (fun _ h0 => (by
      extract_lets -merge -underBinder x1 x2
      clear_value x1 x2
      split
      · exact refuse_evolves h0
      · extract_lets -merge -underBinder x5
        clear_value x5
        exact (.ite (refuse_evolves h0) (.ite (refuse_evolves h0) (by
              split
              · exact refuse_evolves h0
              · exact (.ite (refuse_evolves h0) (complete_evolves (putFrame_evolves h0)))))))))

theorem execFrameDryfit_evolves {s0 s : State} {a0} (h : Evolves s0 s) : OutEvolves s0 (execFrameDryfit a0 s) := by
  unfold execFrameDryfit
  exact (onCmd_evolves h (fun _ h0 => (by
      extract_lets -merge -underBinder x1
      clear_value x1
      split
      · exact refuse_evolves h0
      · exact (.ite (refuse_evolves h0) (by
            split
            · exact complete_evolves (State.inc_evolves (putFrame_evolves h0))
            · extract_lets -merge -underBinder x7
              have h7 : Evolves s0 x7 := (State.inc_evolves (putFrame_evolves (benchEvent_evolves h0)))
              clear_value x7
              exact (completeW_evolves (raiseRl_evolves h7)))))))

theorem execFramePeg_evolves {s0 s : State} {a0} (h : Evolves s0 s) : OutEvolves s0 (execFramePeg a0 s) := by
  unfold execFramePeg
  exact (onCmd_evolves h (fun _ h0 => (by
      extract_lets -merge -underBinder x1 x2 x3
      clear_value x1 x2 x3
      split
      · exact refuse_evolves h0
      · exact (.ite (refuse_evolves h0) (.ite (refuse_evolves h0) (.ite (refuse_evolves h0) (.ite (refuse_evolves h0) (putFrame_evolves h0))))))))

theorem execFrameDiscard_evolves {s0 s : State} {a0} (h : Evolves s0 s) : OutEvolves s0 (execFrameDiscard a0 s) := by
  unfold execFrameDiscard
  exact (onCmd_evolves h (fun _ h0 => (by
      extract_lets -merge -underBinder x1
      clear_value x1
      split
      · exact refuse_evolves h0
      · exact (.ite (refuse_evolves h0) (complete_evolves (State.inc_evolves (freeFrame_evolves h0)))))))

theorem execFrameStatus_evolves {s0 s : State} {a0} (h : Evolves s0 s) : OutEvolves s0 (execFrameStatus a0 s) := by
  unfold execFrameStatus
  exact (onCmd_evolves h (fun _ h0 => (by
      extract_lets -merge -underBinder x1 x2
      clear_value x1 x2
      exact (.ite (refuse_evolves h0) (complete_evolves h0)))))

theorem execPegRecheck_evolves {s0 s : State} {a0} (h : Evolves s0 s) : OutEvolves s0 (execPegRecheck a0 s) := by
  unfold execPegRecheck
  exact (onUp_evolves h (fun _ h0 => (by
      split
      · exact h0
      · exact (.ite h0 (by
            split
            · exact putFrame_evolves h0
            · extract_lets -merge -underBinder x6
              have h6 : Evolves s0 x6 := (raise_evolves (State.inc_evolves (freeFrame_evolves h0)))
              clear_value x6
              split
              · exact completeW_evolves h6
              · exact h6)))))

theorem deferFields_evolves {s0 s : State} {a0} (h : Evolves s0 s) : Evolves s0 (deferFields a0 s) := by
  unfold deferFields
  exact (.foldl h (fun _ _ h0 => (by
      extract_lets -merge -underBinder x1
      clear_value x1
      exact (.ite (.ite h0 (State.onFrm_evolves h0)) h0))))

theorem pegJoiner_evolves {s0 s : State} {a0} (h : Evolves s0 s) : Evolves s0 (pegJoiner a0 s) := by
  unfold pegJoiner
  extract_lets -merge -underBinder x0
  clear_value x0
  exact .ite (.ite h (joinerSync_evolves (raise_evolves (mapOutJoiner_evolves h)))) (.ite (State.onJnb_evolves (State.onStore_evolves h)) h)

theorem pegCore_evolves {s0 s : State} {a0} (h : Evolves s0 s) : Evolves s0 (pegCore a0 s) := by
  unfold pegCore
  extract_lets -merge -underBinder x0
  clear_value x0
  exact .ite (.ite h (mapCoreOut_evolves h)) (.ite (State.onStore_evolves (State.put_evolves h)) h)

theorem pegBank_evolves {s0 s : State} {a0} (h : Evolves s0 s) : Evolves s0 (pegBank a0 s) := by
  unfold pegBank
  exact .ite (State.put_evolves (State.put_evolves (State.put_evolves h))) (.ite (State.put_evolves (State.put_evolves h)) h)

theorem pegUnit_evolves {s0 s : State} {a0} (h : Evolves s0 s) : Evolves s0 (pegUnit a0 s) := by
  unfold pegUnit
  extract_lets -merge -underBinder x0 x1
  clear_value x0 x1
  exact .ite (State.put_evolves (State.put_evolves (State.put_evolves h))) (.ite (State.put_evolves (State.put_evolves h)) h)

theorem pegField_evolves {s0 s : State} {a0} (h : Evolves s0 s) : Evolves s0 (pegField a0 s) := by
  unfold pegField
  exact .ite (pegJoiner_evolves h) (.ite (pegCore_evolves h) (.ite (pegBank_evolves h) (.ite (pegUnit_evolves h) h)))

theorem recordFields_evolves {s0 s : State} {a0} (h : Evolves s0 s) : Evolves s0 (recordFields a0 s) := by
  unfold recordFields
  extract_lets -merge -underBinder x0 x1
  clear_value x0
  have h1 : Evolves s0 x1 := (.foldl h (fun _ _ h2 => (by
        extract_lets -merge -underBinder x3 x4
        clear_value x3 x4
        exact (State.onStore_evolves h2))))
  clear_value x1
  exact appendCfg_evolves h1

theorem pegFrame_evolves {s0 s : State} {a0 a1} (h : Evolves s0 s) : Evolves s0 (pegFrame a0 a1 s) := by
  unfold pegFrame
  extract_lets -merge -underBinder x0 x1 x2 x3 x5 x6 x7 x9 x10
  clear_value x0 x1
  have h2 : Evolves s0 x2 := (.ite h (State.onFrm_evolves h))
  clear_value x2
  have h3 : Evolves s0 x3 := (.foldl (deferFields_evolves h2) (fun _ _ h4 => (applyEntry_evolves h4)))
  clear_value x3
  have h5 : Evolves s0 x5 := (freeFrame_evolves (State.inc_evolves (State.put_evolves (State.put_evolves h3))))
  clear_value x5
  have h6 : Evolves s0 x6 := (raise_evolves h5)
  clear_value x6
  have h7 : Evolves s0 x7 := (.foldl h6 (fun _ _ h8 => (pegField_evolves h8)))
  clear_value x7
  have h9 : Evolves s0 x9 := (resizeCistern_evolves h7)
  clear_value x9
  have h10 : Evolves s0 x10 := (.ite h9 (poolSync_evolves h9))
  clear_value x10
  exact admitAll_evolves (settle_evolves (hgServe_evolves h10))

theorem execPegTakesEffect_evolves {s0 s : State} {a0 a1} (h : Evolves s0 s) : OutEvolves s0 (execPegTakesEffect a0 a1 s) := by
  unfold execPegTakesEffect
  exact (onUp_evolves h (fun _ h0 => (by
      split
      · exact h0
      · extract_lets -merge -underBinder x3 x4
        have h3 : Evolves s0 x3 := (recordFields_evolves (pegFrame_evolves h0))
        clear_value x3
        have h4 : Evolves s0 x4 := (raise_evolves (pegFrame_evolves h0))
        clear_value x4
        exact (.ite h0 (.ite (by
              split
              · exact complete_evolves h3
              · exact h3) (by
              split
              · exact refuse_evolves h4
              · exact h4))))))

theorem execUnitRecal_evolves {s0 s : State} {a0} (h : Evolves s0 s) : OutEvolves s0 (execUnitRecal a0 s) := by
  unfold execUnitRecal
  exact (onUp_evolves h (fun _ h0 => (by
      extract_lets -merge -underBinder x1
      have h1 : Evolves s0 x1 := (State.put_evolves h0)
      clear_value x1
      exact (.ite h0 (.ite (.ite h1 (ethLinkLost_evolves h1)) (.ite (.ite (portGone_evolves h1) h1) h1))))))

theorem evacStack_evolves {s0 s : State} {a0} (h : Evolves s0 s) : Evolves s0 (evacStack a0 s) := by
  unfold evacStack
  exact (.foldl h (fun _ _ h0 => (by
      extract_lets -merge -underBinder x1 x2
      have h1 : Evolves s0 x1 := (abandonMove_evolves h0)
      clear_value x1 x2
      exact (.ite h1 (.ite (refetchAfterDrop_evolves (dropCopy_evolves h1)) (by
            split
            · rename_i y3 hq
              have g3 : Evolves s0 y3 := .of_some hq (allocFloor_evolves h1)
              exact State.inc_evolves (dropCopy_evolves g3)
            · exact h1))))))

theorem evacChannel_evolves {s0 s : State} {a0} (h : Evolves s0 s) : Evolves s0 (evacChannel a0 s) := by
  unfold evacChannel
  extract_lets -merge -underBinder x0 x1
  clear_value x0
  have h1 : Evolves s0 x1 := (.foldl h (fun _ _ h2 => (by
        extract_lets -merge -underBinder x3 x4
        have h3 : Evolves s0 x3 := (abandonMove_evolves h2)
        clear_value x3 x4
        exact (.ite (refetchAfterDrop_evolves (dropCopy_evolves h3)) (by
            split
            · rename_i y5 hq
              have g5 : Evolves s0 y5 := .of_some hq (allocFloor_evolves h3)
              exact g5
            · exact h3)))))
  clear_value x1
  exact .foldl h1 (fun _ _ h7 => (moveVolatile_evolves h7))

theorem execUnitOut_evolves {s0 s : State} {a0} (h : Evolves s0 s) : OutEvolves s0 (execUnitOut a0 s) := by
  unfold execUnitOut
  exact (onUp_evolves h (fun _ h0 => (by
      extract_lets -merge -underBinder x1
      clear_value x1
      exact (.ite h0 (.ite (.ite h0 (hgRequest_evolves h0)) (.ite (settle_evolves (evacStack_evolves h0)) h0))))))

theorem unitFailed_evolves {s0 s : State} {a0} (h : Evolves s0 s) : Evolves s0 (unitFailed a0 s) := by
  unfold unitFailed
  extract_lets -merge -underBinder x0
  have h0 : Evolves s0 x0 := (State.put_evolves (State.put_evolves h))
  clear_value x0
  exact raise_evolves (State.inc_evolves (State.inc_evolves h0))

theorem serveFailed_evolves {s0 s : State} {a0} (h : Evolves s0 s) : Evolves s0 (serveFailed a0 s) := by
  unfold serveFailed
  extract_lets -merge -underBinder x0
  have h0 : Evolves s0 x0 := (.ite (State.put_evolves h) (.ite (State.put_evolves h) h))
  clear_value x0
  exact degradedSync_evolves (unitFailed_evolves h0)

theorem serveChannel_evolves {s0 s : State} {a0} (h : Evolves s0 s) : Evolves s0 (serveChannel a0 s) := by
  unfold serveChannel
  extract_lets -merge -underBinder x0 x1
  have h0 : Evolves s0 x0 := (State.put_evolves h)
  clear_value x0
  have h1 : Evolves s0 x1 := (State.put_evolves h0)
  clear_value x1
  exact .ite h1 (hgRequest_evolves h1)

theorem serveStack_evolves {s0 s : State} {a0} (h : Evolves s0 s) : Evolves s0 (serveStack a0 s) := by
  unfold serveStack
  extract_lets -merge -underBinder x0 x1
  have h0 : Evolves s0 x0 := (State.put_evolves h)
  clear_value x0
  have h1 : Evolves s0 x1 := (State.put_evolves h0)
  clear_value x1
  exact .ite h1 (hgRequest_evolves h1)

theorem execUnitServe_evolves {s0 s : State} {a0 a1} (h : Evolves s0 s) : OutEvolves s0 (execUnitServe a0 a1 s) := by
  unfold execUnitServe
  exact onUp_evolves h (fun _ h0 => (.ite h0 (.ite (serveFailed_evolves h0) (.ite (serveChannel_evolves h0) (.ite (serveStack_evolves h0) h0)))))

theorem unitBack_evolves {s0 s : State} {a0} (h : Evolves s0 s) : Evolves s0 (unitBack a0 s) := by
  unfold unitBack
  extract_lets -merge -underBinder x0 x1 x2
  have h0 : Evolves s0 x0 := (raise_evolves (State.inc_evolves (trained_evolves (unitServing_evolves h))))
  clear_value x0
  have h1 : Evolves s0 x1 := (poolSync_evolves h0)
  clear_value x1
  have h2 : Evolves s0 x2 := (.ite (by
        split
        · exact seekCopy_evolves h1
        · exact h1) h1)
  clear_value x2
  exact degradedSync_evolves h2

theorem execUnitActionDone_evolves {s0 s : State} {a0 a1} (h : Evolves s0 s) : OutEvolves s0 (execUnitActionDone a0 a1 s) := by
  unfold execUnitActionDone
  exact (onUp_evolves h (fun _ h0 => (by
      extract_lets -merge -underBinder x1 x2 x3 x4 x5 x6
      clear_value x1 x2 x3
      have h4 : Evolves s0 x4 := (hgReturn_evolves (evacChannel_evolves h0))
      clear_value x4
      have h5 : Evolves s0 x5 := (State.inc_evolves (State.put_evolves (State.put_evolves h4)))
      clear_value x5
      have h6 : Evolves s0 x6 := (State.put_evolves (fenceStack_evolves h0))
      clear_value x6
      exact (.ite h0 (.ite (.ite (unitFailed_evolves h0) (.ite h0 (settle_evolves (unitBack_evolves h0)))) (.ite (.ite h0 (settle_evolves (raise_evolves (poolSync_evolves h5)))) (.ite (raise_evolves (State.inc_evolves (State.put_evolves h6))) (.ite (.ite (degradedSync_evolves (unitFailed_evolves h0)) (.ite h0 (.ite h0 (settle_evolves (unitBack_evolves h0))))) h0))))))))

/-! ### Bringup -/

theorem endStep_evolves {s0 s : State} {a0} (h : Evolves s0 s) : Evolves s0 (endStep a0 s) := by
  unfold endStep
  exact State.put_evolves h

theorem measure_evolves {s0 s : State} {a0 a1} (h : Evolves s0 s) : Evolves s0 (measure a0 a1 s) := by
  unfold measure
  exact State.put_evolves h

theorem bootStep_evolves {s0 s : State} {a0} (h : Evolves s0 s) : Evolves s0 (bootStep a0 s) := by
  unfold bootStep
  extract_lets -merge -underBinder x0 x1 x2
  have h0 : Evolves s0 x0 := (measure_evolves h)
  clear_value x0 x1
  have h2 : Evolves s0 x2 := (State.put_evolves h0)
  clear_value x2
  exact .ite (measure_evolves (State.put_evolves h0)) (.ite (measure_evolves (raise_evolves (State.put_evolves (State.inc_evolves h2)))) (enterRecovery_evolves (raise_evolves h2)))

theorem loadField_evolves {s0 s : State} {a0} (h : Evolves s0 s) : Evolves s0 (loadField a0 s) := by
  unfold loadField
  split
  · exact h
  · split
    · exact State.put_evolves h
    · exact h

theorem loadUnit_evolves {s0 s : State} {a0} (h : Evolves s0 s) : Evolves s0 (loadUnit a0 s) := by
  unfold loadUnit
  extract_lets -merge -underBinder x0
  clear_value x0
  exact .ite (State.put_evolves (State.put_evolves h)) (State.put_evolves h)

theorem loadMapOuts_evolves {s0 s : State} (h : Evolves s0 s) : Evolves s0 (loadMapOuts s) := by
  unfold loadMapOuts
  extract_lets -merge -underBinder x0 x2 x4
  have h0 : Evolves s0 x0 := (.foldl h (fun _ _ h1 => (State.put_evolves h1)))
  clear_value x0
  have h2 : Evolves s0 x2 := (.foldl h0 (fun _ _ h3 => (State.put_evolves h3)))
  clear_value x2
  have h4 : Evolves s0 x4 := (.foldl h2 (fun _ _ h5 => (mapOutJoiner_evolves h5)))
  clear_value x4
  exact .foldl h4 (fun _ _ h6 => (State.put_evolves (State.put_evolves (State.put_evolves h6))))

theorem loadReaches_evolves {s0 s : State} (h : Evolves s0 s) : Evolves s0 (loadReaches s) := by
  unfold loadReaches
  extract_lets -merge -underBinder x0
  have h0 : Evolves s0 x0 := (.foldl (State.onTir_evolves h) (fun _ _ h1 => (loadField_evolves h1)))
  clear_value x0
  exact .foldl h0 (fun _ _ h2 => (.ite (State.put_evolves h2) h2))

theorem countCycle_evolves {s0 s : State} (h : Evolves s0 s) : Evolves s0 (countCycle s) := by
  unfold countCycle
  split
  · exact h
  · extract_lets -merge -underBinder x2 x3
    clear_value x2
    have h3 : Evolves s0 x3 := (State.onStore_evolves h)
    clear_value x3
    exact State.onEvr_evolves h3

theorem recordsStep_evolves {s0 s : State} {a0} (h : Evolves s0 s) : Evolves s0 (recordsStep a0 s) := by
  unfold recordsStep
  extract_lets -merge -underBinder x0 x2 x4 x5 x6 x8 x9
  have h0 : Evolves s0 x0 := (.foldl h (fun _ _ h1 => (loadField_evolves h1)))
  clear_value x0
  have h2 : Evolves s0 x2 := (.foldl h0 (fun _ _ h3 => (loadUnit_evolves h3)))
  clear_value x2
  have h4 : Evolves s0 x4 := (loadReaches_evolves (loadMapOuts_evolves h2))
  clear_value x4
  have h5 : Evolves s0 x5 := (State.put_evolves (State.put_evolves (State.put_evolves h4)))
  clear_value x5
  have h6 : Evolves s0 x6 := (.foldl h5 (fun _ _ h7 => (.ite h7 (State.put_evolves h7))))
  clear_value x6
  have h8 : Evolves s0 x8 := (State.put_evolves h6)
  clear_value x8
  have h9 : Evolves s0 x9 := (jrnlSync_evolves (storeSync_evolves (spillwaySync_evolves (State.put_evolves (State.put_evolves h8)))))
  clear_value x9
  exact hgSync_evolves (resizeCistern_evolves (measure_evolves (countCycle_evolves h9)))

theorem joineryStep_evolves {s0 s : State} {a0} (h : Evolves s0 s) : Evolves s0 (joineryStep a0 s) := by
  unfold joineryStep
  exact .ite (raise_evolves h) (.foldl h (fun _ _ h0 => (State.put_evolves (beginLoad_evolves h0))))

theorem joinerStep_evolves {s0 s : State} {a0} (h : Evolves s0 s) : Evolves s0 (joinerStep a0 s) := by
  unfold joinerStep
  exact .foldl h (fun _ _ h0 => (raise_evolves (mapOutJoiner_evolves (State.addSat_evolves h0))))

theorem coreStep_evolves {s0 s : State} {a0} (h : Evolves s0 s) : Evolves s0 (coreStep a0 s) := by
  unfold coreStep
  extract_lets -merge -underBinder x0 x2
  have h0 : Evolves s0 x0 := (.foldl h (fun _ _ h1 => (mapCoreOut_evolves h1)))
  clear_value x0
  have h2 : Evolves s0 x2 := (coreSync_evolves h0)
  clear_value x2
  exact .ite (enterRecovery_evolves (raise_evolves h2)) h2

theorem footingFound_evolves {s0 s : State} {a0} (h : Evolves s0 s) : Evolves s0 (footingFound a0 s) := by
  unfold footingFound
  extract_lets -merge -underBinder x0 x2 x4
  have h0 : Evolves s0 x0 := (.foldl h (fun _ _ h1 => (State.put_evolves h1)))
  clear_value x0
  have h2 : Evolves s0 x2 := (.foldl h0 (fun _ _ h3 => (.ite (State.put_evolves (State.put_evolves (State.put_evolves h3))) h3)))
  clear_value x2
  have h4 : Evolves s0 x4 := (.foldl h2 (fun _ _ h5 => (raise_evolves (State.put_evolves (State.put_evolves h5)))))
  clear_value x4
  exact (.foldl h4 (fun _ _ h6 => (by
      extract_lets -merge -underBinder x7
      have h7 : Evolves s0 x7 := (raise_evolves (sluiceFailed_evolves h6))
      clear_value x7
      exact (.ite h7 (boardAbsent_evolves h7)))))

theorem placeCistern_evolves {s0 s : State} (h : Evolves s0 s) : Evolves s0 (placeCistern s) := by
  unfold placeCistern
  extract_lets -merge -underBinder x0 x1 x2
  clear_value x0 x1 x2
  exact .ite h (State.onCis_evolves h)

theorem checkerStep_evolves {s0 s : State} {a0} (h : Evolves s0 s) : Evolves s0 (checkerStep a0 s) := by
  unfold checkerStep
  extract_lets -merge -underBinder x0 x3 x4 x5 x6 x8 x10 x12 x14 x16 x17
  have h0 : Evolves s0 x0 := (.foldl h (fun _ _ h1 => (by
        extract_lets -merge -underBinder x2
        clear_value x2
        exact (State.put_evolves (State.put_evolves (State.put_evolves h1))))))
  clear_value x0
  have h3 : Evolves s0 x3 := (State.put_evolves (State.put_evolves h0))
  clear_value x3
  have h4 : Evolves s0 x4 := (State.put_evolves (State.put_evolves h3))
  clear_value x4
  have h5 : Evolves s0 x5 := (State.put_evolves h4)
  clear_value x5
  have h6 : Evolves s0 x6 := (.foldl h5 (fun _ _ h7 => (raise_evolves (unitFault_evolves h7))))
  clear_value x6
  have h8 : Evolves s0 x8 := (.foldl h6 (fun _ _ h9 => (State.put_evolves h9)))
  clear_value x8
  have h10 : Evolves s0 x10 := (.foldl h8 (fun _ _ h11 => (raise_evolves (unitFault_evolves h11))))
  clear_value x10
  have h12 : Evolves s0 x12 := (.foldl h10 (fun _ _ h13 => (trained_evolves h13)))
  clear_value x12
  have h14 : Evolves s0 x14 := (.foldl h12 (fun _ _ h15 => (raise_evolves h15)))
  clear_value x14
  have h16 : Evolves s0 x16 := (.ite (raise_evolves h14) h14)
  clear_value x16
  have h17 : Evolves s0 x17 := (placeCistern_evolves (footingFound_evolves h16))
  clear_value x17
  exact .ite (enterRecovery_evolves h17) h17

theorem benchStep_evolves {s0 s : State} {a0} (h : Evolves s0 s) : Evolves s0 (benchStep a0 s) := by
  unfold benchStep
  extract_lets -merge -underBinder x0
  have h0 : Evolves s0 x0 := (State.put_evolves h)
  clear_value x0
  exact .foldl h0 (fun _ _ h1 => (.ite (raise_evolves (raise_evolves (State.put_evolves h1))) (State.put_evolves (State.put_evolves (State.put_evolves h1)))))

theorem initSync_evolves {s0 s : State} (h : Evolves s0 s) : Evolves s0 (initSync s) := by
  unfold initSync
  exact State.put_evolves h

theorem lineEnd_evolves {s0 s : State} (h : Evolves s0 s) : Evolves s0 (lineEnd s) := by
  unfold lineEnd
  extract_lets -merge -underBinder x0 x1 x2 x3 x4 x5
  have h0 : Evolves s0 x0 := (joinersPut_evolves h)
  clear_value x0 x1 x2
  have h3 : Evolves s0 x3 := (State.put_evolves (State.put_evolves h0))
  clear_value x3
  have h4 : Evolves s0 x4 := (setBlock_evolves (degradedSync_evolves (.ite (raise_evolves h3) h3)))
  clear_value x4
  have h5 : Evolves s0 x5 := (State.put_evolves (State.put_evolves h4))
  clear_value x5
  exact .ite (enterRecovery_evolves (raise_evolves h3)) (initSync_evolves (.foldl h5 (fun _ _ h6 => (hgRequest_evolves h6))))

theorem execLoftStackSwept_evolves {s0 s : State} {a0} (h : Evolves s0 s) : OutEvolves s0 (execLoftStackSwept a0 s) := by
  unfold execLoftStackSwept
  exact (onUp_evolves h (fun _ h0 => (by
      extract_lets -merge -underBinder x1
      have h1 : Evolves s0 x1 := (State.put_evolves h0)
      clear_value x1
      exact (.ite h0 (settle_evolves (poolSync_evolves (initSync_evolves (hgReturn_evolves h1))))))))

theorem execFloorChannelSwept_evolves {s0 s : State} {a0} (h : Evolves s0 s) : OutEvolves s0 (execFloorChannelSwept a0 s) := by
  unfold execFloorChannelSwept
  exact (onUp_evolves h (fun _ h0 => (by
      extract_lets -merge -underBinder x1 x2
      have h1 : Evolves s0 x1 := (State.put_evolves h0)
      clear_value x1
      have h2 : Evolves s0 x2 := (settle_evolves (poolSync_evolves (initSync_evolves (hgReturn_evolves h1))))
      clear_value x2
      exact (.ite h0 (.ite (raise_evolves (State.put_evolves h2)) h2)))))

theorem startFloor_evolves {s0 s : State} (h : Evolves s0 s) : Evolves s0 (startFloor s) := by
  unfold startFloor
  exact initSync_evolves (.foldl (State.put_evolves h) (fun _ _ h0 => (hgRequest_evolves h0)))

theorem takeSlotAt_evolves {s0 s : State} {a0} (h : Evolves s0 s) : Evolves s0 (takeSlotAt a0 s) := by
  unfold takeSlotAt
  exact eraseSlot_evolves (State.onMed_evolves h)

theorem numberLog_evolves {s0 s : State} {a0} (h : Evolves s0 s) : Evolves s0 (numberLog a0 s) := by
  unfold numberLog
  extract_lets -merge -underBinder x0 x1
  clear_value x0 x1
  split
  · exact evrSync_evolves h
  · extract_lets -merge -underBinder x4 x5
    clear_value x4 x5
    exact evrSync_evolves (State.add_evolves (State.onEvr_evolves h))

theorem restoreTime_evolves {s0 s : State} {a0} (h : Evolves s0 s) : Evolves s0 (restoreTime a0 s) := by
  unfold restoreTime
  extract_lets -merge -underBinder x0 x1
  clear_value x0
  have h1 : Evolves s0 x1 := (State.onEvr_evolves h)
  clear_value x1
  exact .ite h (State.onPwr_evolves (State.onStore_evolves h1))

theorem restoreImage_evolves {s0 s : State} {a0} (h : Evolves s0 s) : Evolves s0 (restoreImage a0 s) := by
  unfold restoreImage
  extract_lets -merge -underBinder x0 x1 x2 x3 x4 x5
  clear_value x0
  have h1 : Evolves s0 x1 := (State.onCis_evolves h)
  clear_value x1
  have h2 : Evolves s0 x2 := (State.put_evolves (State.put_evolves h1))
  clear_value x2
  have h3 : Evolves s0 x3 := (State.onTwn_evolves h2)
  clear_value x3
  have h4 : Evolves s0 x4 := (State.onStore_evolves h3)
  clear_value x4
  have h5 : Evolves s0 x5 := (State.put_evolves (State.put_evolves (State.put_evolves h4)))
  clear_value x5
  exact admitSync_evolves (cubSync_evolves (setGen_evolves h5))

theorem restoreNothing_evolves {s0 s : State} {a0} (h : Evolves s0 s) : Evolves s0 (restoreNothing a0 s) := by
  unfold restoreNothing
  exact (.foldl h (fun _ _ h0 => (by
      extract_lets -merge -underBinder x1
      clear_value x1
      exact (.ite h0 (State.onCis_evolves (State.put_evolves h0))))))

theorem restoreStep_evolves {s0 s : State} {a0} (h : Evolves s0 s) : Evolves s0 (restoreStep a0 s) := by
  unfold restoreStep
  extract_lets -merge -underBinder x0 x1 x2 x3 x7 x8
  clear_value x0 x1 x2
  have h3 : Evolves s0 x3 := (by
      unfold x3
      split
      · exact .ite (restoreImage_evolves (takeSlotAt_evolves h)) (takeSlotAt_evolves h)
      · exact h)
  clear_value x3 x7
  have h8 : Evolves s0 x8 := (restoreTime_evolves (numberLog_evolves h3))
  clear_value x8
  exact .ite (State.inc_evolves (State.put_evolves h8)) (.ite (State.put_evolves (restoreNothing_evolves h8)) (raise_evolves (State.inc_evolves (State.put_evolves (restoreNothing_evolves h8)))))

theorem translationStep_evolves {s0 s : State} (h : Evolves s0 s) : Evolves s0 (translationStep s) := by
  unfold translationStep
  extract_lets -merge -underBinder x0 x1
  have h0 : Evolves s0 x0 := (State.onTir_evolves h)
  clear_value x0
  have h1 : Evolves s0 x1 := (stripeSync_evolves (State.put_evolves h0))
  clear_value x1
  exact poolSync_evolves (State.put_evolves (State.put_evolves h1))

theorem replayXlates_evolves {s0 s : State} (h : Evolves s0 s) : Evolves s0 (replayXlates s) := by
  unfold replayXlates
  extract_lets -merge -underBinder x0 x1 x2 x3
  clear_value x0 x1
  have h2 : Evolves s0 x2 := (State.onCis_evolves h)
  clear_value x2 x3
  exact tailSync_evolves (.foldl h2 (fun _ _ h4 => (State.onTir_evolves h4)))

theorem rebuildDirectory_evolves {s0 s : State} (h : Evolves s0 s) : Evolves s0 (rebuildDirectory s) := by
  unfold rebuildDirectory
  exact (.foldl h (fun _ _ h0 => (by
      extract_lets -merge -underBinder x1
      have h1 : Evolves s0 x1 := (modGran_evolves h0)
      clear_value x1
      split
      · exact installLines_evolves h1
      · exact h1)))

theorem replayBad_evolves {s0 s : State} {a0} (h : Evolves s0 s) : Evolves s0 (replayBad a0 s) := by
  unfold replayBad
  extract_lets -merge -underBinder x0 x1
  clear_value x1
  exact .ite (.foldl (State.onCis_evolves h) (fun _ _ h2 => (raise_evolves (.foldl h2 (fun _ _ h3 => (setPoison_evolves h3)))))) (State.onCis_evolves h)

theorem replayRec_evolves {s0 s : State} {a0} (h : Evolves s0 s) : OptEvolves s0 (replayRec a0 s) := by
  unfold replayRec
  extract_lets -merge -underBinder x0 x1
  clear_value x0
  have h1 : OptEvolves s0 x1 := (by
      unfold x1
      split
      · exact h
      · exact (allocFloor_evolves h))
  clear_value x1
  exact OptEvolves.map h1 (fun _ h2 => (modRec_evolves (.foldl (modGran_evolves h2) (fun _ _ h3 => (applyLine_evolves h3)))))

theorem replayReach_evolves {s0 s : State} {a0} (h : Evolves s0 s) : Evolves s0 (replayReach a0 s) := by
  unfold replayReach
  extract_lets -merge -underBinder x0 x1 x2
  clear_value x0
  have h2 : Evolves s0 x2 := (.ite (provisionReach_evolves h) (.ite (releaseReach_evolves h) (.ite (State.put_evolves (State.put_evolves h)) h)))
  clear_value x2
  exact modRec_evolves h2

theorem replayAll_evolves {s0 : State} : ∀ {rs : List Rec} {s : State}, Evolves s0 s → OptEvolves s0 (replayAll rs s)
  | [], _, h => h
  | r :: rs, s, h => by
    unfold replayAll
    extract_lets x0 x1
    have h1 : Evolves s0 x1 := modRec_evolves h
    clear_value x1
    split
    · exact replayAll_evolves h
    · split
      · have g := replayRec_evolves (a0 := r) h
        split
        · trivial
        · rename_i y hq
          rw [hq] at g
          exact replayAll_evolves (.ite (advance_evolves g) g)
      · split
        · exact replayAll_evolves (.ite (advance_evolves h1) h1)
        · split
          · exact replayAll_evolves (replayReach_evolves h)
          · exact replayAll_evolves h

theorem replayStep_evolves {s0 s : State} {a0} (h : Evolves s0 s) : OptEvolves s0 (replayStep a0 s) := by
  unfold replayStep
  extract_lets -merge -underBinder x0 x1 x2 x3
  have h0 : Evolves s0 x0 := (replayBad_evolves (rebuildDirectory_evolves (replayXlates_evolves h)))
  clear_value x0
  have h1 : Evolves s0 x1 := (State.onCis_evolves h0)
  clear_value x1 x2
  have h3 : Evolves s0 x3 := (.foldl h1 (fun _ _ h4 => (modGran_evolves h4)))
  clear_value x3
  exact OptEvolves.map (replayAll_evolves h3) (fun _ h5 => (admitSync_evolves (freeSegments_evolves (poolSync_evolves h5))))

theorem blockSync_evolves {s0 s : State} (h : Evolves s0 s) : Evolves s0 (blockSync s) := by
  unfold blockSync
  extract_lets -merge -underBinder x0 x1 x2 x3 x4
  have h0 : Evolves s0 x0 := (setBlock_evolves h)
  clear_value x0
  have h1 : Evolves s0 x1 := (setBlock_evolves h0)
  clear_value x1
  have h2 : Evolves s0 x2 := (setBlock_evolves h1)
  clear_value x2
  have h3 : Evolves s0 x3 := (setBlock_evolves h2)
  clear_value x3
  have h4 : Evolves s0 x4 := (setBlock_evolves h3)
  clear_value x4
  exact setBlock_evolves (setBlock_evolves h4)

theorem bringupDone_evolves {s0 s : State} (h : Evolves s0 s) : Evolves s0 (bringupDone s) := by
  unfold bringupDone
  extract_lets -merge -underBinder x0 x1 x2 x3 x4
  have h0 : Evolves s0 x0 := (State.inc_evolves (setMode_evolves (endStep_evolves (State.put_evolves h))))
  clear_value x0 x1
  have h2 : Evolves s0 x2 := (.ite (raise_evolves (raise_evolves h0)) h0)
  clear_value x2
  have h3 : Evolves s0 x3 := (blockSync_evolves (raise_evolves h2))
  clear_value x3 x4
  exact .ite (enterServing_evolves h3) (.ite (setPair_evolves h3) h3)

theorem stepWork_evolves {s0 s : State} {a0 a1 a2} (h : Evolves s0 s) : OptEvolves s0 (stepWork a0 a1 a2 s) := by
  unfold stepWork
  split
  · exact bootStep_evolves h
  · split
    · exact recordsStep_evolves h
    · split
      · exact joineryStep_evolves h
      · split
        · exact joinerStep_evolves h
        · split
          · exact coreStep_evolves h
          · split
            · exact checkerStep_evolves h
            · split
              · exact benchStep_evolves h
              · split
                · split
                  · exact startYard_evolves (poolSync_evolves h)
                  · exact trivial
                · split
                  · exact startFloor_evolves (restoreStep_evolves h)
                  · split
                    · exact translationStep_evolves h
                    · exact replayStep_evolves h

theorem execBringupStepEnd_evolves {s0 s : State} {a0 a1 a2} (h : Evolves s0 s) : OutEvolves s0 (execBringupStepEnd a0 a1 a2 s) := by
  unfold execBringupStepEnd
  exact (onUp_evolves h (fun _ h0 => (.ite h0 (by
        split
        · exact h0
        · rename_i y2 hq
          have g2 : Evolves s0 y2 := .of_some hq (stepWork_evolves h0)
          extract_lets -merge -underBinder x3 x4
          have h3 : Evolves s0 x3 := (endStep_evolves g2)
          clear_value x3
          have h4 : Evolves s0 x4 := (lineEnd_evolves h3)
          clear_value x4
          exact (.ite (State.put_evolves h3) (.ite (.ite (State.put_evolves h4) h4) (.ite (bringupDone_evolves h3) h3)))))))

/-! ### Modes -/

theorem callReset_evolves {s0 s : State} {a0 a1} (h : Evolves s0 s) : Evolves s0 (callReset a0 a1 s) := by
  unfold callReset
  exact .ite (preReset_evolves h) (moduleReset_evolves h)

theorem resetAfterSpill_evolves {s0 s : State} {a0 a1 a2} (h : Evolves s0 s) : Evolves s0 (resetAfterSpill a0 a1 a2 s) := by
  unfold resetAfterSpill
  exact State.onPwr_evolves h

theorem execModResetNAssert_evolves {s0 s : State} (h : Evolves s0 s) : OutEvolves s0 (execModResetNAssert s) := by
  unfold execModResetNAssert
  extract_lets -merge -underBinder x0
  have h0 : Evolves s0 x0 := (State.put_evolves h)
  clear_value x0
  exact (.ite h (.ite (moduleReset_evolves h0) (by
        split
        · exact .ite h0 (resetAfterSpill_evolves h0)
        · exact (.ite h0 (callReset_evolves h0)))))

theorem execModuleResetRelease_evolves {s0 s : State} (h : Evolves s0 s) : OutEvolves s0 (execModuleResetRelease s) := by
  unfold execModuleResetRelease
  exact (onLive_evolves h (fun _ h0 => (by
      split
      · exact h0
      · extract_lets -merge -underBinder x3
        have h3 : Evolves s0 x3 := (State.put_evolves h0)
        clear_value x3
        exact (.ite h0 (.ite (enterBringup_evolves h3) (.ite (enterRecovery_evolves h3) (State.onPwr_evolves h3)))))))

theorem execReset_evolves {s0 s : State} {a0} (h : Evolves s0 s) : OutEvolves s0 (execReset a0 s) := by
  unfold execReset
  exact (onCmd_evolves h (fun _ h0 => (by
      extract_lets -merge -underBinder x1
      clear_value x1
      exact (.ite (refuse_evolves h0) (.ite (refuse_evolves h0) (complete_evolves (State.onPwr_evolves h0)))))))

theorem execResetApply_evolves {s0 s : State} (h : Evolves s0 s) : OutEvolves s0 (execResetApply s) := by
  unfold execResetApply
  exact (onLive_evolves h (fun _ h0 => (by
      split
      · exact h0
      · extract_lets -merge -underBinder x3
        have h3 : Evolves s0 x3 := (State.onPwr_evolves h0)
        clear_value x3
        split
        · exact .ite h3 (resetAfterSpill_evolves h3)
        · exact (callReset_evolves h3))))

theorem execPreResetSpillLimit_evolves {s0 s : State} (h : Evolves s0 s) : OutEvolves s0 (execPreResetSpillLimit s) := by
  unfold execPreResetSpillLimit
  exact (onLive_evolves h (fun _ h0 => (by
      split
      · exact h0
      · exact (.ite h0 (applyAfter_evolves (State.onMed_evolves h0))))))

theorem execModCtlStart_evolves {s0 s : State} {a0} (h : Evolves s0 s) : OutEvolves s0 (execModCtlStart a0 s) := by
  unfold execModCtlStart
  exact onLive_evolves h (fun _ h0 => (.ite (pulseWrite_evolves h0 (.ite (enterBringup_evolves h0) h0)) (.ite h0 (discardBelow_evolves h0))))

theorem quiesce_evolves {s0 s : State} (h : Evolves s0 s) : Evolves s0 (quiesce s) := by
  unfold quiesce
  exact admitAll_evolves (settle_evolves (setMode_evolves h))

theorem execModeRequest_evolves {s0 s : State} {a0} (h : Evolves s0 s) : OutEvolves s0 (execModeRequest a0 s) := by
  unfold execModeRequest
  exact (onCmd_evolves h (fun _ h0 => (by
      extract_lets -merge -underBinder x1 x2 x3
      clear_value x1
      have h2 : Evolves s0 x2 := (quiesce_evolves h0)
      clear_value x2
      have h3 : Evolves s0 x3 := (State.onPwr_evolves h0)
      clear_value x3
      exact (.ite (refuse_evolves h0) (.ite (.ite (complete_evolves h0) (.ite (complete_evolves h2) (.ite (refuse_evolves h0) (refuse_evolves h0)))) (.ite (.ite (refuse_evolves h0) (.ite (preReset_evolves h3) (enterRecovery_evolves h3))) (refuse_evolves h0)))))))

theorem execServeEntryUnblocked_evolves {s0 s : State} (h : Evolves s0 s) : OutEvolves s0 (execServeEntryUnblocked s) := by
  unfold execServeEntryUnblocked
  exact (onUp_evolves h (fun _ h0 => (by
      split
      · exact .ite (arrive_evolves h0) h0
      · exact h0)))

end Sys2Proof.Machine
end

