-- ==== Sys2Proof/Laws/Mailboxes.lean ====
section
/-!
SUPPORT. Sys2Proof/Laws/Mailboxes.lean: what completing a mailbox command can do (R441 to R447): the mailbox stands COMPLETE with its status, and only mailbox
state, GLB_DISCRETES and the messages sent differ.
-/
set_option Elab.async false

namespace Sys2Proof.Machine

open Sys2Proof

/-- The keys a completion writes: the MBX block, the mailbox headers and GLB_DISCRETES. -/
def mbxKey (k : Nat) : Bool :=
  decide (0x20000 * 512 ≤ k ∧ k < 0x40000 * 512) || decide (0x4000000 * 512 ≤ k) || Reg.GLB_DISCRETES_ALERT_N.key == k

/-- The keys of MBX_STAT and of the two signals of a completion, which are written after the mailbox's own fields. -/
def signalKey (k : Nat) : Bool :=
  decide (0x20300 * 512 ≤ k ∧ k < 0x20400 * 512) || Reg.GLB_DISCRETES_ALERT_N.key == k ||
    (decide (0x20000 * 512 ≤ k ∧ k < 0x20300 * 512) && k % 4096 == (Reg.MBX_STATE_NOTIFY_PENDING 0).key % 4096)

/-- Only registers that `K` names and the messages sent differ. -/
structure SentOnly (K : Nat → Bool) (s t : State) : Prop where
  rest : t = { s with regs := t.regs, sent := t.sent }
  ok   : s.regsOk → t.regsOk
  get  : s.regsOk → ∀ f : Fld, K f.key = false → t.get f = s.get f

namespace SentOnly

variable {K : Nat → Bool} {s t u : State}

theorem refl (s : State) : SentOnly K s s := { rest := rfl, ok := id, get := fun _ _ _ => rfl }

theorem trans (h : SentOnly K s t) (k : SentOnly K t u) : SentOnly K s u :=
  { rest := by rw [k.rest, h.rest], ok := fun r => k.ok (h.ok r), get := fun r f hf => (k.get (h.ok r) f hf).trans (h.get r f hf) }

theorem put {f : Fld} {v : Nat} (hf : K f.key = true) : SentOnly K s (s.put f v) :=
  { rest := rfl, ok := put_regsOk, get := fun r g hg => get_put_other r (fun e => by rw [e, hf] at hg; cases hg) }

theorem send {m : Msg} : SentOnly K s (s.send m) := { rest := rfl, ok := id, get := fun _ _ _ => rfl }

end SentOnly

theorem statKey (k : Nat) (h : k < 8) : signalKey (Reg.MBX_STAT_COUNT k).key = true := by
  have e : (Reg.MBX_STAT_COUNT k).key = (0x20300 + 0x8 * k) * 512 + 0 := rfl
  rw [signalKey, e, decide_eq_true (p := 0x20300 * 512 ≤ _ ∧ _) (by omega), Bool.true_or, Bool.true_or]

theorem pendingKey (m : Nat) (h : m < 40) : signalKey (Reg.MBX_STATE_NOTIFY_PENDING m).key = true := by
  have e : (Reg.MBX_STATE_NOTIFY_PENDING m).key = (0x20000 + 0x8 * m) * 512 + 6 := rfl
  have z : (Reg.MBX_STATE_NOTIFY_PENDING 0).key = 0x20000 * 512 + 6 := rfl
  have p : (((0x20000 + 0x8 * m) * 512 + 6) % 4096 == (0x20000 * 512 + 6) % 4096) = true := by
    rw [beq_iff_eq]
    omega
  rw [signalKey, e, z, p, decide_eq_true (p := 0x20000 * 512 ≤ _ ∧ _) (by omega), Bool.and_self, Bool.or_true]

theorem countCompletion_sentOnly (st : St) (b : Bool) (s : State) : SentOnly signalKey s (countCompletion st b s) := by
  unfold countCompletion
  split
  · exact .put (statKey 1 (by decide))
  · split
    · exact .put (statKey 3 (by decide))
    · exact .put (statKey 4 (by decide))
  · exact (SentOnly.put (statKey 2 (by decide))).trans (.put (statKey 6 (by decide)))
  · exact .put (statKey 2 (by decide))

theorem notify_sentOnly (m : Nat) (s : State) : SentOnly signalKey s (notify m s) := by
  unfold notify
  split
  · exact .refl s
  · split
    · rename_i h
      split
      · exact SentOnly.send.trans (.put (pendingKey m (by omega)))
      · exact .refl s
    · split
      · rename_i h
        exact SentOnly.send.trans ((SentOnly.put (by decide)).trans (.put (pendingKey m (by omega))))
      · exact .refl s

theorem stateKey (m : Nat) (h : m < 40) : signalKey (Reg.MBX_STATE_STATE m).key = false := by
  have e : (Reg.MBX_STATE_STATE m).key = (0x20000 + 0x8 * m) * 512 + 0 := rfl
  have z : (Reg.MBX_STATE_NOTIFY_PENDING 0).key = 0x20000 * 512 + 6 := rfl
  have g : Reg.GLB_DISCRETES_ALERT_N.key = 0x300A := rfl
  have p : (((0x20000 + 0x8 * m) * 512 + 0) % 4096 == (0x20000 * 512 + 6) % 4096) = false := by
    rw [beq_eq_false_iff_ne]
    omega
  have q : (0x300A == (0x20000 + 0x8 * m) * 512 + 0) = false := by
    rw [beq_eq_false_iff_ne]
    omega
  rw [signalKey, e, z, g, p, q, decide_eq_false (p := 0x20300 * 512 ≤ _ ∧ _) (by omega), Bool.and_false, Bool.or_false, Bool.or_false]

theorem statusKey (m : Nat) (h : m < 40) : signalKey (Reg.MBX_STATE_STATUS m).key = false := by
  have e : (Reg.MBX_STATE_STATUS m).key = (0x20000 + 0x8 * m) * 512 + 32 := rfl
  have z : (Reg.MBX_STATE_NOTIFY_PENDING 0).key = 0x20000 * 512 + 6 := rfl
  have g : Reg.GLB_DISCRETES_ALERT_N.key = 0x300A := rfl
  have p : (((0x20000 + 0x8 * m) * 512 + 32) % 4096 == (0x20000 * 512 + 6) % 4096) = false := by
    rw [beq_eq_false_iff_ne]
    omega
  have q : (0x300A == (0x20000 + 0x8 * m) * 512 + 32) = false := by
    rw [beq_eq_false_iff_ne]
    omega
  rw [signalKey, e, z, g, p, q, decide_eq_false (p := 0x20300 * 512 ≤ _ ∧ _) (by omega), Bool.and_false, Bool.or_false, Bool.or_false]

/-- A completed mailbox stands COMPLETE and shows its status (R443). -/
theorem completeW_state {m : Nat} {st : St} {retry detail : Nat} {b : Bool} {resp : List Byte} {s : State} (h : s.regsOk) (hm : m < 40) :
    (completeW m st retry detail b resp s).get (Reg.MBX_STATE_STATE m) = 3 ∧
      (completeW m st retry detail b resp s).get (Reg.MBX_STATE_STATUS m) = st.code := by
  have hc : st.code % 2 ^ 16 = st.code := by cases st <;> rfl
  unfold completeW
  extract_lets -merge -underBinder x s1 s2 s3 s4
  have k1 : s1.regsOk := h
  have k2 : s2.regsOk := put_regsOk (put_regsOk (put_regsOk (put_regsOk k1)))
  have k3 : s3.regsOk := put_regsOk (put_regsOk k2)
  have k4 : s4.regsOk := put_regsOk (put_regsOk (put_regsOk k3))
  have c := (countCompletion_sentOnly st b s4).trans (notify_sentOnly m _)
  rw [c.get k4 _ (stateKey m hm), c.get k4 _ (statusKey m hm)]
  constructor
  · refine (get_put_other (put_regsOk (put_regsOk k3)) ?_).trans ((get_put_other (put_regsOk k3) ?_).trans (get_put_same k3))
    · simp only [Reg.MBX_STATE_STATE, Reg.MBX_STATE_RESPONDER]; omega
    · simp only [Reg.MBX_STATE_STATE, Reg.MBX_STATE_STATUS]; omega
  · refine (get_put_other (put_regsOk (put_regsOk k3)) ?_).trans ((get_put_same (put_regsOk k3)).trans hc)
    simp only [Reg.MBX_STATE_STATUS, Reg.MBX_STATE_RESPONDER]; omega

/-- A command that completes leaves its mailbox COMPLETE with status DONE. -/
theorem complete_state {m : Nat} {resp : List Byte} {s : State} (h : s.regsOk) (hm : m < 40) :
    (complete m resp s).get (Reg.MBX_STATE_STATE m) = 3 ∧ (complete m resp s).get (Reg.MBX_STATE_STATUS m) = 0 :=
  completeW_state h hm

/-- A refused command leaves its mailbox COMPLETE with the refusal's status. -/
theorem refuse_state {m : Nat} {st : St} {detail : Nat} {s : State} (h : s.regsOk) (hm : m < 40) :
    (refuse m st detail s).get (Reg.MBX_STATE_STATE m) = 3 ∧ (refuse m st detail s).get (Reg.MBX_STATE_STATUS m) = st.code :=
  completeW_state h hm

/-- Completing changes mailbox state, registers and the messages sent, and nothing else. -/
theorem completeW_rest (m : Nat) (st : St) (retry detail : Nat) (b : Bool) (resp : List Byte) (s : State) :
    ∃ x r k, completeW m st retry detail b resp s = { s with mbx := x, regs := r, sent := k } := by
  unfold completeW
  exact ⟨_, _, _, ((countCompletion_sentOnly st b _).trans (notify_sentOnly m _)).rest⟩

/-- What a completion does to the mailboxes: the response payload is written, the command neither waits nor runs any more. -/
theorem completeW_mbx (m : Nat) (st : St) (retry detail : Nat) (b : Bool) (resp : List Byte) (s : State) :
    (completeW m st retry detail b resp s).mbx = { s.mbx with payload := writeBytes (m * 4096) resp s.mbx.payload, running := s.mbx.running.filter (· != m), queue := s.mbx.queue.filter (· != m) } := by
  unfold completeW
  extract_lets -merge -underBinder x s1 s2 s3 s4
  rw [((countCompletion_sentOnly st b s4).trans (notify_sentOnly m _)).rest]
  rfl

/-- A completed command does not wait in the queue. -/
theorem completeW_queue (m : Nat) (st : St) (retry detail : Nat) (b : Bool) (resp : List Byte) (s : State) :
    m ∉ (completeW m st retry detail b resp s).mbx.queue := by
  rw [completeW_mbx]
  simp

/-- A completed command does not run. -/
theorem completeW_running (m : Nat) (st : St) (retry detail : Nat) (b : Bool) (resp : List Byte) (s : State) :
    m ∉ (completeW m st retry detail b resp s).mbx.running := by
  rw [completeW_mbx]
  simp

theorem completeW_regsOk {m : Nat} {st : St} {retry detail : Nat} {b : Bool} {resp : List Byte} {s : State} (h : s.regsOk) :
    (completeW m st retry detail b resp s).regsOk := by
  unfold completeW
  extract_lets -merge -underBinder x s1 s2 s3 s4
  exact ((countCompletion_sentOnly st b s4).trans (notify_sentOnly m _)).ok
    (put_regsOk (put_regsOk (put_regsOk (put_regsOk (put_regsOk (put_regsOk (put_regsOk (put_regsOk (put_regsOk h)))))))))

section
variable (m : Nat) (st : St) (retry detail : Nat) (b : Bool) (resp : List Byte) (s : State)

@[simp] theorem completeW_pwr : (completeW m st retry detail b resp s).pwr = s.pwr := by
  obtain ⟨x, r, k, e⟩ := completeW_rest m st retry detail b resp s
  rw [e]

@[simp] theorem completeW_evr : (completeW m st retry detail b resp s).evr = s.evr := by
  obtain ⟨x, r, k, e⟩ := completeW_rest m st retry detail b resp s
  rw [e]

@[simp] theorem completeW_store : (completeW m st retry detail b resp s).store = s.store := by
  obtain ⟨x, r, k, e⟩ := completeW_rest m st retry detail b resp s
  rw [e]

@[simp] theorem completeW_sess : (completeW m st retry detail b resp s).sess = s.sess := by
  obtain ⟨x, r, k, e⟩ := completeW_rest m st retry detail b resp s
  rw [e]

@[simp] theorem completeW_fmn : (completeW m st retry detail b resp s).fmn = s.fmn := by
  obtain ⟨x, r, k, e⟩ := completeW_rest m st retry detail b resp s
  rw [e]

@[simp] theorem completeW_frm : (completeW m st retry detail b resp s).frm = s.frm := by
  obtain ⟨x, r, k, e⟩ := completeW_rest m st retry detail b resp s
  rw [e]

@[simp] theorem completeW_jnb : (completeW m st retry detail b resp s).jnb = s.jnb := by
  obtain ⟨x, r, k, e⟩ := completeW_rest m st retry detail b resp s
  rw [e]

@[simp] theorem completeW_cis : (completeW m st retry detail b resp s).cis = s.cis := by
  obtain ⟨x, r, k, e⟩ := completeW_rest m st retry detail b resp s
  rw [e]

@[simp] theorem completeW_tir : (completeW m st retry detail b resp s).tir = s.tir := by
  obtain ⟨x, r, k, e⟩ := completeW_rest m st retry detail b resp s
  rw [e]

@[simp] theorem completeW_win : (completeW m st retry detail b resp s).win = s.win := by
  obtain ⟨x, r, k, e⟩ := completeW_rest m st retry detail b resp s
  rw [e]

@[simp] theorem completeW_hpt : (completeW m st retry detail b resp s).hpt = s.hpt := by
  obtain ⟨x, r, k, e⟩ := completeW_rest m st retry detail b resp s
  rw [e]

@[simp] theorem completeW_rdm : (completeW m st retry detail b resp s).rdm = s.rdm := by
  obtain ⟨x, r, k, e⟩ := completeW_rest m st retry detail b resp s
  rw [e]

@[simp] theorem completeW_yrd : (completeW m st retry detail b resp s).yrd = s.yrd := by
  obtain ⟨x, r, k, e⟩ := completeW_rest m st retry detail b resp s
  rw [e]

@[simp] theorem completeW_cph : (completeW m st retry detail b resp s).cph = s.cph := by
  obtain ⟨x, r, k, e⟩ := completeW_rest m st retry detail b resp s
  rw [e]

@[simp] theorem completeW_med : (completeW m st retry detail b resp s).med = s.med := by
  obtain ⟨x, r, k, e⟩ := completeW_rest m st retry detail b resp s
  rw [e]

@[simp] theorem completeW_twn : (completeW m st retry detail b resp s).twn = s.twn := by
  obtain ⟨x, r, k, e⟩ := completeW_rest m st retry detail b resp s
  rw [e]

@[simp] theorem completeW_fresh : (completeW m st retry detail b resp s).fresh = s.fresh := by
  obtain ⟨x, r, k, e⟩ := completeW_rest m st retry detail b resp s
  rw [e]

@[simp] theorem completeW_pending : (completeW m st retry detail b resp s).pending = s.pending := by
  obtain ⟨x, r, k, e⟩ := completeW_rest m st retry detail b resp s
  rw [e]
@[simp] theorem complete_pwr : (complete m resp s).pwr = s.pwr := completeW_pwr m .done 0 noDetail false resp s
@[simp] theorem complete_evr : (complete m resp s).evr = s.evr := completeW_evr m .done 0 noDetail false resp s
@[simp] theorem complete_store : (complete m resp s).store = s.store := completeW_store m .done 0 noDetail false resp s
@[simp] theorem complete_sess : (complete m resp s).sess = s.sess := completeW_sess m .done 0 noDetail false resp s
@[simp] theorem complete_fmn : (complete m resp s).fmn = s.fmn := completeW_fmn m .done 0 noDetail false resp s
@[simp] theorem complete_frm : (complete m resp s).frm = s.frm := completeW_frm m .done 0 noDetail false resp s
@[simp] theorem complete_jnb : (complete m resp s).jnb = s.jnb := completeW_jnb m .done 0 noDetail false resp s
@[simp] theorem complete_cis : (complete m resp s).cis = s.cis := completeW_cis m .done 0 noDetail false resp s
@[simp] theorem complete_tir : (complete m resp s).tir = s.tir := completeW_tir m .done 0 noDetail false resp s
@[simp] theorem complete_win : (complete m resp s).win = s.win := completeW_win m .done 0 noDetail false resp s
@[simp] theorem complete_hpt : (complete m resp s).hpt = s.hpt := completeW_hpt m .done 0 noDetail false resp s
@[simp] theorem complete_rdm : (complete m resp s).rdm = s.rdm := completeW_rdm m .done 0 noDetail false resp s
@[simp] theorem complete_yrd : (complete m resp s).yrd = s.yrd := completeW_yrd m .done 0 noDetail false resp s
@[simp] theorem complete_cph : (complete m resp s).cph = s.cph := completeW_cph m .done 0 noDetail false resp s
@[simp] theorem complete_med : (complete m resp s).med = s.med := completeW_med m .done 0 noDetail false resp s
@[simp] theorem complete_twn : (complete m resp s).twn = s.twn := completeW_twn m .done 0 noDetail false resp s
@[simp] theorem complete_fresh : (complete m resp s).fresh = s.fresh := completeW_fresh m .done 0 noDetail false resp s
@[simp] theorem complete_pending : (complete m resp s).pending = s.pending := completeW_pending m .done 0 noDetail false resp s
@[simp] theorem refuse_pwr : (refuse m st detail s).pwr = s.pwr := completeW_pwr m st 0 detail false [] s
@[simp] theorem refuse_evr : (refuse m st detail s).evr = s.evr := completeW_evr m st 0 detail false [] s
@[simp] theorem refuse_store : (refuse m st detail s).store = s.store := completeW_store m st 0 detail false [] s
@[simp] theorem refuse_sess : (refuse m st detail s).sess = s.sess := completeW_sess m st 0 detail false [] s
@[simp] theorem refuse_fmn : (refuse m st detail s).fmn = s.fmn := completeW_fmn m st 0 detail false [] s
@[simp] theorem refuse_frm : (refuse m st detail s).frm = s.frm := completeW_frm m st 0 detail false [] s
@[simp] theorem refuse_jnb : (refuse m st detail s).jnb = s.jnb := completeW_jnb m st 0 detail false [] s
@[simp] theorem refuse_cis : (refuse m st detail s).cis = s.cis := completeW_cis m st 0 detail false [] s
@[simp] theorem refuse_tir : (refuse m st detail s).tir = s.tir := completeW_tir m st 0 detail false [] s
@[simp] theorem refuse_win : (refuse m st detail s).win = s.win := completeW_win m st 0 detail false [] s
@[simp] theorem refuse_hpt : (refuse m st detail s).hpt = s.hpt := completeW_hpt m st 0 detail false [] s
@[simp] theorem refuse_rdm : (refuse m st detail s).rdm = s.rdm := completeW_rdm m st 0 detail false [] s
@[simp] theorem refuse_yrd : (refuse m st detail s).yrd = s.yrd := completeW_yrd m st 0 detail false [] s
@[simp] theorem refuse_cph : (refuse m st detail s).cph = s.cph := completeW_cph m st 0 detail false [] s
@[simp] theorem refuse_med : (refuse m st detail s).med = s.med := completeW_med m st 0 detail false [] s
@[simp] theorem refuse_twn : (refuse m st detail s).twn = s.twn := completeW_twn m st 0 detail false [] s
@[simp] theorem refuse_fresh : (refuse m st detail s).fresh = s.fresh := completeW_fresh m st 0 detail false [] s
@[simp] theorem refuse_pending : (refuse m st detail s).pending = s.pending := completeW_pending m st 0 detail false [] s

end

end Sys2Proof.Machine
end

