-- ==== Sys2Proof/Laws/Modes.lean ====
section
/-!
SUPPORT. Sys2Proof/Laws/Modes.lean: which operations leave the mode and the pair state alone, and what entering a mode, entering a pair state and fencing leave in
them (R111, R117, R519).
-/
set_option Elab.async false

namespace Sys2Proof.Machine

open Sys2Proof

/-- The keys of MOD_STATE.MODE and TWN_STATE.PAIR_STATE. -/
def modeKey (k : Nat) : Bool := k == 0x2000000 || k == 0xA8000800

/-- The keys of MOD_STATE.MODE, TWN_STATE.PAIR_STATE and CLK_EPOCH. -/
def clockModeKey (k : Nat) : Bool := modeKey k || k == 0x14000000

theorem modeKey_off {k : Nat} (h : k ≠ 0x2000000) (g : k ≠ 0xA8000800) : modeKey k = false := by
  rw [modeKey, beq_eq_false_iff_ne.mpr h, beq_eq_false_iff_ne.mpr g]
  rfl

theorem clockModeKey_off {k : Nat} (h : k ≠ 0x2000000) (g : k ≠ 0xA8000800) (c : k ≠ 0x14000000) : clockModeKey k = false := by
  rw [clockModeKey, modeKey_off h g, beq_eq_false_iff_ne.mpr c]
  rfl

/-- The fields that `K` names read as before, and the register table stays in order. -/
def Keeps (K : Nat → Bool) (s t : State) : Prop := s.regsOk → t.regsOk ∧ ∀ f : Fld, K f.key = true → t.get f = s.get f

/-- The mode and the pair state read as before. -/
abbrev KeepsMode (s t : State) : Prop := Keeps modeKey s t

/-- The mode, the pair state and the epoch read as before. -/
abbrev KeepsClock (s t : State) : Prop := Keeps clockModeKey s t

namespace Keeps

variable {K : Nat → Bool} {s t u : State}

theorem refl (s : State) : Keeps K s s := fun h => ⟨h, fun _ _ => rfl⟩

theorem trans (h : Keeps K s t) (k : Keeps K t u) : Keeps K s u := fun r =>
  have a := h r
  have b := k a.1
  ⟨b.1, fun f hf => (b.2 f hf).trans (a.2 f hf)⟩

theorem put {g : Fld} {v : Nat} (hg : K g.key = false) : Keeps K s (s.put g v) := fun r =>
  ⟨put_regsOk r, fun _ hf => get_put_other r (fun e => by rw [e, hg] at hf; cases hf)⟩

theorem inc {g : Fld} (hg : K g.key = false) : Keeps K s (s.inc g) := put hg

theorem add {g : Fld} {v : Nat} (hg : K g.key = false) : Keeps K s (s.add g v) := put hg

/-- Parts of the state outside the registers do not matter. -/
theorem other (e : t.regs = s.regs) : Keeps K s t := fun r => by
  refine ⟨?_, fun f _ => ?_⟩
  · unfold State.regsOk
    rw [e]
    exact r
  · unfold State.get
    rw [e]

theorem onPwr {f : PwrSt → PwrSt} : Keeps K s (s.onPwr f) := .other rfl

theorem onTwn {f : TwnSt → TwnSt} : Keeps K s (s.onTwn f) := .other rfl

theorem ite {c : Prop} [Decidable c] {a b : State} (h : Keeps K s a) (k : Keeps K s b) : Keeps K s (if c then a else b) := by
  split
  · exact h
  · exact k

theorem foldl {α : Type} {f : State → α → State} (h : ∀ s a, Keeps K s (f s a)) : ∀ (l : List α) (s : State), Keeps K s (l.foldl f s)
  | [], s => refl s
  | a :: l, s => (h s a).trans (foldl h l (f s a))

theorem weaken (h : KeepsClock s t) : KeepsMode s t := fun r =>
  ⟨(h r).1, fun f hf => (h r).2 f (by rw [clockModeKey, hf]; rfl)⟩

theorem of_logOnly (h : LogOnly s t) : KeepsClock s t := fun r => ⟨h.ok r, fun f hf => h.get r f (by
  rw [clockModeKey, modeKey, Bool.or_eq_true, Bool.or_eq_true, beq_iff_eq, beq_iff_eq, beq_iff_eq] at hf
  rcases hf with (e | e) | e <;> (rw [e]; decide))⟩

theorem mode (h : KeepsMode s t) (r : s.regsOk) : t.mode = s.mode := congrArg Mode.ofCode ((h r).2 Reg.MOD_STATE_MODE (by decide))

theorem pair (h : KeepsMode s t) (r : s.regsOk) : t.pair = s.pair := congrArg PairState.ofCode ((h r).2 Reg.TWN_STATE_PAIR_STATE (by decide))

theorem epoch (h : KeepsClock s t) (r : s.regsOk) : t.epoch = s.epoch := (h r).2 Reg.CLK_EPOCH_EPOCH (by decide)

end Keeps

section

variable (s : State)

theorem raise_keepsClock (e a b : Nat) : KeepsClock s (raise e a b s) := .of_logOnly (raise_logOnly s e a b)

theorem raiseRl_keepsClock (e a b : Nat) : KeepsClock s (raiseRl e a b s) := .of_logOnly (raiseRl_logOnly s e a b)

theorem portStat_off (p k : Nat) : clockModeKey (Reg.TWN_PORT_STAT_COUNT p k).key = false := by
  have e : (Reg.TWN_PORT_STAT_COUNT p k).key = (0x541040 + 0x100 * p + 0x8 * k) * 512 + 0 := rfl
  exact clockModeKey_off (by omega) (by omega) (by omega)

theorem portFrames_off (p : Nat) : clockModeKey (Reg.TWN_PORT_REKEY_TX_FRAMES p).key = false := by
  have e : (Reg.TWN_PORT_REKEY_TX_FRAMES p).key = (0x541010 + 0x100 * p) * 512 + 0 := rfl
  exact clockModeKey_off (by omega) (by omega) (by omega)

theorem blockWait_off (p : Nat) : clockModeKey (Reg.TWN_PORT_STATE_BLOCK_WAIT p).key = false := by
  have e : (Reg.TWN_PORT_STATE_BLOCK_WAIT p).key = (0x541000 + 0x100 * p) * 512 + 3 := rfl
  exact clockModeKey_off (by omega) (by omega) (by omega)

theorem sendParity_keepsClock (p : Nat) : KeepsClock s (sendParity p s) := by
  unfold sendParity
  exact (Keeps.other rfl).trans (.inc (portStat_off p 0))

theorem downSync_keepsClock : KeepsClock s (downSync s) := by
  unfold downSync
  exact .ite .onTwn .onTwn

theorem sendOn_keepsClock (p : Nat) (code : String) (reach seq : Nat) (data : List Byte) : KeepsClock s (sendOn p code reach seq data s) := by
  unfold sendOn
  extract_lets -merge -underBinder q m s1 s2 s3
  have h1 : KeepsClock s s1 := .other rfl
  have h2 : KeepsClock s s2 := h1.trans ((((Keeps.other (t := s1.send m) rfl).trans (.inc (portStat_off p 0))).trans (.add (portStat_off p 7))).trans
    (.inc (portFrames_off p)))
  have h3 : KeepsClock s s3 := h2.trans (.ite (sendParity_keepsClock s2 p) (.refl s2))
  exact h3.trans (.ite (((Keeps.put (blockWait_off p)).trans (downSync_keepsClock _)).trans (raise_keepsClock _ _ _ _)) (.refl s3))

theorem linkSend_keepsClock (code : String) (reach seq : Nat) (data : List Byte) : KeepsClock s (linkSend code reach seq data s) := by
  unfold linkSend
  exact .ite ((Keeps.other (t := (s.free 1).2) rfl).trans (sendOn_keepsClock _ _ _ _ _ _))
    (.ite (sendOn_keepsClock s 0 _ _ _ _) (.ite (sendOn_keepsClock s 1 _ _ _ _) (.refl s)))

theorem admitSync_keepsClock : KeepsClock s (admitSync s) := by
  unfold admitSync
  extract_lets -merge -underBinder s1 s2 n old s3
  have h1 : KeepsClock s s1 := .put (by decide)
  have h2 : KeepsClock s s2 := h1.trans (.put (by decide))
  have h3 : KeepsClock s s3 := (h2.trans (.put (by decide))).trans (.put (by decide))
  exact h3.trans (.ite (.refl s3) (linkSend_keepsClock s3 _ _ _ _))

theorem mediaSync_keepsClock : KeepsClock s (mediaSync s) := .foldl (fun _ p => .put (by
  have e : (Reg.HPT_PORT_STATE_MEDIA p).key = (0x300018 + 0x10000 * p) * 512 + 20 := rfl
  exact clockModeKey_off (by omega) (by omega) (by omega))) _ _

theorem eraseRestored_keepsClock : KeepsClock s (eraseRestored s) := by
  unfold eraseRestored
  split
  · exact (Keeps.other (t := (s.onMed fun x => { x with restored := none }).onMed _) rfl).trans ((Keeps.put (by decide)).trans (.put (by decide)))
  · exact .refl s

/-- Entering a mode leaves the module in it, with its pair state and the epoch as before. -/
theorem setMode_mode {s : State} (h : s.regsOk) (m : Mode) : (setMode m s).mode = m ∧ (setMode m s).pair = s.pair ∧ (setMode m s).regsOk ∧
    (setMode m s).epoch = s.epoch := by
  unfold setMode
  split
  · exact ⟨‹_›, rfl, h, rfl⟩
  · extract_lets -merge -underBinder old s1 s2 s3 s4 s5
    have r0 : (s.put Reg.MOD_STATE_PREV_MODE old).regsOk := put_regsOk h
    have r1 : ((s.put Reg.MOD_STATE_PREV_MODE old).put Reg.MOD_STATE_MODE m.code).regsOk := put_regsOk r0
    have e1 : ((s.put Reg.MOD_STATE_PREV_MODE old).put Reg.MOD_STATE_MODE m.code).mode = m := by
      unfold State.mode
      rw [get_put_same r0]
      cases m <;> rfl
    have p1 : ((s.put Reg.MOD_STATE_PREV_MODE old).put Reg.MOD_STATE_MODE m.code).pair = s.pair :=
      congrArg PairState.ofCode ((get_put_other r0 (by decide)).trans (get_put_other h (by decide)))
    have k1 : KeepsClock ((s.put Reg.MOD_STATE_PREV_MODE old).put Reg.MOD_STATE_MODE m.code) s1 := .inc (by decide)
    have k3 : KeepsClock s1 s3 := (Keeps.put (by decide)).trans (.put (by decide))
    have k4 : KeepsClock s3 s4 := .ite ((Keeps.inc (by decide)).trans (raise_keepsClock _ _ _ _)) (.refl s3)
    have k5 : KeepsClock s4 s5 := .ite
      ((Keeps.other (t := (s4.onStore fun x => { x with cleanStop := none }).onTwn fun x => { x with served := true }) rfl).trans (eraseRestored_keepsClock _))
      (.refl s4)
    have k := (((k1.trans k3).trans k4).trans k5).trans (((raise_keepsClock s5 0x0D01 m.code old).trans (admitSync_keepsClock _)).trans (mediaSync_keepsClock _))
    have c1 : ((s.put Reg.MOD_STATE_PREV_MODE old).put Reg.MOD_STATE_MODE m.code).epoch = s.epoch :=
      (get_put_other r0 (by decide)).trans (get_put_other h (by decide))
    exact ⟨(k.weaken.mode r1).trans e1, (k.weaken.pair r1).trans p1, (k r1).1, (k.epoch r1).trans c1⟩

/-- Entering a pair state leaves the module in it, with its mode as before. -/
theorem setPair_pair {s : State} (h : s.regsOk) (p : PairState) : (setPair p s).pair = p ∧ (setPair p s).mode = s.mode ∧ (setPair p s).regsOk := by
  unfold setPair
  split
  · exact ⟨‹_›, rfl, h⟩
  · extract_lets -merge -underBinder old
    have r1 : (s.put Reg.TWN_STATE_PAIR_STATE p.code).regsOk := put_regsOk h
    have e1 : (s.put Reg.TWN_STATE_PAIR_STATE p.code).pair = p := by
      unfold State.pair
      rw [get_put_same h]
      cases p <;> rfl
    have m1 : (s.put Reg.TWN_STATE_PAIR_STATE p.code).mode = s.mode := congrArg Mode.ofCode (get_put_other h (by decide))
    have k := (raise_keepsClock (s.put Reg.TWN_STATE_PAIR_STATE p.code) 0x0501 p.code old).trans (mediaSync_keepsClock _)
    exact ⟨(k.weaken.pair r1).trans e1, (k.weaken.mode r1).trans m1, (k r1).1⟩

/-! ### Fencing -/

theorem completeW_keepsMode (m : Nat) (st : St) (retry detail : Nat) (b : Bool) (resp : List Byte) : KeepsMode s (completeW m st retry detail b resp s) := by
  have hdr : ∀ lo w, modeKey (mbField m lo w).key = false := fun lo w => by
    have e : (mbField m lo w).key = (0x4000000 + 64 * m) * 512 + lo := rfl
    exact modeKey_off (by omega) (by omega)
  have st0 : modeKey (Reg.MBX_STATE_STATE m).key = false := by
    have e : (Reg.MBX_STATE_STATE m).key = (0x20000 + 0x8 * m) * 512 + 0 := rfl
    exact modeKey_off (by omega) (by omega)
  have st1 : modeKey (Reg.MBX_STATE_STATUS m).key = false := by
    have e : (Reg.MBX_STATE_STATUS m).key = (0x20000 + 0x8 * m) * 512 + 32 := rfl
    exact modeKey_off (by omega) (by omega)
  have st2 : modeKey (Reg.MBX_STATE_RESPONDER m).key = false := by
    have e : (Reg.MBX_STATE_RESPONDER m).key = (0x20000 + 0x8 * m) * 512 + 5 := rfl
    exact modeKey_off (by omega) (by omega)
  have st3 : modeKey (Reg.MBX_STATE_NOTIFY_PENDING m).key = false := by
    have e : (Reg.MBX_STATE_NOTIFY_PENDING m).key = (0x20000 + 0x8 * m) * 512 + 6 := rfl
    exact modeKey_off (by omega) (by omega)
  have ct : ∀ k, modeKey (Reg.MBX_STAT_COUNT k).key = false := fun k => by
    have e : (Reg.MBX_STAT_COUNT k).key = (0x20300 + 0x8 * k) * 512 + 0 := rfl
    exact modeKey_off (by omega) (by omega)
  have cc : ∀ u : State, KeepsMode u (countCompletion st b u) := fun u => by
    unfold countCompletion
    split
    · exact .inc (ct _)
    · exact .inc (ct _)
    · exact (Keeps.inc (ct _)).trans (.inc (ct _))
    · exact .inc (ct _)
  have nt : ∀ u : State, KeepsMode u (notify m u) := fun u => by
    unfold notify
    exact .ite (.refl u) (.ite (.ite ((Keeps.other (t := u.send _) rfl).trans (.put st3)) (.refl u))
      (.ite ((Keeps.other (t := u.send _) rfl).trans ((Keeps.put (by decide)).trans (.put st3))) (.refl u)))
  unfold completeW
  extract_lets -merge -underBinder x s1 s2 s3 s4
  have h1 : KeepsMode s s1 := .other rfl
  have h2 : KeepsMode s1 s2 := (((Keeps.put (hdr _ _)).trans (.put (hdr _ _))).trans (.put (hdr _ _))).trans (.put (hdr _ _))
  have h3 : KeepsMode s2 s3 := (Keeps.put (hdr _ _)).trans (.put (hdr _ _))
  have h4 : KeepsMode s3 s4 := ((Keeps.put st0).trans (.put st1)).trans (.put st2)
  exact (((h1.trans h2).trans h3).trans h4).trans ((cc s4).trans (nt _))

theorem complete_keepsMode (m : Nat) (resp : List Byte) : KeepsMode s (complete m resp s) := completeW_keepsMode s m _ _ _ _ _

theorem tellLocal_keepsMode (w : Window) (before : State) : KeepsMode s (tellLocal w before s) := by
  unfold tellLocal
  exact .ite (.foldl (fun u n => (linkSend_keepsClock u _ _ _ _).weaken) _ _) (.refl s)

theorem freeWindow_keepsMode (id : Nat) : KeepsMode s (freeWindow id s) := by
  have rw : ∀ n, modeKey (Reg.TIR_REACH_WINDOWS n).key = false := fun n => by
    have e : (Reg.TIR_REACH_WINDOWS n).key = (0x1C8000 + 0x8 * n) * 512 + 16 := rfl
    exact modeKey_off (by omega) (by omega)
  have lw : ∀ b l, modeKey (Reg.HPT_LD_STATE_WINDOWS b l).key = false := fun b l => by
    have e : (Reg.HPT_LD_STATE_WINDOWS b l).key = (0x300100 + 0x10000 * b + 0x10 * l) * 512 + 20 := rfl
    exact modeKey_off (by omega) (by omega)
  have cr : ∀ (u : State) (w : Window), KeepsMode u (countReaches false w u) := fun u w => by
    unfold countReaches
    exact .foldl (fun v n => .ite (.put (rw n)) (.put (rw n))) _ _
  have cl : ∀ (u : State) (w : Window), KeepsMode u (countLd w u) := fun u w => by
    unfold countLd
    exact .ite (.refl u) (.put (lw _ _))
  unfold freeWindow
  split
  · exact .refl s
  · exact ((Keeps.other (t := { s with win := tdel id s.win }) rfl).trans (cr _ _)).trans (cl _ _)

theorem closeIfIdle_keepsMode (id : Nat) : KeepsMode s (closeIfIdle id s) := by
  unfold closeIfIdle
  split
  · exact .refl s
  · split
    · extract_lets -merge -underBinder s1 s2
      have h1 : KeepsMode s s1 := (Keeps.other (t := modWindow id _ s) rfl).trans (tellLocal_keepsMode _ _ _)
      have h2 : KeepsMode s1 s2 := .foldl (fun u m => complete_keepsMode u m []) _ _
      exact (h1.trans h2).trans (.ite (.refl s2) (freeWindow_keepsMode s2 id))
    · exact .refl s

theorem endAccess_keepsMode (id : Nat) : KeepsMode s (endAccess id s) :=
  (Keeps.other (t := modWindow id _ s) rfl).trans (closeIfIdle_keepsMode _ id)

theorem portTickets_off (p : Nat) : modeKey (Reg.HPT_PORT_STATE_TICKETS p).key = false := by
  have e : (Reg.HPT_PORT_STATE_TICKETS p).key = (0x300018 + 0x10000 * p) * 512 + 0 := rfl
  exact modeKey_off (by omega) (by omega)

theorem giveTicket_keepsMode (n : Nat) : KeepsMode s (giveTicket n s) := by
  unfold giveTicket
  split
  · exact .refl s
  · unfold ticketSync
    exact (Keeps.other (t := (s.onCis _).onFrm _) rfl).trans (.ite (.put (portTickets_off _)) (.refl _))

theorem dropHostOps_keepsMode : KeepsMode s (dropHostOps s) := by
  unfold dropHostOps
  extract_lets -merge -underBinder held msgs s1 s2 s3 s4 s5 s6 s7
  have h4 : KeepsMode s s4 := .other rfl
  have h5 : KeepsMode s4 s5 := .foldl (fun u (e : Src × Nat × Nat) => (giveTicket_keepsMode u e.2.1).trans (endAccess_keepsMode _ e.2.2)) _ _
  have h6 : KeepsMode s5 s6 := .foldl (fun u m => by
    extract_lets -merge -underBinder u1
    have k : KeepsMode u u1 := by
      unfold u1
      split
      · exact giveTicket_keepsMode u _
      · exact .refl u
    refine k.trans ?_
    split
    · exact endAccess_keepsMode _ _
    · exact .refl u1) _ _
  have h7 : KeepsMode s6 s7 := .foldl (fun u p => by
    have o : ∀ j, modeKey ((0x300018 + 0x10000 * p) * 512 + j) = false ∨ ¬ j < 512 := fun j => by
      by_cases h : j < 512
      · exact .inl (modeKey_off (by omega) (by omega))
      · exact .inr h
    have q : ∀ j, j < 512 → modeKey ((0x300018 + 0x10000 * p) * 512 + j) = false := fun j h => (o j).resolve_right (fun g => g h)
    exact (((Keeps.put (q 19 (by decide))).trans (.put (q 18 (by decide)))).trans (.put (q 32 (by decide)))).trans (.put (q 48 (by decide)))) _ _
  exact (((h4.trans h5).trans h6).trans h7).trans (.put (by decide))

/-- Giving up what needs the twin keeps the register table in order. -/
theorem dropTwinWork_rest (s : State) (h : s.regsOk) : (dropTwinWork s).regsOk := by
  unfold dropTwinWork
  extract_lets -merge -underBinder s1 s2 dead s3
  have f : ∀ {α : Type} (g : State → α → State), (∀ u a, u.regsOk → (g u a).regsOk) → ∀ (l : List α) (u : State), u.regsOk → (l.foldl g u).regsOk :=
    fun g k l => by
      induction l with
      | nil => exact fun u r => r
      | cons a l ih => exact fun u r => ih (g u a) (k u a r)
  have h1 : s1.regsOk := f _ (fun u a r => by
    split
    · exact completeW_regsOk r
    · exact r) _ s h
  have h2 : s2.regsOk := h1
  clear_value s1 s2
  have h3 : s3.regsOk := f _ (fun u a r => by
    split
    · split
      · exact completeW_regsOk r
      · exact r
    · exact r) _ s2 h2
  exact h3

/-- Ending a planned split keeps the register table in order. -/
theorem dropSplit_rest (s : State) (h : s.regsOk) : (dropSplit s).regsOk := by
  unfold dropSplit
  extract_lets -merge -underBinder s1 s2
  have h1 : s1.regsOk := by
    unfold s1
    split
    · exact completeW_regsOk h
    · exact completeW_regsOk h
    · exact h
  have h2 : s2.regsOk := by
    unfold s2
    split
    · exact completeW_regsOk h1
    · exact h1
  exact h2

/-- Fencing leaves the pair state FENCED and the mode QUIESCED (R117). -/
theorem fenceSelf_mode {s : State} (h : s.regsOk) : (fenceSelf s).mode = .quiesced ∧ (fenceSelf s).pair = .fenced ∧ (fenceSelf s).regsOk := by
  unfold fenceSelf
  extract_lets -merge -underBinder s1
  have w : (dropSplit (dropTwinWork s)).regsOk := (dropSplit_rest _ (dropTwinWork_rest s h))
  have k := ((dropHostOps_keepsMode (dropSplit (dropTwinWork s))).trans (.onPwr (f := fun x => { x with serveStop := true }))).trans
    (.onTwn (f := fun x => { x with margin := false, arbWon := false, joining := false, entry := none }))
  have p := setPair_pair (k w).1 .fenced
  have m := setMode_mode p.2.2 .quiesced
  exact ⟨m.1, m.2.1.trans p.1, m.2.2.1⟩

end

end Sys2Proof.Machine
end

