-- ==== Sys2Proof/Laws/Ticks.lean ====
section
/-!
SUPPORT. Sys2Proof/Laws/Ticks.lean: what a tick of the epoch can do in island 0 and to the counters (R12): registers only, and neither the mode nor, once it has
advanced, the epoch.
-/
set_option Elab.async false

namespace Sys2Proof.Machine

open Sys2Proof

/-- Only registers that `K` names differ. -/
structure RegsOnly (K : Nat → Bool) (s t : State) : Prop where
  rest : t = { s with regs := t.regs }
  ok   : s.regsOk → t.regsOk
  get  : s.regsOk → ∀ f : Fld, K f.key = false → t.get f = s.get f

namespace RegsOnly

variable {K : Nat → Bool} {s t u : State}

theorem refl (s : State) : RegsOnly K s s := { rest := rfl, ok := id, get := fun _ _ _ => rfl }

theorem trans (h : RegsOnly K s t) (k : RegsOnly K t u) : RegsOnly K s u :=
  { rest := by rw [k.rest, h.rest], ok := fun r => k.ok (h.ok r), get := fun r f hf => (k.get (h.ok r) f hf).trans (h.get r f hf) }

theorem put {f : Fld} {v : Nat} (hf : K f.key = true) : RegsOnly K s (s.put f v) :=
  { rest := rfl, ok := put_regsOk, get := fun r g hg => get_put_other r (fun e => by rw [e, hf] at hg; cases hg) }

theorem inc {f : Fld} (hf : K f.key = true) : RegsOnly K s (s.inc f) := put hf

theorem ite {c : Prop} [Decidable c] {a b : State} (h : RegsOnly K s a) (k : RegsOnly K s b) : RegsOnly K s (if c then a else b) := by
  split
  · exact h
  · exact k

theorem foldl {α : Type} {f : State → α → State} (h : ∀ s a, RegsOnly K s (f s a)) : ∀ (l : List α) (s : State), RegsOnly K s (l.foldl f s)
  | [], s => refl s
  | a :: l, s => (h s a).trans (foldl h l (f s a))

end RegsOnly

/-- Every key but the epoch's and the mode's. -/
def clockKey (k : Nat) : Bool := !(k == Reg.CLK_EPOCH_EPOCH.key) && !(k == Reg.MOD_STATE_MODE.key)

theorem clockKey_above {k : Nat} (h : 0x300000 * 512 ≤ k) : clockKey k = true := by
  have e : Reg.CLK_EPOCH_EPOCH.key = 0xA0000 * 512 := rfl
  have g : Reg.MOD_STATE_MODE.key = 0x10000 * 512 := rfl
  rw [clockKey, e, g, beq_eq_false_iff_ne.mpr (by omega), beq_eq_false_iff_ne.mpr (by omega)]
  rfl

theorem hptStat_clock (p k : Nat) : clockKey (Reg.HPT_STAT_COUNT p k).key = true := by
  have e : (Reg.HPT_STAT_COUNT p k).key = (0x300400 + 0x10000 * p + 0x8 * k) * 512 + 0 := rfl
  exact clockKey_above (by omega)

theorem ethStat_clock (p k : Nat) : clockKey (Reg.ETH_PORT_STAT_COUNT p k).key = true := by
  have e : (Reg.ETH_PORT_STAT_COUNT p k).key = (0x380100 + 0x10000 * p + 0x8 * k) * 512 + 0 := rfl
  exact clockKey_above (by omega)

theorem hptViol_clock (p : Nat) : clockKey (Reg.HPT_VIOL_CURRENT p).key = true := by
  have e : (Reg.HPT_VIOL_CURRENT p).key = (0x300300 + 0x10000 * p) * 512 + 0 := rfl
  exact clockKey_above (by omega)

theorem ethViol_clock (p : Nat) : clockKey (Reg.ETH_VIOL_CURRENT p).key = true := by
  have e : (Reg.ETH_VIOL_CURRENT p).key = (0x380200 + 0x10000 * p) * 512 + 0 := rfl
  exact clockKey_above (by omega)

theorem tickCounters_regsOnly (s : State) : RegsOnly clockKey s (tickCounters s) := by
  unfold tickCounters
  extract_lets -merge -underBinder lvl s1 s2 s3 adm
  have h1 : RegsOnly clockKey s s1 := .ite (.inc (by decide)) (.ite (.inc (by decide)) (.refl s))
  have h2 : RegsOnly clockKey s s2 := h1.trans (.ite (.inc (by decide)) (.refl s1))
  have h3 : RegsOnly clockKey s s3 := h2.trans (.ite (.refl s2) (.inc (by decide)))
  exact h3.trans (.ite (.inc (by decide)) (.ite (.inc (by decide)) (.refl s3)))

theorem tickSecond_regsOnly (s : State) : RegsOnly clockKey s (tickSecond s) :=
  (((RegsOnly.put (by decide)).trans (.put (by decide))).trans (.put (by decide))).trans
    ((RegsOnly.foldl (fun _ p => .put (hptViol_clock p)) _ _).trans (.foldl (fun _ p => .put (ethViol_clock p)) _ _))

theorem tickPorts_regsOnly (s : State) : RegsOnly clockKey s (tickPorts s) := by
  refine (RegsOnly.foldl (fun s p => ?_) _ _).trans (.foldl (fun s p => ?_) _ _)
  · have h : RegsOnly clockKey s (if (s.hpt.rwd.filter (fun m => m.port == p)).length ≥ s.get (Reg.HPT_CRD_CFG_RWD p)
        then s.inc (Reg.HPT_STAT_COUNT p 5) else s) := .ite (.inc (hptStat_clock p 5)) (.refl s)
    exact h.trans (.ite (.inc (hptStat_clock p 6)) (.refl _))
  · have h : RegsOnly clockKey s (if s.flag (Reg.ETH_PORT_STATE_PAUSING p) then s.inc (Reg.ETH_PORT_STAT_COUNT p 4) else s) :=
      .ite (.inc (ethStat_clock p 4)) (.refl s)
    exact h.trans (.ite (.inc (ethStat_clock p 5)) (.refl _))

theorem tickAges_regsOnly (s : State) : RegsOnly clockKey s (tickAges s) := by
  unfold tickAges
  extract_lets -merge -underBinder s1
  have h1 : RegsOnly clockKey s s1 := .ite (.put (by decide)) (.refl s)
  exact h1.trans (.ite (.refl s1) (.put (by decide)))

/-- Ageing the errors of the last 24 h: ECC_DEV_CE and the list alone (R294). -/
theorem ageErrs_regsOnly (s : State) : ∃ u, RegsOnly clockKey s u ∧ ageErrs s = u.onTir fun x => { x with errs := x.errs.filter (fun e => decide (u.epoch < e.2 + 86400000000)) } := by
  refine ⟨_, ?_, rfl⟩
  refine .foldl (fun v e => .ite (.put ?_) (.refl v)) _ _
  have k : (Reg.ECC_DEV_CE_COUNT (e.1 / 40) (e.1 % 40)).key = (0x203000 + 0x100 * (e.1 / 40) + 0x4 * (e.1 % 40)) * 512 + 0 := rfl
  have a : Reg.CLK_EPOCH_EPOCH.key = 0xA0000 * 512 := rfl
  have b : Reg.MOD_STATE_MODE.key = 0x10000 * 512 := rfl
  rw [clockKey, a, b, beq_eq_false_iff_ne.mpr (by omega), beq_eq_false_iff_ne.mpr (by omega)]
  rfl

/-! ### keepAge: the store alone -/

@[simp] theorem keepAge_get (s : State) (f : Fld) : (keepAge s).get f = s.get f := rfl
@[simp] theorem keepAge_epoch (s : State) : (keepAge s).epoch = s.epoch := rfl
@[simp] theorem keepAge_mode (s : State) : (keepAge s).mode = s.mode := rfl
@[simp] theorem keepAge_pwr (s : State) : (keepAge s).pwr = s.pwr := rfl
@[simp] theorem keepAge_evr (s : State) : (keepAge s).evr = s.evr := rfl
@[simp] theorem keepAge_sent (s : State) : (keepAge s).sent = s.sent := rfl
@[simp] theorem keepAge_twn (s : State) : (keepAge s).twn = s.twn := rfl
@[simp] theorem keepAge_up (s : State) : (keepAge s).up = s.up := rfl
@[simp] theorem keepAge_regsOk (s : State) : (keepAge s).regsOk = s.regsOk := rfl

/-- After the epoch has advanced, a tick changes counters and rates alone. -/
theorem tickOwn_regsOnly (s : State) : RegsOnly clockKey (s.inc Reg.CLK_EPOCH_EPOCH) (tickOwn s) := by
  unfold tickOwn
  extract_lets -merge -underBinder s1 s2 s3 s4 s5 s6 s7 s8
  have h1 := (tickCounters_regsOnly (s.inc Reg.CLK_EPOCH_EPOCH)).trans (tickAges_regsOnly _)
  have h2 := h1.trans (show RegsOnly clockKey s1 s2 from .ite (.inc (by decide)) (.refl s1))
  have h3 := h2.trans (show RegsOnly clockKey s2 s3 from .ite (.inc (by decide)) (.refl s2))
  have h4 := h3.trans (show RegsOnly clockKey s3 s4 from .put (by decide))
  have h5 := h4.trans (show RegsOnly clockKey s4 s5 from .ite (.refl s4) (.put (by decide)))
  have h6 := h5.trans (show RegsOnly clockKey s5 s6 from .put (by decide))
  have h7 := h6.trans (show RegsOnly clockKey s6 s7 from .ite (tickSecond_regsOnly s6) (.refl s6))
  have h8 := h7.trans (show RegsOnly clockKey s7 s8 from .ite (.put (by decide)) (.refl s7))
  exact h8.trans (.put (by decide))

end Sys2Proof.Machine
end

