-- ==== Sys2Proof/Tests/Slice0.lean ====
section
/-!
SUPPORT. Sys2Proof/Tests/Slice0.lean: an ill-formed term for each check of WellFormed, single steps whose results are the spec's, and for every statement of
Certificates/Slice0/Obligations.lean a state and operands that meet its hypotheses, clause by clause.
-/
set_option Elab.async false

namespace Sys2Proof.Tests

open Sys2Proof Sys2Proof.Machine

/-! ### Small states -/

/-- The reset state put into a mode and a pair state, with some register fields written. -/
def stIn (m : Mode) (p : PairState) (fs : List (Fld × Nat)) : State :=
  fs.foldl (fun s e => s.put e.1 e.2) ((State.reset.put Reg.MOD_STATE_MODE m.code).put Reg.TWN_STATE_PAIR_STATE p.code)

/-- Mailbox m runs a command with these request bytes. -/
def running (m op : Nat) (req : List Nat) (s : State) : State :=
  (((s.onMbx fun x => { x with payload := writeBytes (m * 4096) (req.map (BitVec.ofNat 8)) x.payload }).put (Reg.MBX_STATE_STATE m) 2).put
    (Reg.MBX_STATE_OPCODE m) op).put (Mb.length m) req.length

/-- A PAIRED module. -/
def paired : State := stIn .paired .paired []

/-- A module that serves alone. -/
def solo : State := stIn .solo .solo []

/-- A module in QUIESCED, UNPAIRED. -/
def quiet : State := stIn .quiesced .unpaired []

/-- A frame header on port p with number n, tag good. -/
def hdr (p n : Nat) : FrameHdr :=
  { port := p, version := 1, length := 64, instance32 := 0, counter := 0, frameSeq := n, ackSeq := 0, credits := 0, genLow := 0, tagOk := true, overCredit := false }

/-- A FULL record of reach r with number n, of one line of zeros. -/
def wire (r n : Nat) : WireRec :=
  { kind := 1, reach := r, seq := n, line := r * 2 ^ 30, mask := 2 ^ 64 - 1, poison := 0, window := 0, ticket := 0, port := 0, part := 0, origin := 0, isLocal := false,
    mirror := false, last := true, data := List.replicate 64 0 }

/-! ### Well-formedness refuses an ill-formed term of each check -/

theorem test_wf_numbers : Instr.wf (.railTrip 256) = false ∧ Instr.wf (.dischargeTestEnd 65536 0) = false ∧ Instr.wf (.floorChannelSwept 16) = false ∧
    Instr.wf (.loftStackSwept 4) = false ∧ Instr.wf (.spdmGetCertificate 0 8) = false ∧ Instr.wf (.spdmFinish 0 4 true) = false ∧ Instr.wf (.mbxRing 0 4 0) = false ∧
    Instr.wf (.pegRecheck 8) = false ∧ Instr.wf (.boardAdmit 0 0 64 [] []) = false := by decide

theorem test_wf_indexes : Instr.wf (.identify 40) = false ∧ Instr.wf (.unitRecal 66) = false ∧ Instr.wf (.bayEmpty 8) = false ∧ Instr.wf (.joinerTestDue 64 true) = false ∧
    Instr.wf (.joinerFault 0 4 0) = false ∧ Instr.wf (.gpfPhase1 8) = false ∧ Instr.wf (.memInv 0 16 0) = false ∧ Instr.wf (.rdmaPortLinkDown 4) = false ∧
    Instr.wf (.keepaliveSend 2) = false ∧ Instr.wf (.rilramViolationLimit 3) = false := by decide

theorem test_wf_wide : Instr.wf (.rateRecover (2 ^ 20)) = false ∧ Instr.wf (.waitTimeout 0 (2 ^ 24)) = false ∧ Instr.wf (.moveDone (2 ^ 34)) = false ∧
    Instr.wf (.exceptionPost 0 (2 ^ 64)) = false ∧ Instr.wf (.registerWrite 0 (2 ^ 32) 4 0) = false ∧ Instr.wf (.svyAddr (2 ^ 32)) = false ∧
    Instr.wf (.counterBlockRecorded 16384) = false ∧ Instr.wf (.rilramPortUp 0 (2 ^ 32) false) = false := by decide

theorem test_wf_media : Instr.wf (.drainPackStart 64) = false ∧ Instr.wf (.quarterArrived 0 4) = false ∧ Instr.wf (.dieTimeout 32 0) = false ∧ Instr.wf (.dieTimeout 0 16) = false ∧
    Instr.wf (.boardSurpriseAbsent 8) = false ∧ Instr.wf (.lockPairFillDone 38 true) = false ∧ Instr.wf (.scrubPassLate 3) = false ∧ Instr.wf (.bankInvalidateDone 16) = false ∧
    Instr.wf (.pressureEviction 2) = false ∧ Instr.wf (.dirLock 0 9 0 0) = false ∧ Instr.wf (.stepRun 0 0 256 true []) = false ∧ Instr.wf (.windowCheck 0 0 0 16) = false := by decide

theorem test_wf_ports : Instr.wf (.hdmDecoderCommit 0 0 4 0 0 0 0 0) = false ∧ Instr.wf (.setLdAllocations 0 17) = false ∧ Instr.wf (.pfcStorm 0 8) = false ∧
    Instr.wf (.qopen 65536 0 0) = false ∧ Instr.wf (.heartbeatWordReceived true 16 0 false false false false 0 0) = false ∧
    Instr.wf (.heartbeatWordReceived true 0 2 false false false false 0 0) = false ∧ Instr.wf (.eccThresholdReached 3 0 0) = false := by decide

theorem test_wf_data : Instr.wf (.memWr 0 0 0 0 false [0]) = false ∧ Instr.wf (.memWr 0 0 0 0 false (List.replicate 64 256)) = false ∧
    Instr.wf (.memWrPtl 0 0 0 0 (2 ^ 64) false (List.replicate 64 0)) = false ∧ Instr.wf (.rdmaSend 0 0 0 0 none false [256]) = false ∧
    Instr.wf (.cisternAppend { wire 0 1 with kind := 8 }) = false ∧ Instr.wf (.cisternAppend { wire 4095 1 with reach := 4096 }) = false ∧
    Instr.wf (.cisternAppend { wire 0 1 with mask := 2 ^ 64 }) = false := by decide

theorem test_wf_headers : Instr.wf (.keepaliveFrame { hdr 0 0 with port := 2 }) = false ∧ Instr.wf (.keepaliveFrame { hdr 0 0 with version := 16 }) = false ∧
    Instr.wf (.keepaliveFrame { hdr 0 0 with frameSeq := 2 ^ 32 }) = false ∧ Instr.wf (.keepaliveFrame { hdr 0 0 with credits := 2 ^ 16 }) = false ∧
    Instr.wf (.keepaliveFrame (hdr 1 7)) = true := by decide

/-! ### Witnesses: the machine as a whole -/

theorem witness_step : ({ quiet with pending := [.epochTick, .idcode] } : State).pending = .epochTick :: [.idcode] ∧ State.reset.pending = [] := ⟨rfl, rfl⟩

theorem witness_evolve : State.reset.regsOk ∧ (∃ t, exec .idcode State.reset = .next t) ∧ ∃ t, step State.reset = .next t := ⟨rfl, ⟨_, rfl⟩, ⟨_, rfl⟩⟩

theorem witness_put : paired.regsOk ∧ Reg.MOD_STATE_MODE.key ≠ Reg.TWN_STATE_PAIR_STATE.key := by unfold State.regsOk; decide

theorem witness_unpowered : (State.reset.onPwr fun x => { x with powered := false }).pwr.powered = false ∧ Instr.idcode ≠ .powerOn := by decide

theorem witness_frozen : (paired.onEvr fun x => { x with frozen := true }).evr.frozen = true ∧ actsFrozen .epochTick = false := by decide

theorem witness_raise : paired.regsOk ∧ Reg.MOD_STATE_MODE.key / 512 ≠ 0xA0008 ∧ ¬(0xC0000 * 512 ≤ Reg.MOD_STATE_MODE.key ∧ Reg.MOD_STATE_MODE.key < 0xD0000 * 512) ∧
    Reg.MOD_STATE_MODE.key < 0x700000 * 512 := by unfold State.regsOk; decide

/-! ### Witnesses: power, bank, headgate, heat -/

/-- A PAIRED module whose input has fallen. -/
def dipped : State := paired.onPwr fun x => { x with pfFilter := true }

theorem witness_input : dipped.pwr.powered = true ∧ dipped.pwr.pfFilter = true ∧ dipped.mode ≠ .spill ∧ dipped.evr.frozen = false ∧ dipped.serving = true := by decide

theorem witness_overvoltage : (paired.put Reg.PWR_IN_STATE_OV 1).pwr.powered = true ∧ (paired.put Reg.PWR_IN_STATE_OV 1).get Reg.PWR_IN_STATE_OV = 1 ∧
    (paired.put Reg.PWR_IN_STATE_OV 1).regsOk ∧ (paired.put Reg.PWR_IN_STATE_OV 1).mode ≠ .spill := by unfold State.regsOk; decide

/-- A spill from the bank, about to start its stream. -/
def run : SpillRun := { fromBank := true, mode := 4, streaming := false, started := 0, after := .powerOff }

/-- A module that spills. -/
def spilling (r : SpillRun) (into : Option Nat) : State := ((stIn .spill .paired []).onPwr fun x => { x with spill := some r }).onMed fun x => { x with spillInto := into }

theorem witness_power_on : (State.reset.onPwr fun x => { x with powered := false }).pwr.powered = false ∧ quiet.pwr.powered = true ∧ quiet.mode ≠ .spill ∧
    quiet.spills = false := by decide

theorem witness_spill_start : (spilling run none).live = true ∧ (spilling run none).mode = .spill ∧ (spilling run none).pwr.spill = some run ∧ run.streaming = false := by decide

theorem witness_spill_marker : let r := { run with streaming := true }
    (spilling r (some 1)).live = true ∧ (spilling r (some 1)).pwr.spill = some r ∧ (spilling r (some 1)).med.spillInto = some 1 ∧ r.streaming = true ∧
      (spilling r (some 1)).evr.freezeHeld = none ∧ (spilling r (some 1)).evr.frozen = false ∧ r.fromBank = true ∧ (spilling r (some 1)).pwr.powered = true := by decide

theorem witness_bank_full : let s := paired.put Reg.PWR_BANK_STATE_STATE 1
    s.live = true ∧ s.regsOk ∧ s.mode ≠ .spill ∧ s.get Reg.PWR_BANK_STATE_STATE = 1 ∧ s.get Reg.PWR_BANK_STATE_STATE ≠ 3 ∧ testAllowed s = true ∧ testFloorOf s ≤ 9000 := by
  unfold State.regsOk; decide

theorem witness_bank_fault : let s := paired.put Reg.PWR_BANK_STATE_STATE 3
    s.live = true ∧ s.regsOk ∧ s.get Reg.PWR_BANK_STATE_STATE = 3 := by unfold State.regsOk; decide

theorem witness_bank_test : let s := paired.put Reg.PWR_BANK_STATE_STATE 2
    s.live = true ∧ s.regsOk ∧ s.get Reg.PWR_BANK_STATE_STATE = 2 ∧ s.pwr.testMbx = none ∧ 1 ≤ cisternLimit (eMeasured 2400 50) := by unfold State.regsOk; decide

/-- A request for tokens, waiting. -/
def want (n : Nat) : HgReq := { owner := .op 7, h0 := false, tokens := n }

theorem witness_headgate : paired.up = true ∧ hgFits paired (want 16) = true ∧ waitingOf false paired.pwr.hgWait = [] ∧ paired.flag Reg.PWR_HG_STATE_WITHDRAWN = false ∧
    hgNext (paired.onPwr fun x => { x with hgWait := [want 16] }) = some (want 16) := by decide

theorem witness_input_power : paired.live = true ∧ paired.regsOk ∧ paired.get Reg.PWR_HG_CFG_LIMIT_W * 10 + 1 > paired.get Reg.PWR_HG_CFG_LIMIT_W * 10 ∧
    0 + 100 < paired.get Reg.PWR_HG_CFG_LIMIT_W * 10 := by unfold State.regsOk; decide

/-- A module that a thermal shutdown left in STANDBY. -/
def hot : State := (stIn .standby .unpaired []).onPwr fun x => { x with thermHold := true, inReset := some 1 }

theorem witness_heat : paired.live = true ∧ (List.replicate 35 400).length ≤ 35 ∧ paired.serving = true ∧ hot.live = true ∧ hot.mode = .standby ∧ hot.pwr.thermHold = true ∧
    hot.pwr.inReset = some 1 ∧ (setThrottle 0 (hot.onPwr fun x => { x with thermHold := false, inReset := none })).get Reg.MOD_CFG_AUTO_START = 1 := by decide

theorem witness_tick : paired.live = true ∧ paired.regsOk ∧ paired.up = true ∧ State.reset.live = true ∧ State.reset.regsOk ∧ State.reset.up = false := by
  unfold State.regsOk; decide

theorem witness_power_mailbox : let s := running 32 0x0C02 [] (paired.put Reg.PWR_BANK_STATE_STATE 1)
    s.runsCmd 32 0x0C02 ∧ testAllowed s = true ∧ testFloorOf s ≤ 9000 ∧ (running 32 0x0C01 [] paired).runsCmd 32 0x0C01 ∧ (running 32 0x0C03 [] paired).runsCmd 32 0x0C03 ∧
      (running 32 0x0C02 [] (stIn .recovery .unpaired [])).runsCmd 32 0x0C02 ∧ (stIn .recovery .unpaired []).serving = false ∧ (stIn .recovery .unpaired []).mode ≠ .quiesced := by
  unfold State.runsCmd; decide

/-! ### Witnesses: resets, modes, bring-up -/

theorem witness_reset_line : (paired.onEvr fun x => { x with frozen := true }).pwr.powered = true ∧ (paired.onEvr fun x => { x with frozen := true }).evr.frozen = true ∧
    paired.regsOk ∧ paired.evr.frozen = false ∧ paired.pwr.spill = none ∧ paired.mode ≠ .spill := by unfold State.regsOk; decide

/-- A module held in reset under a scope, 100 µs after the reset. -/
def heldIn (scope : Nat) : State := (stIn .standby .unpaired [(Reg.CLK_EPOCH_EPOCH, 100)]).onPwr fun x => { x with inReset := some scope }

theorem witness_release : (heldIn 0).live = true ∧ (heldIn 0).pwr.inReset = some 0 ∧ (heldIn 0).get Reg.MOD_RESET_LOG_EPOCH + 100 ≤ (heldIn 0).epoch % 2 ^ 48 ∧
    (heldIn 2).pwr.inReset = some 2 ∧ (heldIn 1).pwr.inReset = some 1 := by decide

theorem witness_reset : (running 0 0x0202 [0] paired).runsCmd 0 0x0202 ∧ reqNat (running 0 0x0202 [0] paired) 0 0 1 % 4 ≠ 3 ∧ (running 0 0x0202 [0] paired).pwr.spill = none ∧
    reqNat (running 0 0x0202 [3] paired) 0 0 1 % 4 = 3 ∧ (running 0 0x0202 [3] paired).runsCmd 0 0x0202 := by unfold State.runsCmd; decide

theorem witness_reset_apply : let s := paired.onPwr fun x => { x with resetPend := some 0 }
    s.live = true ∧ s.pwr.resetPend = some 0 ∧ s.pwr.spill = none := by decide

theorem witness_spill_limit : let r : SpillRun := { run with fromBank := false }
    let s := (spilling r (some 0)).put Reg.CLK_EPOCH_EPOCH 1000000
    s.live = true ∧ s.pwr.spill = some r ∧ r.fromBank = false ∧ r.started + 1000000 ≤ s.epoch := by decide

/-- A management session of a level. -/
def sess (l : Nat) : Session := { mgmt := true, port := 0, ld := 0, level := l, secured := true, keyPair := 8, opened := 0 }

/-- STANDBY with a management session at FACTORY. -/
def standbyMgmt : State := { stIn .standby .unpaired [] with sess := [(0, sess 3)] }

theorem witness_ctl_start : standbyMgmt.live = true ∧ isMgmt 8 = true ∧ standbyMgmt.get Reg.GLB_MGT_CFG_ENABLE ≠ 0 ∧ 1 ≤ accessorLevel 8 standbyMgmt ∧ standbyMgmt.mode = .standby ∧
    standbyMgmt.pwr.inReset = none := by decide

theorem witness_module_reset : paired.regsOk := by unfold State.regsOk; decide

theorem witness_mode_request : let s := fun (b : Nat) (x : State) => running 4 0x0201 [b] x
    (s 3 quiet).runsCmd 4 0x0201 ∧ reqNat (s 3 quiet) 4 0 1 % 16 = 3 ∧ quiet.mode = .quiesced ∧ (s 3 solo).runsCmd 4 0x0201 ∧ solo.mode = .solo ∧ (s 3 paired).runsCmd 4 0x0201 ∧
      paired.mode = .paired ∧ reqNat (s 8 quiet) 4 0 1 % 16 = 8 ∧ (s 8 quiet).spills = false ∧ (s 8 (quiet.put Reg.MOD_STATE_RESTORE 1)).spills = true ∧
      (s 8 (quiet.put Reg.MOD_STATE_RESTORE 1)).mode = .quiesced ∧ (s 8 solo).mode ≠ .quiesced ∧ 9 ≤ reqNat (s 9 solo) 4 0 1 % 16 ∧ reqNat (s 0 solo) 4 0 1 % 16 = 0 ∧
      reqNat (s 7 solo) 4 0 1 % 16 ∈ [1, 2, 4, 5, 6, 7] := by unfold State.runsCmd; decide

theorem witness_serve_entry : let s := (quiet.put Reg.MOD_STATE_SERVE_BLOCK 0).onTwn fun x => { x with entry := some PairState.paired.code }
    s.up = true ∧ s.twn.entry = some PairState.paired.code ∧ s.mode = .quiesced ∧ s.get Reg.MOD_STATE_SERVE_BLOCK = 0 := by decide

/-- Facts of a bring-up in which everything passes. -/
def facts : BringupFacts :=
  { slot := 0, rom := 0, digest := 1, pos := 0, fails := [], lofts := [], floors := [], refused := [], decoders := [], cistern := true, ondie := true, untrained := [], mismatch := [],
    dimms := [], boards := 255, dies := [], readable := true, bad := [] }

/-- A joinery image that passes. -/
def image (v : Nat) : JoinImage := { fits := true, sigOk := true, version := v, compat := 1, recVersion := 1, masks := [255], digest := 5 }

/-- Every board ONLINE and four dies present on every sluice. -/
def withBoards (s : State) : State :=
  (List.range 32).foldl (fun s c => s.put (Reg.SLC_CH_STATE_DIES_PRESENT c) 15)
    ((List.range 8).foldl (fun s b => s.put (Reg.SLC_BOARD_STATE_STATE b) 0) (s.onMed fun x => { x with formatted := true }))

/-- A module in BRINGUP whose steps before k have ended, its footing formatted and online. -/
def atStep (k : Nat) : State := withBoards (stIn .bringup .unpaired [(Reg.MOD_BRINGUP_STEPS, 2 ^ k - 1)])

theorem witness_bringup : (atStep 0).up = true ∧ (atStep 0).mode = .bringup ∧ stepRuns 0 (atStep 0) = true ∧ (atStep 0).get Reg.FMN_STATE_STATE ≠ 2 ∧ 0 ∈ [0, 1, 8, 9] ∧
    (stepWork 0 facts (image 1) (atStep 0)).isSome = true ∧ stepRuns 9 (atStep 9) = true ∧
    ((stepWork 9 facts (image 1) (atStep 9)).map fun u => (endStep 9 u).mode) = some .bringup := by decide +kernel

theorem witness_sweeps : let s := quiet.onPwr fun x => { x with hgHeld := [{ owner := .sweepLoft 3, h0 := false, tokens := 1 }, { owner := .sweepFloor 15, h0 := false, tokens := 1 }] }
    s.up = true ∧ 3 < 4 ∧ hgHolds s (.sweepLoft 3) = true ∧ 15 < 16 ∧ hgHolds s (.sweepFloor 15) = true := by decide

/-! ### Witnesses: mailboxes, identity, register access, foreman, SPDM -/

/-- A mailbox header: opcode, priority, payload length. -/
def rung (m op prio len : Nat) (s : State) : State := ((s.put (Mb.opcode m) op).put (Mb.priority m) prio).put (Mb.length m) len

theorem witness_ring : paired.answers = true ∧ paired.regsOk ∧ 35 < 36 ∧ paired.get (Reg.MBX_STATE_STATE 35) ≠ 1 ∧ paired.get (Reg.MBX_STATE_STATE 35) ≠ 2 ∧
    (paired.put (Reg.MBX_STATE_STATE 35) 1).get (Reg.MBX_STATE_STATE 35) = 1 ∧ (paired.put (Reg.MBX_STATE_STATE 35) 2).get (Reg.MBX_STATE_STATE 35) = 2 ∧
    (paired.put (Reg.MBX_STATE_STATE 39) 3).get (Reg.MBX_STATE_STATE 39) = 3 ∧ 36 ≤ 39 ∧ 39 < 40 ∧ paired.get (Reg.MBX_STATE_STATE 39) ≠ 1 := by
  unfold State.regsOk; decide

theorem witness_command_start : let s := (((paired.put (Reg.MBX_STATE_STATE 39) 1).put (Reg.MBX_STATE_FAST 39) 1).onMbx fun x => { x with queue := [39] })
    s.answers = true ∧ s.regsOk ∧ s.get (Reg.MBX_STATE_STATE 39) = 1 ∧ s.mbx.queue.contains 39 = true ∧ s.get (Reg.MBX_STATE_FAST 39) = 1 := by unfold State.regsOk; decide

theorem witness_ring_refused : let s := (rung 35 0x0101 1 0 paired).put Reg.MBX_ENABLE_ENABLE 0x7FFFFFFFF
    s.answers = true ∧ s.regsOk ∧ s.get (Reg.MBX_STATE_STATE 35) ≠ 1 ∧ s.get (Reg.MBX_STATE_STATE 35) ≠ 2 ∧ ringCheck 35 0 s = some (.notPermitted, noDetail) ∧
      bitOf 35 (s.get Reg.MBX_ENABLE_ENABLE) = false := by unfold State.regsOk; decide

theorem witness_ring_fast : let s := rung 0 0x0181 1 16 paired
    s.answers = true ∧ s.get (Reg.MBX_STATE_STATE 0) ≠ 1 ∧ s.get (Reg.MBX_STATE_STATE 0) ≠ 2 ∧ ringCheck 0 0 s = none ∧ 0x80 ≤ s.get (Mb.opcode 0) % 256 ∧
      s.mode ≠ .recovery ∧ s.mode ≠ .bringup := by decide

theorem witness_ring_foreman : let s := rung 0 0x0101 1 0 paired
    s.answers = true ∧ ringCheck 0 0 s = none ∧ s.get (Mb.opcode 0) % 256 < 0x80 ∧ responderHint (s.get (Mb.opcode 0)) (s.get (Mb.priority 0)) 50 s = none ∧
      responderHint (s.get (Mb.opcode 0)) (s.get (Mb.priority 0)) 50 (s.put Reg.FMN_STATE_STATE 2) = some 200000 ∧ ringCheck 0 0 (s.put Reg.FMN_STATE_STATE 2) = none := by decide

theorem witness_standby : State.reset.mode = .standby := by decide

theorem witness_identity : (running 3 0x0101 [] paired).runsCmd 3 0x0101 ∧ (running 3 0x0102 [] paired).runsCmd 3 0x0102 := by unfold State.runsCmd; decide

/-- STATS_READ of n offsets, the first of them `o`. -/
def stats (n o : Nat) : State := running 3 0x0181 (([n, 0, 0, 0, 0, 0, 0, 0] ++ [o, 0, 0, 0])) paired

theorem witness_stats : (stats 1 4).runsCmd 3 0x0181 ∧ reqNat (stats 1 4) 3 0 2 = 1 ∧ (stats 1 4).get (Mb.length 3) = 8 + 4 * 1 ∧ statsCheck 0 [reqNat (stats 1 4) 3 8 4] = none ∧
    statsCheck 0 [reqNat (stats 1 3) 3 8 4] = some (.badField, 0) ∧ reqNat (stats 0 4) 3 0 2 = 0 ∧ (stats 2 4).get (Mb.length 3) ≠ 8 + 4 * 2 := by
  unfold State.runsCmd; decide

theorem witness_raise_level : let s : State := { paired with sess := [(3, sess 1)] }
    let b := s.onStore fun x => { x with raiseFail := 3 }
    s.live = true ∧ s.mode ≠ .spill ∧ tfind 3 s.sess = some (sess 1) ∧ (sess 1).mgmt = true ∧ s.store.variantB = false ∧ s.store.raiseFail < 3 ∧ 3 ≤ b.store.raiseFail := by decide

/-- PAIRED with management access enabled. -/
def managed : State := { paired.put Reg.GLB_MGT_CFG_ENABLE 1 with sess := [(0, sess 1)] }

theorem witness_register_write : managed.up = true ∧ managed.mode ≠ .spill ∧ managed.get Reg.GLB_MGT_CFG_ENABLE ≠ 0 ∧ (2 ≠ 4 ∧ 2 ≠ 8) ∧ 6 % 4 ≠ 0 ∧ 0x4000000 % 8 = 0 ∧
    0x3FFFFFC % 4 = 0 ∧ regAt 0x3FFFFFC = none ∧ (regAt 0x20300).isSome = true ∧ directLevel 0 0x20300 = none ∧
    (regAt 0x206000).isSome = true ∧ directLevel 0 0x206000 = some 3 ∧ directLevel 8 0x206000 = some 3 ∧ accessorLevel 0 managed < 3 ∧ accessorLevel 8 managed < 3 ∧
    isMgmt 8 = true ∧ isMgmt 0 = false ∧ writeCarried 0 managed = true ∧ writeCarried 8 managed = true := by decide +kernel

theorem witness_foreman : let s := paired.put Reg.FMN_STATE_STATE 2
    let e := paired.onFmn fun x => { x with exc := [9, 8] }
    s.up = true ∧ s.mode ≠ .spill ∧ s.get Reg.FMN_STATE_STATE = 2 ∧ s.mode ≠ .recovery ∧ paired.up = true ∧ paired.get Reg.FMN_STATE_STATE ≠ 2 ∧
      paired.get Reg.FMN_STATE_STATE ≠ 1 ∧ paired.fmn.exc.length < 4096 ∧ e.up = true ∧ e.fmn.exc = 9 :: [8] ∧ e.get Reg.FMN_STATE_STATE = 0 := by decide

theorem witness_spdm : pathAnswers 0 paired = true ∧ 1 ≤ 5 ∧ 7 ≠ 0 ∧ tfree paired.sess 0 4 = some 0 ∧
    tfree ({ paired with sess := [(0, sess 0), (1, sess 0), (2, sess 0), (3, sess 0)] } : State).sess 0 4 = none ∧ tfind 0 managed.sess = some (sess 1) ∧
    pathAnswers 0 managed = true := by decide

/-! ### Witnesses: firmware store, logbook, freeze, JTAG -/

theorem witness_store_status : (running 1 0x0A01 [] paired).runsCmd 1 0x0A01 ∧ (running 1 0x0A01 [] paired).store.opMbx = none := by unfold State.runsCmd; decide

/-- IMAGE_WRITE of one word to an index at an offset, with its flags byte. -/
def writeReq (i flags : Nat) : State := running 1 0x0A02 ([i, flags] ++ List.replicate 14 0 ++ List.replicate 32 255) paired

theorem witness_image_write : (writeReq 8 0).runsCmd 1 0x0A02 ∧ (writeReq 8 0).store.opMbx = none ∧ imageWriteCheck (reqNat (writeReq 8 0) 1 0 1) 0 1 false (writeReq 8 0) = some (.badField, 0) ∧
    (writeReq 3 0).runsCmd 1 0x0A02 ∧ imageWriteCheck (reqNat (writeReq 3 0) 1 0 1) 0 1 false (writeReq 3 0) = none ∧ bitOf 0 (reqNat (writeReq 3 1) 1 1 1) = true ∧
    imageWriteCheck (reqNat (writeReq 3 1) 1 0 1) 0 1 true (writeReq 3 1) = none ∧ reqNat (writeReq 3 0) 1 4 4 = 0 ∧ ((writeReq 3 0).get (Mb.length 1) - 16) / 32 = 1 := by
  unfold State.runsCmd; decide

/-- IMAGE_COMMIT of index 5, whose header holds the joinery identifier, kind 2 and version 9. -/
def commitReq : State := (running 1 0x0A03 [5] paired).onStore fun x =>
  { x with bytes := writeBytes (indexAddr 5 0) ((leBytes 4 0x4E53484B ++ leBytes 4 2 ++ leBytes 4 9 ++ leBytes 4 0).map (fun b => 255 - b)) [] }

theorem witness_image_commit : let word := fun (off n : Nat) => 256 ^ n - 1 - leNat (readBytes commitReq.store.bytes (indexAddr 5 off) n)
    commitReq.runsCmd 1 0x0A03 ∧ reqNat commitReq 1 0 1 = 5 ∧ word 4 1 = 2 ∧ word 0 4 = 0x4E53484B ∧ word 8 4 = 9 := by unfold State.runsCmd; decide

theorem witness_region_unlock : (running 1 0x0A05 [6] paired).runsCmd 1 0x0A05 ∧ reqNat (running 1 0x0A05 [6] paired) 1 0 1 = 6 ∧ reqNat (running 1 0x0A05 [7] paired) 1 0 1 = 7 ∧
    (running 1 0x0A05 [6] paired).store.unlockFail < 3 := by unfold State.runsCmd; decide

theorem witness_store_op : let s := paired.put Reg.FST_STATE_OP 1
    let t := s.onStore fun x => { x with opMbx := some 1 }
    t.up = true ∧ t.mode ≠ .spill ∧ t.get Reg.FST_STATE_OP = 1 ∧ t.store.opMbx = some 1 ∧ s.up = true ∧ s.get Reg.FST_STATE_OP ≠ 0 ∧
      s.store.suspect.contains s.store.opSector = false ∧ s.store.opMbx = none := by decide

theorem witness_hot_restart : (running 1 0x0A04 [] paired).runsCmd 1 0x0A04 ∧ (running 1 0x0A04 [] paired).serving = true ∧ (running 1 0x0A04 [] quiet).mode = .quiesced ∧
    (running 1 0x0A04 [] (stIn .recovery .unpaired [])).runsCmd 1 0x0A04 ∧ (stIn .recovery .unpaired []).serving = false ∧ (stIn .recovery .unpaired []).mode ≠ .quiesced := by
  unfold State.runsCmd; decide

theorem witness_words : let u := paired.onStore fun x => { x with unverified := [1] }
    let p := paired.onStore fun x => { x with programs := [(32, 2)] }
    let h := paired.onStore fun x => { x with bytes := writeBytes 32 [1] [] }
    u.store.unverified.contains (65536 / 65536) = true ∧ paired.store.unverified.contains (65535 / 65536) = false ∧ paired.store.dead.contains 0 = false ∧
      1 &&& wordZeros h 32 ≠ 0 ∧ (2 ^ 256 - 1) &&& wordZeros paired 32 = 0 ∧ (2 ^ 256 - 1) + wordZeros paired 32 = 2 ^ 256 - 1 ∧ 0 &&& wordZeros p 32 = 0 ∧
      0 + wordZeros p 32 ≠ 2 ^ 256 - 1 ∧ 2 ≤ tget 0 32 p.store.programs ∧ tget 0 32 paired.store.programs < 2 := by decide

theorem witness_log_commands : (running 1 0x0B01 ([0, 0, 0, 0, 0, 0, 0, 0] ++ [63]) paired).runsCmd 1 0x0B01 ∧ reqNat (running 1 0x0B01 ([0, 0, 0, 0, 0, 0, 0, 0] ++ [63]) paired) 1 8 2 = 63 ∧
    (running 1 0x0B02 [] paired).runsCmd 1 0x0B02 ∧ (running 1 0x0B03 [] paired).runsCmd 1 0x0B03 ∧ reqNat (running 1 0x0B03 [] paired) 1 20 28 = 0 ∧
    (running 1 0x0D02 [] paired).runsCmd 1 0x0D02 ∧ (running 1 0x0D03 [] paired).runsCmd 1 0x0D03 := by unfold State.runsCmd; decide

/-- A closed record made at epoch 0. -/
def note : LogRec :=
  { seq := some 1, event := 0x0D14, isOpen := false, spilled := false, lostBefore := false, source := 0, cycles := some 1, epoch := 0, tally := 1, lastDelta := 0, opTime := some 0,
    subject := 0, detail := 0, window := 0 }

/-- A PAIRED module whose oldest closed record has waited FLUSH_S. -/
def pageWaits : State := (paired.onEvr fun x => { x with buf := [note], cycles := some 1 }).put Reg.CLK_EPOCH_EPOCH (paired.get Reg.EVR_CFG_FLUSH_S * 1000000)

theorem witness_log_pages : mayWritePage (pageWaits.put Reg.EVR_STATE_STORE_ONLINE 1) = true ∧ pageWaits.evr.pageOut = 0 ∧ pageDue pageWaits = true ∧ pageWaits.live = true ∧
    pageWaits.opTime.isSome = true ∧ (pageWaits.onEvr fun x => { x with pageOut := 1 }).up = true ∧ (pageWaits.onEvr fun x => { x with pageOut := 1 }).evr.pageOut ≠ 0 := by decide

theorem witness_freeze : (running 1 0x0D01 [] paired).runsCmd 1 0x0D01 ∧ (running 1 0x0D01 [] paired).alone = false ∧ (running 1 0x0D01 [] solo).runsCmd 1 0x0D01 ∧
    (running 1 0x0D01 [] solo).alone = true ∧ (paired.onEvr fun x => { x with freezeCmd := true }).live = true ∧ (paired.onEvr fun x => { x with freezeCmd := true }).evr.freezeCmd = true ∧
    paired.evr.freezeAt = none ∧ paired.mode ≠ .spill ∧ paired.pwr.spill = none ∧ (paired.onEvr fun x => { x with freezeAt := some (5, 2) }).evr.freezeAt = some (5, 2) := by
  unfold State.runsCmd; decide

theorem witness_jtag : let f := paired.onEvr fun x => { x with frozen := true, unlocked := true }
    let b := paired.onStore fun x => { x with variantB := true }
    f.pwr.powered = true ∧ f.store.variantB = false ∧ f.evr.frozen = true ∧ f.evr.unlockFail < 3 ∧ f.evr.unlocked = true ∧ f.regsOk ∧ f.mode ≠ .standby ∧
      paired.evr.frozen = false ∧ b.pwr.powered = true ∧ b.store.variantB = true := by unfold State.regsOk; decide

/-! ### Witnesses: cipher, yard and ditches -/

/-- A journalled key. -/
def jkey : JKey := { inst := 3, next := 0, spent := false, forgotten := false }

/-- An application slot that holds that key, AES-CTR, blocks 0 and 1 reserved. -/
def slot : CSlot := { keyId := 77, inst := 3, mode := 1, counter := 0, limit := 2 ^ 24, ahead := [1], loader := none, clearing := none }

/-- KEY_LOAD of slot 4,120 from key pair 8. -/
def keyLoadReq : State := (running 1 0x0901 [0x18, 0x10, 1, 0, 8] { paired with sess := [(0, sess 2)] }).onStore fun x => { x with jkeys := [(77, jkey)] }

theorem witness_key_load : keyLoadReq.runsCmd 1 0x0901 ∧ 4120 ≤ reqNat keyLoadReq 1 0 2 % 16384 ∧ tfind (reqNat keyLoadReq 1 0 2 % 16384) keyLoadReq.cph.slots = none ∧
    reqNat keyLoadReq 1 3 1 ≤ 1 ∧ 8 ≤ reqNat keyLoadReq 1 4 1 ∧ reqNat keyLoadReq 1 4 1 ≤ 15 ∧
    keyLoadReq.sess.any (fun e => e.2.secured && e.2.keyPair / 2 == reqNat keyLoadReq 1 4 1 / 2) = true ∧ tfind 77 keyLoadReq.store.jkeys = some jkey ∧ jkey.spent = false ∧
    jkey.forgotten = false ∧ jkey.next < lastBlock := by unfold State.runsCmd; decide

/-- A PAIRED module with an application key in slot 4,120. -/
def keyed : State := (paired.onCph fun x => { x with slots := [(4120, slot)] }).onStore fun x => { x with jkeys := [(77, jkey)] }

theorem witness_key_clear : (running 1 0x0902 [0x18, 0x10] paired).runsCmd 1 0x0902 ∧ 4120 ≤ reqNat (running 1 0x0902 [0x18, 0x10] paired) 1 0 2 % 16384 ∧
    tfind 4120 paired.cph.slots = none ∧ tfind (reqNat (running 1 0x0902 [0x18, 0x10] keyed) 1 0 2 % 16384) keyed.cph.slots = some slot ∧ slot.clearing = none ∧ slot.loader = none ∧
    (running 1 0x0903 [77] keyed).runsCmd 1 0x0903 ∧ tfind (reqNat (running 1 0x0903 [77] keyed) 1 0 8) keyed.store.jkeys = some jkey ∧
    (running 1 0x0905 [] keyed).runsCmd 1 0x0905 := by unfold State.runsCmd; decide

/-- A submission descriptor: AES-CTR encryption with slot 4,120, 16 bytes from handle 1 to handle 2. -/
def desc (sl : Nat) : List Nat := [2, 0, sl, 0x10, 16, 0, 0, 0, 0, 0, 0, 0, 1, 0, 0, 0, 2] ++ List.replicate 47 0

/-- That key and the two buffers, owned by caller 5. -/
def submitting : State := keyed.onYrd fun x => { x with bufs := [(1, 5), (2, 5)] }

theorem witness_submission : let d := padTo 64 ((desc 0x18).map (BitVec.ofNat 8))
    submitting.up = true ∧ cipherFieldCheck d submitting = none ∧ cipherHandleCheck d 5 submitting = none ∧ cipherKeyCheck d submitting = none ∧
      cipherFieldCheck (padTo 64 ((desc 0x17).map (BitVec.ofNat 8))) submitting = some .notPermitted := by decide

theorem witness_cipher_submit : let s := running 1 0x0904 (desc 0x18 ++ List.replicate 16 9) keyed
    let d := reqBytes s 1 0 64
    s.runsCmd 1 0x0904 ∧ cipherFieldCheck d s = none ∧ s.get (Mb.length 1) = 64 + descNat d 4 4 + descNat d 8 2 ∧ cipherKeyCheck d s = none := by
  unfold State.runsCmd; decide

/-- A cipher job under way. -/
def job : CJob := { mbx := none, decrypt := false, mode := 1, slot := 4120, dst := 2, bufs := [1, 2], iv := 0, tag := 0, aad := [], data := [], started := true }

theorem witness_cipher_events : let s := keyed.onCph fun x => { x with jobs := [(6, job)] }
    s.up = true ∧ tfind 6 s.cph.jobs = some job ∧ job.started = true ∧ 15 < 16 ∧ s.serving = true ∧ s.get (Reg.CPH_CORE_STATE_STATE 15) = 0 ∧ 4120 ≠ 0 ∧ 4120 ≠ 2 ∧
      tfind 4120 s.cph.slots = some slot ∧ slot.loader = none ∧ slot.ahead.length < 2 ∧ jkey.next < lastBlock ∧ jkey.next + 3 ≤ lastBlock ∧ s.mode ≠ .spill ∧ tfind 77 s.store.jkeys = some jkey := by decide

/-- That slot while its first record is awaited and nobody waits for it. -/
theorem witness_first_record : let s := keyed.onCph fun x => { x with slots := [(4120, { slot with loader := some 65 })] }
    tfind 4120 s.cph.slots = some { slot with loader := some 65 } ∧ 40 ≤ 65 := by decide

theorem witness_yard : let s := paired.onYrd fun x => { x with bufs := [(1, 5)] }
    s.up = true ∧ 0 < 1 ∧ 2097152 ≤ 2097152 ∧ (allocPick 1 0 s).isSome = true ∧ handleCheck 1 5 none s = none ∧ handleCheck 1 5 (some 0x347) s = none ∧ ownerValid 0x347 = true := by
  decide

/-- A queue of two cells and the cell of an open packet. -/
def queue : DQueue :=
  { state := 1, consumer := 7, notice := 0, maxCells := 8, packets := [[{ num := 0, data := [] }, { num := 1, data := [] }]], part := false,
    opens := [(5, [{ num := 2, data := [] }])] }

/-- A module with that queue. -/
def ditched : State := paired.onYrd fun x => { x with started := true, queues := [(0x8000, queue)], cells := [(0, 0x8000), (1, 0x8000), (2, 0x8000)] }

theorem witness_ditch : ditched.up = true ∧ ditched.queue 0x8000 = some queue ∧ queue.state = 1 ∧ false = (queue.opens.find? (fun e => e.1 == 5)).isNone ∧
    1 ≤ [255].length ∧ [255].length ≤ 256 ∧ openPackets ditched < 16384 ∧ (queue.opens.find? (fun e => e.1 == 5)).all (fun e => decide (e.2.length < 4096)) = true ∧
    queue.cells < queue.maxCells ∧ cellPick ditched = some 3 ∧ queue.packets = ({ num := 0, data := [] } :: [{ num := 1, data := [] }]) :: [] ∧
    queue.opens.any (fun e => e.1 == 5) = true ∧ 1 ≤ 4194304 ∧ tnext 0x8000 ditched.yrd.queues ≤ 0xFFFF ∧ queueFixed 0x8000 = false := by decide

theorem witness_lock_pairs : let s := (paired.put (Reg.DQM_LP_STATE_BANK0 37) 1).put (Reg.DQM_LP_STATE_BANK0 0) 3
    s.up = true ∧ 37 < 38 ∧ s.get (Reg.DQM_LP_STATE_BANK0 37) = 1 ∧ s.get (Reg.DQM_LP_STATE_BANK0 0) = 3 ∧ 3 < 4 ∧ unitState s 33 ≠ 3 ∧ unitState s 33 ≠ 5 := by decide

theorem witness_yard_mailbox : (running 1 0x0E04 [] paired).runsCmd 1 0x0E04 ∧ (running 1 0x0E82 [] paired).runsCmd 1 0x0E82 ∧ (running 1 0x0E81 [] paired).runsCmd 1 0x0E81 := by
  unfold State.runsCmd; decide

/-! ### Witnesses: reaches, the pair, the cable, loss and join -/

/-- A reach in a state, of a kind (1 volatile), owned here or not. -/
def reach (n state kind own : Nat) : List (Fld × Nat) :=
  [(Reg.TIR_REACH_STATE n, state), (Reg.TIR_REACH_KIND n, kind), (Reg.TIR_REACH_LOCAL_OWNED n, own)]

theorem witness_provision : let s := running 2 0x0601 [0xFF, 0x0F, 0, 1] (stIn .paired .paired [(Reg.TIR_HAS_CFG_REACH_LIMIT, 1)])
    let v := running 2 0x0601 [0xFF, 0x0F, 1, 0] (stIn .paired .paired [(Reg.TIR_HAS_CFG_VOL_LIMIT, 1), (Reg.FLC_DIMM_GIB 0 0, 128)])
    s.runsCmd 2 0x0601 ∧ s.mode = .paired ∧ reqNat s 2 0 2 % 4096 = 4095 ∧ reachState s 4095 = 0 ∧ s.twn.reachOps.any (fun o => o.reach == 4095) = false ∧ reqNat s 2 3 1 ≤ 1 ∧
      reqNat s 2 2 1 = 0 ∧ reachesOf 0 s + (s.twn.reachOps.filter (fun o => o.action == 0)).length < s.get Reg.TIR_HAS_CFG_REACH_LIMIT ∧ reqNat v 2 2 1 = 1 ∧ reqNat v 2 3 1 = v.pos ∧
      reachesOf 1 v < v.get Reg.TIR_HAS_CFG_VOL_LIMIT ∧ 128 * (reachesOf 1 v + 1) ≤ floorGib v := by unfold State.runsCmd; decide +kernel

/-- A REACH_… command on reach 4,095 of a PAIRED module. -/
def onReach (op kind own : Nat) : State := running 2 op [0xFF, 0x0F] (stIn .paired .paired (reach 4095 1 kind own ++ [(Reg.TWN_STATE_TWIN_MODE, 4)]))

theorem witness_release_reach : (onReach 0x0602 0 1).runsCmd 2 0x0602 ∧ (onReach 0x0602 0 1).mode = .paired ∧ reachState (onReach 0x0602 0 1) 4095 = 1 ∧
    (onReach 0x0602 0 1).get (Reg.TIR_REACH_WINDOWS 4095) = 0 ∧ volatileReach (onReach 0x0602 0 1) 4095 = false ∧ volatileReach (onReach 0x0602 1 1) 4095 = true ∧
    ownsReach (onReach 0x0602 1 1) 4095 = true ∧ reqNat (onReach 0x0602 0 1) 2 0 2 % 4096 = 4095 := by unfold State.runsCmd; decide

theorem witness_handover : (onReach 0x0603 0 1).runsCmd 2 0x0603 ∧ (onReach 0x0603 0 1).mode = .paired ∧ (onReach 0x0603 0 1).get Reg.TWN_STATE_TWIN_MODE = 4 ∧
    reachState (onReach 0x0603 0 1) 4095 = 1 ∧ volatileReach (onReach 0x0603 0 1) 4095 = false ∧ (onReach 0x0603 0 1).twn.handovers.any (fun h => h.1 == 4095) = false ∧
    ownsReach (onReach 0x0603 0 1) 4095 = true ∧ ownsReach (onReach 0x0603 0 0) 4095 = false := by unfold State.runsCmd; decide

theorem witness_dir_read : let s := running 2 0x0701 [0, 0, 0] (stIn .paired .paired (reach 0 1 0 1))
    s.runsCmd 2 0x0701 ∧ reachState s (granReach (reqNat s 2 0 8 % 2 ^ 34)) ≠ 0 ∧
      reachState (running 2 0x0701 [0, 0, 0] paired) (granReach (reqNat (running 2 0x0701 [0, 0, 0] paired) 2 0 8 % 2 ^ 34)) = 0 ∧
      (running 2 0x0703 [] paired).runsCmd 2 0x0703 := by unfold State.runsCmd; decide

/-- QUIESCED with a restore outcome, SERVE_BLOCK clear. -/
def restored (p : PairState) : State := stIn .quiesced p [(Reg.MOD_STATE_RESTORE, 1), (Reg.MOD_STATE_SERVE_BLOCK, 0)]

theorem witness_pair_commands : (running 5 0x0604 [] paired).runsCmd 5 0x0604 ∧ (running 5 0x0605 [] (restored .unpaired)).runsCmd 5 0x0605 ∧ mayJoin (restored .unpaired) = true ∧
    (restored .unpaired).twn.waitingJoin = false ∧ mayJoin paired = false ∧ (running 5 0x0606 [1] paired).runsCmd 5 0x0606 ∧ reqNat (running 5 0x0606 [1] paired) 5 0 1 ≤ 1 ∧
    paired.pair = .paired ∧ paired.mode = .paired ∧ paired.twn.margin = false ∧ paired.twn.split = none ∧ reqNat (running 5 0x0606 [1] paired) 5 0 1 ≠ paired.pos ∧
    reqNat (running 5 0x0606 [0] paired) 5 0 1 = paired.pos ∧ solo.pair ≠ .paired := by unfold State.runsCmd; decide

theorem witness_pair_commands2 : (running 5 0x0607 [1] (restored .contested)).runsCmd 5 0x0607 ∧ reqNat (running 5 0x0607 [1] (restored .contested)) 5 0 1 ≤ 1 ∧
    (restored .contested).pair = .contested ∧ paired.pair ≠ .contested ∧ (running 5 0x0608 [] (restored .fenced)).runsCmd 5 0x0608 ∧ (restored .fenced).mode = .quiesced ∧
    (restored .fenced).get Reg.MOD_STATE_RESTORE ≠ 0 ∧ (restored .fenced).get Reg.TWN_STATE_TWIN_MODE = 0 ∧ (restored .fenced).get Reg.MOD_STATE_SERVE_BLOCK = 0 ∧
    (restored .fenced).pair = .fenced ∧ (running 5 0x0609 [0] paired).runsCmd 5 0x0609 ∧ reqNat (running 5 0x0609 [0] paired) 5 0 1 = 0 ∧
    reqNat (running 5 0x0609 [5] paired) 5 0 1 = 5 := by unfold State.runsCmd; decide

theorem witness_words_and_lines : let f := stIn .quiesced .fenced []
    let c := paired.put Reg.TWN_STATE_CABLE_FAULT 1
    paired.up = true ∧ paired.twn.lastSlot ≠ some 9 ∧ (paired.onTwn fun x => { x with lastSlot := some 9 }).twn.lastSlot = some 9 ∧ 1 % 2 ≠ paired.pos ∧ 0 % 2 = paired.pos ∧
      paired.flag Reg.TWN_VIOL_CABLE_FENCED = false ∧ paired.flag Reg.TWN_STATE_CABLE_FAULT = false ∧ c.flag Reg.TWN_STATE_CABLE_FAULT = true ∧ c.up = true ∧
      paired.serving = true ∧ paired.pair ≠ .fenced ∧ paired.twn.split = none ∧ f.pair = .fenced ∧ (f.onTwn fun x => { x with settled := true }).twn.settled = true ∧ f.up = true ∧
      f.twn.settled = false ∧ paired.regsOk := by unfold State.regsOk; decide

theorem witness_cable : let s := (paired.put Reg.CLK_EPOCH_EPOCH 100).onTwn fun x => { x with wordAt := 96, frameAt := 98 }
    let c := ((paired.put Reg.CLK_EPOCH_EPOCH 100).put Reg.TWN_STATE_CABLE_FAULT 1).onTwn fun x => { x with wordAt := 99, runAt := 0 }
    s.epoch ≥ s.twn.wordAt + 4 ∧ s.epoch ≤ s.twn.frameAt + 2 ∧ c.up = true ∧ c.flag Reg.TWN_STATE_CABLE_FAULT = true ∧ c.flag Reg.TWN_VIOL_CABLE_FENCED = false ∧
      c.epoch ≥ c.twn.runAt + 100 ∧ c.epoch ≤ c.twn.wordAt + 1 ∧ c.flag Reg.TWN_STATE_FENCE_IN = false ∧ c.flag Reg.TWN_STATE_PF_IN = false ∧ c.pair ≠ .fenced := by decide

/-- A cistern record at a position: FULL, of reach r with number n. -/
def rec1 (pos r n : Nat) : Rec :=
  { kind := RecKind.full, reach := r, isLocal := false, origin := 0, mirror := false, window := 0, seq := n, line := r * 2 ^ 30, mask := 2 ^ 64 - 1, poison := 0, epoch := 0, ticket := 0,
    port := 0, part := 0, last := true, data := [], xlts := [], pos := pos, held := false, visible := false, applied := false, retired := false }

theorem witness_loss : let s := paired.put Reg.CLK_EPOCH_EPOCH 8
    let r := (stIn .paired .paired (reach 0 1 0 1 ++ [(Reg.CLK_EPOCH_EPOCH, 8)])).onCis fun x => { x with recs := [rec1 0 0 1] }
    s.up = true ∧ silent (s.onTwn fun x => { x with wordAt := 4, frameAt := 4 }) = true ∧ s.flag Reg.TWN_STATE_CABLE_FAULT = false ∧ r.epoch ≥ r.twn.heldAt + 8 ∧
      (unackedRecs r).any (fun e => decide (r.epoch ≥ e.epoch + 8)) = true ∧ r.up = true := by decide

theorem witness_arbitration : let s := ((paired.put Reg.CLK_EPOCH_EPOCH 8)).onTwn fun x => { x with downAt := some 4, wordAt := 5 }
    let d := s.put Reg.TWN_STATE_DEGRADED 1
    let p := s.put Reg.TIR_HAS_CFG_PAIR_POS 1
    s.up = true ∧ s.twn.downAt = some 4 ∧ s.mirrors = true ∧ s.epoch ≥ 4 + 4 ∧ s.epoch < s.twn.wordAt + 4 ∧ s.flag Reg.TWN_STATE_CABLE_FAULT = false ∧ s.twn.twinCf = false ∧
      s.twn.margin = false ∧ s.flag Reg.TWN_STATE_DEGRADED = s.flag Reg.TWN_STATE_TWIN_DEGRADED ∧ s.pos ≠ 1 ∧ p.pos = 1 ∧ d.flag Reg.TWN_STATE_DEGRADED = true ∧
      d.flag Reg.TWN_STATE_TWIN_DEGRADED = false := by decide

theorem witness_link_and_cable : let s := (((paired.put Reg.CLK_EPOCH_EPOCH 6)).put Reg.TWN_STATE_CABLE_FAULT 1).onTwn fun x => { x with frameAt := 0 }
    let p := s.put Reg.TIR_HAS_CFG_PAIR_POS 1
    let m := (s.put Reg.TWN_TKO_EPOCH_EPOCH 5).onTwn fun x => { x with margin := true }
    s.up = true ∧ s.flag Reg.TWN_STATE_CABLE_FAULT = true ∧ s.mirrors = true ∧ s.twn.margin = false ∧ s.pos ≠ 1 ∧ s.epoch ≥ s.twn.frameAt + 6 ∧ p.pos = 1 ∧ p.epoch ≥ p.twn.frameAt + 4 ∧
      m.twn.margin = true ∧ m.epoch ≥ m.get Reg.TWN_TKO_EPOCH_EPOCH + 1 := by decide

theorem witness_catching_up : let s := stIn .resync .catchingUp []
    s.up = true ∧ s.regsOk ∧ s.pair = .catchingUp ∧ 6 ≠ 7 := by unfold State.regsOk; decide

/-- A twin's history of a generation. -/
def hist (g : Nat) : TwinHist := { identity := 3, gen := g, stop := 2, restore := 1, served := false, twinOf := 4, reaches := [] }

theorem witness_join : let s := ((((restored .unpaired).put (Reg.TWN_PORT_STATE_LINK 0) 2).put Reg.TWN_STATE_TWIN_MODE 3).put Reg.TWN_CFG_AUTO_REJOIN 0).put Reg.TWN_STATE_CABLE_FAULT 0
    let a := s.onTwn fun x => { x with accept := true }
    a.up = true ∧ mayJoin a = true ∧ a.get Reg.TWN_STATE_TWIN_MODE ≠ 0 ∧ portSends a 0 = true ∧ a.flag Reg.TWN_STATE_CABLE_FAULT = false ∧ a.twn.accept = true ∧
      s.twn.accept = false ∧ s.flag Reg.TWN_CFG_AUTO_REJOIN = false ∧ s.twn.waitingJoin = false := by decide

theorem witness_settle : let s := (((restored .joining).put Reg.TWN_TWIN_ID_ID 3).put Reg.TWN_GEN_GEN 7).onTwn fun x => { x with joining := true, hist := some (hist 8) }
    let t := s.onStore fun x => { x with identity := 4 }
    t.up = true ∧ t.twn.hist = some (hist 8) ∧ t.twn.joining = true ∧ t.twn.reconciling = false ∧ t.twn.entry = none ∧ t.twn.twinSettled = false ∧
      t.get Reg.TWN_TWIN_ID_ID = (hist 8).identity ∧ (hist 8).twinOf = t.store.identity ∧ restoreFailed t = false ∧ (hist 8).restore ≠ 3 ∧ t.get Reg.TWN_GEN_GEN < (hist 8).gen ∧
      (hist 6).gen < t.get Reg.TWN_GEN_GEN ∧ t.pair = .joining ∧ silent (t.put Reg.CLK_EPOCH_EPOCH 4) = true := by decide

theorem witness_resync : let s := (stIn .resync .resyncing [(Reg.TIR_CST_STATE_TWIN_ADMIT, 0)]).onTwn fun x => { x with cub := [5] }
    let e := stIn .resync .resyncing []
    let c := (stIn .resync .catchingUp []).onTwn fun x => { x with hist := some (hist 1), deaf := false }
    s.up = true ∧ s.pair = .resyncing ∧ s.twn.margin = false ∧ mayStream s = true ∧ nextStream s = some 5 ∧ (s.gran 5).lock = none ∧ (s.gran 5).waiters = [] ∧ e.up = true ∧
      e.twn.margin = false ∧ e.twn.cub = [] ∧ e.twn.coarse = [] ∧ e.twn.streamed = [] ∧ c.pair = .catchingUp ∧ c.twn.partialG = [] ∧ c.twn.merged = [] ∧ c.twn.hist ≠ none ∧
      c.twn.deaf = false := by decide

/-! ### Witnesses: joinery and bench -/

/-- A ready step. -/
def jstep : JStep := { op := 12, entry := 3, image := 1, bay := 7, mask := 255 }

theorem witness_joinery : let s := paired.onJnb fun x => { x with ready := [jstep] }
    let b := paired.onFmn fun x => { x with budgets := [(3, 0), (3, 0)] }
    s.up = true ∧ s.jnb.ready.find? (fun t => t.op == 12) = some jstep ∧ ((recentBudgets paired).filter (fun e => e.1 == 3)).length + 1 < (paired.put Reg.JNB_CFG_FAULT_LIMIT 3).get Reg.JNB_CFG_FAULT_LIMIT ∧
      (b.put Reg.JNB_CFG_FAULT_LIMIT 3).get Reg.JNB_CFG_FAULT_LIMIT ≤ ((recentBudgets b).filter (fun e => e.1 == 3)).length + 1 ∧ 63 < 64 ∧
      paired.flag (Reg.JNB_JOINER_STATE_MAPPED_OUT (63 / 8) (63 % 8)) = false ∧ 1 ≤ 3 ∧ (paired.onJnb fun x => { x with retest := [63] }).jnb.retest.contains 63 = true := by decide

theorem witness_joiner_test : let s := (paired.put (Reg.JNB_BAY_STATE_JOINERS 7) 128).put Reg.CLK_EPOCH_EPOCH (paired.get Reg.JNB_CFG_TEST_PERIOD_S * 10000000)
    s.up = true ∧ s.jnb.retest.contains 63 = false ∧ s.serving = true ∧ bitOf (63 % 8) (s.get (Reg.JNB_BAY_STATE_JOINERS (63 / 8))) = true ∧
      s.jnb.testAt + s.get Reg.JNB_CFG_TEST_PERIOD_S * 10000000 ≤ s.epoch := by decide

/-- A PAIRED module whose bay b stands in a state, the others IN_SERVICE with image 1. -/
def bays (b st : Nat) : State := ((List.range 8).foldl (fun s c => (s.put (Reg.JNB_BAY_STATE_STATE c) 3).put (Reg.JNB_BAY_IMAGE_VERSION c) 1) paired).put (Reg.JNB_BAY_STATE_STATE b) st

theorem witness_bays : (bays 7 1).up = true ∧ bayState (bays 7 1) 7 = 1 ∧ bayState (bays 7 2) 7 = 2 ∧ tfind 7 (bays 7 2).jnb.waiters = none ∧ bayState (bays 7 4) 7 = 4 ∧
    drained 7 ((bays 7 4).onJnb fun x => { x with waiters := [(7, 9)] }) = true ∧ tfind 7 ((bays 7 4).onJnb fun x => { x with waiters := [(7, 9)] }).jnb.waiters = some 9 := by decide

theorem witness_bay_commands : let l := fun (st : Nat) => running 33 0x0E01 [7, 0, 0, 0, 5] (bays 7 st)
    (l 0).runsCmd 33 0x0E01 ∧ reqNat (l 0) 33 4 4 = 5 ∧ bayState (l 0) (reqNat (l 0) 33 0 1 % 8) = 0 ∧ loadCheck 7 (bitOf 0 (reqNat (l 0) 33 1 1)) (image 1) (l 0) = none ∧
      bayState (l 2) 7 = 2 ∧ (running 33 0x0E02 [7] (bays 7 3)).runsCmd 33 0x0E02 ∧ bayState (bays 7 3) (reqNat (running 33 0x0E02 [7] (bays 7 3)) 33 0 1 % 8) = 3 ∧
      (∀ c, c < 8 → c ≠ 7 → bayState (bays 7 3) c = 0 ∨ bayState (bays 7 3) c = 3) ∧ leavesNone 7 (bays 7 3) = false ∧ (running 33 0x0E03 [] paired).runsCmd 33 0x0E03 := by
  unfold State.runsCmd; decide

/-- A management session of a level on an open management port, bench bank 15 in a state. -/
def benched (l st : Nat) : State := { (paired.put Reg.GLB_MGT_CFG_ENABLE 1).put (Reg.BCH_BANK_STATE_STATE 15) st with sess := [(0, sess l)] }

theorem witness_bench : (benched 0 0).up = true ∧ writeCarried 8 (benched 0 0) = true ∧ writeCarried 8 (benched 1 0) = true ∧ 15 < 16 ∧ accessorLevel 8 (benched 0 0) < 1 ∧ 1 ≤ accessorLevel 8 (benched 1 0) ∧ (benched 1 0).get (Reg.BCH_BANK_STATE_STATE 15) = 0 ∧
    (benched 1 1).get (Reg.BCH_BANK_STATE_STATE 15) ≠ 0 ∧ (benched 1 3).get (Reg.BCH_BANK_STATE_STATE 15) = 3 ∧ (benched 1 2).get (Reg.BCH_BANK_STATE_STATE 15) = 2 := by decide

theorem witness_parity : let s := (((benched 1 1).put Reg.BCH_CFG_PARITY_LIMIT 1).onTir fun x => { x with parity := [(15, 0)] })
    s.get Reg.BCH_CFG_PARITY_LIMIT ≠ 0 ∧ s.get Reg.BCH_CFG_PARITY_LIMIT ≤ (s.tir.parity.filter (fun e => e.1 == 15 && decide (s.epoch < e.2 + 86400000000))).length ∧
      bankOn s 15 = true := by decide

theorem witness_maintenance : let s := benched 1 1
    let t := s.put Reg.BCH_MAINT_OP_SCOPE 1
    s.get Reg.BCH_MAINT_OP_BUSY ≠ 1 ∧ (s.put Reg.BCH_MAINT_OP_BUSY 1).get Reg.BCH_MAINT_OP_BUSY = 1 ∧ maintCheck 8 (s.put Reg.BCH_MAINT_OP_OP 2) = none ∧
      maintCheck 8 (t.put Reg.BCH_MAINT_OP_OP 2) = some .badField ∧ 1 ≤ accessorLevel 8 t ∧ writeCarried 8 t = true := by decide

/-- A fill under way of sector 0 of block 15, and a victim that nothing waits for. -/
def bfill : BFill := { isMeta := false, ba := 15, sector := 0, age := 0, cut := false, mod := false }

theorem witness_bench_fill : let s := (benched 1 1).onTir fun x => { x with bfills := [bfill], victims := [{ ba := 4, sectors := 1, waits := [] }] }
    s.up = true ∧ s.tir.bfills.find? (fun f => f.isMeta == false && f.ba == 15) = some bfill ∧ bankOn s (benchBank 15) = true ∧ bfill.cut = false ∧
      s.tir.victims.find? (fun v => v.ba == 4) = some { ba := 4, sectors := 1, waits := [] } := by decide

/-! ### Witnesses: frames, units, footing, integrity -/

/-- One entry: MBX_ENABLE, low word. -/
def entry : FrmEntry := { off := 0x20200, mask := 1, value := 1 }

/-- A frame in a state with one entry, and the mailbox that waits on its peg. -/
def frame (st : Nat) (w : Option Nat) : Frame := { state := st, entries := [entry], status := 0, target := 30, opener := 1, waiter := w, checked := false }

/-- A PAIRED module whose frame 7 is this one, while mailbox 1 runs a frame command on it. -/
def framed (op : Nat) (x : Frame) : State := running 1 op ([7] ++ List.replicate 15 0) (paired.onFrm fun y => { y with frames := [(7, x)] })

theorem witness_frame_open : (running 1 0x0301 [] paired).runsCmd 1 0x0301 ∧ tfree paired.frm.frames 0 8 = some 0 ∧ (framed 0x0305 (frame 2 none)).runsCmd 1 0x0305 ∧
    tfind (reqNat (framed 0x0305 (frame 2 none)) 1 0 1) (framed 0x0305 (frame 2 none)).frm.frames = some (frame 2 none) ∧ (frame 2 none).state ≠ 3 ∧
    (framed 0x0306 (frame 2 none)).runsCmd 1 0x0306 ∧ reqNat (framed 0x0306 (frame 2 none)) 1 0 1 < 8 := by unfold State.runsCmd; decide

/-- FRAME_STAGE of one entry at an offset. -/
def stageReq (off : Nat) : State :=
  running 1 0x0302 ([7, 0, 1, 0, 0, 0, 0, 0] ++ (leBytes 4 off).map BitVec.toNat ++ [1, 0, 0, 0, 1, 0, 0, 0, 0, 0, 0, 0]) (paired.onFrm fun y => { y with frames := [(7, frame 1 none)] })

theorem witness_frame_stage : let s := stageReq 0x20200
    s.runsCmd 1 0x0302 ∧ reqNat s 1 0 1 = 7 ∧ reqNat s 1 2 2 = 1 ∧ tfind 7 s.frm.frames = some (frame 1 none) ∧ (frame 1 none).state ≠ 3 ∧ s.get (Mb.length 1) = 8 + 16 * 1 ∧
      stageRefusal 7 (stageEntries s 1 1) s = none ∧ (frame 1 none).entries.length + 1 ≤ 1024 ∧ stageRefusal 7 (stageEntries (stageReq 2) 1 1) (stageReq 2) = some (0, .badField) := by
  unfold State.runsCmd; decide

theorem witness_frame_fit : let s := framed 0x0303 (frame 1 none)
    let q := running 1 0x0303 ([7] ++ List.replicate 15 0) ((stIn .recovery .unpaired []).onFrm fun y => { y with frames := [(7, frame 1 none)] })
    s.runsCmd 1 0x0303 ∧ (fitChecks 7 (frame 1 none) s).isNone = true ∧ q.runsCmd 1 0x0303 ∧ (fitChecks 7 (frame 1 none) q).isSome = true := by unfold State.runsCmd; decide

theorem witness_frame_peg : let s := framed 0x0304 (frame 2 none)
    s.runsCmd 1 0x0304 ∧ (frame 2 none).state = 2 ∧ reqNat s 1 8 8 = 0 ∧ (∀ i ∈ frameIslands (frame 2 none), generations s i < 8) := by unfold State.runsCmd; decide

theorem witness_peg_events : let x := { frame 3 (some 1) with checked := false }
    let y := { frame 3 (some 1) with checked := true }
    let s := (framed 0x0304 x).put Reg.CLK_EPOCH_EPOCH 30
    let r := ((stIn .recovery .unpaired []).onFrm fun z => { z with frames := [(7, x)] })
    s.up = true ∧ tfind 7 s.frm.frames = some x ∧ x.state = 3 ∧ x.waiter = some 1 ∧ x.checked = false ∧ x.target ≤ s.epoch + 1 ∧ (stateChecks 7 x s).isNone = true ∧
      (stateChecks 7 x r).isSome = true ∧ y.checked = true ∧ y.target ≤ s.epoch := by decide

/-- A PAIRED module whose unit u stands in a state with an ACTION. -/
def unit (u st act : Nat) : State := (paired.put (Reg.FRM_UNIT_STATE_STATE u) st).put (Reg.FRM_UNIT_CTL_ACTION u) act

theorem witness_units : (unit 65 1 1).up = true ∧ unitState (unit 65 1 1) 65 = 1 ∧ (unit 65 1 1).get (Reg.FRM_UNIT_CTL_ACTION 65) = 1 ∧ 14 ≤ 65 ∧ 65 < 66 ∧
    unitState (unit 11 1 1) 11 = 1 ∧ ((unit 11 1 1).put (Reg.ETH_PORT_STATE_RATE 3) 2).get (Reg.ETH_PORT_STATE_RATE (11 - 8)) ≠ 3 ∧ unitState (unit 33 1 2) 33 = 1 ∧
    (unit 33 1 2).get (Reg.FRM_UNIT_CTL_ACTION 33) = 2 ∧ unitClass 33 = 3 ∧ unitClass 29 = 2 ∧ unitState (unit 29 1 2) 29 = 1 ∧ hgHolds (unit 29 1 2) (.evac (29 - 14)) = false ∧
    (unit 29 1 2).pwr.hgWait.any (fun r => r.owner = HgOwner.evac (29 - 14)) = false := by decide

theorem witness_units_back : unitState (unit 29 4 0) 29 = 4 ∧ unitState (unit 33 4 0) 33 = 4 ∧ unitState (unit 14 2 1) 14 = 2 ∧ 14 ≠ 12 ∧ 14 ≠ 13 ∧
    bitOf (29 - 14) (((unit 29 4 0).put Reg.ECC_INIT_STATE_CHANNELS_DONE 32768).get Reg.ECC_INIT_STATE_CHANNELS_DONE) = true := by decide

theorem witness_boards : let s := running 1 0x0801 [7] (withBoards paired)
    let a := running 1 0x0802 [7] ((withBoards paired).put (Reg.SLC_BOARD_STATE_STATE 7) 2)
    s.runsCmd 1 0x0801 ∧ reqNat s 1 0 1 % 8 = 7 ∧ (∀ o, o < 8 → o ≠ 7 → s.get (Reg.SLC_BOARD_STATE_STATE o) = 0) ∧ s.get (Reg.SLC_BOARD_STATE_STATE 7) ≠ 2 ∧ a.runsCmd 1 0x0802 ∧
      a.serving = true ∧ bitOf 3 ((a.put Reg.MOD_STATE_SERVE_BLOCK 0).get Reg.MOD_STATE_SERVE_BLOCK) = false ∧ a.get (Reg.SLC_BOARD_STATE_STATE (reqNat a 1 0 1 % 8)) = 2 := by
  unfold State.runsCmd; decide

theorem witness_format : (running 1 0x0803 [] quiet).runsCmd 1 0x0803 ∧ quiet.mode = .quiesced ∧ reachesOf 0 (running 1 0x0803 [] quiet) = 0 ∧ (running 1 0x0803 [] paired).mode ≠ .quiesced ∧
    0 < reachesOf 0 (stIn .quiesced .unpaired (reach 4095 1 0 1)) ∧ (running 1 0x0804 [] paired).runsCmd 1 0x0804 := by unfold State.runsCmd; decide +kernel

/-- A ladder on quarter 3 of granule 9 whose deadline is past. -/
def ladder : Ladder := { quarter := 39, deadline := 0, step := 1, shifts := 0, asked := false }

theorem witness_ladder : let s := paired.onTir fun x => { x with ladders := [ladder] }
    let f := paired.onTir fun x => { x with dir := [(9, { Gran.zero with fillQ := 8 })] }
    s.up = true ∧ 3 < 4 ∧ ladderOn 9 3 s = some ladder ∧ ladder.deadline ≤ s.epoch ∧ ladderOn 9 3 f = none ∧ bitOf 3 (f.gran 9).fillQ = true := by decide

theorem witness_media_events : let s := (withBoards paired).put (Reg.SLC_BOARD_STATE_STATE 7) 4
    s.up = true ∧ 31 < 32 ∧ 15 < 16 ∧ bitOf 15 (s.get (Reg.SLC_CH_STATE_DIES_FAILED 31)) = false ∧ s.get (Reg.SLC_BOARD_STATE_STATE (31 / 4)) ≠ 2 ∧
      s.get (Reg.SLC_BOARD_STATE_STATE 7) = 4 := by decide

theorem witness_scrub : let s := ((paired.put Reg.ECC_CFG_SCRUB_LOFT 1).put Reg.ECC_CFG_SCRUB_FOOTING 1).onTir fun x => { x with scrubAt := [(2, 0)] }
    let l := s.put Reg.CLK_EPOCH_EPOCH (scrubPeriod 2 s + 1)
    s.up = true ∧ 2 < 3 ∧ scrubOn 2 s = true ∧ scrubOn 0 s = true ∧ 0 ≠ 2 ∧ tfind 2 l.tir.scrubAt = some 0 ∧ 0 + scrubPeriod 2 l < l.epoch ∧ l.flag (Reg.ECC_SCRUB_STATE_LATE 2) = false := by
  decide

theorem witness_thresholds : let s := (((paired.put Reg.ECC_THRESH_DEV_CE 1).put Reg.ECC_THRESH_CH_UE 1).put Reg.ECC_THRESH_STACK_UE 1).onTir fun x =>
      { x with errs := [(639, 0), (655, 0), (659, 0)] }
    s.up = true ∧ s.get Reg.ECC_THRESH_DEV_CE ≠ 0 ∧ s.get Reg.ECC_THRESH_DEV_CE ≤ errsOf s (40 * 15 + 39) ∧ s.get Reg.ECC_THRESH_CH_UE ≠ 0 ∧
      s.get Reg.ECC_THRESH_CH_UE ≤ errsOf s (640 + 15) ∧ unitState s 29 ≠ 3 ∧ unitState s 29 ≠ 5 ∧ s.get Reg.ECC_THRESH_STACK_UE ≠ 0 ∧
      s.get Reg.ECC_THRESH_STACK_UE ≤ errsOf s (656 + 3) ∧ unitState s 33 ≠ 3 ∧ unitState s 33 ≠ 5 := by decide

theorem witness_inject : (benched 2 0).up = true ∧ writeCarried 8 (benched 2 0) = true ∧ writeCarried 8 (benched 3 0) = true ∧ accessorLevel 8 (benched 2 0) < 3 ∧ 3 ≤ accessorLevel 8 (benched 3 0) := by decide

/-! ### Witnesses: windows, RDMA objects -/

/-- A MIRRORED window of port 7's logical device 15 over the first 256 MiB of reach 0, read and write. -/
def window (st : Nat) : Window :=
  { state := st, cls := 0, rights := 3, rdma := false, gapU := true, gapL := false, tenant := 0, binding := cxlBinding 7 15, base := 0, len := 2 ^ 28, inFlight := 0, unmir := 0, extent := false,
    offered := false, dpa := 0, region := 0, since := 0, asked := false, waiters := [] }

/-- An ACTIVE reach 0 and port 7 with 16 logical devices of 1 GiB. -/
def capacity : State :=
  stIn .paired .paired (reach 0 1 0 1 ++ [(Reg.HPT_PORT_CFG_LD_COUNT 7, 16), (Reg.HPT_LD_STATE_STATIC_GIB 7 15, 1), (Reg.HPT_LINK_STATE_RATE 7, 3)])

/-- CXL_WINDOW_OPEN of that window, with a length. -/
def openReq (op len : Nat) (s : State) : State := running 28 op ([7, 15, 0, 3, 0, 0, 0, 0] ++ List.replicate 16 0 ++ (leBytes 8 len).map BitVec.toNat) s

theorem witness_window_open : let s := openReq 0x0401 (2 ^ 28) capacity
    let w := windowRequest 28 false s
    let b := openReq 0x0401 1 capacity
    s.runsCmd 28 0x0401 ∧ opensWindows s = true ∧ windowCheck (2 ^ 28) w.cls w.base w.len 16 24 2 s = none ∧ reqNat s 28 1 1 % 16 < s.get (Reg.HPT_PORT_CFG_LD_COUNT (reqNat s 28 0 1 % 8)) ∧
      w.dpa % 2 ^ 28 = 0 ∧ w.dpa + w.len ≤ s.get (Reg.HPT_LD_STATE_STATIC_GIB 7 15) * 2 ^ 30 ∧ dpaTaken 7 15 w.dpa w.len s = false ∧ (ldWindows 7 15 s).length < 16384 ∧
      (windowCheck (2 ^ 28) 0 0 (windowRequest 28 false b).len 16 24 2 b).isSome = true := by unfold State.runsCmd; decide

/-- A persistent region 0 of that logical device. -/
def region0 : DcRegion := { base := 2 ^ 48, len := 2 ^ 30, persistent := true, shareable := false }

/-- DCD_EXTENT_ADD at the region's first DPA. -/
def extentReq : State :=
  running 28 0x0403 ([7, 15, 0, 3, 0, 0, 0, 0] ++ (leBytes 8 (2 ^ 48)).map BitVec.toNat ++ List.replicate 8 0 ++ (leBytes 8 (2 ^ 28)).map BitVec.toNat)
    (capacity.onHpt fun x => { x with regions := [(8 * ldNum 7 15, region0)] })

theorem witness_extent_add : let w := windowRequest 28 true extentReq
    extentReq.runsCmd 28 0x0403 ∧ opensWindows extentReq = true ∧ windowCheck (2 ^ 28) w.cls w.base w.len 16 24 2 extentReq = none ∧
      tfind (8 * ldNum 7 15 + w.region) extentReq.hpt.regions = some region0 ∧ region0.base ≤ w.dpa ∧ w.dpa + w.len ≤ region0.base + region0.len ∧ w.dpa % 2 ^ 28 = 0 ∧
      dpaTaken 7 15 w.dpa w.len extentReq = false ∧ region0.persistent ≠ (w.cls == 2) ∧ (ldWindows 7 15 extentReq).length < 16384 := by unfold State.runsCmd; decide

/-- A window command on window 5, which is this one. -/
def onWindow (op : Nat) (w : Window) (force : Nat) : State := running 28 op [5, 0, 0, force] { capacity with win := [(5, w)] }

theorem witness_window_commands : let e := { window 1 with extent := true }
    (onWindow 0x0402 (window 1) 0).runsCmd 28 0x0402 ∧ tfind (reqNat (onWindow 0x0402 (window 1) 0) 28 0 4 % 2 ^ 22) (onWindow 0x0402 (window 1) 0).win = some (window 1) ∧
      (window 3).state = 3 ∧ (window 1).state ≠ 3 ∧ (onWindow 0x0404 e 0).runsCmd 28 0x0404 ∧ e.offered = false ∧ e.state = 1 ∧ e.asked = false ∧
      bitOf 31 (reqNat (onWindow 0x0404 e 128) 28 0 4) = true ∧ reqNat (onWindow 0x0404 e 128) 28 0 4 % 2 ^ 22 = 5 ∧ bitOf 31 (reqNat (onWindow 0x0404 e 0) 28 0 4) = false ∧
      (onWindow 0x0405 (window 3) 0).runsCmd 28 0x0405 ∧ (onWindow 0x0481 (window 1) 0).runsCmd 28 0x0481 ∧ (onWindow 0x0409 (window 1) 0).runsCmd 28 0x0409 := by
  unfold State.runsCmd; decide

theorem witness_capacity_commands : let r := running 28 0x0406 ([7, 15, 1, 0, 0, 0, 0, 0] ++ (leBytes 8 (2 ^ 48)).map BitVec.toNat ++ List.replicate 8 0 ++ (leBytes 8 (2 ^ 48)).map BitVec.toNat) capacity
    let c := running 28 0x0407 [7, 15, 0, 0, 0, 0] { capacity with win := [(5, window 1)] }
    r.runsCmd 28 0x0406 ∧ reqNat r 28 1 1 % 16 < r.get (Reg.HPT_PORT_CFG_LD_COUNT (reqNat r 28 0 1 % 8)) ∧ reqNat r 28 8 8 % 2 ^ 28 = 0 ∧ reqNat r 28 24 8 % 2 ^ 28 = 0 ∧
      2 ^ 48 * (reqNat r 28 6 1 % 8 + 1) ≤ reqNat r 28 8 8 ∧ reqNat r 28 8 8 + reqNat r 28 24 8 ≤ 2 ^ 48 * (reqNat r 28 6 1 % 8 + 2) ∧
      (ldWindows 7 15 r).any (fun e => e.2.extent && e.2.region == 0) = false ∧ c.runsCmd 28 0x0407 ∧
      (ldWindows 7 15 c).any (fun e => !e.2.extent && decide (e.2.dpa + e.2.len > 0 * 2 ^ 30)) = true ∧
      (ldWindows 7 15 capacity).any (fun e => !e.2.extent && decide (e.2.dpa + e.2.len > 0 * 2 ^ 30)) = false := by unfold State.runsCmd; decide

theorem witness_unfence : let s := running 28 0x0408 [7] capacity
    s.runsCmd 28 0x0408 ∧ s.get (Reg.HPT_LINK_STATE_FENCED (reqNat s 28 0 1 % 8)) = 0 ∧ (s.put (Reg.HPT_LINK_STATE_FENCED 7) 1).get (Reg.HPT_LINK_STATE_FENCED 7) ≠ 0 := by
  unfold State.runsCmd; decide

/-- An RDMA window of domain 0 over reach 0. -/
def rwindow (st : Nat) : Window := { window st with rdma := true, binding := 0 }

/-- Domain 0, window 5 of it OPEN. -/
def domain : State := { (capacity.onRdm fun x => { x with pds := [(0, none)] }) with win := [(5, rwindow 1)] }

theorem witness_domains : (running 1 0x0501 [0, 0, 0, 0] paired).runsCmd 1 0x0501 ∧ makesRdma (running 1 0x0501 [0, 0, 0, 0] paired) = true ∧
    bitOf 31 (reqNat (running 1 0x0501 [0, 0, 0, 0] paired) 1 0 4) = false ∧ paired.rdm.pds.length < 65536 ∧ (running 1 0x0501 [5, 0, 0, 128] domain).runsCmd 1 0x0501 ∧
    bitOf 31 (reqNat (running 1 0x0501 [5, 0, 0, 128] domain) 1 0 4) = true ∧ tfind (reqNat (running 1 0x0501 [5, 0, 0, 128] domain) 1 0 4 % 2 ^ 22) domain.win = some (rwindow 1) ∧
    (rwindow 1).rights / 2 % 2 = 1 := by unfold State.runsCmd; decide

/-- A QP of domain 0 on port 3, in a state, with messages. -/
def qp (st : Nat) (ms : List RMsg) : Qp :=
  { state := st, port := 3, mtu := 0, resources := 16, pd := 0, vlan := 0, dscp := 0, peerMac := 0, peerQp := 0, peerIp := 0, entropy := 0, ownAddr := 0, ring := none, variant := 0, slotLog := 0,
    counter := 0, epsn := 4, msn := 0, nextMsn := 0, rate := 100, naked := false, msgs := ms, fail := none, ackDue := 0, atoms := [], report := [], cnpAt := none, cnpGot := 0, destroyer := [],
    destroyed := false }

/-- Domain 0 with QP 1,048,575 in a state. -/
def withQp (x : Qp) : State := domain.onRdm fun y => { y with qps := [(2 ^ 20 - 1, x)], cache := [2 ^ 20 - 1] }

theorem witness_domain_end : let d := running 1 0x0502 [0, 0, 0, 0] { (paired.onRdm fun x => { x with pds := [(0, none)] }) with win := [] }
    d.runsCmd 1 0x0502 ∧ tfind (reqNat d 1 0 4) d.rdm.pds ≠ none ∧ d.rdm.qps.any (fun e => e.2.pd == 0) = false ∧ d.win.any (fun e => e.2.rdma && e.2.binding == 0) = false ∧
      (withQp (qp 1 [])).rdm.qps.any (fun e => e.2.pd == 0) = true := by unfold State.runsCmd; decide

/-- QP_CREATE in domain 0 on port 3 with these resources. -/
def qpReq (res : Nat) : State := running 1 0x0503 ([0, 0, 3, 0, res] ++ List.replicate 59 0) (domain.put (Reg.ETH_PORT_IP4_ADDR 3) 9)

theorem witness_qp_create : (qpReq 16).runsCmd 1 0x0503 ∧ qpCheck 1 (qpReq 16) = none ∧ qpCheck 1 (qpReq 17) = some (.badField, atPayload 4) := by unfold State.runsCmd; decide

theorem witness_qp_commands : let s := fun (op st : Nat) => running 1 op [255, 255, 15, 0] (withQp (qp st []))
    (s 0x0504 1).runsCmd 1 0x0504 ∧ tfind (reqNat (s 0x0504 1) 1 0 4 % 2 ^ 20) (s 0x0504 1).rdm.qps = some (qp 1 []) ∧ (s 0x0505 3).runsCmd 1 0x0505 ∧ (qp 3 []).state ≠ 1 ∧
      (s 0x0506 1).runsCmd 1 0x0506 ∧ (qp 1 []).state = 1 ∧ (s 0x0583 1).runsCmd 1 0x0583 := by unfold State.runsCmd; decide

theorem witness_rdma_windows : let g := running 1 0x0507 [5, 0, 0, 0] domain
    let o := running 1 0x0581 ([0, 0, 0, 3, 0, 0, 0, 0] ++ List.replicate 8 0 ++ (leBytes 8 64).map BitVec.toNat) domain
    let c := running 1 0x0582 [0, 20, 0, 0] domain
    g.runsCmd 1 0x0507 ∧ tfind (reqNat g 1 0 4 % 2 ^ 22) g.win = some (rwindow 1) ∧ (rwindow 1).rdma = true ∧ (rwindow 1).offered = false ∧ o.runsCmd 1 0x0581 ∧ opensWindows o = true ∧
      windowCheck 64 (rdmaWindow 1 o).cls (rdmaWindow 1 o).base (rdmaWindow 1 o).len 8 16 2 o = none ∧ tfind (rdmaWindow 1 o).binding o.rdm.pds ≠ none ∧ c.runsCmd 1 0x0582 ∧
      tfind (reqNat c 1 0 4 / 1024) c.win = some (rwindow 1) ∧ tget 0 (reqNat c 1 0 4 / 1024) c.rdm.variants = reqNat c 1 0 4 % 1024 := by unfold State.runsCmd; decide

theorem witness_counters : let s := fun (op : Nat) => running 1 op [255, 255, 0, 0] domain
    (s 0x0508).runsCmd 1 0x0508 ∧ reqNat (s 0x0508) 1 0 4 < 65536 ∧ (s 0x0584).runsCmd 1 0x0584 ∧ (running 1 0x0509 [3] domain).runsCmd 1 0x0509 ∧
      domain.get (Reg.ETH_PORT_STATE_FENCED 3) = 0 ∧ (domain.put (Reg.ETH_PORT_STATE_FENCED 3) 1).get (Reg.ETH_PORT_STATE_FENCED 3) ≠ 0 := by unfold State.runsCmd; decide

/-! ### Witnesses: host ports and device commands -/

/-- The capacity of port 7 with window 5 OPEN and decoder 0 of logical device 15 over it. -/
def served : State := { (capacity.onHpt fun x => { x with decoders := [(4 * ldNum 7 15, { base := 0, size := 2 ^ 28, ways := 1, gran := 256, dpa := 0 })] }) with win := [(5, window 1)] }

/-- A read of port 7, logical device l. -/
def read (l : Nat) : HMsg := { port := 7, ld := l, tag := 9, kind := 0, dpa := some 0, mask := 0, poison := false, data := [] }

theorem witness_messages : let t := served.onHpt fun x => { x with req := [read 15] }
    portCarries 7 served = true ∧ 15 < served.get (Reg.HPT_PORT_CFG_LD_COUNT 7) ∧ tagBusy 7 9 served = false ∧ (read 15).kind = 0 ∧
      (served.hpt.req.filter (fun x => x.port == 7)).length < served.get (Reg.HPT_CRD_CFG_REQ 7) ∧ ({ read 15 with kind := 1 } : HMsg).kind = 1 ∧ (1 : Nat) % 2 ^ 64 ≠ 0 ∧
      (served.hpt.rwd.filter (fun x => x.port == 7)).length < served.get (Reg.HPT_CRD_CFG_RWD 7) ∧ (served.put (Reg.HPT_PORT_CFG_LD_COUNT 7) 15).get (Reg.HPT_PORT_CFG_LD_COUNT 7) ≤ (read 15).ld ∧
      tagBusy 7 9 t = true := by decide

theorem witness_speculative : portRefusal (specMsg 7 15 0 served) served = .inr (5, window 1) ∧ served.departing = false ∧ (takeTicket 7 served).isSome = true ∧
    portRefusal (specMsg 7 15 (2 ^ 40) served) served = .inl 0 := by decide

theorem witness_decoders : decoderGood (ldNum 7 15) 3 (2 ^ 28) (2 ^ 28) 1 256 (decoderDpa (ldNum 7 15) 3 0 served) served = true ∧
    decoderGood (ldNum 7 15) 3 (2 ^ 28) (2 ^ 28) 3 256 (decoderDpa (ldNum 7 15) 3 0 served) served = false ∧ 3 < 4 ∧
    16 ≤ hostViolsOf 7 (served.onHpt fun x => { x with viol := List.replicate 16 (7, 0) }) := by decide

theorem witness_hdm_decode : served.up = true ∧ windowAt 7 15 0 served = some (5, window 1) ∧ (window 1).offered = false ∧ (window 1).state = 1 ∧
    windowAt 7 15 0 { served with win := [(5, window 2)] } = some (5, window 2) ∧ (window 2).state ≠ 1 ∧ windowAt 7 15 (2 ^ 28) served = none := by decide

theorem witness_link_up : let s := served.put (Reg.HPT_LINK_STATE_RATE 7) 0
    7 < 8 ∧ s.up = true ∧ s.mode ≠ .spill ∧ s.get (Reg.HPT_LINK_STATE_RATE 7) = 0 ∧ s.get (Reg.HPT_LINK_STATE_FENCED 7) ≠ 1 ∧ s.get (Reg.HPT_LINK_STATE_PERST 7) ≠ 1 ∧
      s.get (Reg.FRM_UNIT_STATE_STATE 7) ≠ 3 ∧ Nat.min (0 % 4) (s.get (Reg.HPT_PORT_CFG_MAX_RATE 7)) = 0 ∧ Nat.min (3 % 4) (s.get (Reg.HPT_PORT_CFG_MAX_RATE 7)) = s.get (Reg.HPT_PORT_CFG_MAX_RATE 7) ∧
      Nat.min 2 (s.get (Reg.HPT_PORT_CFG_MAX_WIDTH 7)) = s.get (Reg.HPT_PORT_CFG_MAX_WIDTH 7) ∧ Nat.min (2 % 4) (s.get (Reg.HPT_PORT_CFG_MAX_RATE 7)) < s.get (Reg.HPT_PORT_CFG_MAX_RATE 7) ∧
      Nat.min (2 % 4) (s.get (Reg.HPT_PORT_CFG_MAX_RATE 7)) ≠ 0 := by decide

theorem witness_perst : let s := served.put Reg.GLB_DISCRETES_PERST_N 128
    7 < 8 ∧ s.live = true ∧ served.live = true ∧ s.get (Reg.HPT_LINK_STATE_PERST 7) ≠ 1 ∧ bitOf 7 (served.get Reg.GLB_DISCRETES_PERST_N) = false ∧
      bitOf 7 (s.get Reg.GLB_DISCRETES_PERST_N) = true := by decide

theorem witness_clear_poison : let m := clearMsg 7 15 0 [1]
    portRefusal m served = .inr (5, window 1) ∧ served.departing = false ∧ mayAdmit (writeOf m 0 5 (window 1) false) (served.put Reg.TIR_CST_STATE_PAIR_ADMIT 0) = true ∧
      (takeTicket 7 served).isSome = true := by decide

/-- An offered extent in window 5, and the same extent accepted and asked back. -/
def offer : State := { capacity with win := [(5, { window 0 with extent := true, offered := true, dpa := 2 ^ 48 })] }
def askedBack : State := { capacity with win := [(5, { window 1 with extent := true, asked := true, dpa := 2 ^ 48 })] }

theorem witness_extents : portCarries 7 offer = true ∧ extentNamed 7 15 (2 ^ 48) (2 ^ 28) true offer ≠ none ∧ (oldestOffer 7 15 offer).isSome = true ∧
    extentNamed 7 15 (2 ^ 48) (2 ^ 28) false askedBack ≠ none ∧ (∀ l, l < 16 → 15 ≤ l → l ≠ 15 → ldWindows 7 l offer = []) ∧ ldWindows 7 15 offer ≠ [] ∧ (∀ l, l < 16 → 16 ≤ l → ldWindows 7 l offer = []) ∧
    1 ≤ 16 := by decide

theorem witness_extent_timers : let o := offer.put Reg.CLK_EPOCH_EPOCH (1000 * offer.get (Reg.HPT_DCD_CFG_OFFER_MS 7))
    let a := askedBack.put Reg.CLK_EPOCH_EPOCH (1000 * askedBack.get (Reg.HPT_DCD_CFG_RELEASE_MS 7))
    o.up = true ∧ (tfind 5 o.win).map (fun w => (w.offered, decide (w.since + 1000 * o.get (Reg.HPT_DCD_CFG_OFFER_MS (w.binding % 8)) ≤ o.epoch))) = some (true, true) ∧
      (tfind 5 a.win).map (fun w => (w.asked, w.state, decide (w.since + 1000 * a.get (Reg.HPT_DCD_CFG_RELEASE_MS (w.binding % 8)) ≤ a.epoch))) = some (true, 1, true) := by decide

/-! ### Witnesses: Rilram -/

/-- A PAIRED module whose two Rilram ports are keyed, or in a given link state. -/
def linked (k : Nat) : State := stIn .paired .paired [(Reg.TWN_PORT_STATE_LINK 0, k), (Reg.TWN_PORT_STATE_LINK 1, k)]

theorem witness_frames : (linked 2).up = true ∧ (linked 2).get (Reg.TWN_PORT_STATE_LINK ((hdr 1 0).port % 2)) = 2 ∧ ((linked 2).port 1).ahead = [] ∧
    (hdr 1 0).frameSeq = ((linked 2).port 1).rxSeq ∧ (hdr 1 0).frameSeq < 2 ^ 32 ∧ headerFault (hdr 1 0) true (genFree .keepalive) (linked 2) = none ∧
    seqAhead 1 5 (linked 2) < 2 ^ 31 ∧ headerFault { hdr 1 5 with version := 2 } true (genFree .keepalive) (linked 2) = some 1 ∧ 2 ^ 31 ≤ seqAhead 1 (2 ^ 31) (linked 2) ∧
    (hdr 1 0).tagOk = true ∧ ((receive (hdr 1 0) false .keepalive (linked 2)).port 1).ahead = [] ∧ (linked 1).get (Reg.TWN_PORT_STATE_LINK ((hdr 1 0).port % 2)) = 1 := by decide

theorem witness_twin_send : let s := stIn .paired .paired (reach 4095 1 0 1 ++ [(Reg.TWN_PORT_STATE_LINK 0, 2)])
    s.up = true ∧ s.mirrors = true ∧ s.twn.margin = false ∧ (recOfWire (wire 4095 1) false).isData = true ∧ ownsReach s 4095 = true ∧ ownsReach s 4094 = false ∧
      portSends s 0 = true ∧ (s.onTwn fun x => { x with ackDue := [(4095, 1)] }).twn.ackDue ≠ [] := by decide

theorem witness_rekey : let s := (linked 2).onTwn fun x => { x with port1 := { x.port1 with group := 1, rekeyAt := some 0, rxNewAt := some 0 } }
    let k := (linked 2).put (Reg.TWN_PORT_REKEY_TX_FRAMES 1) (2 ^ 40)
    1 < 2 ∧ portSends s 1 = true ∧ 0 < (s.port 1).group ∧ 2 ^ 40 ≤ k.get (Reg.TWN_PORT_REKEY_TX_FRAMES 1) ∧ (k.port 1).rekeyAt = none ∧ (s.port 1).rekeyAt = some 0 ∧
      0 + 1000 ≤ (s.put Reg.CLK_EPOCH_EPOCH 1000).epoch ∧ (s.port 1).rxNewAt = some 0 ∧ (s.put Reg.CLK_EPOCH_EPOCH 1000).epoch ≥ 0 + 100 ∧ 2 ^ 41 ≤ ((linked 2).put (Reg.TWN_PORT_REKEY_TX_FRAMES 1) (2 ^ 41)).get (Reg.TWN_PORT_REKEY_TX_FRAMES 1) := by decide

theorem witness_ports : (linked 1).get (Reg.TWN_PORT_STATE_LINK 1) = 1 ∧ (linked 0).get (Reg.TWN_PORT_STATE_LINK 1) = 0 ∧ 550 ≤ 550 ∧ 550 < 551 ∧ 2 < 3 ∧
    16 ≤ violsOf 2 (paired.onTwn fun x => { x with viol := List.replicate 16 (2, 0) }) ∧ paired.flag (violFence 2) = false := by decide

/-! ### Witnesses: RDMA packets -/

/-- QP 1,048,575 on port 3, which is up, in RTR with these messages. -/
def rdma (ms : List RMsg) : State := (withQp (qp 1 ms)).put (Reg.ETH_PORT_STATE_RATE 3) 2

/-- A WAIT for counter 1 to reach 10, at the QP's expected PSN. -/
def waitPkt : RPkt := rpkt 8 3 (2 ^ 20 - 1) 4 0 0 0 0 none 1 10 false []

theorem witness_packets : let p := waitPkt
    let c := (rdma []).onRdm fun y => { y with cache := [] }
    ethCarries 3 (rdma []) = true ∧ tfind p.qp (rdma []).rdm.qps = some (qp 1 []) ∧ (qp 1 []).port = p.port ∧ ingressBytes 3 ((rdma []).inc (Reg.ETH_PORT_STAT_COUNT 3 0)) + p.data.length ≤ 4194304 ∧
      (rdma []).rdm.cache.contains p.qp = true ∧ (rdma []).rdm.parked.any (fun k => k.qp == p.qp) = false ∧ c.rdm.cache.contains p.qp = false ∧ c.rdm.parked.length < 8192 ∧ (qp 1 []).state = 1 ∧
      p.ce = false ∧ p.psn = (qp 1 []).epsn ∧ (qp 1 []).epsn < 2 ^ 24 ∧ p.place < 2 := by decide

theorem witness_first_checks : (match checkFirst (qp 1 []) waitPkt (rdma []) with | .pass none => true | _ => false) = true ∧
    (match checkFirst { qp 1 [] with ring := some 5, slotLog := 8 } (rpkt 0 3 (2 ^ 20 - 1) 4 0 0 0 0 none 0 0 false [])
      { rdma [] with win := [(5, { rwindow 1 with gapU := false, len := 256 })], rdm := { (rdma []).rdm with rings := [(5, { reserved := 1, next := 1, done := [], count := 0 })] } } with
      | .rnr _ => true | _ => false) = true := by decide

/-- A message of a kind at a stage, not whole when `w` is false, in window 5. -/
def msg (kind stage : Nat) (w : Bool) : RMsg :=
  { psn := 4, last := 4, msn := 1, kind := kind, window := some 5, off := 0, len := 8, imm := none, a := 1, b := 10, chunks := [], got := 8, whole := w, since := 0, begun := 0, ticket := none, stage := stage,
    issued := 0, back := 0, answer := [], sent := 0, slot := none, marks := [], again := false }

theorem witness_timers : let s := (rdma [msg 8 2 true]).put Reg.CLK_EPOCH_EPOCH (paired.get Reg.RDM_CFG_WAIT_TIMEOUT_US)
    let a := (rdma [msg 1 0 true]).put Reg.CLK_EPOCH_EPOCH (paired.get Reg.RDM_ADMIT_CFG_WAIT_US)
    let b := { (rdma [msg 1 1 false]).put Reg.CLK_EPOCH_EPOCH 10000 with win := [(5, rwindow 2)] }
    s.up = true ∧ s.mode ≠ .spill ∧ (tfind (2 ^ 20 - 1) s.rdm.qps).bind (fun x => x.msgs.find? (fun m => m.psn == 4 && m.kind == 8 && decide (m.stage < 3))) = some (msg 8 2 true) ∧
      (msg 8 2 true).since + s.get Reg.RDM_CFG_WAIT_TIMEOUT_US ≤ s.epoch ∧ (qp 1 [msg 1 0 true]).msgs.find? (fun m => m.stage == 0) = some (msg 1 0 true) ∧
      msgAdmission (qp 1 [msg 1 0 true]) (msg 1 0 true) a ≠ 0 ∧ mayStartMsg (2 ^ 20 - 1) (msg 1 0 true) ((qp 1 [msg 1 0 true]).msgs.takeWhile (fun m => m.stage != 0)) a = true ∧ (msg 1 0 true).begun + a.get Reg.RDM_ADMIT_CFG_WAIT_US ≤ a.epoch ∧
      (tfind (2 ^ 20 - 1) b.rdm.qps).bind (fun x => x.msgs.find? (fun m => !m.whole)) = some (msg 1 1 false) ∧ (msg 1 1 false).window = some 5 ∧ tfind 5 b.win = some (rwindow 2) ∧
      (rwindow 2).state = 2 ∧ (msg 1 1 false).since + 10000 ≤ b.epoch := by decide

theorem witness_contexts : let s := (rdma []).onRdm fun y => { y with cache := [], fetching := [2 ^ 20 - 1] }
    s.up = true ∧ s.rdm.fetching.contains (2 ^ 20 - 1) = true ∧ 2 ≤ 2 ∧ 1 < 2 ∧ (cacheIn (2 ^ 20 - 1) (unpark (2 ^ 20 - 1) s)).isSome = true ∧ tfind (2 ^ 20 - 1) s.rdm.qps = some (qp 1 []) ∧
      (qp 1 []).cnpGot + s.get Reg.RDM_CC_CFG_RECOVER_US ≤ (s.put Reg.CLK_EPOCH_EPOCH (s.get Reg.RDM_CC_CFG_RECOVER_US)).epoch := by decide

theorem witness_eth_events : let s := rdma [msg 3 1 true]
    let d := domain
    3 < 4 ∧ d.up = true ∧ d.mode ≠ .spill ∧ d.mode ≠ .recovery ∧ d.get (Reg.ETH_PORT_STATE_RATE 3) = 3 ∧ d.flag (Reg.ETH_PORT_STATE_FENCED 3) = false ∧ d.get (Reg.FRM_UNIT_STATE_STATE (8 + 3)) ≠ 3 ∧
      (qp 1 [msg 3 1 true]).msgs.any (fun m => m.kind == 3) = true ∧ s.flag (Reg.ETH_PORT_CFG_ECN_EN 3) = true ∧ tfind 0 s.rdm.qps = none ∧ 7 < 8 ∧ s.flag (Reg.ETH_PORT_CFG_PFC_EN 3) = true ∧
      s.rdm.ignored = [] ∧ pausedNow 3 7 s = false ∧ (3, 7, 0) ∈ (s.onRdm fun x => { x with paused := [(3, 7, 0)] }).rdm.paused ∧ 0 + 100000 < (s.put Reg.CLK_EPOCH_EPOCH 100001).epoch ∧
      ownAddress 3 false 9 (s.put (Reg.ETH_PORT_IP4_ADDR 3) 9) = true ∧ ownAddress 3 true 9 s = false ∧
      16 ≤ ((s.onRdm fun x => { x with viol := List.replicate 16 (3, 0) }).rdm.viol.filter (fun e => e.1 == 3 && decide (s.epoch < e.2 + 1000000))).length := by decide

/-! ### Witnesses: tiers, drain and resaw -/

theorem witness_tickets : paired.up = true ∧ 8 ≤ 8 ∧ (takeTicket 8 paired).isSome = true ∧ (takeTicket 0 ((paired.put (Reg.HPT_TKT_CFG_LIMIT 0) 0))).isNone = true ∧ (takeSlot 1 paired).isSome = true ∧
    (takeSlot 2 (paired.put Reg.TIR_DRN_CFG_MAX_PACKS 0)).isNone = true := by decide

theorem witness_access : tfind 5 served.win = some (window 1) ∧ accessCheck (window 1) (2 ^ 28 - 64) 64 1 = none ∧ accessCheck (window 1) (2 ^ 28) 64 1 = some .bounds ∧ tfind 6 served.win = none := by
  decide

/-- Granule 9's lock is free and one drain snapshot waits for it. -/
def lockWaits : State := paired.onTir fun x => { x with dir := [(9, { Gran.zero with waiters := [{ kind := .drainSnap, holder := 3 }] })] }

theorem witness_locks : lockWaits.up = true ∧ (lockWaits.gran 9).lock = none ∧ (lockWaits.gran 9).waiters = { kind := .drainSnap, holder := 3 } :: [] := by decide

/-- A module of a pair state with ACTIVE reach 0, owned here or not. -/
def owning (p : PairState) (own : Nat) : State := stIn (if p = .solo then .solo else .paired) p (reach 0 1 0 own)

theorem witness_append : (owning .paired 1).up = true ∧ (owning .paired 1).completes = true ∧ mayAppend (wire 0 1) (owning .paired 1) = true ∧ (recOfWire (wire 0 1) false).isData = true ∧
    ownsReach (owning .paired 1) 0 = true ∧ (owning .paired 1).mirrors = true ∧ (wire 0 1).origin = (owning .paired 1).pos ∧ mayAppend (wire 0 1) (owning .solo 1) = true ∧
    (owning .solo 1).completes = true ∧ (owning .solo 1).mirrors = false ∧ mayAppend (wire 0 1) (owning .paired 0) = true ∧ ownsReach (owning .paired 0) 0 = false := by decide

theorem witness_records : let s := (owning .paired 1).onCis fun x => { x with recs := [rec1 0 0 1] }
    s.cis.recs.find? (fun r => r.pos == 0 && !r.held) = some (rec1 0 0 1) ∧ s.mode ≠ .spill ∧ reachState s (lineReach 0) ≠ 0 ∧ reachState s (lineReach (2 ^ 42 - 1)) = 0 ∧
      (running 1 0x0702 [] s).runsCmd 1 0x0702 := by unfold State.runsCmd; decide

theorem witness_sweep : let s := paired.put Reg.TIR_SWP_STATE_RUNNING 1
    paired.up = true ∧ 3 < 4 ∧ paired.tir.ladders.any (fun l => l.quarter == 4 * 9 + 3) = false ∧ paired.serving = true ∧ paired.flag Reg.TIR_SWP_CFG_ENABLE = true ∧
      paired.flag Reg.TIR_SWP_STATE_RUNNING = false ∧ s.flag Reg.TIR_SWP_STATE_RUNNING = true ∧ s.tir.sweepDue = false ∧ (s.onTir fun x => { x with sweepDue := true }).tir.sweepDue = true := by decide

/-- Granule 9 in the loft, its age flag as given, queued by the age engine; with a floor copy when `fl`. -/
def aged (pend fl : Bool) : State :=
  paired.onTir fun x => { x with dir := [(9, { Gran.zero with loft := true, floor := fl, loftPend := pend, age := 240 })], ageQ := [(9, true)] }

theorem witness_age : (aged false true).tir.ageQ = (9, true) :: [] ∧ ((aged false true).gran 9).loftPend = false ∧ ((aged true true).gran 9).loftPend = true ∧
    evictAction 0 ((aged true true).gran 9) (aged true true) ≠ 0 ∧ (takeSlot 1 ((aged true true).onTir fun x => { x with ageQ := [] })).isSome = true ∧
    ((aged true true).gran 9).lock = none ∧ ((aged true true).gran 9).waiters = [] ∧
    evictAction 0 ((aged true false).gran 9) ((aged true false).put Reg.TIR_MOVE_CFG_DEMOTE_AGE 255) = 0 := by decide

/-- Granule 9 in a full loft. -/
def pressed : State := ((aged false true).put (Reg.TIR_POOL_SIZE_FRAMES 0) 100).put (Reg.TIR_POOL_SIZE_FREE 0) 0

theorem witness_pressure : pressureOn 1 paired = false ∧ pressureOn 0 pressed = true ∧ slotFree 1 pressed = true ∧
    slotFree 1 (pressed.onTir fun x => { x with slots := List.replicate 16384 (0, 1) }) = false ∧
    (let r := relieve 0 (pressed.put (Reg.TIR_POOL_STATE_EVICTING 0) 1) 17 (topBucket 0 pressed)
     r.1 = some 9 ∧ (takeSlot 1 r.2).isSome = true) ∧ poolFree (pressed.put (Reg.TIR_POOL_SIZE_FREE 0) 1) 0 ≠ 0 := by decide +kernel

/-- Granule 9 under a rebuild lock. -/
def rebuilding (fl : Bool) : State :=
  paired.onTir fun x => { x with rebuilds := [9], dir := [(9, { Gran.zero with floor := fl, lock := some { kind := .rebuild, holder := 1 } })] }

theorem witness_rebuild : (rebuilding true).tir.rebuilds.contains 9 = true ∧ ((rebuilding true).gran 9).lock = some { kind := .rebuild, holder := 1 } ∧ ((rebuilding true).gran 9).cached = true ∧
    ((rebuilding false).gran 9).cached = false := by decide

theorem witness_copies : let s := (paired.put Reg.TIR_CST_STATE_COPIES 1).onCis fun x => { x with newStack := some 3 }
    let d := (s.onCis fun x => { x with roomMade := true }).onPwr fun x => { x with hgHeld := [{ owner := .cisternCopy, h0 := false, tokens := 16 }] }
    s.up = true ∧ 15 < 16 ∧ unitState s (14 + 15) ≠ 3 ∧ unitState s (14 + 15) ≠ 5 ∧ s.cis.newStack = some 3 ∧ s.get Reg.TIR_CST_STATE_COPIES = 1 ∧ s.cis.roomMade = false ∧
      d.get Reg.TIR_CST_STATE_COPIES = 1 ∧ d.cis.roomMade = true ∧ hgHolds d .cisternCopy = true := by decide

/-- Boards online, an ACTIVE reach 0, granule 9 queued for packing. -/
def drains (st : Nat) : State := (withBoards (stIn .paired .paired (reach 0 st 0 1))).onTir fun x => { x with packQ := [9] }

theorem witness_drain : drainModes (drains 1) = true ∧ laneUsed (drains 1) 51 = true ∧ nextPack (drains 1) = some 9 ∧ reachState (drains 5) (granReach 9) = 5 ∧
    reachState (drains 1) (granReach 9) ≠ 5 ∧ (takeSlot 2 (drains 1)).isSome = true ∧ ((drains 1).gran 9).lock = none ∧ ((drains 1).gran 9).waiters = [] ∧ (drains 1).up = true := by
  decide

/-- A pack of granule g: kind, phase, old locator. -/
def pack (g kind phase : Nat) : Pack :=
  { granule := g, kind := kind, gen := 1, snap := 0, poison := 0, data := [], locator := 0, slot := 3, old := 0, entries := [], phase := phase }

theorem witness_packs : let s := fun (p : Pack) => (drains 1).onTir fun x => { x with packQ := [], packs := [p] }
    packAt 9 1 (s (pack 9 0 1)) = some (pack 9 0 1) ∧ reachState (s (pack 9 0 1)) (granReach 9) ≠ 0 ∧ packAt 9 2 (s (pack 9 0 2)) = some (pack 9 0 2) ∧ laneUsed (s (pack 9 0 2)) 51 = true ∧
      (s (pack (2 ^ 34 + 6) 4 1)).tir.packs.find? (fun p => p.granule == 2 ^ 34 + 6 && p.kind == 4 && p.phase == 1) = some (pack (2 ^ 34 + 6) 4 1) ∧
      relocPack 9 (s (pack 9 3 1)) = some (pack 9 3 1) ∧ (pack 9 3 1).phase = 1 ∧ ((s (pack 9 3 1)).gran 9).lock = none := by decide

theorem witness_resaw : let s := ((drains 1).put Reg.SLC_FTG_SPACE_STRIPES 1).onMed fun x => { x with stripes := [(7, { Stripe.free with state := 3 })] }
    let o := s.onTir fun x => { x with rswVictim := some 7 }
    (drains 1).tir.rswVictim = none ∧ resawOn ((drains 1).put Reg.SLC_FTG_SPACE_STRIPES 233600) = false ∧ resawOn s = true ∧ resawVictim s = some 7 ∧ eraseReady 7 o = true ∧ movesOut o 7 = true ∧
      (takeSlot 3 o).isSome = true := by decide

theorem witness_wear : let s := ((drains 1).put Reg.SLC_WEAR_STATE_MAX_ERASES 1000).onMed fun x => { x with stripes := [(7, { Stripe.free with state := 3 })] }
    wearDue s = true ∧ wearPick s = some 7 := by decide

/-- A row group of lane 51 that is open, or programs under its tokens. -/
def group (i : Bool) : RowGrp := { lane := 51, unit := 3, group := 2047, reloc := false, narrow := false, used := 4, packs := [9], started := 0, issued := i }

theorem witness_groups : let s := (paired.put Reg.CLK_EPOCH_EPOCH 20).onTir fun x => { x with groups := [group false] }
    let p := (paired.onTir fun x => { x with groups := [group true] }).onPwr fun x => { x with hgHeld := [{ owner := groupName (group true), h0 := false, tokens := 16 }] }
    findGroup 51 3 2047 s = some (group false) ∧ (group false).issued = false ∧ (group false).started + 20 ≤ s.epoch ∧ findGroup 51 3 2047 p = some (group true) ∧
      programming (group true) p = true := by decide

theorem witness_erases : let s := (paired.onTir fun x => { x with erases := [7] }).onPwr fun x => { x with hgHeld := [{ owner := .erase 7, h0 := false, tokens := 16 }] }
    s.tir.erases.contains 7 = true ∧ hgHolds s (.erase 7) = true ∧ 7 < 8 ∧ tget 0 (16 * 31 + 15) s.tir.suspends < s.get (Reg.SLC_CH_CFG_SUSPEND_MAX 31) := by decide

/-! ### The spec's worked examples -/

/-- 02_memory_model.md, home address 0x1234_5678_9ABC: reach 291, its granule, quarter 1, line 0x6A of the granule. -/
theorem test_home_address : lineReach (0x123456789ABC / 64) = 291 ∧ lineGran (0x123456789ABC / 64) = 0x48D159E2 ∧ granReach 0x48D159E2 = 0x123 ∧
    lineQuarter (0x123456789ABC / 64) = 1 ∧ lineIdx (0x123456789ABC / 64) = 0x6A ∧ 0x123456789ABC / 64 * 64 = 0x123456789A80 := by decide

/-- 09_cxl_host_ports.md, the host reads 0x40_1234_6ABC through a decoder of 4 ways. -/
theorem test_decoder_example :
    decodeWith { base := 0x4000000000, size := 2 ^ 32, ways := 4, gran := 4096, dpa := 0 } 0x4012346ABC = some 0x48D1ABC ∧
    homeLine { window 1 with base := 0x012300000000, dpa := 0, len := 2 ^ 30 } 0x48D1ABC * 64 = 0x0123048D1A80 := by decide

/-- 03_cistern.md, three banks. -/
theorem test_cistern_limits : cisternLimit 9000 = 32 ∧ cisternLimit 5800 = 24 ∧ cisternLimit 4500 = 17 := by decide

/-- 16_power_headgate_spill.md, the discharge test of an aged bank: e_measured 72.54 J, 31 GiB; v_req(24) of the bank before it 82.40 V. -/
theorem test_discharge_example : eMeasured 1950 120 = 7254 ∧ cisternLimit 7254 = 31 ∧ vReq 24 2010 120 = 8240 := by decide

/-- 20_register_index.md, registers by their offsets. -/
theorem test_register_offsets : (Reg.TIR_REACH_STATE 291).key = 0x1C8918 * 512 ∧ (Reg.HPT_LD_STATE_DECODERS 2 3).key = 0x320130 * 512 ∧
    (Reg.SLC_CH_STAT_COUNT 13 5).key = 0x49A128 * 512 ∧ (Reg.ETH_PORT_IP6_ADDR 1 2).key = 0x390040 * 512 := by decide

/-- 07_footing_media.md, R252: units of a spillway slot for 512 and for 128 dies. -/
theorem test_spill_units : unitsFor 512 = 3 ∧ unitsFor 128 = 11 := by decide

/-- R456: codes of statuses that no row of the table names in order. -/
theorem test_status_codes : St.code .busy = 1 ∧ St.code .badField = 4 ∧ St.code .frameConflict = 9 ∧ St.code .twinUnreachable = 0xF ∧
    St.code .mediaFailed = 0x18 ∧ St.code .programLimit = 0x1B := by decide

/-- R578, R592: IDCODE and GLB_ID are the same value, and GLB_RELEASE names Sundyth 4.2. -/
theorem test_identity : State.reset.get Reg.GLB_ID_ID = 0x14896C6B ∧ readAt State.reset 0 = 0x14896C6B ∧ readAt State.reset 0x10 = 0x402 := by decide +kernel

/-- R12: the epoch advances by one per tick, in STANDBY too. -/
theorem test_epoch_ticks : (match exec .epochTick State.reset with | .next t => t.epoch | _ => 0) = 1 := by decide +kernel

/-! ### Starts that find room, and that do not -/

theorem witness_pack_starts :
    (startPack 9 0 0 51 (drains 1)).isSome = true ∧
    (startPack 9 0 0 51 (((drains 1).onTir fun x => { x with gens := [(9, 0xFFFFFFFF)] }).onStore fun x => { x with wraps := [(9, 255, false)] })).isNone = true := by decide +kernel

theorem witness_reloc_starts : (beginReloc 9 51 3 { granule := 9, locator := 0, gen := 1 } 0 (drains 1)).isSome = true := by decide +kernel

end Sys2Proof.Tests
end

section
/-!
SUPPORT. What every step leaves in place (O5, O6), and what a register field reads after a write (O7).
-/

namespace Sys2Proof.Machine

open Sys2Proof

/-- The frame of `exec`, along its arms: each constructor's own meaning has its frame lemma (EvolveOps to EvolvePeers). -/
theorem exec_evolves {s0 s : State} (h : Evolves s0 s) (c : Instr) : OutEvolves s0 (exec c s) :=
  match c with
  | .powerOn => execPowerOn_evolves h
  | .inputFallsBelow34v => execInputFallsBelow34v_evolves h
  | .powerFailDeclared => execPowerFailDeclared_evolves h
  | .inputDipCarried => execInputDipCarried_evolves h
  | .overvoltageDetected => execOvervoltageDetected_evolves h
  | .inputGoodAfterOv => execInputGoodAfterOv_evolves h
  | .railTrip .. => execRailTrip_evolves h
  | .uvloShutdown => execUvloShutdown_evolves h
  | .spillStreamStart => execSpillStreamStart_evolves h
  | .spillCommitMarker .. => execSpillCommitMarker_evolves h
  | .bankAt30v .. => execBankAt30v_evolves h
  | .bankCharged => execBankCharged_evolves h
  | .bankRechargeStart => execBankRechargeStart_evolves h
  | .bankFault .. => execBankFault_evolves h
  | .bankFaultEnd => execBankFaultEnd_evolves h
  | .dischargeTestDue => execDischargeTestDue_evolves h
  | .dischargeTestEnd .. => execDischargeTestEnd_evolves h
  | .headgateReq .. => execHeadgateReq_evolves h
  | .headgateReturn .. => execHeadgateReturn_evolves h
  | .headgateGrant => execHeadgateGrant_evolves h
  | .inputPowerOverLimit .. => execInputPowerOverLimit_evolves h
  | .temperatureSample .. => execTemperatureSample_evolves h
  | .thermalShutdown => execThermalShutdown_evolves h
  | .thermalShutdownExit => execThermalShutdownExit_evolves h
  | .epochTick => execEpochTick_evolves h
  | .modResetNAssert => execModResetNAssert_evolves h
  | .moduleResetRelease => execModuleResetRelease_evolves h
  | .resetApply => execResetApply_evolves h
  | .preResetSpillLimit => execPreResetSpillLimit_evolves h
  | .modCtlStart .. => execModCtlStart_evolves h
  | .bringupStepEnd .. => execBringupStepEnd_evolves h
  | .floorChannelSwept .. => execFloorChannelSwept_evolves h
  | .loftStackSwept .. => execLoftStackSwept_evolves h
  | .serveEntryUnblocked => execServeEntryUnblocked_evolves h
  | .spdmGetVersion .. => execSpdmGetVersion_evolves h
  | .spdmGetCapabilities .. => execSpdmGetCapabilities_evolves h
  | .spdmNegotiateAlgorithms .. => execSpdmNegotiateAlgorithms_evolves h
  | .spdmGetDigests .. => execSpdmGetDigests_evolves h
  | .spdmGetCertificate .. => execSpdmGetCertificate_evolves h
  | .spdmChallenge .. => execSpdmChallenge_evolves h
  | .spdmGetMeasurements .. => execSpdmGetMeasurements_evolves h
  | .spdmKeyExchange .. => execSpdmKeyExchange_evolves h
  | .spdmFinish .. => execSpdmFinish_evolves h
  | .spdmKeyUpdate .. => execSpdmKeyUpdate_evolves h
  | .spdmHeartbeat .. => execSpdmHeartbeat_evolves h
  | .spdmEndSession .. => execSpdmEndSession_evolves h
  | .spdmUnsupportedRequest .. => execSpdmUnsupportedRequest_evolves h
  | .mbxRing .. => execMbxRing_evolves h
  | .mbxCancel .. => execMbxCancel_evolves h
  | .mbxAck .. => execMbxAck_evolves h
  | .mbxCommandStart .. => execMbxCommandStart_evolves h
  | .identify .. => execIdentify_evolves h
  | .health .. => execHealth_evolves h
  | .statsRead .. => execStatsRead_evolves h
  | .modeRequest .. => execModeRequest_evolves h
  | .reset .. => execReset_evolves h
  | .frameOpen .. => execFrameOpen_evolves h
  | .frameStage .. => execFrameStage_evolves h
  | .frameDryfit .. => execFrameDryfit_evolves h
  | .framePeg .. => execFramePeg_evolves h
  | .frameDiscard .. => execFrameDiscard_evolves h
  | .frameStatus .. => execFrameStatus_evolves h
  | .pegRecheck .. => execPegRecheck_evolves h
  | .pegTakesEffect .. => execPegTakesEffect_evolves h
  | .unitRecal .. => execUnitRecal_evolves h
  | .unitOut .. => execUnitOut_evolves h
  | .unitServe .. => execUnitServe_evolves h
  | .unitActionDone .. => execUnitActionDone_evolves h
  | .cxlWindowOpen .. => execCxlWindowOpen_evolves h
  | .cxlWindowClose .. => execCxlWindowClose_evolves h
  | .dcdExtentAdd .. => execDcdExtentAdd_evolves h
  | .dcdExtentRelease .. => execDcdExtentRelease_evolves h
  | .cxlGapAck .. => execCxlGapAck_evolves h
  | .dcRegionSet .. => execDcRegionSet_evolves h
  | .staticCapacitySet .. => execStaticCapacitySet_evolves h
  | .hostLinkUnfence .. => execHostLinkUnfence_evolves h
  | .windowList .. => execWindowList_evolves h
  | .windowStatus .. => execWindowStatus_evolves h
  | .pdCreate .. => execPdCreate_evolves h
  | .pdDestroy .. => execPdDestroy_evolves h
  | .qpCreate .. => execQpCreate_evolves h
  | .qpModify .. => execQpModify_evolves h
  | .qpError .. => execQpError_evolves h
  | .qpDestroy .. => execQpDestroy_evolves h
  | .rdmaGapAck .. => execRdmaGapAck_evolves h
  | .counterSet .. => execCounterSet_evolves h
  | .rdmaPortUnfence .. => execRdmaPortUnfence_evolves h
  | .rdmaWindowOpen .. => execRdmaWindowOpen_evolves h
  | .rdmaWindowClose .. => execRdmaWindowClose_evolves h
  | .qpStatus .. => execQpStatus_evolves h
  | .counterRead .. => execCounterRead_evolves h
  | .reachProvision .. => execReachProvision_evolves h
  | .reachRelease .. => execReachRelease_evolves h
  | .reachHandover .. => execReachHandover_evolves h
  | .pairStatus .. => execPairStatus_evolves h
  | .pairJoinAccept .. => execPairJoinAccept_evolves h
  | .pairSplit .. => execPairSplit_evolves h
  | .pairResolve .. => execPairResolve_evolves h
  | .soloStart .. => execSoloStart_evolves h
  | .linkUnfence .. => execLinkUnfence_evolves h
  | .dirRead .. => execDirRead_evolves h
  | .cisternStatus .. => execCisternStatus_evolves h
  | .reachRead .. => execReachRead_evolves h
  | .boardRelease .. => execBoardRelease_evolves h
  | .boardAdmit .. => execBoardAdmit_evolves h
  | .footingFormat .. => execFootingFormat_evolves h
  | .footingStatus .. => execFootingStatus_evolves h
  | .keyLoad .. => execKeyLoad_evolves h
  | .keyClear .. => execKeyClear_evolves h
  | .keyForget .. => execKeyForget_evolves h
  | .cipherSubmit .. => execCipherSubmit_evolves h
  | .slotStatus .. => execSlotStatus_evolves h
  | .storeStatus .. => execStoreStatus_evolves h
  | .imageWrite .. => execImageWrite_evolves h
  | .imageCommit .. => execImageCommit_evolves h
  | .hotRestart .. => execHotRestart_evolves h
  | .regionUnlock .. => execRegionUnlock_evolves h
  | .logRead .. => execLogRead_evolves h
  | .logStatus .. => execLogStatus_evolves h
  | .logNote .. => execLogNote_evolves h
  | .powerStatus .. => execPowerStatus_evolves h
  | .dischargeTest .. => execDischargeTest_evolves h
  | .headgateStatus .. => execHeadgateStatus_evolves h
  | .freeze .. => execFreeze_evolves h
  | .selftestReport .. => execSelftestReport_evolves h
  | .surveyInfo .. => execSurveyInfo_evolves h
  | .joineryLoad .. => execJoineryLoad_evolves h
  | .bayDrain .. => execBayDrain_evolves h
  | .bayStatus .. => execBayStatus_evolves h
  | .reclaim .. => execReclaim_evolves h
  | .yardInspect .. => execYardInspect_evolves h
  | .ditchInspect .. => execDitchInspect_evolves h
  | .pairMailboxCommand .. => execPairMailboxCommand_evolves h
  | .mgmtRaiseLevel .. => execMgmtRaiseLevel_evolves h
  | .registerWrite .. => execRegisterWrite_evolves h
  | .eccInjectArm .. => execEccInjectArm_evolves h
  | .bchBankInvalidate .. => execBchBankInvalidate_evolves h
  | .bankInvalidateDone .. => execBankInvalidateDone_evolves h
  | .bankWritebackDone .. => execBankWritebackDone_evolves h
  | .benchInvalidate .. => execBenchInvalidate_evolves h
  | .benchClean .. => execBenchClean_evolves h
  | .benchFlush .. => execBenchFlush_evolves h
  | .benchFillLanded .. => execBenchFillLanded_evolves h
  | .victimWritebackAck .. => execVictimWritebackAck_evolves h
  | .parityLimitReached .. => execParityLimitReached_evolves h
  | .fmnWdtKick => execFmnWdtKick_evolves h
  | .watchdogExpiry => execWatchdogExpiry_evolves h
  | .graceEnd => execGraceEnd_evolves h
  | .lockstepMismatch => execLockstepMismatch_evolves h
  | .storeOpTimeout => execStoreOpTimeout_evolves h
  | .exceptionPost .. => execExceptionPost_evolves h
  | .exceptionHandle => execExceptionHandle_evolves h
  | .stepRun .. => execStepRun_evolves h
  | .stepBudgetExceeded .. => execStepBudgetExceeded_evolves h
  | .joinerFault .. => execJoinerFault_evolves h
  | .joinerTestDue .. => execJoinerTestDue_evolves h
  | .bayLoadDone .. => execBayLoadDone_evolves h
  | .bayEmpty .. => execBayEmpty_evolves h
  | .ticketGet .. => execTicketGet_evolves h
  | .ticketPut .. => execTicketPut_evolves h
  | .slotGet .. => execSlotGet_evolves h
  | .slotPut .. => execSlotPut_evolves h
  | .windowCheck .. => execWindowCheck_evolves h
  | .hdmDecode .. => execHdmDecode_evolves h
  | .dirLookup .. => execDirLookup_evolves h
  | .dirLock .. => execDirLock_evolves h
  | .dirUnlock .. => execDirUnlock_evolves h
  | .moveLockGranted .. => execMoveLockGranted_evolves h
  | .xltLookup .. => execXltLookup_evolves h
  | .cisternAppend .. => execCisternAppend_evolves h
  | .recordHeld .. => execRecordHeld_evolves h
  | .writeAdmitted => execWriteAdmitted_evolves h
  | .appendResume => execAppendResume_evolves h
  | .twinSend .. => execTwinSend_evolves h
  | .cipherSubmission .. => execCipherSubmission_evolves h
  | .cipherJobDone .. => execCipherJobDone_evolves h
  | .katDue .. => execKatDue_evolves h
  | .entropyHealthFail => execEntropyHealthFail_evolves h
  | .counterBlockRecorded .. => execCounterBlockRecorded_evolves h
  | .tierRead .. => execTierRead_evolves h
  | .tierWrite .. => execTierWrite_evolves h
  | .quarterArrived .. => execQuarterArrived_evolves h
  | .moveDone .. => execMoveDone_evolves h
  | .sweepPassStart => execSweepPassStart_evolves h
  | .sweepPassEnd => execSweepPassEnd_evolves h
  | .ageEviction => execAgeEviction_evolves h
  | .pressureEviction .. => execPressureEviction_evolves h
  | .frameWaitResume .. => execFrameWaitResume_evolves h
  | .copyRebuildDone .. => execCopyRebuildDone_evolves h
  | .floorChannelLost .. => execFloorChannelLost_evolves h
  | .loftStackFenced .. => execLoftStackFenced_evolves h
  | .cisternRoomMade => execCisternRoomMade_evolves h
  | .cisternCopyDone => execCisternCopyDone_evolves h
  | .drainPackStart .. => execDrainPackStart_evolves h
  | .packConfirmed .. => execPackConfirmed_evolves h
  | .checkpointConfirmed .. => execCheckpointConfirmed_evolves h
  | .packProgramFailed .. => execPackProgramFailed_evolves h
  | .resawStart => execResawStart_evolves h
  | .resawRelocate .. => execResawRelocate_evolves h
  | .resawErase .. => execResawErase_evolves h
  | .wearRelocation => execWearRelocation_evolves h
  | .rowGroupPadTimeout .. => execRowGroupPadTimeout_evolves h
  | .programStatus .. => execProgramStatus_evolves h
  | .eraseStatus .. => execEraseStatus_evolves h
  | .suspendDone .. => execSuspendDone_evolves h
  | .quarterReadDone .. => execQuarterReadDone_evolves h
  | .ladderDeadline .. => execLadderDeadline_evolves h
  | .dieTimeout .. => execDieTimeout_evolves h
  | .channelTrainingFail .. => execChannelTrainingFail_evolves h
  | .boardSurpriseAbsent .. => execBoardSurpriseAbsent_evolves h
  | .boardRebuildDone .. => execBoardRebuildDone_evolves h
  | .lockPairFillDone .. => execLockPairFillDone_evolves h
  | .lockPairDrainDone .. => execLockPairDrainDone_evolves h
  | .scrubRead .. => execScrubRead_evolves h
  | .scrubPassLate .. => execScrubPassLate_evolves h
  | .eccThresholdReached .. => execEccThresholdReached_evolves h
  | .memRd .. => execMemRd_evolves h
  | .memSpecRd .. => execMemSpecRd_evolves h
  | .memInv .. => execMemInv_evolves h
  | .memWr .. => execMemWr_evolves h
  | .memWrPtl .. => execMemWrPtl_evolves h
  | .cxlViolation .. => execCxlViolation_evolves h
  | .cxlViolationLimit .. => execCxlViolationLimit_evolves h
  | .gpfPhase1 .. => execGpfPhase1_evolves h
  | .gpfPhase2 .. => execGpfPhase2_evolves h
  | .hdmDecoderCommit .. => execHdmDecoderCommit_evolves h
  | .hostLinkDown .. => execHostLinkDown_evolves h
  | .hpnPerstAssert .. => execHpnPerstAssert_evolves h
  | .hpnPerstRelease .. => execHpnPerstRelease_evolves h
  | .hostLinkUp .. => execHostLinkUp_evolves h
  | .cdatRead .. => execCdatRead_evolves h
  | .identifyMemoryDevice .. => execIdentifyMemoryDevice_evolves h
  | .getSupportedLogs .. => execGetSupportedLogs_evolves h
  | .getLog .. => execGetLog_evolves h
  | .getEventRecords .. => execGetEventRecords_evolves h
  | .clearEventRecords .. => execClearEventRecords_evolves h
  | .getEventInterruptPolicy .. => execGetEventInterruptPolicy_evolves h
  | .setEventInterruptPolicy .. => execSetEventInterruptPolicy_evolves h
  | .getTimestamp .. => execGetTimestamp_evolves h
  | .setTimestamp .. => execSetTimestamp_evolves h
  | .getHealthInfo .. => execGetHealthInfo_evolves h
  | .getPoisonList .. => execGetPoisonList_evolves h
  | .clearPoison .. => execClearPoison_evolves h
  | .getDcConfiguration .. => execGetDcConfiguration_evolves h
  | .getDcExtentList .. => execGetDcExtentList_evolves h
  | .addDcResponse .. => execAddDcResponse_evolves h
  | .releaseDynamicCapacity .. => execReleaseDynamicCapacity_evolves h
  | .cxlUnsupportedOpcode .. => execCxlUnsupportedOpcode_evolves h
  | .getLdInfo .. => execGetLdInfo_evolves h
  | .getLdAllocations .. => execGetLdAllocations_evolves h
  | .setLdAllocations .. => execSetLdAllocations_evolves h
  | .getQosControl .. => execGetQosControl_evolves h
  | .setQosControl .. => execSetQosControl_evolves h
  | .getQosStatus .. => execGetQosStatus_evolves h
  | .offerTimeout .. => execOfferTimeout_evolves h
  | .releaseTimeout .. => execReleaseTimeout_evolves h
  | .rdmaSend .. => execRdmaSend_evolves h
  | .rdmaWrite .. => execRdmaWrite_evolves h
  | .rdmaWriteWithImmediate .. => execRdmaWriteWithImmediate_evolves h
  | .rdmaRead .. => execRdmaRead_evolves h
  | .compareSwap .. => execCompareSwap_evolves h
  | .fetchAdd .. => execFetchAdd_evolves h
  | .atomicWrite .. => execAtomicWrite_evolves h
  | .rdmaFlush .. => execRdmaFlush_evolves h
  | .rdmaWait .. => execRdmaWait_evolves h
  | .waitTimeout .. => execWaitTimeout_evolves h
  | .admissionWaitExpiry .. => execAdmissionWaitExpiry_evolves h
  | .ackCoalesceExpiry .. => execAckCoalesceExpiry_evolves h
  | .messageAbandon .. => execMessageAbandon_evolves h
  | .contextFetched .. => execContextFetched_evolves h
  | .cnpReceived .. => execCnpReceived_evolves h
  | .rateRecover .. => execRateRecover_evolves h
  | .pfcPauseReceived .. => execPfcPauseReceived_evolves h
  | .pfcStorm .. => execPfcStorm_evolves h
  | .arpRequest .. => execArpRequest_evolves h
  | .rdmaViolation _ _ psn _ => execRdmaViolation_evolves (a2 := psn) h
  | .rdmaViolationLimit .. => execRdmaViolationLimit_evolves h
  | .rdmaPortLinkDown .. => execRdmaPortLinkDown_evolves h
  | .rdmaPortLinkUp .. => execRdmaPortLinkUp_evolves h
  | .yardAlloc .. => execYardAlloc_evolves h
  | .yardFree .. => execYardFree_evolves h
  | .yardHandover .. => execYardHandover_evolves h
  | .ditchEnq .. => execDitchEnq_evolves h
  | .ditchDeq .. => execDitchDeq_evolves h
  | .dropRemainder .. => execDropRemainder_evolves h
  | .qopen .. => execQopen_evolves h
  | .qclose .. => execQclose_evolves h
  | .heartbeatWordReceived .. => execHeartbeatWordReceived_evolves h
  | .pairFenceInAssert => execPairFenceInAssert_evolves h
  | .pairFenceInDeassert => execPairFenceInDeassert_evolves h
  | .pairPfInAssert => execPairPfInAssert_evolves h
  | .pairInputPulse .. => execPairInputPulse_evolves h
  | .hbTimeout => execHbTimeout_evolves h
  | .stall => execStall_evolves h
  | .cableFaultSet => execCableFaultSet_evolves h
  | .cableFaultClear => execCableFaultClear_evolves h
  | .mirrorPathArbitration => execMirrorPathArbitration_evolves h
  | .linkAndCable => execLinkAndCable_evolves h
  | .fenceMarginEnd => execFenceMarginEnd_evolves h
  | .joinStart .. => execJoinStart_evolves h
  | .joinAbandon => execJoinAbandon_evolves h
  | .joinSettle .. => execJoinSettle_evolves h
  | .resyncStream => execResyncStream_evolves h
  | .resyncEnd => execResyncEnd_evolves h
  | .keepaliveSend .. => execKeepaliveSend_evolves h
  | .parityFrameSend .. => execParityFrameSend_evolves h
  | .ackFrameSend => execAckFrameSend_evolves h
  | .keepaliveFrame .. => execKeepaliveFrame_evolves h
  | .setupFrame .. => execSetupFrame_evolves h
  | .recordsFrame .. => execRecordsFrame_evolves h
  | .forwardFrame .. => execForwardFrame_evolves h
  | .returnFrame .. => execReturnFrame_evolves h
  | .ackFrame .. => execAckFrame_evolves h
  | .parityFrame .. => execParityFrame_evolves h
  | .resendFrame .. => execResendFrame_evolves h
  | .stateFrame .. => execStateFrame_evolves h
  | .handoverFrame .. => execHandoverFrame_evolves h
  | .reachCtlFrame .. => execReachCtlFrame_evolves h
  | .catchupMapFrame .. => execCatchupMapFrame_evolves h
  | .granuleFrame .. => execGranuleFrame_evolves h
  | .granuleAckFrame .. => execGranuleAckFrame_evolves h
  | .rekeyFrame .. => execRekeyFrame_evolves h
  | .rekeyDue .. => execRekeyDue_evolves h
  | .rekeyRetry .. => execRekeyRetry_evolves h
  | .oldKeyDrop .. => execOldKeyDrop_evolves h
  | .keyUseLimit .. => execKeyUseLimit_evolves h
  | .rilramPortDown .. => execRilramPortDown_evolves h
  | .rilramPortUp .. => execRilramPortUp_evolves h
  | .rilramViolationLimit .. => execRilramViolationLimit_evolves h
  | .freezeNFall => execFreezeNFall_evolves h
  | .islandsStop => execIslandsStop_evolves h
  | .extest => execExtest_evolves h
  | .samplePreload => execSamplePreload_evolves h
  | .idcode => execIdcode_evolves h
  | .svyAddr .. => execSvyAddr_evolves h
  | .svyData .. => execSvyData_evolves h
  | .svyStatus .. => execSvyStatus_evolves h
  | .unlock .. => execUnlock_evolves h
  | .thaw .. => execThaw_evolves h
  | .jtagBypass .. => execJtagBypass_evolves h
  | .recordPeriodClose .. => execRecordPeriodClose_evolves h
  | .logPageWrite => execLogPageWrite_evolves h
  | .logPageConfirmed => execLogPageConfirmed_evolves h
  | .opTimeBaseUpdate => execOpTimeBaseUpdate_evolves h
  | .inputPowerBelowLimit .. => execInputPowerBelowLimit_evolves h
  | .storeEraseDone .. => execStoreEraseDone_evolves h
  | .entropyHealthPass => execEntropyHealthPass_evolves h
  | .freezeCommandTrigger => execFreezeCommandTrigger_evolves h

/-- The frame of `exec` read off its answer: the form that statements about a next state use. -/
theorem evolves_of_exec_eq_next {c : Instr} {s t : State} (e : exec c s = .next t) : Evolves s t := by
  have h := exec_evolves (.refl s) c
  rwa [e] at h

/-- The idle step (log entry 7). -/
theorem step_of_pending_nil {s : State} (e : s.pending = []) : step s = .next s := by
  rw [step, e]

/-- First in, first out: the step is the front command's (log entry 7). -/
theorem step_of_pending_cons {s : State} {c : Instr} {rest : List Instr} (e : s.pending = c :: rest) :
    step s = exec c { s with pending := rest } := by
  rw [step, e]

/-- All that a step can do: it drops the front of the queue, and beyond that only what `Evolves` allows; an idle step drops nothing, since the tail
of an empty queue is empty. -/
theorem evolves_of_step_eq_next {s t : State} (e : step s = .next t) : Evolves { s with pending := s.pending.tail } t := by
  cases hp : s.pending with
  | nil =>
    rw [step_of_pending_nil hp] at e
    cases e
    rw [List.tail_nil, ← hp]
    exact .refl s
  | cons c rest =>
    rw [step_of_pending_cons hp] at e
    exact evolves_of_exec_eq_next e

/-- Settles O5, by the frame of `exec`. -/
theorem commandsEvolveTheState : Obligations.CommandsEvolveTheState := by
  unfold Obligations.CommandsEvolveTheState
  intro c s t e
  exact evolves_of_exec_eq_next e

/-- Settles O6: taking a command off the queue leaves the register table, and what the command does keeps its order and the rest of the queue. -/
theorem stepKeepsTheRegisterTableInOrder : Obligations.StepKeepsTheRegisterTableInOrder := by
  unfold Obligations.StepKeepsTheRegisterTableInOrder
  intro s t r e
  have h := evolves_of_step_eq_next e
  exact ⟨h.regs r, h.pending⟩

/-- Settles O7, by the laws of register fields. -/
theorem registerFieldsReadBackWhatWasWritten : Obligations.RegisterFieldsReadBackWhatWasWritten := by
  unfold Obligations.RegisterFieldsReadBackWhatWasWritten
  intro s f v r
  exact ⟨get_put_same r, fun _ k => get_put_other r k, put_regsOk r⟩

end Sys2Proof.Machine
end

section
/-!
SUPPORT. What a tick of the epoch leaves (O17), what a module reset leaves (O20), the reset state (O3), and the input events (O11).
-/

namespace Sys2Proof.Machine

open Sys2Proof

/-! ### A tick of the epoch -/

/-- Whether the islands run is read off the power state, the logbook and the mode alone. -/
theorem up_eq_of_parts {s t : State} (hp : t.pwr = s.pwr) (he : t.evr = s.evr) (hm : t.mode = s.mode) : t.up = s.up := by
  rw [State.up, State.up, State.live, State.live, hp, he, hm]

/-- Writes to other registers leave the epoch as it reads. -/
theorem RegsOnly.epoch {s t : State} (h : RegsOnly clockKey s t) (r : s.regsOk) : t.epoch = s.epoch :=
  h.get r Reg.CLK_EPOCH_EPOCH (by decide)

/-- Writes to other registers leave the mode. -/
theorem RegsOnly.mode {s t : State} (h : RegsOnly clockKey s t) (r : s.regsOk) : t.mode = s.mode :=
  congrArg Mode.ofCode (h.get r Reg.MOD_STATE_MODE (by decide))

/-- What a tick leaves before any heartbeat word (R12): the epoch is one on, and of the power state, the logbook, the twin link, the messages and the mode
nothing has changed. -/
structure Ticked (s t : State) : Prop where
  ok    : t.regsOk
  epoch : t.epoch = (s.epoch + 1) % 2 ^ 64
  mode  : t.mode = s.mode
  pwr   : t.pwr = s.pwr
  evr   : t.evr = s.evr
  twn   : t.twn = s.twn
  sent  : t.sent = s.sent

namespace Ticked

variable {s t u : State}

theorem up (h : Ticked s t) : t.up = s.up := up_eq_of_parts h.pwr h.evr h.mode

theorem inc_epoch (r : s.regsOk) : Ticked s (s.inc Reg.CLK_EPOCH_EPOCH) :=
  { ok := inc_regsOk r, epoch := get_put_same r, mode := congrArg Mode.ofCode (get_inc_other r (by decide)), pwr := rfl, evr := rfl, twn := rfl, sent := rfl }

theorem regsOnly (h : Ticked s t) (k : RegsOnly clockKey t u) : Ticked s u :=
  { ok := k.ok h.ok, epoch := (k.epoch h.ok).trans h.epoch, mode := (k.mode h.ok).trans h.mode, pwr := (congrArg State.pwr k.rest).trans h.pwr,
    evr := (congrArg State.evr k.rest).trans h.evr, twn := (congrArg State.twn k.rest).trans h.twn, sent := (congrArg State.sent k.rest).trans h.sent }

theorem onTir {f : TirSt → TirSt} (h : Ticked s t) : Ticked s (t.onTir f) := { h with }

theorem keepAge (h : Ticked s t) : Ticked s (keepAge t) := { h with }

theorem ageErrs (h : Ticked s t) : Ticked s (ageErrs t) := by
  obtain ⟨u, k, e⟩ := ageErrs_regsOnly t
  rw [e]
  exact (h.regsOnly k).onTir

end Ticked

/-- The part of a tick that every live module does. -/
theorem ticked_tickOwn {s : State} (r : s.regsOk) : Ticked s (keepAge (ageErrs (tickOwn s))) :=
  ((Ticked.inc_epoch r).regsOnly (tickOwn_regsOnly s)).ageErrs.keepAge

/-- What a tick of a live module answers: a heartbeat word leaves where every island runs. -/
theorem exec_epochTick_of_live {s : State} (hl : s.live = true) : exec .epochTick s =
    .next (if (keepAge (ageErrs (tickOwn s))).up then sendWord (tickPorts (keepAge (ageErrs (tickOwn s)))) else keepAge (ageErrs (tickOwn s))) := by
  change execEpochTick s = _
  rw [execEpochTick, onLive_next hl]

@[simp] theorem heartbeatWord_length (s : State) : (heartbeatWord s).length = 8 := by
  simp [heartbeatWord]

theorem sendWord_sent (s : State) : (sendWord s).sent = .heartbeat (heartbeatWord s) :: s.sent := rfl

theorem sendWord_slot (s : State) : (sendWord s).twn.slot = (s.twn.slot + 1) % 65536 := rfl

/-- Sending a heartbeat word writes no register but its counter. -/
theorem sendWord_keepsClock (s : State) : KeepsClock s (sendWord s) := (Keeps.other rfl).trans (.inc (by decide))

/-- Settles O17: the epoch's own increment is the tick's only write to the epoch, and a word leaves exactly where the islands run. -/
theorem epochAdvancesByOneEachTick : Obligations.EpochAdvancesByOneEachTick := by
  unfold Obligations.EpochAdvancesByOneEachTick
  intro s hl r
  have h := ticked_tickOwn r
  refine ⟨_, exec_epochTick_of_live hl, ?_⟩
  generalize keepAge (ageErrs (tickOwn s)) = u at h ⊢
  rw [h.up]
  by_cases hu : s.up = true
  · have k := h.regsOnly (tickPorts_regsOnly u)
    have w := sendWord_keepsClock (tickPorts u)
    rw [if_pos hu]
    refine ⟨(w.epoch k.ok).trans k.epoch, (w.weaken.mode k.ok).trans k.mode, fun _ => ⟨heartbeatWord (tickPorts u), ?sent, heartbeatWord_length _, ?slot⟩, ?down⟩
    case sent => rw [sendWord_sent, k.sent]
    case slot => rw [sendWord_slot, k.twn]
    case down => exact fun n => absurd (hu.symm.trans n) (by decide)
  · rw [if_neg hu]
    exact ⟨h.epoch, h.mode, fun y => absurd y hu, fun _ => ⟨h.sent, congrArg TwnSt.slot h.twn⟩⟩

/-! ### A module reset: what its parts can change -/

/-- Only registers, the logbook (but not whether the module is frozen), the twin link, the messages sent and the free values drawn differ. -/
structure LinkOnly (s t : State) : Prop where
  rest : t = { s with regs := t.regs, evr := t.evr, twn := t.twn, sent := t.sent, fresh := t.fresh }
  froz : t.evr.frozen = s.evr.frozen

namespace LinkOnly

variable {s t u : State}

theorem refl (s : State) : LinkOnly s s := ⟨rfl, rfl⟩

theorem trans (h : LinkOnly s t) (k : LinkOnly t u) : LinkOnly s u := ⟨by rw [k.rest, h.rest], k.froz.trans h.froz⟩

theorem pwr (h : LinkOnly s t) : t.pwr = s.pwr := by rw [h.rest]
theorem sess (h : LinkOnly s t) : t.sess = s.sess := by rw [h.rest]
theorem mbx (h : LinkOnly s t) : t.mbx = s.mbx := by rw [h.rest]
theorem frm (h : LinkOnly s t) : t.frm = s.frm := by rw [h.rest]
theorem cis (h : LinkOnly s t) : t.cis = s.cis := by rw [h.rest]
theorem tir (h : LinkOnly s t) : t.tir = s.tir := by rw [h.rest]
theorem win (h : LinkOnly s t) : t.win = s.win := by rw [h.rest]
theorem rdm (h : LinkOnly s t) : t.rdm = s.rdm := by rw [h.rest]
theorem yrd (h : LinkOnly s t) : t.yrd = s.yrd := by rw [h.rest]
theorem cph (h : LinkOnly s t) : t.cph = s.cph := by rw [h.rest]
theorem med (h : LinkOnly s t) : t.med = s.med := by rw [h.rest]
theorem pending (h : LinkOnly s t) : t.pending = s.pending := by rw [h.rest]

theorem put {f : Fld} {v : Nat} : LinkOnly s (s.put f v) := ⟨rfl, rfl⟩

theorem add {f : Fld} {v : Nat} : LinkOnly s (s.add f v) := ⟨rfl, rfl⟩

theorem inc {f : Fld} : LinkOnly s (s.inc f) := ⟨rfl, rfl⟩

theorem send {m : Msg} : LinkOnly s (s.send m) := ⟨rfl, rfl⟩

theorem onTwn {f : TwnSt → TwnSt} : LinkOnly s (s.onTwn f) := ⟨rfl, rfl⟩

theorem of_logOnly (h : LogOnly s t) : LinkOnly s t := ⟨by rw [h.rest], h.froz⟩

theorem ite {c : Prop} [Decidable c] {a b : State} (h : LinkOnly s a) (k : LinkOnly s b) : LinkOnly s (if c then a else b) := by
  split
  · exact h
  · exact k

theorem foldl {α : Type} {f : State → α → State} (h : ∀ s a, LinkOnly s (f s a)) : ∀ (l : List α) (s : State), LinkOnly s (l.foldl f s)
  | [], s => refl s
  | a :: l, s => (h s a).trans (foldl h l (f s a))

end LinkOnly

/-- As `Keeps.foldl`, where what the elements of the list are matters. -/
theorem Keeps.foldl_mem {K : Nat → Bool} {α : Type} {f : State → α → State} : ∀ {l : List α} {s : State},
    (∀ u, ∀ a ∈ l, Keeps K u (f u a)) → Keeps K s (l.foldl f s)
  | [], s, _ => .refl s
  | a :: _, s, h => (h s a List.mem_cons_self).trans (foldl_mem fun u b hb => h u b (List.mem_cons_of_mem a hb))

section
variable (s : State)

theorem raise_linkOnly (e a b : Nat) : LinkOnly s (raise e a b s) := .of_logOnly (raise_logOnly s e a b)

theorem downSync_linkOnly : LinkOnly s (downSync s) := by
  unfold downSync
  exact .ite .onTwn .onTwn

theorem sendParity_linkOnly (p : Nat) : LinkOnly s (sendParity p s) := ⟨rfl, rfl⟩

theorem sendOn_linkOnly (p : Nat) (code : String) (reach seq : Nat) (data : List Byte) : LinkOnly s (sendOn p code reach seq data s) := by
  unfold sendOn
  extract_lets -merge -underBinder q m s1 s2 s3
  have h1 : LinkOnly s s1 := .onTwn
  have h2 : LinkOnly s s2 := h1.trans ((LinkOnly.send.trans .inc).trans (.trans .add .inc))
  have h3 : LinkOnly s s3 := h2.trans (.ite (sendParity_linkOnly s2 p) (.refl s2))
  exact h3.trans (.ite ((LinkOnly.put.trans (downSync_linkOnly _)).trans (raise_linkOnly _ _ _ _)) (.refl s3))

theorem linkSend_linkOnly (code : String) (reach seq : Nat) (data : List Byte) : LinkOnly s (linkSend code reach seq data s) := by
  unfold linkSend
  have h : LinkOnly s (s.free 1).2 := ⟨rfl, rfl⟩
  exact .ite (h.trans (sendOn_linkOnly _ _ _ _ _ _)) (.ite (sendOn_linkOnly s 0 _ _ _ _) (.ite (sendOn_linkOnly s 1 _ _ _ _) (.refl s)))

theorem admitSync_linkOnly : LinkOnly s (admitSync s) := by
  unfold admitSync
  extract_lets -merge -underBinder s1 s2 n old s3
  have h3 : LinkOnly s s3 := (LinkOnly.put.trans .put).trans (.trans .put .put)
  exact h3.trans (.ite (.refl s3) (linkSend_linkOnly s3 _ _ _ _))

theorem mediaSync_linkOnly : LinkOnly s (mediaSync s) := .foldl (fun _ _ => .put) _ _

/-- Entering a mode that does not serve changes registers, the logbook and the twin link alone: only a serving mode touches the store and the media. -/
theorem setMode_linkOnly {m : Mode} (hm : (m = .paired || m = .resync || m = .solo) = false) : LinkOnly s (setMode m s) := by
  unfold setMode
  split
  · exact .refl s
  · extract_lets -merge -underBinder old s1 s2 s3 s4 s5
    have h1 : LinkOnly s s1 := (LinkOnly.put.trans .put).trans .inc
    have h3 : LinkOnly s s3 := h1.trans (.trans .put .put)
    have h4 : LinkOnly s3 s4 := .ite (LinkOnly.inc.trans (raise_linkOnly _ _ _ _)) (.refl s3)
    have h5 : s5 = s4 := if_neg (by rw [hm]; decide)
    rw [h5]
    exact ((h3.trans h4).trans (raise_linkOnly s4 _ _ _)).trans ((admitSync_linkOnly _).trans (mediaSync_linkOnly _))

theorem hgSync_linkOnly : LinkOnly s (hgSync s) := (LinkOnly.put.trans .put).trans (.trans .put .put)

theorem perstSync_linkOnly : LinkOnly s (perstSync s) := .foldl (fun _ _ => .put) _ _

theorem resetRegs_linkOnly : LinkOnly s (resetRegs s) := by
  unfold resetRegs
  extract_lets -merge -underBinder s1 s2 s3
  have h1 : LinkOnly s s1 := (LinkOnly.put.trans .put).trans (hgSync_linkOnly _)
  have h2 : LinkOnly s1 s2 := .foldl (fun _ _ => .put) _ _
  have h3 : LinkOnly s2 s3 := .trans .put .put
  exact ((h1.trans h2).trans h3).trans ((LinkOnly.put.trans .put).trans .put)

theorem resetEvents_linkOnly (cause : Nat) : LinkOnly s (resetEvents cause s) := by
  unfold resetEvents
  extract_lets -merge -underBinder s1
  have h1 : LinkOnly s s1 := raise_linkOnly s _ _ _
  have h2 : LinkOnly s1 (s1.onEvr fun x => { x with svyRead := 0 }) := ⟨rfl, rfl⟩
  exact h1.trans (.ite (h2.trans (raise_linkOnly _ _ _ _)) (.refl s1))

/-! ### A module reset: the clock and the mode -/

theorem hgSync_keepsClock : KeepsClock s (hgSync s) :=
  ((Keeps.put (by decide)).trans (.put (by decide))).trans ((Keeps.put (by decide)).trans (.put (by decide)))

theorem measDigest_off {i : Nat} (h : i < 5) : clockModeKey (Reg.MOD_MEAS_DIGEST i).key = false := by
  have e : (Reg.MOD_MEAS_DIGEST i).key = (0x10100 + 0x40 * i) * 512 + 0 := rfl
  exact clockModeKey_off (by omega) (by omega) (by omega)

theorem cleanStop_keepsClock (mode : Nat) : KeepsClock s (cleanStop mode s) := by
  unfold cleanStop
  exact .ite (.other rfl) (.refl s)

theorem resetLog_keepsClock (scope cause mode : Nat) (spilled : Bool) : KeepsClock s (resetLog scope cause mode spilled s) := by
  unfold resetLog
  extract_lets -merge -underBinder s1 s2
  have h1 : KeepsClock s s1 := (cleanStop_keepsClock s mode).trans (.other rfl)
  have h2 : KeepsClock s1 s2 := ((((Keeps.put (by decide)).trans (.put (by decide))).trans (.put (by decide))).trans (.put (by decide))).trans
    ((Keeps.put (by decide)).trans (.inc (by decide)))
  exact (h1.trans h2).trans ((Keeps.put (by decide)).trans .onPwr)

theorem resetRegs_keepsClock : KeepsClock s (resetRegs s) := by
  unfold resetRegs
  extract_lets -merge -underBinder s1 s2 s3
  have h1 : KeepsClock s s1 := ((Keeps.put (by decide)).trans (.put (by decide))).trans (hgSync_keepsClock _)
  have h2 : KeepsClock s1 s2 := .foldl_mem (fun _ _ h => .put (measDigest_off (List.mem_range.mp h)))
  have h3 : KeepsClock s2 s3 := (Keeps.put (by decide)).trans (.put (by decide))
  exact ((h1.trans h2).trans h3).trans (((Keeps.put (by decide)).trans (.put (by decide))).trans (.put (by decide)))

theorem resetEvents_keepsClock (cause : Nat) : KeepsClock s (resetEvents cause s) := by
  unfold resetEvents
  extract_lets -merge -underBinder s1
  have h1 : KeepsClock s s1 := raise_keepsClock s _ _ _
  have h2 : KeepsClock s1 (s1.onEvr fun x => { x with svyRead := 0 }) := .other rfl
  exact h1.trans (.ite (h2.trans (raise_keepsClock _ _ _ _)) (.refl s1))

end

/-! ### A module reset: the islands cleared -/

/-- A module whose islands have lost everything, with store x: what is left is the registers kept, the power stage, the logbook, the media, the messages,
the free values and the queue (R525, R590). -/
def islandsLost (x : StoreSt) (s : State) : State :=
  { State.reset with regs := s.regs.filter (fun e => keptByReset e.1), pwr := s.pwr, evr := s.evr, store := x, med := s.med, sent := s.sent, fresh := s.fresh,
                     pending := s.pending }

/-- What follows the loss of the islands on registers, the logbook and the twin link finds them as after power-on, and leaves what was kept. -/
theorem LinkOnly.of_islandsLost {x : StoreSt} {s t : State} (k : LinkOnly (islandsLost x s) t) :
    t.pwr = s.pwr ∧ t.evr.frozen = s.evr.frozen ∧ t.med = s.med ∧ t.pending = s.pending ∧ t.cis = State.reset.cis ∧ t.tir = State.reset.tir ∧ t.win = [] ∧
      t.mbx = State.reset.mbx ∧ t.frm = State.reset.frm ∧ t.sess = [] ∧ t.rdm = State.reset.rdm ∧ t.yrd = State.reset.yrd ∧ t.cph = State.reset.cph :=
  ⟨k.pwr, k.froz, k.med, k.pending, k.cis, k.tir, k.win, k.mbx, k.frm, k.sess, k.rdm, k.yrd, k.cph⟩

/-- Holding the islands in reset leaves them so, with PERST as its lines stand: the stop that is recorded first changes the store alone. -/
theorem clearIslands_eq (s : State) : ∃ x, clearIslands s = perstSync (islandsLost x s) := by
  unfold clearIslands stashStop
  split
  · exact ⟨_, rfl⟩
  · exact ⟨_, rfl⟩

theorem perstSync_keepsClock (s : State) : KeepsClock s (perstSync s) := .foldl (fun _ p => .put (by
  have e : (Reg.HPT_LINK_STATE_PERST p).key = (0x300010 + 0x10000 * p) * 512 + 6 := rfl
  exact clockModeKey_off (by omega) (by omega) (by omega))) _ _

theorem islandsLost_regsOk {x : StoreSt} {s : State} (h : s.regsOk) : (islandsLost x s).regsOk := tsorted_filter h

theorem islandsLost_epoch {x : StoreSt} {s : State} (h : s.regsOk) : (islandsLost x s).epoch = s.epoch :=
  tget_filter_keep (p := keptByReset) (by decide) h

/-- The epoch is one of the registers that island 0 keeps. -/
theorem clearIslands_epoch {s : State} (h : s.regsOk) : (clearIslands s).regsOk ∧ (clearIslands s).epoch = s.epoch := by
  obtain ⟨x, e⟩ := clearIslands_eq s
  have k := perstSync_keepsClock (islandsLost x s)
  have r : (islandsLost x s).regsOk := islandsLost_regsOk h
  rw [e]
  exact ⟨(k r).1, (k.epoch r).trans (islandsLost_epoch h)⟩

/-! ### A module reset as a whole -/

theorem cleanStop_med (mode : Nat) (s : State) : (cleanStop mode s).med = s.med := by
  unfold cleanStop
  split <;> rfl

theorem cleanStop_pending (mode : Nat) (s : State) : (cleanStop mode s).pending = s.pending := by
  unfold cleanStop
  split <;> rfl

section
variable (scope cause mode : Nat) (spilled : Bool) (s : State)

theorem resetLog_inReset : (resetLog scope cause mode spilled s).pwr.inReset = some scope := rfl

theorem resetLog_spill : (resetLog scope cause mode spilled s).pwr.spill = none := rfl

theorem resetLog_frozen : (resetLog scope cause mode spilled s).evr.frozen = false := rfl

theorem resetLog_med : (resetLog scope cause mode spilled s).med = s.med := cleanStop_med mode s

theorem resetLog_pending : (resetLog scope cause mode spilled s).pending = s.pending := cleanStop_pending mode s

/-- After the islands are lost, a module reset writes registers, the logbook and the twin link alone. -/
theorem moduleReset_linkOnly : ∃ x, LinkOnly (islandsLost x (resetLog scope cause mode spilled s)) (moduleReset scope cause mode spilled s) := by
  obtain ⟨x, e⟩ := clearIslands_eq (resetLog scope cause mode spilled s)
  unfold moduleReset
  rw [e]
  exact ⟨x, ((perstSync_linkOnly _).trans (resetRegs_linkOnly _)).trans ((setMode_linkOnly _ (by decide)).trans (resetEvents_linkOnly _ cause))⟩

/-- A module reset ends in STANDBY and leaves the epoch as it was. -/
theorem moduleReset_mode_epoch {s : State} (h : s.regsOk) :
    (moduleReset scope cause mode spilled s).mode = .standby ∧ (moduleReset scope cause mode spilled s).epoch = s.epoch := by
  have l := resetLog_keepsClock s scope cause mode spilled
  obtain ⟨rc, ec⟩ := clearIslands_epoch (l h).1
  have g := resetRegs_keepsClock (clearIslands (resetLog scope cause mode spilled s))
  obtain ⟨m, -, rm, em⟩ := setMode_mode (g rc).1 .standby
  have k := resetEvents_keepsClock (setMode .standby (resetRegs (clearIslands (resetLog scope cause mode spilled s)))) cause
  refine ⟨(k.weaken.mode rm).trans m, ?_⟩
  calc (moduleReset scope cause mode spilled s).epoch
    _ = (setMode .standby (resetRegs (clearIslands (resetLog scope cause mode spilled s)))).epoch := k.epoch rm
    _ = (resetRegs (clearIslands (resetLog scope cause mode spilled s))).epoch := em
    _ = (clearIslands (resetLog scope cause mode spilled s)).epoch := g.epoch rc
    _ = (resetLog scope cause mode spilled s).epoch := ec
    _ = s.epoch := l.epoch h

end

/-- Settles O20: the parts of the islands come from the reset state, what is kept from the state that logged the reset. -/
theorem moduleResetHoldsTheIslands : Obligations.ModuleResetHoldsTheIslands := by
  unfold Obligations.ModuleResetHoldsTheIslands
  intro s scope cause mode spilled h
  dsimp only
  obtain ⟨x, k⟩ := moduleReset_linkOnly scope cause mode spilled s
  obtain ⟨hm, he⟩ := moduleReset_mode_epoch scope cause mode spilled h
  obtain ⟨pwr, froz, med, pending, cis, tir, win, mbx, frm, sess, rdm, yrd, cph⟩ := k.of_islandsLost
  rw [resetLog_frozen] at froz
  rw [resetLog_med] at med
  rw [resetLog_pending] at pending
  refine ⟨hm, ?hold, froz, ?spill, cis, tir, win, mbx, frm, sess, rdm, yrd, cph, med, pending, he⟩
  case hold => rw [pwr, resetLog_inReset]
  case spill => rw [pwr, resetLog_spill]

/-! ### The reset state -/

/-- With no register written, every mailbox reads the Reset column of its STATE: IDLE (R447). -/
theorem reset_mailbox_idle (m : Nat) : State.reset.get (Reg.MBX_STATE_STATE m) = 0 := tget_nil _ _

/-- Settles O3: an empty register table is in order and reads every field's Reset column. -/
theorem resetIsStandbyAtEpochZero : Obligations.ResetIsStandbyAtEpochZero := by
  unfold Obligations.ResetIsStandbyAtEpochZero
  exact ⟨rfl, rfl, rfl, rfl, rfl, rfl, fun m _ => reset_mailbox_idle m, rfl⟩

/-! ### The input events of a powered module -/

section
variable {s : State} (hp : s.pwr.powered = true)
include hp

theorem exec_inputFallsBelow34v : exec .inputFallsBelow34v s = .next ((s.onPwr fun x => { x with pfFilter := true }).put Reg.PWR_IN_STATE_IN_OK 0) := by
  change execInputFallsBelow34v s = _
  rw [execInputFallsBelow34v, if_pos hp]

theorem exec_powerFailDeclared (hf : s.pwr.pfFilter = true) : exec .powerFailDeclared s = .next (declarePowerFail s) := by
  change execPowerFailDeclared s = _
  rw [execPowerFailDeclared, hp, hf, Bool.and_self, if_pos rfl]

theorem exec_inputDipCarried (hf : s.pwr.pfFilter = true) : exec .inputDipCarried s =
    .next (raiseRl 0x0102 0 0 (((s.onPwr fun x => { x with pfFilter := false }).inc (Reg.PWR_STAT_COUNT 1)).put Reg.PWR_IN_STATE_IN_OK 1)) := by
  change execInputDipCarried s = _
  rw [execInputDipCarried, hp, hf, Bool.and_self, if_pos rfl]

theorem exec_overvoltageDetected (hm : s.mode ≠ .spill) : exec .overvoltageDetected s =
    .next (declarePowerFail (raise 0x0103 0 0 ((s.put Reg.PWR_IN_STATE_OV 1).inc (Reg.PWR_STAT_COUNT 2)))) := by
  change execOvervoltageDetected s = _
  rw [execOvervoltageDetected, if_neg (by simp [hp, hm])]

theorem exec_railTrip (hm : s.mode ≠ .spill) (rail : Nat) : exec (.railTrip rail) s = .next (declarePowerFail (raise 0x010A rail 0 s)) := by
  change execRailTrip rail s = _
  rw [execRailTrip, if_neg (by simp [hp, hm])]

/-- The two writes to PWR_IN_STATE leave the mode, so outside SPILL the input switch closes again. -/
theorem exec_inputGoodAfterOv (ho : s.get Reg.PWR_IN_STATE_OV = 1) (r : s.regsOk) (hm : s.mode ≠ .spill) : exec .inputGoodAfterOv s =
    .next (((s.put Reg.PWR_IN_STATE_OV 0).put Reg.PWR_IN_STATE_IN_OK 1).put Reg.PWR_IN_STATE_ISOLATED 0) := by
  have k : KeepsMode s ((s.put Reg.PWR_IN_STATE_OV 0).put Reg.PWR_IN_STATE_IN_OK 1) := (Keeps.put (by decide)).trans (.put (by decide))
  have n : ((s.put Reg.PWR_IN_STATE_OV 0).put Reg.PWR_IN_STATE_IN_OK 1).mode ≠ .spill := by
    rw [k.mode r]
    exact hm
  change execInputGoodAfterOv s = _
  rw [execInputGoodAfterOv, if_pos (by simp [hp, ho])]
  dsimp only
  rw [if_neg n]

end

/-- Settles O11, an event at a time. -/
theorem inputEventsComplete : Obligations.InputEventsComplete := by
  unfold Obligations.InputEventsComplete
  intro s hp
  exact ⟨exec_inputFallsBelow34v hp, exec_powerFailDeclared hp, exec_inputDipCarried hp, exec_overvoltageDetected hp, exec_railTrip hp, exec_inputGoodAfterOv hp⟩

end Sys2Proof.Machine
end

section
/-!
SUPPORT. The reach commands of mailbox group 0x06 and the reads of group 0x07 (O40).
-/

namespace Sys2Proof.Machine

open Sys2Proof

/-- `onCmd_next` for a command whose mailbox runs it: it acts on the state. -/
theorem onCmd_of_runsCmd {s : State} {m op : Nat} (h : s.runsCmd m op) (f : State → State) : onCmd m op s f = .next (f s) := by
  obtain ⟨hup, hmode, hruns⟩ := h
  exact onCmd_next hup hmode hruns

theorem dirBytes_length (e : Gran) : (dirBytes e).length = 16 := by
  simp [dirBytes]

/-! ### The checks of a provision (R35 to R37) -/

section
variable {s : State} {n owner : Nat} (hp : s.mode = .paired) (h0 : reachState s n = 0) (hq : s.twn.reachOps.any (fun o => o.reach == n) = false)
include hp h0 hq

/-- A persistent reach passes below REACH_LIMIT, those in progress counted (log entry 100). -/
theorem provisionCheck_persistent (ho : owner ≤ 1)
    (hl : reachesOf 0 s + (s.twn.reachOps.filter (fun o => o.action == 0)).length < s.get Reg.TIR_HAS_CFG_REACH_LIMIT) :
    provisionCheck n 0 owner s = none := by
  simp [provisionCheck, hp, h0, hq, Nat.not_lt.mpr ho, Nat.not_le.mpr hl]

/-- A volatile reach of this module passes below VOL_LIMIT with 128 GiB of floor for it and each one provisioned (log entry 100). -/
theorem provisionCheck_volatile (ho : owner ≤ 1) (hs : owner = s.pos) (hv : reachesOf 1 s < s.get Reg.TIR_HAS_CFG_VOL_LIMIT)
    (hf : 128 * (reachesOf 1 s + 1) ≤ floorGib s) : provisionCheck n 1 owner s = none := by
  have hpos : ¬ s.pos > 1 := by omega
  simp [provisionCheck, hp, h0, hq, hs, hpos, Nat.not_le.mpr hv, Nat.not_lt.mpr hf]

end

/-! ### Provision, release and handover -/

section
variable {s : State} {m n : Nat} (hn : reqNat s m 0 2 % 4096 = n)
include hn

/-- A persistent reach waits: its record is appended here and the twin is told. -/
theorem exec_reachProvision_persistent (h : s.runsCmd m 0x0601) {owner : Nat} (ho : reqNat s m 3 1 = owner) (hk : reqNat s m 2 1 = 0)
    (hc : provisionCheck n 0 owner s = none) : exec (.reachProvision m) s =
    .next (linkSend "REACH_CTL" n 0 [0, 0, BitVec.ofNat 8 owner] (append (reachRec n 0 0 owner false s) false (s.onTwn fun x =>
      { x with reachOps := x.reachOps ++ [{ reach := n, action := 0, kind := 0, owner := owner, mbx := some m, own := false, twin := false }] }))) := by
  change execReachProvision m s = _
  simp [execReachProvision, onCmd_of_runsCmd h, hn, ho, hk, hc]

/-- A volatile reach is there at once, and a PAIRED module tells the twin. -/
theorem exec_reachProvision_volatile (h : s.runsCmd m 0x0601) {owner : Nat} (ho : reqNat s m 3 1 = owner) (hk : reqNat s m 2 1 = 1)
    (hc : provisionCheck n 1 owner s = none) (hp : s.mode = .paired) : exec (.reachProvision m) s =
    .next (complete m (leBytes 8 0) (linkSend "REACH_CTL" n 0 [0, 1, BitVec.ofNat 8 owner] (provisionReach n 1 owner s))) := by
  change execReachProvision m s = _
  simp [execReachProvision, onCmd_of_runsCmd h, hn, ho, hk, hc, hp]

section
variable (h : s.runsCmd m 0x0602) (hp : s.mode = .paired) (h1 : reachState s n = 1) (hw : s.get (Reg.TIR_REACH_WINDOWS n) = 0)
include h hp h1 hw

/-- A persistent reach without a window is RELEASING until its record is held by both modules. -/
theorem exec_reachRelease_persistent (hv : volatileReach s n = false) : exec (.reachRelease m false) s =
    let o : ReachOp := { reach := n, action := 1, kind := 0, owner := s.get (Reg.TIR_REACH_OWNER n), mbx := some m, own := false, twin := false }
    let t := (s.onTwn fun x => { x with reachOps := x.reachOps ++ [o] }).put (Reg.TIR_REACH_STATE n) 5
    .next (linkSend "REACH_CTL" n 0 [1, 0, BitVec.ofNat 8 o.owner] (append (reachRec n 1 0 o.owner false t) false t)) := by
  change execReachRelease m false s = _
  simp [execReachRelease, onCmd_of_runsCmd h, hn, hp, h1, hw, hv]

/-- A volatile reach that this module owns is gone at once. -/
theorem exec_reachRelease_volatile (hv : volatileReach s n = true) (ho : ownsReach s n = true) (tw : Bool) : exec (.reachRelease m tw) s =
    .next (complete m [] (releaseReach n (linkSend "REACH_CTL" n 0 [1, 1, BitVec.ofNat 8 s.pos] s))) := by
  change execReachRelease m tw s = _
  simp [execReachRelease, onCmd_of_runsCmd h, hn, hp, h1, hw, hv, ho]

end

section
variable (h : s.runsCmd m 0x0603) (hp : s.mode = .paired) (ht : s.get Reg.TWN_STATE_TWIN_MODE = 4) (h1 : reachState s n = 1)
  (hv : volatileReach s n = false) (hh : s.twn.handovers.any (fun h => h.1 == n) = false)
include h hp ht h1 hv hh

theorem exec_reachHandover_own (ho : ownsReach s n = true) : exec (.reachHandover m) s = .next (beginHandover n (some m) s) := by
  change execReachHandover m s = _
  simp [execReachHandover, onCmd_of_runsCmd h, hn, hp, ht, h1, hv, hh, ho]

theorem exec_reachHandover_twin (ho : ownsReach s n = false) : exec (.reachHandover m) s =
    .next (linkSend "HANDOVER" n 0 [0] (s.onTwn fun x => { x with handovers := x.handovers ++ [(n, 0, some m)] })) := by
  change execReachHandover m s = _
  simp [execReachHandover, onCmd_of_runsCmd h, hn, hp, ht, h1, hv, hh, ho]

end

end

/-! ### Reading the directory -/

section
variable {s : State} {m g : Nat} (h : s.runsCmd m 0x0701) (hg : reqNat s m 0 8 % 2 ^ 34 = g)
include h hg

theorem exec_dirRead_provisioned (hr : reachState s (granReach g) ≠ 0) : exec (.dirRead m) s = .next (complete m (dirBytes (s.gran g)) s) := by
  subst hg
  change execDirRead m s = _
  rw [execDirRead, onCmd_of_runsCmd h]
  exact congrArg _ (if_neg hr)

theorem exec_dirRead_unprovisioned (hr : reachState s (granReach g) = 0) : exec (.dirRead m) s = .next (refuse m .bounds (atPayload 0) s) := by
  subst hg
  change execDirRead m s = _
  rw [execDirRead, onCmd_of_runsCmd h]
  exact congrArg _ (if_pos hr)

end

/-- Settles O40, a command at a time. -/
theorem reachCommandsComplete : Obligations.ReachCommandsComplete := by
  unfold Obligations.ReachCommandsComplete
  intro s m
  refine ⟨?provision, ?release, ?handover, ?dirRead, ?reachRead⟩
  case provision =>
    intro h hp n owner h0 hq ho
    exact ⟨fun hk hl => exec_reachProvision_persistent rfl h rfl hk (provisionCheck_persistent hp h0 hq ho hl),
      fun hk hs hv hf => exec_reachProvision_volatile rfl h rfl hk (provisionCheck_volatile hp h0 hq ho hs hv hf) hp⟩
  case release =>
    intro tw h hp n h1 hw
    refine ⟨?_, fun hv ho => exec_reachRelease_volatile rfl h hp h1 hw hv ho tw⟩
    rintro hv rfl
    exact exec_reachRelease_persistent rfl h hp h1 hw hv
  case handover =>
    intro h hp ht n h1 hv hh
    exact ⟨exec_reachHandover_own rfl h hp ht h1 hv hh, exec_reachHandover_twin rfl h hp ht h1 hv hh⟩
  case dirRead =>
    intro h g
    exact ⟨fun hr => ⟨exec_dirRead_provisioned h rfl hr, dirBytes_length _⟩, exec_dirRead_unprovisioned h rfl⟩
  case reachRead => exact fun h => onCmd_of_runsCmd h (completeFree m 64)

end Sys2Proof.Machine
end

section
/-!
SUPPORT. The primitives over tickets, slots, windows, the directory and the cistern (O58).
-/

namespace Sys2Proof.Machine

open Sys2Proof

section
variable {s : State} (hup : s.up = true)
include hup

/-! ### Tickets and slots (R177, R313) -/

theorem exec_ticketGet_taken {h n : Nat} {t : State} (hh : h ≤ 8) (ht : takeTicket h s = some (n, t)) : exec (.ticketGet h) s =
    .next (t.send (.prim "TICKET_GET" 0 n)) := by
  change execTicketGet h s = _
  simp only [execTicketGet, onUp_next hup, Nat.min_eq_left hh, ht]

theorem exec_ticketGet_none {h : Nat} (hh : h ≤ 8) (ht : takeTicket h s = none) : exec (.ticketGet h) s =
    .next (s.send (.prim "TICKET_GET" St.noResource.code 0)) := by
  change execTicketGet h s = _
  simp only [execTicketGet, onUp_next hup, Nat.min_eq_left hh, ht]

theorem exec_slotGet_taken {u n : Nat} {t : State} (ht : takeSlot u s = some (n, t)) : exec (.slotGet u) s = .next (t.send (.prim "SLOT_GET" 0 n)) := by
  change execSlotGet u s = _
  simp only [execSlotGet, onUp_next hup, ht]

theorem exec_slotGet_none {u : Nat} (ht : takeSlot u s = none) : exec (.slotGet u) s = .next (s.send (.prim "SLOT_GET" St.noResource.code 0)) := by
  change execSlotGet u s = _
  simp only [execSlotGet, onUp_next hup, ht]

/-! ### The window check (R49) -/

section
variable {id addr len right : Nat}

theorem exec_windowCheck_pass {w : Window} (hw : tfind id s.win = some w) (hc : accessCheck w addr len right = none) :
    exec (.windowCheck id addr len right) s = .next ((beginAccess id s).send (.prim "WINDOW_CHECK" 0 id)) := by
  change execWindowCheck id addr len right s = _
  simp only [execWindowCheck, onUp_next hup, hw, hc]

theorem exec_windowCheck_refused {w : Window} (hw : tfind id s.win = some w) {st : St} (hc : accessCheck w addr len right = some st) :
    exec (.windowCheck id addr len right) s = .next (s.send (.prim "WINDOW_CHECK" st.code id)) := by
  change execWindowCheck id addr len right s = _
  simp only [execWindowCheck, onUp_next hup, hw, hc]

theorem exec_windowCheck_free (hw : tfind id s.win = none) :
    exec (.windowCheck id addr len right) s = .next (s.send (.prim "WINDOW_CHECK" St.badField.code id)) := by
  change execWindowCheck id addr len right s = _
  simp only [execWindowCheck, onUp_next hup, hw]

end

/-! ### The directory (R161, R181) -/

/-- A released lock goes to the mover that has waited longest. -/
theorem exec_moveLockGranted {g : Nat} {w : Lock} {ws : List Lock} (hl : (s.gran g).lock = none) (hw : (s.gran g).waiters = w :: ws) (lane : Nat) :
    exec (.moveLockGranted g lane) s = .next (settle (grantLock g lane w (setGran g { s.gran g with waiters := ws } s))) := by
  change execMoveLockGranted g lane s = _
  simp only [execMoveLockGranted, onUp_next hup, hl, hw]

/-! ### The cistern (R84, R85, R90, R91, R95) -/

section
variable {w : WireRec} (hc : s.completes = true) (ha : mayAppend w s = true)
include hc ha

/-- A data record of an own reach takes its number, and goes to the twin where this module is its origin and mirroring is in force. -/
theorem exec_cisternAppend_own (hd : (recOfWire w false).isData = true) (ho : ownsReach s w.reach = true) : exec (.cisternAppend w) s =
    let t := append (recOfWire w false) false (s.onCis fun x => { x with assigned := tset 0 w.reach w.seq x.assigned })
    .next (if s.mirrors && w.origin == s.pos then linkSend "RECORDS" w.reach w.seq (recFull (recOfWire w false)) t else t) := by
  change execCisternAppend w s = _
  simp [execCisternAppend, onUp_next hup, hc, ha, ho, hd]

/-- A record of a reach that the twin owns is appended as a mirror's. -/
theorem exec_cisternAppend_mirror (ho : ownsReach s w.reach = false) : exec (.cisternAppend w) s = .next (append (recOfWire w true) false s) := by
  change execCisternAppend w s = _
  simp [execCisternAppend, onUp_next hup, hc, ha, ho]

end

theorem exec_recordHeld {pos : Nat} {r : Rec} (hr : s.cis.recs.find? (fun r => r.pos == pos && !r.held) = some r) (hm : s.mode ≠ .spill) (fault : MemFault) :
    exec (.recordHeld pos fault) s = .next (recordHeld pos (mergeFault fault r (memFault fault r.line s))) := by
  change execRecordHeld pos fault s = _
  simp only [execRecordHeld, onUp_next hup, hr, if_neg hm]

theorem exec_writeAdmitted (hc : s.completes = true) : exec .writeAdmitted s = .next (admitAll (settle s)) := by
  change execWriteAdmitted s = _
  rw [execWriteAdmitted, onUp_next hup, if_pos hc]

/-! ### Reads and writes of the tiers (R168, R90) -/

section
variable {n ticket line tenant : Nat} {noPromote : Bool} {fault : MemFault}

theorem exec_tierRead_provisioned (hr : reachState s (lineReach line) ≠ 0) : exec (.tierRead n ticket line tenant noPromote fault) s =
    .next (request { ticket := ticket, src := .prim n, line := line, window := 2 ^ 32, tenant := tenant, cls := 0, atomic := none, chained := false,
                     noPromote := noPromote } (memFault fault line s)) := by
  change execTierRead n ticket line tenant noPromote fault s = _
  rw [execTierRead, onUp_next hup, if_neg hr]

theorem exec_tierRead_unprovisioned (hr : reachState s (lineReach line) = 0) : exec (.tierRead n ticket line tenant noPromote fault) s =
    .next (s.send (.prim "TIER_READ" St.bounds.code n)) := by
  change execTierRead n ticket line tenant noPromote fault s = _
  rw [execTierRead, onUp_next hup, if_pos hr]

end

theorem exec_tierWrite {pos : Nat} {r : Rec} (hr : s.cis.recs.find? (fun r => r.pos == pos) = some r) (fault : MemFault) :
    exec (.tierWrite pos fault) s = .next (settle (applyPass [r] (mergeFault fault r (memFault fault r.line s)))) := by
  change execTierWrite pos fault s = _
  simp only [execTierWrite, onUp_next hup, hr]

end

/-- Settles O58, a primitive at a time; one with a single effect is its effect on a module whose islands run. -/
theorem tierPrimitivesComplete : Obligations.TierPrimitivesComplete := by
  unfold Obligations.TierPrimitivesComplete
  refine ⟨fun s hup => ⟨?ticketGet, ?puts, ?slotGet, ?windowCheck, ?lookups, ?dirLock, ?dirUnlock, ?granted, ?append, ?held, ?admitted, ?resume, ?tierRead, ?tierWrite⟩,
    fun s m h => onCmd_of_runsCmd h (completeFree m 64)⟩
  case ticketGet => exact fun h hh => ⟨fun n t ht => exec_ticketGet_taken hup hh ht, exec_ticketGet_none hup hh⟩
  case puts => exact fun n => ⟨show execTicketPut n s = _ from onUp_next hup, show execSlotPut n s = _ from onUp_next hup⟩
  case slotGet => exact fun u => ⟨fun n t ht => exec_slotGet_taken hup ht, exec_slotGet_none hup⟩
  case windowCheck =>
    exact fun id addr len right =>
      ⟨fun w hw => ⟨exec_windowCheck_pass hup hw, fun st hc => exec_windowCheck_refused hup hw hc⟩, exec_windowCheck_free hup⟩
  case lookups => exact fun g mline fault => ⟨show execDirLookup g mline fault s = _ from onUp_next hup, show execXltLookup g mline fault s = _ from onUp_next hup⟩
  case dirLock => exact fun g kind holder mline => show execDirLock g kind holder mline s = _ from onUp_next hup
  case dirUnlock => exact fun g mline => show execDirUnlock g mline s = _ from onUp_next hup
  case granted => exact fun g lane w ws hl hw => exec_moveLockGranted hup hl hw lane
  case append =>
    intro w hc ha hd t
    refine ⟨fun ho hm hw => ?_, fun ho hm => ?_, exec_cisternAppend_mirror hup hc ha⟩
    · simp [exec_cisternAppend_own hup hc ha hd ho, hm, hw, t]
    · simp [exec_cisternAppend_own hup hc ha hd ho, hm, t]
  case held => exact fun pos fault r hr hm => exec_recordHeld hup hr hm fault
  case admitted => exact exec_writeAdmitted hup
  case resume => exact show execAppendResume s = _ from onUp_next hup
  case tierRead => exact fun n ticket line tenant noPromote fault => ⟨exec_tierRead_provisioned hup, exec_tierRead_unprovisioned hup⟩
  case tierWrite => exact fun pos fault r hr => exec_tierWrite hup hr fault

end Sys2Proof.Machine
end

section
/-!
SUPPORT. The window, extent and capacity commands of mailbox group 0x04 (O51).
-/

namespace Sys2Proof.Machine

open Sys2Proof

theorem descriptor_length (id : Nat) (w : Window) : (descriptor id w).length = 32 := by
  simp [descriptor]

/-! ### Opening (R47, R306, R309) -/

section
variable {s : State} {m port ld : Nat} (hport : reqNat s m 0 1 % 8 = port) (hld : reqNat s m 1 1 % 16 = ld) (ho : opensWindows s = true)
include ho

theorem exec_cxlWindowOpen_refused (h : s.runsCmd m 0x0401) {w : Window} (hw : windowRequest m false s = w) {st : St} {d : Nat}
    (hc : windowCheck (2 ^ 28) w.cls w.base w.len 16 24 2 s = some (st, d)) : exec (.cxlWindowOpen m) s = .next (refuse m st d s) := by
  change execCxlWindowOpen m s = _
  rw [execCxlWindowOpen, onCmd_of_runsCmd h]
  simp [-Nat.reducePow, ho, hw, hc]

include hport hld

/-- A static window in free capacity of the logical device takes the lowest free number (log entry 18). -/
theorem exec_cxlWindowOpen_opened (h : s.runsCmd m 0x0401) {w : Window} (hw : windowRequest m false s = w)
    (hc : windowCheck (2 ^ 28) w.cls w.base w.len 16 24 2 s = none) (hl : ld < s.get (Reg.HPT_PORT_CFG_LD_COUNT port)) (hd : w.dpa % 2 ^ 28 = 0)
    (hg : w.dpa + w.len ≤ s.get (Reg.HPT_LD_STATE_STATIC_GIB port ld) * 2 ^ 30) (ht : dpaTaken port ld w.dpa w.len s = false)
    (hn : (ldWindows port ld s).length < 16384) :
    exec (.cxlWindowOpen m) s = .next (complete m (leBytes 4 (tnext 0 s.win) ++ leBytes 12 0) (openWindow (tnext 0 s.win) w s)) := by
  change execCxlWindowOpen m s = _
  rw [execCxlWindowOpen, onCmd_of_runsCmd h]
  simp [-Nat.reducePow, hport, hld, ho, hw, hc, Nat.not_le.mpr hl, hd, Nat.not_lt.mpr hg, ht, Nat.not_le.mpr hn]

/-- An extent in a region of its kind takes the lowest free number (log entry 18) and is offered to the logical device. -/
theorem exec_dcdExtentAdd_offered (h : s.runsCmd m 0x0403) {w : Window} (hw : windowRequest m true s = w)
    (hc : windowCheck (2 ^ 28) w.cls w.base w.len 16 24 2 s = none) (hl : ld < s.get (Reg.HPT_PORT_CFG_LD_COUNT port)) {r : DcRegion}
    (hr : tfind (8 * ldNum port ld + w.region) s.hpt.regions = some r) (hb : r.base ≤ w.dpa) (he : w.dpa + w.len ≤ r.base + r.len)
    (hd : w.dpa % 2 ^ 28 = 0) (ht : dpaTaken port ld w.dpa w.len s = false) (hp : r.persistent ≠ (w.cls == 2))
    (hn : (ldWindows port ld s).length < 16384) :
    exec (.dcdExtentAdd m) s = .next (noteLd (ldNum port ld) 0x0001 (tnext 0 s.win) (openWindow (tnext 0 s.win) w s)) := by
  change execDcdExtentAdd m s = _
  rw [execDcdExtentAdd, onCmd_of_runsCmd h]
  simp [-Nat.reducePow, hport, hld, ho, hw, hc, Nat.not_le.mpr hl, hr, Nat.not_lt.mpr hb, Nat.not_lt.mpr he, hd, ht, hp, Nat.not_le.mpr hn]

end

/-! ### Closing, gaps and descriptors (R49, R59, R75, R310, R463) -/

section
variable {s : State} {m id : Nat} {w : Window} (hid : reqNat s m 0 4 % 2 ^ 22 = id) (hw : tfind id s.win = some w)
include hid hw

section
variable (h : s.runsCmd m 0x0402) (hr : w.rdma = false) (he : w.extent = false)
include h hr he

theorem exec_cxlWindowClose_closed (h3 : w.state = 3) : exec (.cxlWindowClose m) s = .next (complete m [] s) := by
  change execCxlWindowClose m s = _
  rw [execCxlWindowClose, onCmd_of_runsCmd h]
  simp [-Nat.reducePow, hid, hw, hr, he, h3]

theorem exec_cxlWindowClose_open (h3 : w.state ≠ 3) : exec (.cxlWindowClose m) s = .next (startClose id (some m) s) := by
  change execCxlWindowClose m s = _
  rw [execCxlWindowClose, onCmd_of_runsCmd h]
  simp [-Nat.reducePow, hid, hw, hr, he, h3]

end

section
variable (h : s.runsCmd m 0x0404) (hr : w.rdma = false) (he : w.extent = true) (ho : w.offered = false) (h1 : w.state = 1)
include h hr he ho h1

theorem exec_dcdExtentRelease_force (hf : bitOf 31 (reqNat s m 0 4) = true) : exec (.dcdExtentRelease m) s = .next (forceRelease id w (some m) s) := by
  change execDcdExtentRelease m s = _
  rw [execDcdExtentRelease, onCmd_of_runsCmd h]
  simp [-Nat.reducePow, hid, hw, hr, he, ho, h1, hf]

theorem exec_dcdExtentRelease_asks (hf : bitOf 31 (reqNat s m 0 4) = false) (ha : w.asked = false) : exec (.dcdExtentRelease m) s =
    .next (noteLd (ldNum (w.binding % 8) (w.binding / 8)) 0x0002 id
      (modWindow id (fun (w : Window) => { w with asked := true, since := if w.asked then w.since else s.epoch, waiters := w.waiters ++ [m] }) s)) := by
  change execDcdExtentRelease m s = _
  rw [execDcdExtentRelease, onCmd_of_runsCmd h]
  simp [-Nat.reducePow, hid, hw, hr, he, ho, h1, hf, ha]

end

/-- Acknowledging a gap answers the flags and the count, clears them, and frees a CLOSED window. -/
theorem gapAck_eq {rdma : Bool} (hr : w.rdma = rdma) (ho : w.offered = false) : gapAck m rdma s =
    let t := modWindow id (fun (w : Window) => { w with gapU := false, gapL := false, unmir := 0 }) s
    complete m (leBytes 1 (b2n w.gapU + 2 * b2n w.gapL) ++ leBytes 3 0 ++ leBytes 4 w.unmir ++ leBytes 8 0) (if w.state = 3 then freeWindow id t else t) := by
  simp [-Nat.reducePow, gapAck, hid, hw, hr, ho]

theorem exec_windowStatus (h : s.runsCmd m 0x0481) (ho : w.offered = false) : exec (.windowStatus m) s = .next (complete m (descriptor id w) s) := by
  change execWindowStatus m s = _
  rw [execWindowStatus, onCmd_of_runsCmd h]
  simp [-Nat.reducePow, hid, hw, ho]

end

/-! ### Capacity and links (R304, R308, R321, R614) -/

section
variable {s : State} {m port ld : Nat} (hport : reqNat s m 0 1 % 8 = port) (hld : reqNat s m 1 1 % 16 = ld)
  (hl : ld < s.get (Reg.HPT_PORT_CFG_LD_COUNT port))
include hport hld hl

/-- A region on 256 MiB bounds within its own 2^48 bytes, with no extent in it, is set. -/
theorem exec_dcRegionSet (h : s.runsCmd m 0x0406) {r base len : Nat} (hr : reqNat s m 6 1 % 8 = r) (hbase : reqNat s m 8 8 = base)
    (hlen : reqNat s m 24 8 = len) (hb : base % 2 ^ 28 = 0) (hn : len % 2 ^ 28 = 0) (hlo : 2 ^ 48 * (r + 1) ≤ base) (hhi : base + len ≤ 2 ^ 48 * (r + 2))
    (hx : (ldWindows port ld s).any (fun e => e.2.extent && e.2.region == r) = false) : exec (.dcRegionSet m) s =
    .next (complete m [] (setRegion port ld r base len (bitOf 0 (reqNat s m 2 1)) (bitOf 1 (reqNat s m 2 1)) s)) := by
  change execDcRegionSet m s = _
  rw [execDcRegionSet, onCmd_of_runsCmd h]
  simp [-Nat.reducePow, hport, hld, hr, hbase, hlen, Nat.not_le.mpr hl, hb, hn, Nat.not_lt.mpr hlo, Nat.not_lt.mpr hhi, hx]

section
variable (h : s.runsCmd m 0x0407) {gib : Nat} (hgib : reqNat s m 4 2 = gib)
include h hgib

theorem exec_staticCapacitySet_set (hx : (ldWindows port ld s).any (fun e => !e.2.extent && decide (e.2.dpa + e.2.len > gib * 2 ^ 30)) = false) :
    exec (.staticCapacitySet m) s = .next (complete m [] (s.put (Reg.HPT_LD_STATE_STATIC_GIB port ld) gib)) := by
  subst hport hld hgib
  change execStaticCapacitySet m s = _
  rw [execStaticCapacitySet, onCmd_of_runsCmd h]
  exact congrArg _ ((if_neg (Nat.not_le.mpr hl)).trans (if_neg (ne_true_of_eq_false hx)))

theorem exec_staticCapacitySet_refused (hx : (ldWindows port ld s).any (fun e => !e.2.extent && decide (e.2.dpa + e.2.len > gib * 2 ^ 30)) = true) :
    exec (.staticCapacitySet m) s = .next (refuse m .notPermitted noDetail s) := by
  subst hport hld hgib
  change execStaticCapacitySet m s = _
  rw [execStaticCapacitySet, onCmd_of_runsCmd h]
  exact congrArg _ ((if_neg (Nat.not_le.mpr hl)).trans (if_pos hx))

end

end

section
variable {s : State} {m p : Nat} (h : s.runsCmd m 0x0408) (hp : reqNat s m 0 1 % 8 = p)
include h hp

theorem exec_hostLinkUnfence_idle (hf : s.get (Reg.HPT_LINK_STATE_FENCED p) = 0) : exec (.hostLinkUnfence m) s = .next (complete m [] s) := by
  subst hp
  change execHostLinkUnfence m s = _
  rw [execHostLinkUnfence, onCmd_of_runsCmd h]
  exact congrArg _ (if_pos hf)

/-- A fenced link may train again, its violations forgotten. -/
theorem exec_hostLinkUnfence_fenced (hf : s.get (Reg.HPT_LINK_STATE_FENCED p) ≠ 0) : exec (.hostLinkUnfence m) s =
    .next (complete m [] (unitServing p ((s.onHpt fun x => { x with viol := x.viol.filter (fun e => e.1 != p) }).put (Reg.HPT_LINK_STATE_FENCED p) 0))) := by
  subst hp
  change execHostLinkUnfence m s = _
  rw [execHostLinkUnfence, onCmd_of_runsCmd h]
  exact congrArg _ (if_neg hf)

end

/-- Settles O51, a command at a time. -/
theorem windowAndCapacityCommandsComplete : Obligations.WindowAndCapacityCommandsComplete := by
  unfold Obligations.WindowAndCapacityCommandsComplete
  intro s m
  refine ⟨?windowOpen, ?extentAdd, fun w hw => ⟨?windowClose, ?extentRelease, ?gapAck, ?windowStatus⟩, ?windowList, ?regionSet, ?capacitySet, ?unfence⟩
  case windowOpen =>
    intro h ho port ld w
    exact ⟨fun st d hc => exec_cxlWindowOpen_refused ho h rfl hc,
      fun hc hl hd hg ht hn => exec_cxlWindowOpen_opened rfl rfl ho h rfl hc hl hd hg ht hn⟩
  case extentAdd =>
    intro r h ho port ld w hc hl hr hb he hd ht hp hn
    exact exec_dcdExtentAdd_offered rfl rfl ho h rfl hc hl hr hb he hd ht hp hn
  case windowClose => exact fun h hr he => ⟨exec_cxlWindowClose_closed rfl hw h hr he, exec_cxlWindowClose_open rfl hw h hr he⟩
  case extentRelease => exact fun h hr he ho h1 => ⟨exec_dcdExtentRelease_force rfl hw h hr he ho h1, exec_dcdExtentRelease_asks rfl hw h hr he ho h1⟩
  case gapAck => exact fun h hr ho => (onCmd_of_runsCmd h (gapAck m false)).trans (congrArg _ (gapAck_eq rfl hw hr ho))
  case windowStatus => exact fun h ho => ⟨exec_windowStatus rfl hw h ho, descriptor_length _ _⟩
  case windowList => exact fun h => show execWindowList m s = _ from onCmd_of_runsCmd h _
  case regionSet =>
    intro h port ld r base len hl hb hn hlo hhi hx
    exact exec_dcRegionSet rfl rfl hl h rfl rfl rfl hb hn hlo hhi hx
  case capacitySet =>
    intro h port ld gib hl
    exact ⟨exec_staticCapacitySet_set rfl rfl hl h rfl, exec_staticCapacitySet_refused rfl rfl hl h rfl⟩
  case unfence => exact fun h => ⟨exec_hostLinkUnfence_idle h rfl, exec_hostLinkUnfence_fenced h rfl⟩

end Sys2Proof.Machine
end

section
/-!
SUPPORT. The commands of mailbox group 0x05 (O52).
-/

namespace Sys2Proof.Machine

open Sys2Proof

/-! ### Protection domains (R328) -/

section
variable {s : State} {m : Nat} (h : s.runsCmd m 0x0501) (hm : makesRdma s = true) (hl : s.rdm.pds.length < 65536)
include h hm hl

/-- The lowest free domain (log entry 18), without a report window. -/
theorem exec_pdCreate_plain (hb : bitOf 31 (reqNat s m 0 4) = false) : exec (.pdCreate m) s =
    .next (complete m (leBytes 4 (tnext 0 s.rdm.pds) ++ leBytes 4 0) (s.onRdm fun x => { x with pds := tins (tnext 0 s.rdm.pds) none x.pds })) := by
  change execPdCreate m s = _
  rw [execPdCreate, onCmd_of_runsCmd h]
  simp [hm, Nat.not_le.mpr hl, hb]

/-- The lowest free domain (log entry 18), with a report window: an OPEN RDMA window with write rights (log entry 33). -/
theorem exec_pdCreate_report (hb : bitOf 31 (reqNat s m 0 4) = true) {id : Nat} (hid : reqNat s m 0 4 % 2 ^ 22 = id) {w : Window}
    (hw : tfind id s.win = some w) (hr : w.rdma = true) (h1 : w.state = 1) (hx : w.rights / 2 % 2 = 1) : exec (.pdCreate m) s =
    .next (complete m (leBytes 4 (tnext 0 s.rdm.pds) ++ leBytes 4 0) (s.onRdm fun x => { x with pds := tins (tnext 0 s.rdm.pds) (some id) x.pds })) := by
  change execPdCreate m s = _
  rw [execPdCreate, onCmd_of_runsCmd h]
  simp [-Nat.reducePow, hm, Nat.not_le.mpr hl, hb, hid, hw, hr, h1, hx]

end

section
variable {s : State} {m n : Nat} (h : s.runsCmd m 0x0502) (hn : reqNat s m 0 4 = n) (hd : tfind n s.rdm.pds ≠ none)
include h hn hd

theorem exec_pdDestroy_unused (hq : s.rdm.qps.any (fun e => e.2.pd == n) = false) (hw : s.win.any (fun e => e.2.rdma && e.2.binding == n) = false) :
    exec (.pdDestroy m) s = .next (complete m [] (s.onRdm fun x => { x with pds := tdel n x.pds })) := by
  subst hn
  change execPdDestroy m s = _
  rw [execPdDestroy, onCmd_of_runsCmd h]
  exact congrArg _ ((if_neg (by simpa using hd)).trans (if_neg (by rw [hq, hw]; decide)))

theorem exec_pdDestroy_used (hq : s.rdm.qps.any (fun e => e.2.pd == n) = true) : exec (.pdDestroy m) s = .next (refuse m .notPermitted noDetail s) := by
  subst hn
  change execPdDestroy m s = _
  rw [execPdDestroy, onCmd_of_runsCmd h]
  exact congrArg _ ((if_neg (by simpa using hd)).trans (if_pos (by rw [hq, Bool.true_or])))

end

/-! ### Queue pairs (R334, R335, R337, R362, R465) -/

section
variable {s : State} {m : Nat} (h : s.runsCmd m 0x0503)
include h

theorem exec_qpCreate_refused {st : St} {d : Nat} (hc : qpCheck m s = some (st, d)) : exec (.qpCreate m) s = .next (refuse m st d s) := by
  change execQpCreate m s = _
  simp only [execQpCreate, onCmd_of_runsCmd h, hc]

/-- The lowest free QP (log entry 18), in RTR and with its context cached where there is room. -/
theorem exec_qpCreate_made (hc : qpCheck m s = none) : exec (.qpCreate m) s =
    let n := tnext 0 s.rdm.qps
    let t := s.onRdm fun y => { y with qps := tins n (newQp m s) y.qps }
    .next (complete m (leBytes 4 n ++ leBytes 4 0) (rdmSync ((cacheIn n t).getD t))) := by
  change execQpCreate m s = _
  simp only [execQpCreate, onCmd_of_runsCmd h, hc]

end

section
variable {s : State} {m n : Nat} {x : Qp} (hx : tfind n s.rdm.qps = some x)
include hx

/-- A QP in DRAINING or ERROR only takes the command's note. -/
theorem errorQp_ended (h1 : x.state ≠ 1) (destroy : Bool) : errorQp n m destroy s =
    settle (rdmSync (modQp n (fun (x : Qp) => { x with destroyer := x.destroyer ++ [m], destroyed := x.destroyed || destroy }) s)) := by
  simp only [errorQp, hx, if_neg h1]

/-- A QP in RTR goes to DRAINING: what has not started is dropped as FLUSHED. -/
theorem errorQp_rtr (h1 : x.state = 1) (destroy : Bool) : errorQp n m destroy s =
    let flushed := s.add (Reg.RDM_NAK_STAT_COUNT 11) ((x.msgs.filter RMsg.idles).foldl (fun a y => a + if y.kind = 3 then 1 else y.psns x.mtu) 0)
    let draining := modQp n (fun (x : Qp) => { x with state := 2 }) (dropMsgs n RMsg.idles flushed)
    settle (rdmSync (modQp n (fun (x : Qp) => { x with destroyer := x.destroyer ++ [m], destroyed := x.destroyed || destroy }) draining)) := by
  simp only [errorQp, hx, if_pos h1]

theorem exec_qpModify (h : s.runsCmd m 0x0504) (hn : reqNat s m 0 4 % 2 ^ 20 = n) : exec (.qpModify m) s =
    .next (complete m [] (modQp n (fun (x : Qp) => { x with port := reqNat s m 4 1 % 4, peerMac := reqNat s m 8 6 }) s)) := by
  change execQpModify m s = _
  rw [execQpModify, onCmd_of_runsCmd h]
  simp [-Nat.reducePow, hn, hx]

theorem exec_qpStatus (h : s.runsCmd m 0x0583) (hn : reqNat s m 0 4 % 2 ^ 20 = n) : exec (.qpStatus m) s = .next (complete m (qpDescriptor n x s) s) := by
  change execQpStatus m s = _
  rw [execQpStatus, onCmd_of_runsCmd h]
  simp [-Nat.reducePow, hn, hx]

end

theorem exec_qpError {s : State} {m : Nat} (h : s.runsCmd m 0x0505) : exec (.qpError m) s = .next (errorQp (reqNat s m 0 4 % 2 ^ 20) m false s) :=
  onCmd_of_runsCmd h fun s => errorQp (reqNat s m 0 4 % 2 ^ 20) m false s

theorem exec_qpDestroy {s : State} {m : Nat} (h : s.runsCmd m 0x0506) : exec (.qpDestroy m) s = .next (errorQp (reqNat s m 0 4 % 2 ^ 20) m true s) :=
  onCmd_of_runsCmd h fun s => errorQp (reqNat s m 0 4 % 2 ^ 20) m true s

/-! ### Counters and ports (R346, R363) -/

section
variable {s : State} {m c : Nat} (hc : reqNat s m 0 4 = c) (hl : c < 65536)
include hc hl

theorem exec_counterSet (h : s.runsCmd m 0x0508) : exec (.counterSet m) s =
    .next (settle (complete m [] (s.onRdm fun x => { x with counters := tset 0 c (reqNat s m 8 8) x.counters }))) := by
  subst hc
  change execCounterSet m s = _
  rw [execCounterSet, onCmd_of_runsCmd h]
  exact congrArg _ (if_neg (Nat.not_le.mpr hl))

theorem exec_counterRead (h : s.runsCmd m 0x0584) : exec (.counterRead m) s = .next (complete m (leBytes 8 (tget 0 c s.rdm.counters)) s) := by
  subst hc
  change execCounterRead m s = _
  rw [execCounterRead, onCmd_of_runsCmd h]
  exact congrArg _ (if_neg (Nat.not_le.mpr hl))

end

section
variable {s : State} {m p : Nat} (h : s.runsCmd m 0x0509) (hp : reqNat s m 0 1 % 4 = p)
include h hp

theorem exec_rdmaPortUnfence_idle (hf : s.get (Reg.ETH_PORT_STATE_FENCED p) = 0) : exec (.rdmaPortUnfence m) s = .next (complete m [] s) := by
  subst hp
  change execRdmaPortUnfence m s = _
  rw [execRdmaPortUnfence, onCmd_of_runsCmd h]
  exact congrArg _ (if_pos hf)

/-- A fenced link may come up again, its violations forgotten. -/
theorem exec_rdmaPortUnfence_fenced (hf : s.get (Reg.ETH_PORT_STATE_FENCED p) ≠ 0) : exec (.rdmaPortUnfence m) s =
    .next (complete m [] (unitServing (8 + p) ((s.onRdm fun x => { x with viol := x.viol.filter (fun e => e.1 != p) }).put (Reg.ETH_PORT_STATE_FENCED p) 0))) := by
  subst hp
  change execRdmaPortUnfence m s = _
  rw [execRdmaPortUnfence, onCmd_of_runsCmd h]
  exact congrArg _ (if_neg hf)

end

/-! ### Windows (R329, R349, R464) -/

/-- The lowest free window (log entry 18) of a protection domain that exists, with its remote key. -/
theorem exec_rdmaWindowOpen {s : State} {m : Nat} (h : s.runsCmd m 0x0581) (ho : opensWindows s = true) {w : Window} (hw : rdmaWindow m s = w)
    (hc : windowCheck 64 w.cls w.base w.len 8 16 2 s = none) (hd : tfind w.binding s.rdm.pds ≠ none) : exec (.rdmaWindowOpen m) s =
    let id := tnext 0 s.win
    let t := openWindow id w (s.onRdm fun x => { x with rings := tdel id x.rings })
    .next (complete m (leBytes 4 id ++ leBytes 4 (id * 1024 + tget 0 id t.rdm.variants) ++ leBytes 8 0) t) := by
  change execRdmaWindowOpen m s = _
  rw [execRdmaWindowOpen, onCmd_of_runsCmd h]
  simp [ho, hw, hc, hd]

section
variable {s : State} {m id : Nat} (h : s.runsCmd m 0x0582) (hid : reqNat s m 0 4 / 1024 = id) {w : Window} (hw : tfind id s.win = some w)
  (hr : w.rdma = true) (hv : tget 0 id s.rdm.variants = reqNat s m 0 4 % 1024)
include h hid hw hr hv

theorem exec_rdmaWindowClose_closed (h3 : w.state = 3) : exec (.rdmaWindowClose m) s = .next (complete m [] s) := by
  change execRdmaWindowClose m s = _
  rw [execRdmaWindowClose, onCmd_of_runsCmd h]
  simp [hid, hw, hr, hv, h3]

theorem exec_rdmaWindowClose_open (h3 : w.state ≠ 3) : exec (.rdmaWindowClose m) s = .next (startClose id (some m) s) := by
  change execRdmaWindowClose m s = _
  rw [execRdmaWindowClose, onCmd_of_runsCmd h]
  simp [hid, hw, hr, hv, h3]

end

/-- Settles O52, a command at a time. -/
theorem rdmaCommandsComplete : Obligations.RdmaCommandsComplete := by
  unfold Obligations.RdmaCommandsComplete
  intro s m
  refine ⟨?pdPlain, ?pdReport, ?pdDestroy, ?qpCreate, fun x hx => ⟨?qpModify, ?qpEnded, ?qpRtr, ?qpStatus⟩, ?gapAck, ?counters, ?unfence, ?windowOpen, ?windowClose⟩
  case pdPlain => exact fun h hm hb hl => exec_pdCreate_plain h hm hl hb
  case pdReport => exact fun w h hm hb hl hw hr h1 hx => exec_pdCreate_report h hm hl hb rfl hw hr h1 hx
  case pdDestroy => exact fun h hd => ⟨exec_pdDestroy_unused h rfl hd, exec_pdDestroy_used h rfl hd⟩
  case qpCreate => exact fun h => ⟨fun st d hc => exec_qpCreate_refused h hc, exec_qpCreate_made h⟩
  case qpModify => exact fun h => exec_qpModify hx h rfl
  case qpEnded =>
    exact fun h1 => ⟨fun h => (exec_qpError h).trans (congrArg _ (errorQp_ended hx h1 false)), fun h => (exec_qpDestroy h).trans (congrArg _ (errorQp_ended hx h1 true))⟩
  case qpRtr =>
    exact fun h1 => ⟨fun h => (exec_qpError h).trans (congrArg _ (errorQp_rtr hx h1 false)), fun h => (exec_qpDestroy h).trans (congrArg _ (errorQp_rtr hx h1 true))⟩
  case qpStatus => exact fun h => exec_qpStatus hx h rfl
  case gapAck => exact fun w hw hr ho h => (onCmd_of_runsCmd h (gapAck m true)).trans (congrArg _ (gapAck_eq rfl hw hr ho))
  case counters => exact fun hl => ⟨exec_counterSet rfl hl, exec_counterRead rfl hl⟩
  case unfence => exact fun h => ⟨exec_rdmaPortUnfence_idle h rfl, exec_rdmaPortUnfence_fenced h rfl⟩
  case windowOpen => exact fun h ho hc hd => exec_rdmaWindowOpen h ho rfl hc hd
  case windowClose => exact fun w h hw hr hv => ⟨exec_rdmaWindowClose_closed h rfl hw hr hv, exec_rdmaWindowClose_open h rfl hw hr hv⟩

end Sys2Proof.Machine
end

section
/-!
SUPPORT. Messages, decoders, links and flushes on the CXL host ports (O53).
-/

namespace Sys2Proof.Machine

open Sys2Proof

/-! ### Messages (R302, R312, R318, R321) -/

section
variable {s : State} {m : HMsg} (hp : portCarries m.port s = true)
include hp

section
variable (hl : m.ld < s.get (Reg.HPT_PORT_CFG_LD_COUNT m.port)) (ht : tagBusy m.port m.tag s = false)
include hl ht

/-- A read with a Req credit joins the Req queue. -/
theorem arriveMsg_read (hk : m.kind = 0) (hc : (s.hpt.req.filter (fun x => x.port == m.port)).length < s.get (Reg.HPT_CRD_CFG_REQ m.port)) :
    arriveMsg m s = settle (queueLens (s.onHpt fun x => { x with req := x.req ++ [m] })) := by
  simp [arriveMsg, hp, hk, Nat.not_le.mpr hl, ht, Nat.not_le.mpr hc]

/-- A write that enables a byte, with an RwD credit, joins the RwD queue. -/
theorem arriveMsg_write (hk : m.kind = 1 ∨ (m.kind = 2 ∧ m.mask % 2 ^ 64 ≠ 0))
    (hc : (s.hpt.rwd.filter (fun x => x.port == m.port)).length < s.get (Reg.HPT_CRD_CFG_RWD m.port)) :
    arriveMsg m s = settle (queueLens (s.onHpt fun x => { x with rwd := x.rwd ++ [m] })) := by
  have h0 : m.kind ≠ 0 := by omega
  have hm : ¬ (m.kind = 2 ∧ m.mask % 2 ^ 64 = 0) := by omega
  simp only [arriveMsg, hp, if_neg h0, if_neg hm]
  rw [if_neg (by decide), if_neg (by simp [hl, ht]), if_neg (Nat.not_le.mpr hc)]

end

/-- A message to a missing logical device or with a tag in use is a violation; a read is answered all the same, with poison. -/
theorem arriveMsg_violation (hv : s.get (Reg.HPT_PORT_CFG_LD_COUNT m.port) ≤ m.ld ∨ tagBusy m.port m.tag s = true) : arriveMsg m s =
    if m.kind = 0 then respond m.port m.ld m.tag "MemData poison" [] (hostViolation m.port s) else hostViolation m.port s := by
  simp only [arriveMsg, hp]
  rw [if_neg (by decide), if_pos hv]

end

section
variable {s : State} {p : Nat} (hp : portCarries p s = true)
include hp

section
variable {ld : Nat} (hl : ld < s.get (Reg.HPT_PORT_CFG_LD_COUNT p))
include hl

section
variable {hpa : Nat}

theorem exec_memSpecRd_refused {k : Nat} (hr : portRefusal (specMsg p ld hpa s) s = .inl k) : exec (.memSpecRd p ld hpa) s = .next (specRefused p ld k s) := by
  change execMemSpecRd p ld hpa s = _
  simp [execMemSpecRd, hp, Nat.not_le.mpr hl, hr]

/-- A speculative read that finds a ticket starts as a read whose answer goes nowhere. -/
theorem exec_memSpecRd_served {id : Nat} {w : Window} (hr : portRefusal (specMsg p ld hpa s) s = .inr (id, w)) (hd : s.departing = false) {t : Nat} {u : State}
    (ht : takeTicket p s = some (t, u)) : exec (.memSpecRd p ld hpa) s = .next (settle (startRead (specMsg p ld hpa s) (.spec p) t id w u)) := by
  change execMemSpecRd p ld hpa s = _
  simp [execMemSpecRd, hp, Nat.not_le.mpr hl, hr, hd, ht]

end

theorem exec_memInv (tag : Nat) : exec (.memInv p ld tag) s = .next (respond p ld tag "Cmp" [] s) := by
  change execMemInv p ld tag s = _
  rw [execMemInv, if_pos hp, if_neg (Nat.not_le.mpr hl)]

theorem exec_cdatRead : exec (.cdatRead p ld) s =
    .next (respond p ld 0 "CDAT" (cdatBytes p ld s) (s.onHpt fun x => { x with changed := x.changed.filter (· != ldNum p ld) })) := by
  change execCdatRead p ld s = _
  rw [execCdatRead, onLd, if_pos (by simp [hp, hl])]

/-! ### Decoders (R303) -/

/-- A decoder of the logical device is committed where R303 allows it, at the address log entry 31 gives, and refused otherwise. -/
theorem exec_hdmDecoderCommit {i : Nat} (hi : i < 4) (base size ways gran skip : Nat) : exec (.hdmDecoderCommit p ld i base size ways gran skip) s =
    let dpa := decoderDpa (ldNum p ld) i skip s
    .next (if decoderGood (ldNum p ld) i base size ways gran dpa s then setDecoder p ld i { base := base, size := size, ways := ways, gran := gran, dpa := dpa } s
      else refuseDecoder p ld i s) := by
  change execHdmDecoderCommit p ld i base size ways gran skip s = _
  rw [execHdmDecoderCommit, if_pos (by simp [hp, hl, hi])]

end

/-! ### Violations, flushes and a lost link (R62, R63, R315, R320, R321) -/

/-- A violation that the link logic finds is counted, and answered as what it was. -/
theorem exec_cxlViolation (ld tag : Nat) (read ur : Bool) : exec (.cxlViolation p ld tag read ur) s =
    .next (if read then respond p ld tag "MemData poison" [] (hostViolation p s)
      else if ur then respond p ld tag "Unsupported Request" [] (hostViolation p s) else hostViolation p s) := by
  change execCxlViolation p ld tag read ur s = _
  rw [execCxlViolation, if_pos hp]

theorem exec_cxlViolationLimit (hv : 16 ≤ hostViolsOf p s) : exec (.cxlViolationLimit p) s =
    .next (settle (linkLost p (notePort p 0x0606 0 (raise 0x0606 p 0 (unitFault p (s.put (Reg.HPT_LINK_STATE_FENCED p) 1)))))) := by
  change execCxlViolationLimit p s = _
  rw [execCxlViolationLimit, if_pos (by simp [hp, hv])]

theorem exec_gpfPhase1 : exec (.gpfPhase1 p) s =
    .next (respond p 0 0 "GPF phase 1 response" [] (s.onHpt fun x => { x with gpf1 := p :: x.gpf1.filter (· != p) })) := by
  change execGpfPhase1 p s = _
  rw [execGpfPhase1, if_pos hp]

theorem exec_gpfPhase2 : exec (.gpfPhase2 p) s =
    .next (settle (gpfSync ((gpfAwait p (gpfTickets p (gpfTaken p s)) (gpfTaken p s)).put (Reg.HPT_PORT_STATE_GPF_P2 p) 1))) := by
  change execGpfPhase2 p s = _
  rw [execGpfPhase2, if_pos hp]

theorem exec_hostLinkDown : exec (.hostLinkDown p) s = .next (settle (linkLost p s)) := by
  change execHostLinkDown p s = _
  rw [execHostLinkDown, if_pos hp]

end

section
variable {s : State} (hup : s.up = true)
include hup

/-! ### Home addresses (R305) -/

section
variable {p ld dpa : Nat}

theorem exec_hdmDecode_window {id : Nat} {w : Window} (hw : windowAt p ld dpa s = some (id, w)) (ho : w.offered = false) : exec (.hdmDecode p ld dpa) s =
    .next (if w.state = 1 then s.send (.prim "HDM_DECODE" 0 (w.base + (dpa - w.dpa))) else s.send (.prim "HDM_DECODE" St.revoked.code 0)) := by
  change execHdmDecode p ld dpa s = _
  simp [execHdmDecode, onUp_next hup, hw, ho]

theorem exec_hdmDecode_none (hw : windowAt p ld dpa s = none) : exec (.hdmDecode p ld dpa) s = .next (s.send (.prim "HDM_DECODE" St.bounds.code 0)) := by
  change execHdmDecode p ld dpa s = _
  simp only [execHdmDecode, onUp_next hup, hw]

end

/-! ### Training (R296, R299, R322) -/

section
variable {p rate width ltssm : Nat} (hp : p < 8) (hm : s.mode ≠ .spill) (hd : s.get (Reg.HPT_LINK_STATE_RATE p) = 0)
  (hf : s.get (Reg.HPT_LINK_STATE_FENCED p) ≠ 1) (hr : s.get (Reg.HPT_LINK_STATE_PERST p) ≠ 1) (hu : s.get (Reg.FRM_UNIT_STATE_STATE p) ≠ 3)
include hp hm hd hf hr hu

/-- A port that nothing holds down trains at the lower of what it finds and what it is configured for. -/
theorem exec_hostLinkUp : exec (.hostLinkUp p rate width ltssm) s =
    let r := Nat.min (rate % 4) (s.get (Reg.HPT_PORT_CFG_MAX_RATE p))
    let w := Nat.min width (s.get (Reg.HPT_PORT_CFG_MAX_WIDTH p))
    let t := s.put (Reg.HPT_LINK_STATE_LTSSM p) ltssm
    .next (if r = 0 then notePort p 0x0601 0 (raise 0x0601 p 0 t)
      else if r < s.get (Reg.HPT_PORT_CFG_MAX_RATE p) ∨ w < s.get (Reg.HPT_PORT_CFG_MAX_WIDTH p) then
        notePort p 0x0601 (r + 4 * w) (raise 0x0601 p (r + 4 * w) (linkTrained p r w t))
      else linkTrained p r w t) := by
  change execHostLinkUp p rate width ltssm s = _
  rw [execHostLinkUp, onUp_next hup, if_neg (by simp [hp, hm, hd, hf, hr, hu])]

end

/-! ### PERST (R320, R606) -/

section
variable {p : Nat} (hp : p < 8) (hl : s.live = true)
include hp hl

theorem exec_hpnPerstAssert (hm : s.mode ≠ .spill) (hr : s.get (Reg.HPT_LINK_STATE_PERST p) ≠ 1) (hb : bitOf p (s.get Reg.GLB_DISCRETES_PERST_N) = true) :
    exec (.hpnPerstAssert p) s =
      .next (settle (linkLost p ((s.put Reg.GLB_DISCRETES_PERST_N (s.get Reg.GLB_DISCRETES_PERST_N - 2 ^ p)).put (Reg.HPT_LINK_STATE_PERST p) 1))) := by
  change execHpnPerstAssert p s = _
  simp [execHpnPerstAssert, onLive_next hl, Nat.not_le.mpr hp, hup, hm, hr, hb]

theorem exec_hpnPerstRelease (hb : bitOf p (s.get Reg.GLB_DISCRETES_PERST_N) = false) : exec (.hpnPerstRelease p) s =
    .next ((s.put Reg.GLB_DISCRETES_PERST_N (s.get Reg.GLB_DISCRETES_PERST_N + 2 ^ p)).put (Reg.HPT_LINK_STATE_PERST p) 0) := by
  change execHpnPerstRelease p s = _
  simp [execHpnPerstRelease, onLive_next hl, Nat.not_le.mpr hp, hup, hb]

end

end

/-- Settles O53, a message or an event at a time; MEM_RD, MEM_WR and MEM_WR_PTL are arrivals by definition. -/
theorem hostMessagesComplete : Obligations.HostMessagesComplete := by
  unfold Obligations.HostMessagesComplete
  intro s
  refine ⟨?arrive, fun _ _ _ _ => rfl, fun _ _ _ _ _ _ => rfl, fun _ _ _ _ _ _ _ => rfl, ?onPort, ?cdat, ?whileUp⟩
  case arrive =>
    exact fun m hp => ⟨fun hl ht => ⟨arriveMsg_read hp hl ht, arriveMsg_write hp hl ht⟩, arriveMsg_violation hp⟩
  case onPort =>
    intro p ld hp
    refine ⟨fun hl => ⟨fun hpa => ⟨fun k => exec_memSpecRd_refused hp hl, fun id w t u hr hd => exec_memSpecRd_served hp hl hr hd⟩, exec_memInv hp hl, ?decoder⟩,
      fun tag => ⟨exec_cxlViolation hp ld tag true false, exec_cxlViolation hp ld tag false true, exec_cxlViolation hp ld tag false false⟩,
      exec_cxlViolationLimit hp, exec_gpfPhase1 hp, exec_gpfPhase2 hp, exec_hostLinkDown hp⟩
    case decoder =>
      intro i base size ways gran skip hi dpa
      have e := exec_hdmDecoderCommit hp hl hi base size ways gran skip
      exact ⟨fun hg => e.trans (congrArg _ (if_pos hg)), fun hg => e.trans (congrArg _ (if_neg (ne_true_of_eq_false hg)))⟩
  case cdat => exact fun p ld hp hl => exec_cdatRead hp hl
  case whileUp =>
    intro hup
    refine ⟨?decode, fun p ld dpa => exec_hdmDecode_none hup, ?linkUp, ?perst⟩
    case decode =>
      intro p ld dpa id w hw ho
      have e := exec_hdmDecode_window hup hw ho
      exact ⟨fun h1 => e.trans (congrArg _ (if_pos h1)), fun h1 => e.trans (congrArg _ (if_neg h1))⟩
    case linkUp =>
      intro p rate width ltssm hp hm hd hf hr hu r w t
      have e : exec (.hostLinkUp p rate width ltssm) s = _ := exec_hostLinkUp hup hp hm hd hf hr hu
      refine ⟨fun h0 => e.trans (congrArg _ (if_pos h0)), fun h0 hr hw => e.trans (congrArg _ ((if_neg h0).trans (if_neg ?_))),
        fun h0 hb => e.trans (congrArg _ ((if_neg h0).trans (if_pos hb)))⟩
      show ¬ (r < _ ∨ w < _)
      omega
    case perst =>
      intro p hp hl hm was
      exact ⟨exec_hpnPerstAssert hup hp hl hm, exec_hpnPerstRelease hup hp hl⟩

end Sys2Proof.Machine
end

section
/-!
SUPPORT. The primitives of the yard, the ditches and the lock pairs, the fence of a loft stack, and the commands of mailbox group 0x0E (O39).
-/

namespace Sys2Proof.Machine

open Sys2Proof

theorem ditchBytes_length (q : Nat) (s : State) : (ditchBytes q s).length = 32 := by
  simp [ditchBytes]

section
variable {s : State} (hup : s.up = true)
include hup

/-! ### Buffers (R392, R393, R395) -/

/-- The buffer that ALLOC picks belongs to the caller. -/
theorem exec_yardAlloc_picked {size group h : Nat} (h0 : 0 < size) (h1 : size ≤ 2097152) (hp : allocPick size group s = some h) (caller : Nat) :
    exec (.yardAlloc size caller group) s =
      .next ((yardSync (h / 2 ^ 28) ((s.onYrd fun x => { x with bufs := tins h (caller % 65536) x.bufs }).inc (Reg.YRD_STAT_COUNT (h / 2 ^ 28) 0))).send
        (.prim "ALLOC" 0 h)) := by
  have hm : size % 2 ^ 32 = size := Nat.mod_eq_of_lt (by omega)
  change execYardAlloc size caller group s = _
  simp only [execYardAlloc, onUp_next hup, hm, hp]
  rw [if_neg (by omega), if_neg (by omega)]

section
variable {h caller : Nat}

theorem exec_yardFree_checked (hc : handleCheck h caller none s = none) : exec (.yardFree h caller) s = .next ((freeBuf h s).send (.prim "FREE" 0 0)) := by
  change execYardFree h caller s = _
  simp only [execYardFree, onUp_next hup, hc]

theorem exec_yardHandover_checked {owner : Nat} (hc : handleCheck h caller (some owner) s = none) : exec (.yardHandover h caller owner) s =
    .next (((s.onYrd fun x => { x with bufs := tins h owner x.bufs }).inc (Reg.YRD_STAT_COUNT (h / 2 ^ 28 % 16) 5)).send (.prim "HANDOVER" 0 0)) := by
  change execYardHandover h caller owner s = _
  simp only [execYardHandover, onUp_next hup, hc]

end

/-! ### Cells, packets and queues (R399, R400, R402, R403, R404) -/

section
variable {q : Nat} {x : DQueue} (hq : s.queue q = some x)
include hq

/-- A good cell: it opens a packet exactly if its caller has none open there, it is of a legal length, and the packet, the queue and the store have room. -/
theorem exec_ditchEnq_appended (h1 : x.state = 1) {caller : Nat} {data : List Nat} {sop : Bool} (ho : sop = (x.opens.find? (fun e => e.1 == caller)).isNone)
    (hd : 1 ≤ data.length) (hd' : data.length ≤ 256) (hs : openPackets s < 16384)
    (hl : ∀ e, x.opens.find? (fun e => e.1 == caller) = some e → e.2.length < 4096) (hm : x.cells < x.maxCells) {c : Nat} (hc : cellPick s = some c)
    (eop : Bool) : exec (.ditchEnq q caller data sop eop) s =
      .next ((cellEvents (appendCell q caller x c (data.map (BitVec.ofNat 8)) sop eop s)).send (.prim "ENQ" 0 0)) := by
  have hstart : (sop == (x.opens.find? (fun e => e.1 == caller)).isSome) = false := by
    subst ho
    cases x.opens.find? (fun e => e.1 == caller) <;> rfl
  have hroom : (x.opens.find? (fun e => e.1 == caller)).any (fun e => decide (e.2.length ≥ 4096)) = false := by
    cases he : x.opens.find? (fun e => e.1 == caller) with
    | none => rfl
    | some e => exact decide_eq_false (Nat.not_le.mpr (hl e he))
  have hopen : (sop && decide (openPackets s ≥ 16384)) = false := by
    rw [decide_eq_false (Nat.not_le.mpr hs), Bool.and_false]
  have hlen : ¬ (data.length = 0 ∨ data.length > 256) := by omega
  change execDitchEnq q caller data sop eop s = _
  simp only [execDitchEnq, onUp_next hup, hq, hstart, hroom, hopen, hc]
  rw [if_neg (not_not_intro h1), if_neg Bool.false_ne_true, if_neg hlen, if_neg Bool.false_ne_true, if_neg Bool.false_ne_true, if_neg (Nat.not_le.mpr hm)]
  rfl

theorem exec_ditchDeq_delivers (h1 : x.state = 1) {c : DCell} {cs : List DCell} {rest : List (List DCell)} (hp : x.packets = (c :: cs) :: rest) (bad : Nat) :
    exec (.ditchDeq q x.consumer bad) s = .next (deliverCell q x c cs rest bad s) := by
  change execDitchDeq q x.consumer bad s = _
  simp only [execDitchDeq, onUp_next hup, hq, hp]
  rw [if_neg (not_not_intro h1), if_neg (not_not_intro rfl)]

theorem exec_dropRemainder_open {caller : Nat} (ho : x.opens.any (fun e => e.1 == caller) = true) :
    exec (.dropRemainder q caller) s = .next ((dropOpen q caller s).2.send (.prim "DROP_REMAINDER" 0 (dropOpen q caller s).1)) := by
  change execDropRemainder q caller s = _
  simp only [execDropRemainder, onUp_next hup, hq]
  rw [if_pos ho]

theorem exec_qclose_consumer (hf : queueFixed q = false) :
    exec (.qclose q x.consumer) s = .next ((closeNow q x s).send (.prim "QCLOSE" 0 x.packets.flatten.length)) := by
  change execQclose q x.consumer s = _
  simp only [execQclose, onUp_next hup, hq]
  rw [if_neg (fun h => h.1 rfl), if_neg (by rw [hf]; decide)]

end

/-- The lowest CLOSED queue (log entry 18) opens empty. -/
theorem exec_qopen_lowest {maxCells : Nat} (h0 : 1 ≤ maxCells) (h1 : maxCells ≤ 4194304) (hq : tnext 0x8000 s.yrd.queues ≤ 0xFFFF) (consumer notice : Nat) :
    exec (.qopen consumer notice maxCells) s = .next ((ditchSync (putQueue (tnext 0x8000 s.yrd.queues)
      { state := 1, consumer := consumer % 65536, notice := notice % 2 ^ 32, maxCells := maxCells, packets := [], part := false, opens := [] } s)).send
        (.prim "QOPEN" 0 (tnext 0x8000 s.yrd.queues))) := by
  change execQopen consumer notice maxCells s = _
  rw [execQopen, onUp_next hup, if_neg (by omega)]
  exact congrArg _ (if_neg (Nat.not_lt.mpr hq))

/-! ### Lock pairs and the fence (R81, R407, R408, R409) -/

section
variable {n : Nat}

theorem exec_lockPairFillDone_bank0 (hn : n < 38) (hb : s.get (Reg.DQM_LP_STATE_BANK0 n) = 1) (more : Bool) :
    exec (.lockPairFillDone n more) s = .next (lockPairStep n more (s.put (Reg.DQM_LP_STATE_BANK0 n) 2)) := by
  change execLockPairFillDone n more s = _
  simp only [execLockPairFillDone, onUp_next hup, Nat.mod_eq_of_lt hn]
  rw [if_pos hb]

theorem exec_lockPairDrainDone_bank0 (hn : n < 38) (hb : s.get (Reg.DQM_LP_STATE_BANK0 n) = 3) (more : Bool) :
    exec (.lockPairDrainDone n more) s = .next (lockPairStep n more (s.put (Reg.DQM_LP_STATE_BANK0 n) 0)) := by
  change execLockPairDrainDone n more s = _
  simp only [execLockPairDrainDone, onUp_next hup, Nat.mod_eq_of_lt hn]
  rw [if_pos hb]

theorem exec_loftStackFenced (hn : n < 4) (h3 : unitState s (30 + n) ≠ 3) (h5 : unitState s (30 + n) ≠ 5) :
    exec (.loftStackFenced n) s = .next (fenceStack n s) := by
  change execLoftStackFenced n s = _
  simp only [execLoftStackFenced, onUp_next hup, Nat.mod_eq_of_lt hn]
  rw [if_neg (by simp [h3, h5])]

end

end

/-! ### Reclaim (R392, R411) -/

/-- RECLAIM of the owner in bytes 0 and 1 (log entry 75) answers how many of its buffers it freed. -/
theorem exec_reclaim {s : State} {m : Nat} (h : s.runsCmd m 0x0E04) :
    exec (.reclaim m) s = .next (complete m (leBytes 8 (reclaimOwner (reqNat s m 0 2) s).1) (reclaimOwner (reqNat s m 0 2) s).2) := by
  change execReclaim m s = _
  rw [execReclaim, onCmd_of_runsCmd h]

/-- Settles O39, a primitive or a command at a time. -/
theorem yardAndDitchCommandsComplete : Obligations.YardAndDitchCommandsComplete := by
  unfold Obligations.YardAndDitchCommandsComplete
  refine ⟨fun s hup => ⟨?alloc, ?free, ?handover, ?enq, ?deq, ?drop, ?qopen, ?qclose, ?fill, ?drain, ?fenced⟩,
    fun s m => ⟨?reclaim, ?inspectDitch, ?inspectYard⟩⟩
  case alloc => exact fun size caller group h h0 h1 hp => exec_yardAlloc_picked hup h0 h1 hp caller
  case free => exact fun h caller => exec_yardFree_checked hup
  case handover => exact fun h caller owner => exec_yardHandover_checked hup
  case enq => exact fun q x caller data sop eop c hq h1 ho hd hd' hs hl hm hc => exec_ditchEnq_appended hup hq h1 ho hd hd' hs hl hm hc eop
  case deq => exact fun q x c cs rest bad hq h1 hp => exec_ditchDeq_delivers hup hq h1 hp bad
  case drop => exact fun q x caller hq ho => exec_dropRemainder_open hup hq ho
  case qopen => exact fun consumer notice maxCells h0 h1 hq => exec_qopen_lowest hup h0 h1 hq consumer notice
  case qclose => exact fun q x hq hf => exec_qclose_consumer hup hq hf
  case fill => exact fun n more hn hb => exec_lockPairFillDone_bank0 hup hn hb more
  case drain => exact fun n more hn hb => exec_lockPairDrainDone_bank0 hup hn hb more
  case fenced => exact fun n hn h3 h5 => exec_loftStackFenced hup hn h3 h5
  case reclaim => exact fun h => exec_reclaim h
  case inspectDitch => exact fun h => ⟨onCmd_of_runsCmd h fun s => complete m (ditchBytes (reqNat s m 0 2) s) s, ditchBytes_length _ s⟩
  case inspectYard => exact fun h => onCmd_of_runsCmd h (completeFree m 32)

end Sys2Proof.Machine
end

section
/-!
SUPPORT. What the Rilram ports send by themselves, their keys, their loss and their return (O56).
-/

namespace Sys2Proof.Machine

open Sys2Proof

section
variable {s : State} (hup : s.up = true)
include hup

/-! ### Records, requests and acknowledgements (R91, R124) -/

/-- While this module mirrors, a data record goes to the twin: as a record of an own reach, or as a request for the twin's. -/
theorem exec_twinSend_data {w : WireRec} (hm : s.mirrors = true) (hg : s.twn.margin = false) (hd : (recOfWire w false).isData = true) :
    exec (.twinSend w) s =
      .next ((if ownsReach s w.reach then linkSend "RECORDS" w.reach w.seq (recFull (recOfWire w false)) s
        else linkSend "FORWARD" w.reach w.ticket (recFull (recOfWire w false)) s).send (.prim "TWIN_SEND" 0 w.ticket)) := by
  change execTwinSend w s = _
  simp [execTwinSend, onUp_next hup, hm, hg, hd]

theorem exec_ackFrameSend_due (hp : portSends s 0 = true ∨ portSends s 1 = true) (ha : s.twn.ackDue ≠ []) : exec .ackFrameSend s =
    .next (linkSend "ACK" 0 0 (s.twn.ackDue.flatMap (fun e => leBytes 2 e.1 ++ leBytes 8 e.2)) (s.onTwn fun x => { x with ackDue := [] })) := by
  change execAckFrameSend s = _
  rw [execAckFrameSend, onUp_next hup]
  exact congrArg _ (if_neg (by rcases hp with h | h <;> simp [ha, h]))

section
variable {p : Nat} (hp : p < 2)
include hp

/-! ### A keyed port (R122, R125, R130, R131) -/

section
variable (hs : portSends s p = true)
include hs

theorem exec_keepaliveSend : exec (.keepaliveSend p) s = .next (sendOn p "KEEPALIVE" 0 0 [] s) := by
  change execKeepaliveSend p s = _
  simp only [execKeepaliveSend, onUp_next hup, Nat.mod_eq_of_lt hp]
  rw [if_pos hs]

theorem exec_parityFrameSend (hg : 0 < (s.port p).group) : exec (.parityFrameSend p) s = .next (sendParity p s) := by
  change execParityFrameSend p s = _
  simp only [execParityFrameSend, onUp_next hup, Nat.mod_eq_of_lt hp]
  rw [if_pos (by simp [hs, hg])]

/-- A key due by its use or by its age gives way to the next one, whose counter starts with nine blocks (log entry 44), journalled twice (log entry 25). -/
theorem exec_rekeyDue
    (hd : 2 ^ 40 ≤ s.get (Reg.TWN_PORT_REKEY_TX_FRAMES p) ∨ (s.port p).keyAt + s.get Reg.TWN_CFG_REKEY_HOURS * 3600000000 ≤ s.epoch)
    (hr : (s.port p).rekeyAt = none) : exec (.rekeyDue p) s =
    let inst := (s.get (Reg.TWN_PORT_KEY_TX_INSTANCE p) + 1) % 2 ^ 32
    let t := ((sendOn p "REKEY" 0 inst (leBytes 4 inst) s).put (Reg.TWN_PORT_KEY_TX_INSTANCE p) inst).put (Reg.TWN_PORT_REKEY_TX_FRAMES p) 0
    .next (jrnlLink (jrnlLink ((onPort p (fun (x : PortSt) => { x with rekeyAt := some s.epoch, keyAt := s.epoch, counter := 0, counterEnd := 9 * 2 ^ 24 }) t).add
      (Reg.CPH_STAT_COUNT 5) 9))) := by
  change execRekeyDue p s = _
  simp only [execRekeyDue, onUp_next hup, Nat.mod_eq_of_lt hp]
  rw [if_neg (by rcases hd with h | h <;> simp [-Nat.reducePow, hs, hr, h])]

/-- A rekey that has not completed in 1 ms sends its REKEY frame again. -/
theorem exec_rekeyRetry {t : Nat} (hr : (s.port p).rekeyAt = some t) (ht : t + 1000 ≤ s.epoch) : exec (.rekeyRetry p) s =
    let inst := s.get (Reg.TWN_PORT_KEY_TX_INSTANCE p)
    .next (sendOn p "REKEY" 0 inst (leBytes 4 inst) (onPort p (fun (x : PortSt) => { x with rekeyAt := some s.epoch }) s)) := by
  change execRekeyRetry p s = _
  simp only [execRekeyRetry, onUp_next hup, Nat.mod_eq_of_lt hp, hr]
  rw [if_pos (by simp [hs, ht])]

end

theorem exec_oldKeyDrop {t : Nat} (hr : (s.port p).rxNewAt = some t) (ht : s.epoch ≥ t + 100) :
    exec (.oldKeyDrop p) s = .next (onPort p (fun (x : PortSt) => { x with rxOld := none, rxNewAt := none }) s) := by
  change execOldKeyDrop p s = _
  simp only [execOldKeyDrop, onUp_next hup, Nat.mod_eq_of_lt hp, hr]
  rw [if_pos ht]

theorem exec_keyUseLimit (hl : s.get (Reg.TWN_PORT_STATE_LINK p) = 2)
    (hd : 2 ^ 41 ≤ s.get (Reg.TWN_PORT_REKEY_TX_FRAMES p) ∨ (s.port p).keyAt + 25 * 3600000000 ≤ s.epoch) :
    exec (.keyUseLimit p) s = .next (fenceLink (p + 1) (raise 0x0E01 (4 + p) 0 s)) := by
  change execKeyUseLimit p s = _
  simp only [execKeyUseLimit, onUp_next hup, Nat.mod_eq_of_lt hp]
  rw [if_pos (by simpa [-Nat.reducePow, hl] using hd)]

/-! ### Loss and return of a port (R118, R119, R127, R128) -/

theorem exec_rilramPortDown (hl : s.get (Reg.TWN_PORT_STATE_LINK p) = 1 ∨ s.get (Reg.TWN_PORT_STATE_LINK p) = 2) :
    exec (.rilramPortDown p) s = .next (portGone p 0 s) := by
  have h0 : s.get (Reg.TWN_PORT_STATE_LINK p) ≠ 0 := by omega
  have h3 : s.get (Reg.TWN_PORT_STATE_LINK p) ≠ 3 := by omega
  change execRilramPortDown p s = _
  simp only [execRilramPortDown, onUp_next hup, Nat.mod_eq_of_lt hp]
  rw [if_neg (by simp [h0, h3])]

section
variable (hl : s.get (Reg.TWN_PORT_STATE_LINK p) = 0)
include hl

/-- A trained port that is not crossed begins setup if its delay is within 55 ns, and is reported and left otherwise. -/
theorem exec_rilramPortUp_straight (delay : Nat) : exec (.rilramPortUp p delay false) s =
    .next (if delay > 550 then raise 0x0505 (4 + p) 0 s
      else sendSetup p (onPort p (fun (_ : PortSt) => { PortSt.init with setup := true })
        ((s.put (Reg.TWN_PORT_STATE_CROSSED p) 0).put (Reg.TWN_PORT_STATE_LINK p) 1))) := by
  change execRilramPortUp p delay false s = _
  simp only [execRilramPortUp, onUp_next hup, Nat.mod_eq_of_lt hp]
  rw [if_neg (not_not_intro hl), if_neg Bool.false_ne_true]

/-- Crossed ports are both refused. -/
theorem exec_rilramPortUp_crossed (delay : Nat) : exec (.rilramPortUp p delay true) s =
    let t := (s.put (Reg.TWN_PORT_STATE_CROSSED 0) 1).put (Reg.TWN_PORT_STATE_CROSSED 1) 1
    .next (raise 0x0505 (4 + p) 0 (portSync ((t.put (Reg.TWN_PORT_STATE_LINK 0) 0).put (Reg.TWN_PORT_STATE_LINK 1) 0))) := by
  change execRilramPortUp p delay true s = _
  simp only [execRilramPortUp, onUp_next hup, Nat.mod_eq_of_lt hp]
  rw [if_neg (not_not_intro hl), if_pos trivial]

end

end

/-! ### Violations (R157) -/

theorem exec_rilramViolationLimit {k : Nat} (hk : k < 3) (hv : 16 ≤ violsOf k s) (hf : s.flag (violFence k) = false) :
    exec (.rilramViolationLimit k) s = .next (fenceLink k (raise 0x0506 (linkName k) 0 s)) := by
  change execRilramViolationLimit k s = _
  simp only [execRilramViolationLimit, onUp_next hup, Nat.mod_eq_of_lt hk]
  rw [if_pos (by simp [hv, hf])]

end

/-- Settles O56, an event at a time. -/
theorem rilramSendersKeysAndPortsComplete : Obligations.RilramSendersKeysAndPortsComplete := by
  unfold Obligations.RilramSendersKeysAndPortsComplete
  intro s hup
  refine ⟨?twinSend, exec_ackFrameSend_due hup, ?port, fun k hk => exec_rilramViolationLimit hup hk⟩
  case twinSend =>
    intro w hm hg hd
    have e := exec_twinSend_data hup hm hg hd
    exact ⟨fun ho => by rwa [if_pos ho] at e, fun ho => by rwa [if_neg (ne_true_of_eq_false ho)] at e⟩
  case port =>
    intro p hp
    refine ⟨fun hs => ⟨exec_keepaliveSend hup hp hs, exec_parityFrameSend hup hp hs, exec_rekeyDue hup hp hs, fun t => exec_rekeyRetry hup hp hs⟩,
      fun t => exec_oldKeyDrop hup hp, exec_keyUseLimit hup hp, exec_rilramPortDown hup hp, ?portUp⟩
    case portUp =>
      intro hl delay
      have e := exec_rilramPortUp_straight hup hp hl delay
      exact ⟨fun hd => e.trans (congrArg _ (if_neg (Nat.not_lt.mpr hd))), fun hd => e.trans (congrArg _ (if_pos hd)),
        exec_rilramPortUp_crossed hup hp hl delay⟩

end Sys2Proof.Machine
end

section
/-!
SUPPORT. The movers of the tiers, the losses they meet and the cistern's copy (O59).
-/

namespace Sys2Proof.Machine

open Sys2Proof

section
variable {s : State} (hup : s.up = true)
include hup

/-! ### Quarters and the sweep (R164, R165, R166, R168) -/

theorem exec_quarterArrived {g q : Nat} (hq : q < 4) (hl : s.tir.ladders.any (fun l => l.quarter == 4 * g + q) = false) :
    exec (.quarterArrived g q) s = .next (settle (installQuarter g q s)) := by
  change execQuarterArrived g q s = _
  simp only [execQuarterArrived, onUp_next hup, Nat.mod_eq_of_lt hq]
  rw [if_neg (by rw [hl]; decide)]

/-- A pass begins, or, while one runs, is an overrun that is counted once. -/
theorem exec_sweepPassStart_enabled (hm : s.serving = true ∨ s.mode = .quiesced) (he : s.flag Reg.TIR_SWP_CFG_ENABLE = true) : exec .sweepPassStart s =
    .next (if s.flag Reg.TIR_SWP_STATE_RUNNING then
        (if s.tir.sweepDue then s else (s.onTir fun x => { x with sweepDue := true }).inc (Reg.TIR_TIER_STAT_COUNT 12))
      else startSweep s) := by
  change execSweepPassStart s = _
  rw [execSweepPassStart, onUp_next hup, if_neg (by rcases hm with h | h <;> simp [he, h])]

/-- A pass ends with its duration, and an overrun one is followed by the next. -/
theorem exec_sweepPassEnd_running (hr : s.flag Reg.TIR_SWP_STATE_RUNNING = true) : exec .sweepPassEnd s =
    let t := (s.put Reg.TIR_SWP_STATE_RUNNING 0).put Reg.TIR_SWP_STATE_LAST_MS (satAt 0xFFFF ((s.epoch - s.tir.sweepAt) / 1000))
    .next (if s.tir.sweepDue then startSweep t else t) := by
  change execSweepPassEnd s = _
  rw [execSweepPassEnd, onUp_next hup, if_neg (by rw [hr]; decide)]

/-! ### Evictions (R175, R176, R178, R179, R180) -/

section
variable {g : Nat} {inLoft : Bool} {rest : List (Nat × Bool)} (hq : s.tir.ageQ = (g, inLoft) :: rest)
include hq

/-- A granule no longer pending is passed over. -/
theorem exec_ageEviction_passed (hp : (if inLoft then (s.gran g).loftPend else (s.gran g).floorPend) = false) :
    exec .ageEviction s = .next (s.onTir fun x => { x with ageQ := rest }) := by
  change execAgeEviction s = _
  simp only [execAgeEviction, onUp_next hup, hq, hp]
  rfl

section
variable (hp : (if inLoft then (s.gran g).loftPend else (s.gran g).floorPend) = true)
include hp

theorem exec_ageEviction_ineligible (ha : evictAction (if inLoft then 0 else 1) (s.gran g) s = 0) : exec .ageEviction s =
    .next (modGran g (fun (e : Gran) => if inLoft then { e with loftPend := false } else { e with floorPend := false })
      (s.onTir fun x => { x with ageQ := rest })) := by
  change execAgeEviction s = _
  simp only [execAgeEviction, onUp_next hup, hq, hp]
  rw [if_neg (by decide), if_pos ha]

/-- An eligible granule whose lock is free is evicted under a slot. -/
theorem exec_ageEviction_evicts (ha : evictAction (if inLoft then 0 else 1) (s.gran g) s ≠ 0) {n : Nat} {t : State}
    (ht : takeSlot 1 (s.onTir fun x => { x with ageQ := rest }) = some (n, t)) (hl : (s.gran g).lock = none) (hw : (s.gran g).waiters = []) :
    exec .ageEviction s = .next (poolStateSync (beginEvict (if inLoft then 0 else 1) g n t)) := by
  change execAgeEviction s = _
  simp only [execAgeEviction, onUp_next hup, hq, hp, ht, hl, hw]
  rw [if_neg (by decide), if_neg ha, if_neg (by decide)]

end

end

section
variable {p : Nat} (hp : p < 2)
include hp

theorem exec_pressureEviction_stops (ho : pressureOn p s = false) : exec (.pressureEviction p) s = .next (s.put (Reg.TIR_POOL_STATE_EVICTING p) 0) := by
  change execPressureEviction p s = _
  simp only [execPressureEviction, onUp_next hup, Nat.mod_eq_of_lt hp, ho]
  rfl

section
variable (ho : pressureOn p s = true)
include ho

theorem exec_pressureEviction_waits (hs : slotFree 1 s = false) : exec (.pressureEviction p) s = .next (s.put (Reg.TIR_POOL_STATE_EVICTING p) 1) := by
  change execPressureEviction p s = _
  simp only [execPressureEviction, onUp_next hup, Nat.mod_eq_of_lt hp, ho, hs]
  rfl

/-- The hand, in granule order (log entry 30), stops at the victim that it finds, and the victim is locked under the lowest free slot (log entry 18). -/
theorem exec_pressureEviction_locks (hs : slotFree 1 s = true) {cut : Nat}
    (hc : (if s.flag (Reg.TIR_POOL_STATE_EVICTING p) then s.get (Reg.TIR_POOL_STATE_CUT p) else topBucket p s) = cut) {g n : Nat} {t : State}
    (hg : (relieve p (s.put (Reg.TIR_POOL_STATE_EVICTING p) 1) 17 cut).1 = some g)
    (ht : takeSlot 1 (relieve p (s.put (Reg.TIR_POOL_STATE_EVICTING p) 1) 17 cut).2 = some (n, t)) :
    exec (.pressureEviction p) s = .next (poolStateSync (beginEvict p g n (t.onTir fun x => { x with hand := tset 0 p g x.hand }))) := by
  change execPressureEviction p s = _
  simp only [execPressureEviction, onUp_next hup, Nat.mod_eq_of_lt hp, ho, hs, hc, hg, ht]
  rfl

end

theorem exec_frameWaitResume (hf : poolFree s p ≠ 0) :
    exec (.frameWaitResume p) s = .next (settle (s.put (Reg.TIR_POOL_STATE_FRAME_WAIT p) 0)) := by
  change execFrameWaitResume p s = _
  simp only [execFrameWaitResume, onUp_next hup, Nat.mod_eq_of_lt hp]
  rw [if_neg hf]

end

/-! ### Losses and rebuilds (R81, R184, R185) -/

section
variable {g : Nat} {l : Lock} (hr : s.tir.rebuilds.contains g = true) (hl : (s.gran g).lock = some l) (hk : l.kind = .rebuild)
include hr hl hk

theorem exec_copyRebuildDone_cached (hc : (s.gran g).cached = true) : exec (.copyRebuildDone g) s = .next (rebuildDone g s) := by
  change execCopyRebuildDone g s = _
  rw [execCopyRebuildDone, onUp_next hup]
  exact congrArg _ ((if_neg (by simp [-List.contains_eq_mem, hr, hl, hk])).trans (if_pos hc))

/-- A granule that is not cached takes a floor frame. -/
theorem exec_copyRebuildDone_frame (hc : (s.gran g).cached = false) {t : State} (ht : allocFloor g allLines 0 0 s = some t) :
    exec (.copyRebuildDone g) s = .next (rebuildDone g t) := by
  change execCopyRebuildDone g s = _
  simp only [execCopyRebuildDone, onUp_next hup, ht]
  rw [if_neg (by simp [-List.contains_eq_mem, hr, hl, hk]), if_neg (by rw [hc]; decide)]

end

theorem exec_floorChannelLost {c : Nat} (hc : c < 16) (h3 : unitState s (14 + c) ≠ 3) (h5 : unitState s (14 + c) ≠ 5) :
    exec (.floorChannelLost c) s = .next (settle (loseChannel c s)) := by
  change execFloorChannelLost c s = _
  simp only [execFloorChannelLost, onUp_next hup, Nat.mod_eq_of_lt hc]
  rw [if_neg (by simp [h3, h5])]

section
variable (hc : s.get Reg.TIR_CST_STATE_COPIES = 1)
include hc

theorem exec_cisternRoomMade {n : Nat} (hn : s.cis.newStack = some n) (hr : s.cis.roomMade = false) : exec .cisternRoomMade s = .next (makeRoom n s) := by
  change execCisternRoomMade s = _
  simp only [execCisternRoomMade, onUp_next hup, hn]
  rw [if_neg (by simp [hc, hr])]

theorem exec_cisternCopyDone (hr : s.cis.roomMade = true) (hh : hgHolds s .cisternCopy = true) : exec .cisternCopyDone s =
    let t := raise 0x0307 (s.cis.newStack.getD 0) 0 (s.put Reg.TIR_CST_STATE_COPIES 0)
    .next (degradedSync (poolSync (hgReturn .cisternCopy (t.onCis fun x => { x with roomMade := false })))) := by
  change execCisternCopyDone s = _
  rw [execCisternCopyDone, onUp_next hup, if_pos (by simp [hc, hr, hh])]

end

end

/-- Settles O59, a mover at a time. -/
theorem tierMoversComplete : Obligations.TierMoversComplete := by
  unfold Obligations.TierMoversComplete
  intro s hup
  refine ⟨fun g q => exec_quarterArrived hup, fun g => show execMoveDone g s = _ from onUp_next hup, ?sweepStart, ?sweepEnd, ?age, ?pressure, ?rebuild,
    fun c => exec_floorChannelLost hup, fun n hn hc => exec_cisternRoomMade hup hc hn, exec_cisternCopyDone hup⟩
  case sweepStart =>
    intro hm he
    have e := exec_sweepPassStart_enabled hup hm he
    exact ⟨fun hr => e.trans (congrArg _ (if_neg (ne_true_of_eq_false hr))),
      fun hr hd => e.trans (congrArg _ ((if_pos hr).trans (if_neg (ne_true_of_eq_false hd))))⟩
  case sweepEnd =>
    intro hr t
    have e := exec_sweepPassEnd_running hup hr
    exact ⟨fun hd => e.trans (congrArg _ (if_neg (ne_true_of_eq_false hd))), fun hd => e.trans (congrArg _ (if_pos hd))⟩
  case age =>
    intro g inLoft rest hq p e pass
    exact ⟨exec_ageEviction_passed hup hq,
      fun hp => ⟨exec_ageEviction_ineligible hup hq hp, fun n t ha ht hl hw => exec_ageEviction_evicts hup hq hp ha ht hl hw⟩⟩
  case pressure =>
    intro p hp
    refine ⟨exec_pressureEviction_stops hup hp, exec_pressureEviction_waits hup hp, ?_, exec_frameWaitResume hup hp⟩
    intro ho hs cut r g n t hg ht
    exact exec_pressureEviction_locks hup hp ho hs rfl hg ht
  case rebuild =>
    intro g l hr hl hk
    exact ⟨exec_copyRebuildDone_cached hup hr hl hk, fun hc t ht => exec_copyRebuildDone_frame hup hr hl hk hc ht⟩

end Sys2Proof.Machine
end

section
/-!
SUPPORT. The drain, the resaw, wear relocation, and the row groups of the footing (O60).
-/

namespace Sys2Proof.Machine

open Sys2Proof

section
variable {s : State} (hup : s.up = true)
include hup

/-! ### The drain (R101, R103, R104, R106) -/

section
variable {lane g : Nat} (hm : drainModes s = true) (hl : laneUsed s lane = true) (hn : nextPack s = some g)
include hm hl hn

/-- In a RELEASING reach the applied records retire without a program. -/
theorem exec_drainPackStart_releasing (hr : reachState s (granReach g) = 5) : exec (.drainPackStart lane) s =
    .next ((retireGran g (snapOf s g) s).add (Reg.TIR_DRN_STAT_COUNT 5) ((granRecs s g).filter Rec.applied).length) := by
  change execDrainPackStart lane s = _
  simp only [execDrainPackStart, onUp_next hup, hm, hl, hn]
  rw [if_neg (by decide), if_pos hr]

section
variable (hr : reachState s (granReach g) ≠ 5) {slot : Nat} {t : State} (ht : takeSlot 2 s = some (slot, t))
include hr ht

/-- A granule that another mover holds is waited for. -/
theorem exec_drainPackStart_locked (hk : (t.gran g).lock ≠ none) :
    exec (.drainPackStart lane) s = .next (takeLock g { kind := .drainSnap, holder := slot } t).2 := by
  change execDrainPackStart lane s = _
  simp only [execDrainPackStart, onUp_next hup, hm, hl, hn, ht]
  rw [if_neg (by decide), if_neg hr, if_pos (by simp [Option.isSome_iff_ne_none.mpr hk])]

/-- A granule that no mover holds or waits for is packed, or waits for a stripe or for the wrap table. -/
theorem exec_drainPackStart_unlocked (hk : (t.gran g).lock = none) (hw : (t.gran g).waiters = []) :
    exec (.drainPackStart lane) s = .next ((startPack g (packKind g t) slot lane t).getD (packWaits g s)) := by
  change execDrainPackStart lane s = _
  simp only [execDrainPackStart, onUp_next hup, hm, hl, hn, ht, hk, hw]
  rw [if_neg (by decide), if_neg hr, if_neg (by decide)]
  cases startPack g (packKind g t) slot lane t <;> rfl

end

end

theorem exec_packConfirmed {g : Nat} {p : Pack} (hp : packAt g 1 s = some p) (hr : reachState s (granReach g) ≠ 0) :
    exec (.packConfirmed g) s = .next (confirmPack g p s) := by
  change execPackConfirmed g s = _
  simp only [execPackConfirmed, onUp_next hup, hp]
  rw [if_neg hr]

theorem exec_checkpointConfirmed {page : Nat} {p : Pack}
    (hp : s.tir.packs.find? (fun p => p.granule == 2 ^ 34 + page && p.kind == 4 && p.phase == 1) = some p) :
    exec (.checkpointConfirmed page) s = .next (confirmCheckpoint page p s) := by
  change execCheckpointConfirmed page s = _
  simp only [execCheckpointConfirmed, onUp_next hup, hp]

/-- A failed pack is counted and packed again with a new snapshot (log entry 76), or waits for a stripe or for the wrap table. -/
theorem exec_packProgramFailed {g lane : Nat} {p : Pack} (hp : packAt g 2 s = some p) (hl : laneUsed s lane = true) :
    exec (.packProgramFailed g lane) s =
      let t := (s.onTir fun x => { x with packs := x.packs.filter (· != p) }).inc (Reg.TIR_DRN_STAT_COUNT 2)
      .next ((startPack g p.kind p.slot lane t).getD (packWaits g s)) := by
  change execPackProgramFailed g lane s = _
  simp only [execPackProgramFailed, onUp_next hup, hp, hl]
  rw [if_neg (by decide)]
  cases startPack g p.kind p.slot lane ((s.onTir fun x => { x with packs := x.packs.filter (· != p) }).inc (Reg.TIR_DRN_STAT_COUNT 2)) <;> rfl

/-! ### The resaw and wear relocation (R188, R190, R249) -/

section
variable (hm : drainModes s = true)
include hm

theorem exec_resawStart_idle (hv : s.tir.rswVictim = none) (ho : resawOn s = false) : exec .resawStart s = .next (s.put Reg.TIR_RSW_STATE_STATE 0) := by
  change execResawStart s = _
  rw [execResawStart, onUp_next hup, if_neg (by simp [hm, hv]), if_pos (by rw [ho]; decide)]

theorem exec_resawStart_victim (hv : s.tir.rswVictim = none) (ho : resawOn s = true) {k : Nat} (hk : resawVictim s = some k) :
    exec .resawStart s = .next (takeVictim k s) := by
  change execResawStart s = _
  simp only [execResawStart, onUp_next hup, hk]
  rw [if_neg (by simp [hm, hv]), if_neg (by rw [ho]; decide)]

section
variable {g lane : Nat} (hl : laneUsed s lane = true)
include hl

/-- A relocation whose program is confirmed ends once its granule is not locked. -/
theorem exec_resawRelocate_ends {p : Pack} (hp : relocPack g s = some p) (h1 : p.phase = 1) (hk : (s.gran g).lock = none) (bad : Nat) :
    exec (.resawRelocate g lane bad) s = .next (endReloc p s) := by
  change execResawRelocate g lane bad s = _
  simp only [execResawRelocate, onUp_next hup, hm, hl, hp, hk]
  rw [if_neg (by decide), if_pos h1, if_neg (by decide)]

/-- A live granule of the victim begins to move under a slot. -/
theorem exec_resawRelocate_begins (hp : relocPack g s = none) {e : XltEnt} (he : tfind g s.tir.xlt = some e) (ho : movesOut s (locStripe e.locator) = true)
    {slot : Nat} {t u : State} (ht : takeSlot 3 s = some (slot, t)) {bad : Nat} (hu : beginReloc g lane slot e (bad % 2 ^ 256) t = some u) :
    exec (.resawRelocate g lane bad) s = .next u := by
  change execResawRelocate g lane bad s = _
  simp only [execResawRelocate, onUp_next hup, hm, hl, hp, he, ht, hu]
  rw [if_neg (by decide), if_neg (by rw [ho]; decide)]
  rfl

end

end

/-- An erase that is due asks the headgate for its tokens. -/
theorem exec_resawErase_ready {key : Nat} (hr : eraseReady key s = true) : exec (.resawErase key) s =
    let r := hgRequest { owner := .erase key, h0 := resawUrgent s && s.tir.rswVictim == some key, tokens := 16 } s
    let t := r.2.onTir fun x => { x with erases := x.erases ++ [key] }
    .next (if r.1 = 0 then t
      else if r.1 = 1 then (t.put Reg.TIR_RSW_STATE_HG_WAIT 1).inc (Reg.TIR_RSW_STAT_COUNT 4)
      else t.onTir fun x => { x with erases := x.erases.filter (· != key) }) := by
  change execResawErase key s = _
  rw [execResawErase, onUp_next hup, if_neg (by rw [hr]; decide)]

theorem exec_wearRelocation_due (hd : wearDue s = true) {k : Nat} (hk : wearPick s = some k) : exec .wearRelocation s =
    .next (renewCheckpoints k (k / 4096) ((s.onTir fun x => { x with wearVictim := some k }).onMed fun x => { x with wearAt := s.epoch })) := by
  change execWearRelocation s = _
  simp only [execWearRelocation, onUp_next hup, hk]
  rw [if_neg (by rw [hd]; decide)]

/-! ### Row groups, programs and erases (R230, R237, R240, R255) -/

section
variable {lane unit group : Nat} {g : RowGrp} (hg : findGroup lane unit group s = some g)
include hg

/-- A row group 20 µs old is padded and issued. -/
theorem exec_rowGroupPadTimeout (hi : g.issued = false) (he : g.started + 20 ≤ s.epoch) : exec (.rowGroupPadTimeout lane unit group) s =
    .next ((s.add (Reg.SLC_FTG_STAT_COUNT 6) (groupSlots g.narrow - g.used)).onTir fun x =>
      { x with groups := x.groups.map (fun (y : RowGrp) => if y = g then { y with issued := true } else y) }) := by
  change execRowGroupPadTimeout lane unit group s = _
  simp only [execRowGroupPadTimeout, onUp_next hup, hg]
  rw [if_neg (by simp [hi, he])]

/-- A program ends by its result: its slots are stored, a unit has failed, or the program was refused. -/
theorem exec_programStatus_programming (hp : programming g s = true) (result board : Nat) : exec (.programStatus lane unit group result board) s =
    let key := stripeKey lane unit
    let sl := laneSluice (board % 8) lane
    let t := programEnded lane g s
    .next (if result = 0 then hgWaitSync (groupPhase g 1 (storeGroup g (countLane lane 1 t)))
      else if result = 1 then
        hgWaitSync (badUnit (board % 8) key (closeStripe key (groupPhase g 2 (raise 0x0401 sl key (t.inc (Reg.SLC_CH_STAT_COUNT sl 3))))))
      else hgWaitSync (groupPhase g 2 (raise 0x040A sl key (t.inc (Reg.SLC_CH_STAT_COUNT sl 8))))) := by
  change execProgramStatus lane unit group result board s = _
  simp only [execProgramStatus, onUp_next hup, hg]
  rw [if_neg (by rw [hp]; decide)]

end

/-- An erase that holds its tokens ends, and a failed unit is marked. -/
theorem exec_eraseStatus_erasing {key : Nat} (he : s.tir.erases.contains key = true) (hh : hgHolds s (.erase key) = true) (nearEnd : Bool) :
    exec (.eraseStatus key none nearEnd) s = .next (hgWaitSync (stripeDone key (eraseEnded key nearEnd s))) ∧
    ∀ b, b < 8 → exec (.eraseStatus key (some b) nearEnd) s = .next (hgWaitSync (stripeDone key (eraseFailed b key (eraseEnded key nearEnd s)))) := by
  have hgo : ¬ (!(s.tir.erases.contains key) || !(hgHolds s (.erase key))) = true := by
    rw [he, hh]
    decide
  refine ⟨?_, fun b hb => ?_⟩
  · change execEraseStatus key none nearEnd s = _
    rw [execEraseStatus, onUp_next hup, if_neg hgo]
  · change execEraseStatus key (some b) nearEnd s = _
    simp only [execEraseStatus, onUp_next hup, Nat.mod_eq_of_lt hb]
    rw [if_neg hgo]

theorem exec_suspendDone_counted {c d : Nat} (hc : c < 32) (hd : d < 16)
    (hn : tget 0 (16 * c + d) s.tir.suspends < s.get (Reg.SLC_CH_CFG_SUSPEND_MAX c)) : exec (.suspendDone c d) s =
    .next ((s.onTir fun x => { x with suspends := tset 0 (16 * c + d) (tget 0 (16 * c + d) x.suspends + 1) x.suspends }).inc (Reg.SLC_CH_STAT_COUNT c 7)) := by
  change execSuspendDone c d s = _
  simp only [execSuspendDone, onUp_next hup, Nat.mod_eq_of_lt hc, Nat.mod_eq_of_lt hd]
  rw [if_neg (Nat.not_le.mpr hn)]
  rfl

end

/-- Settles O60, an event at a time. -/
theorem drainAndResawComplete : Obligations.DrainAndResawComplete := by
  unfold Obligations.DrainAndResawComplete
  intro s hup
  refine ⟨?drain, fun g p => exec_packConfirmed hup, fun page p => exec_checkpointConfirmed hup, ?failed, ?resaw, ?relocate, ?erase,
    fun hd k => exec_wearRelocation_due hup hd, ?rowGroups, fun key nearEnd he hh => exec_eraseStatus_erasing hup he hh nearEnd,
    fun c d => exec_suspendDone_counted hup⟩
  case drain =>
    intro lane g hm hl hn
    refine ⟨exec_drainPackStart_releasing hup hm hl hn, fun hr slot t ht => ⟨exec_drainPackStart_locked hup hm hl hn hr ht, fun hk hw => ?_⟩⟩
    have e := exec_drainPackStart_unlocked hup hm hl hn hr ht hk hw
    exact ⟨fun u hu => by rwa [hu] at e, fun hu => by rwa [hu] at e⟩
  case failed =>
    intro g lane p hp hl t
    have e : exec (.packProgramFailed g lane) s = .next ((startPack g p.kind p.slot lane t).getD (packWaits g s)) := exec_packProgramFailed hup hp hl
    exact ⟨fun u hu => by rwa [hu] at e, fun hu => by rwa [hu] at e⟩
  case resaw => exact fun hm hv => ⟨exec_resawStart_idle hup hm hv, fun ho k => exec_resawStart_victim hup hm hv ho⟩
  case relocate =>
    intro g lane bad hm hl
    exact ⟨fun p hp h1 hk => exec_resawRelocate_ends hup hm hl hp h1 hk bad, fun e slot t u hp he ho ht hu => exec_resawRelocate_begins hup hm hl hp he ho ht hu⟩
  case erase =>
    intro key hr r t
    have e := exec_resawErase_ready hup hr
    exact ⟨fun h0 => e.trans (congrArg _ (if_pos h0)),
      fun h1 => e.trans (congrArg _ ((if_neg (by rw [h1]; decide)).trans (if_pos h1)))⟩
  case rowGroups =>
    intro lane unit group g hg
    refine ⟨exec_rowGroupPadTimeout hup hg, fun hp board => ?_⟩
    have e := exec_programStatus_programming hup hg hp
    exact ⟨e 0 board, e 1 board, e 2 board⟩

end Sys2Proof.Machine
end

section
/-!
SUPPORT. The lines and the heartbeat words of the pair cable (O42), and the fence order of a serving module (O43).
-/

namespace Sys2Proof.Machine

open Sys2Proof

/-! ### Fencing (R117) -/

/-- A module that fences itself while it goes on running is QUIESCED and FENCED. -/
theorem fenceNow_mode {s : State} (h : s.regsOk) : (fenceNow s).mode = .quiesced ∧ (fenceNow s).pair = .fenced ∧ (fenceNow s).regsOk :=
  fenceSelf_mode ((reachOpsSync_evolves (dropTwinWork_evolves (.refl s))).regs h)

section
variable {s : State} (hup : s.up = true)
include hup

/-! ### Heartbeat words (R113, R115, R139, R140) -/

section
variable {ok degraded pf cf fenced : Bool} {mode pos slot held : Nat}

/-- A word that is not correct, or whose slot number repeats the last one. -/
theorem exec_heartbeatWord_bad (h : ok = false ∨ s.twn.lastSlot = some slot) :
    exec (.heartbeatWordReceived ok mode pos fenced degraded pf cf slot held) s = .next (violate 0 (s.inc (Reg.TWN_HB_STAT_COUNT 2))) := by
  change execHeartbeatWordReceived ok mode pos fenced degraded pf cf slot held s = _
  rw [execHeartbeatWordReceived, onUp_next hup, if_pos (by simpa using h)]

section
variable (hs : s.twn.lastSlot ≠ some slot)
include hs

/-- A word that carries this module's own position. -/
theorem exec_heartbeatWord_ownPosition (hp : pos % 2 = s.pos) :
    exec (.heartbeatWordReceived true mode pos fenced degraded pf cf slot held) s = .next (violate 0 (setCableFault (wordHeard slot s))) := by
  change execHeartbeatWordReceived true mode pos fenced degraded pf cf slot held s = _
  rw [execHeartbeatWordReceived, onUp_next hup, if_neg (by simpa using hs), if_pos hp]

/-- A valid word is noted, and its status counts unless a cable fault stands (log entry 88). -/
theorem exec_heartbeatWord_valid (hp : pos % 2 ≠ s.pos) (hf : s.flag Reg.TWN_VIOL_CABLE_FENCED = false) :
    exec (.heartbeatWordReceived true mode pos fenced degraded pf cf slot held) s =
      .next (if s.flag Reg.TWN_STATE_CABLE_FAULT then wordNoted mode cf slot held s
        else twinStatus fenced pf ((wordNoted mode cf slot held s).put Reg.TWN_STATE_TWIN_DEGRADED (b2n degraded))) := by
  change execHeartbeatWordReceived true mode pos fenced degraded pf cf slot held s = _
  rw [execHeartbeatWordReceived, onUp_next hup, if_neg (by simpa using hs), if_neg hp, if_neg (ne_true_of_eq_false hf)]

end

end

/-! ### The lines (R116, R117, R139, R140, R146, R157) -/

/-- The fence order is recorded, and acts on a module that serves or is QUIESCED, unless it is FENCED or has a cable fault. -/
theorem exec_pairFenceInAssert_fences (hc : s.flag Reg.TWN_STATE_CABLE_FAULT = false) (hm : s.serving = true ∨ s.mode = .quiesced) (hp : s.pair ≠ .fenced) :
    exec .pairFenceInAssert s = .next (fenceNow (s.put Reg.TWN_STATE_FENCE_IN 1)) := by
  change execPairFenceInAssert s = _
  rw [execPairFenceInAssert, onUp_next hup]
  exact congrArg _ (if_neg (by rcases hm with h | h <;> simp [hc, hp, h]))

theorem exec_pairFenceInAssert_cableFault (hc : s.flag Reg.TWN_STATE_CABLE_FAULT = true) :
    exec .pairFenceInAssert s = .next (s.put Reg.TWN_STATE_FENCE_IN 1) := by
  change execPairFenceInAssert s = _
  rw [execPairFenceInAssert, onUp_next hup]
  exact congrArg _ (if_pos (by simp [hc]))

/-- The PF notice is recorded, and acts unless a cable fault stands. -/
theorem exec_pairPfInAssert : exec .pairPfInAssert s =
    .next (if s.flag Reg.TWN_STATE_CABLE_FAULT then s.put Reg.TWN_STATE_PF_IN 1 else twinPf (s.put Reg.TWN_STATE_PF_IN 1)) := by
  change execPairPfInAssert s = _
  rw [execPairPfInAssert, onUp_next hup]

/-- The release lets a FENCED module whose join has settled catch up. -/
theorem exec_pairFenceInDeassert_settled (hp : s.pair = .fenced) (hs : s.twn.settled = true) (hc : s.flag Reg.TWN_STATE_CABLE_FAULT = false) :
    exec .pairFenceInDeassert s =
      .next (admitSync (cubSync (setPair .catchingUp ((s.put Reg.TWN_STATE_FENCE_IN 0).onTwn fun x => { x with settled := false })))) := by
  change execPairFenceInDeassert s = _
  rw [execPairFenceInDeassert, onUp_next hup]
  exact congrArg _ (if_pos (by simp [hp, hs, hc]))

theorem exec_pairFenceInDeassert_unsettled (hs : s.twn.settled = false) : exec .pairFenceInDeassert s = .next (s.put Reg.TWN_STATE_FENCE_IN 0) := by
  change execPairFenceInDeassert s = _
  rw [execPairFenceInDeassert, onUp_next hup]
  exact congrArg _ (if_neg (by simp [hs]))

theorem exec_pairInputPulse (pf : Bool) : exec (.pairInputPulse pf) s = .next (violate 0 (s.inc (Reg.TWN_HB_STAT_COUNT (if pf then 5 else 4)))) := by
  change execPairInputPulse pf s = _
  rw [execPairInputPulse, onUp_next hup]

/-! ### The cable fault (R140) -/

theorem exec_cableFaultSet_due (hw : s.epoch ≥ s.twn.wordAt + 4) (hf : s.epoch ≤ s.twn.frameAt + 2) : exec .cableFaultSet s = .next (setCableFault s) := by
  change execCableFaultSet s = _
  rw [execCableFaultSet, onUp_next hup, if_pos (by simp [hw, hf])]

/-- After 100 µs of words the fault is over; neither line being asserted (log entry 101), nothing else follows. -/
theorem exec_cableFaultClear_due (hc : s.flag Reg.TWN_STATE_CABLE_FAULT = true) (hv : s.flag Reg.TWN_VIOL_CABLE_FENCED = false)
    (hr : s.epoch ≥ s.twn.runAt + 100) (hw : s.epoch ≤ s.twn.wordAt + 1) (hf : s.flag Reg.TWN_STATE_FENCE_IN = false)
    (hn : s.flag Reg.TWN_STATE_PF_IN = false) (hp : s.pair ≠ .fenced) :
    exec .cableFaultClear s = .next (raise 0x0504 0 0 (s.put Reg.TWN_STATE_CABLE_FAULT 0)) := by
  change execCableFaultClear s = _
  rw [execCableFaultClear, onUp_next hup, if_pos (by simp [hc, hv, hr, hw])]
  exact congrArg _ ((if_neg (by simp [hf])).trans ((if_neg (by simp [hn])).trans (if_neg (by simp [hp]))))

end

/-- Settles O43: the order sets FENCE_IN and the module then fences itself, as `fenceNow_mode` says of every state in order. -/
theorem fenceOrderFencesAServingModule : Obligations.FenceOrderFencesAServingModule := by
  unfold Obligations.FenceOrderFencesAServingModule
  intro s hr hup hs hp hc
  obtain ⟨hmode, hpair, hregs⟩ := fenceNow_mode (put_regsOk (r := Reg.TWN_STATE_FENCE_IN) (v := 1) hr)
  exact ⟨_, exec_pairFenceInAssert_fences hup hc (.inl hs) hp, hpair, hmode, hregs⟩

/-- Settles O42, a word or a line at a time. -/
theorem cableWordsAndLinesActAsStated : Obligations.CableWordsAndLinesActAsStated := by
  unfold Obligations.CableWordsAndLinesActAsStated
  intro s hup
  refine ⟨?word, exec_pairFenceInAssert_fences hup, ?faulty, exec_pairFenceInDeassert_settled hup, exec_pairFenceInDeassert_unsettled hup, ?notice,
    exec_pairInputPulse hup, exec_cableFaultSet_due hup, exec_cableFaultClear_due hup⟩
  case word =>
    intro ok mode pos fenced degraded pf cf slot held
    refine ⟨exec_heartbeatWord_bad hup, fun hok hs => ?_⟩
    subst hok
    refine ⟨exec_heartbeatWord_ownPosition hup hs, fun hp hf => ?_⟩
    have e := exec_heartbeatWord_valid hup hs hp hf (fenced := fenced) (degraded := degraded) (pf := pf) (cf := cf) (mode := mode) (held := held)
    exact ⟨fun hc => by rwa [if_pos hc] at e, fun hc => by rwa [if_neg (ne_true_of_eq_false hc)] at e⟩
  case faulty => exact fun hc => ⟨exec_pairFenceInAssert_cableFault hup hc, (exec_pairPfInAssert hup).trans (congrArg _ (if_pos hc))⟩
  case notice => exact fun hc => (exec_pairPfInAssert hup).trans (congrArg _ (if_neg (ne_true_of_eq_false hc)))

end Sys2Proof.Machine
end

section
/-!
SUPPORT. What each Rilram frame does when it arrives (O55).
-/

namespace Sys2Proof.Machine

open Sys2Proof

/-! ### A port's numbering -/

@[simp] theorem onPort_port (s : State) (p : Nat) (f : PortSt → PortSt) : (onPort p f s).port p = f (s.port p) := by
  unfold onPort State.port
  by_cases hp : p = 0 <;> simp [hp]

/-- The number expected next lies no distance ahead. -/
theorem seqAhead_expected {s : State} {p n : Nat} (hn : n = (s.port p).rxSeq) (hw : n < 2 ^ 32) : seqAhead p n s = 0 := by
  rw [seqAhead, ← hn, Nat.mod_eq_of_lt hw, Nat.add_sub_cancel_left, Nat.mod_self]

/-- A frame that is taken waits behind those kept. -/
theorem frameTaken_ahead (h : FrameHdr) (sealed : Bool) (b : FrameBody) (s : State) :
    ((frameTaken h sealed b s).port (h.port % 2)).ahead = (s.port (h.port % 2)).ahead ++ [(h.frameSeq, b)] := by
  rw [frameTaken, onPort_port]
  rfl

theorem frameTaken_rxSeq (h : FrameHdr) (sealed : Bool) (b : FrameBody) (s : State) :
    ((frameTaken h sealed b s).port (h.port % 2)).rxSeq = (s.port (h.port % 2)).rxSeq := by
  rw [frameTaken, onPort_port]
  rfl

/-- The one frame that is kept has the next number: it is delivered, and nothing after it. -/
theorem deliverKept_one {s : State} {p : Nat} {e : Nat × FrameBody} (ha : (s.port p).ahead = [e]) (hn : e.1 = (s.port p).rxSeq) :
    deliverKept p 1 s = deliverBody p e.2 (onPort p (fun (x : PortSt) =>
      { x with ahead := x.ahead.filter (fun y => y.1 != e.1), rxSeq := (x.rxSeq + 1) % 2 ^ 32 }) s) := by
  have hfind : (s.port p).ahead.find? (fun y => y.1 == (s.port p).rxSeq) = some e := by simp [ha, hn]
  simp only [deliverKept, hfind]

/-! ### A sealed frame on a keyed port that keeps none (R120, R123, R126, R157) -/

section
variable {s : State} {h : FrameHdr} {b : FrameBody} (hl : s.get (Reg.TWN_PORT_STATE_LINK (h.port % 2)) = 2)
include hl

/-- The expected frame with a good header is taken, and its body has its effect. -/
theorem receive_expected (ha : (s.port (h.port % 2)).ahead = []) (hn : h.frameSeq = (s.port (h.port % 2)).rxSeq) (hw : h.frameSeq < 2 ^ 32)
    (hf : headerFault h true (genFree b) s = none) : receive h true b s =
    deliverBody (h.port % 2) b (onPort (h.port % 2) (fun (x : PortSt) =>
      { x with ahead := x.ahead.filter (fun y => y.1 != h.frameSeq), rxSeq := (x.rxSeq + 1) % 2 ^ 32 }) (frameTaken h true b s)) := by
  have hkept : ((frameTaken h true b s).port (h.port % 2)).ahead = [(h.frameSeq, b)] := by
    rw [frameTaken_ahead, ha, List.nil_append]
  have hnext : h.frameSeq = ((frameTaken h true b s).port (h.port % 2)).rxSeq := hn.trans (frameTaken_rxSeq h true b s).symm
  have hzero := seqAhead_expected hn hw
  simp only [receive, hf]
  rw [if_neg (by simp [hl]), if_neg (by simp [hzero, ha]), ha]
  exact deliverKept_one hkept hnext

/-- A frame not yet passed whose header shows a violation is discarded. -/
theorem receive_faulty (ha : (s.port (h.port % 2)).ahead = []) {v : Nat} (hs : seqAhead (h.port % 2) h.frameSeq s < 2 ^ 31)
    (hf : headerFault h true (genFree b) s = some v) : receive h true b s = frameRefused (h.port % 2) v s := by
  simp only [receive, hf]
  rw [if_neg (by simp [hl]), if_neg (by simp [-Nat.reducePow, Nat.not_le.mpr hs, ha])]

/-- A number accepted before is discarded before the replay counter is looked at (log entry 43). -/
theorem receive_duplicate (hs : 2 ^ 31 ≤ seqAhead (h.port % 2) h.frameSeq s) (ht : h.tagOk = true) : receive h true b s = s := by
  rw [receive]
  exact (if_neg (by simp [hl])).trans (if_pos (by simp [-Nat.reducePow, hs, ht]))

end

/-! ### The frame rows -/

/-- A row that means the arrival of a sealed frame receives it where every island runs. -/
theorem exec_of_onFrame {s : State} (hup : s.up = true) {h : FrameHdr} {b : FrameBody} {c : Instr} (hc : exec c s = onFrame h b s) :
    exec c s = .next (receive h true b s) := by
  rw [hc, onFrame, onUp_next hup]

section
variable {s : State} (hup : s.up = true) {h : FrameHdr}
include hup

/-- A PARITY frame that rebuilds nothing counts, and asks for nothing where no frame is missing. -/
theorem exec_parityFrame_none (hl : s.get (Reg.TWN_PORT_STATE_LINK (h.port % 2)) = 2) (ha : ((receive h false .keepalive s).port (h.port % 2)).ahead = []) :
    exec (.parityFrame h none) s = .next (receive h false .keepalive s) := by
  change execParityFrame h none s = _
  simp only [execParityFrame, onUp_next hup]
  rw [if_neg (not_not_intro hl), if_pos (by rw [ha, List.isEmpty_nil])]

/-- A SETUP frame on a port in setup: a refusal ends the port, the last one keys it, and any other is answered. -/
theorem exec_setupFrame (hl : s.get (Reg.TWN_PORT_STATE_LINK (h.port % 2)) = 1) {inst : Nat} (last ok : Bool) :
    exec (.setupFrame h last inst ok) s =
      .next (if !ok then portGone (h.port % 2) 0 (receive h false (.setup last inst ok) s)
        else if last then portKeyed (h.port % 2) inst (receive h false (.setup last inst ok) s)
        else sendSetup (h.port % 2) (receive h false (.setup last inst ok) s)) := by
  change execSetupFrame h last inst ok s = _
  rw [execSetupFrame, onUp_next hup]
  exact congrArg _ (if_neg (not_not_intro hl))

end

/-- Settles O55: every row of a sealed frame is `receive` of its body, so that its three outcomes are proved once. -/
theorem framesAreCheckedThenDeliveredInOrder : Obligations.FramesAreCheckedThenDeliveredInOrder := by
  unfold Obligations.FramesAreCheckedThenDeliveredInOrder
  intro s hup
  refine ⟨?sealed, fun h => exec_parityFrame_none hup, ?setup⟩
  case sealed =>
    intro h b c hc p hl ha
    have hrow : exec c s = onFrame h b s := by
      rcases hc with ⟨rfl, rfl⟩ | ⟨_, rfl, rfl⟩ | ⟨_, _, _, _, _, rfl, rfl⟩ | ⟨_, _, _, _, _, _, rfl, rfl⟩ | ⟨_, rfl, rfl⟩ | ⟨_, rfl, rfl⟩ |
        ⟨_, _, _, _, _, _, _, rfl, rfl⟩ | ⟨_, _, _, rfl, rfl⟩ | ⟨_, _, _, _, rfl, rfl⟩ | ⟨rfl, ⟨_, rfl⟩ | ⟨_, rfl⟩ | ⟨_, _, rfl⟩ | ⟨_, _, rfl⟩⟩ |
        ⟨_, _, _, _, _, rfl, rfl⟩ | ⟨_, rfl, rfl⟩ | ⟨_, rfl, rfl⟩ <;> rfl
    have e := exec_of_onFrame hup hrow
    exact ⟨fun hn hw hf => e.trans (congrArg _ (receive_expected hl ha hn hw hf)), fun v hs hf => e.trans (congrArg _ (receive_faulty hl ha hs hf)),
      fun hs ht => e.trans (congrArg _ (receive_duplicate hl hs ht))⟩
  case setup =>
    intro h inst hl
    have e := exec_setupFrame hup hl (inst := inst)
    exact ⟨(e true true).trans (congrArg _ ((if_neg (by decide)).trans (if_pos rfl))),
      (e false true).trans (congrArg _ ((if_neg (by decide)).trans (if_neg Bool.false_ne_true))), fun last => (e last false).trans (congrArg _ (if_pos rfl))⟩

end Sys2Proof.Machine
end

section
/-!
SUPPORT. The pair commands of mailbox group 0x06, whose payload byte 0 is the model's (log entry 46) (O41).
-/

namespace Sys2Proof.Machine

open Sys2Proof

section
variable {s : State} {m : Nat}

/-! ### The join (R133) -/

section
variable (h : s.runsCmd m 0x0605)
include h

/-- With no join waiting, the next one is accepted. -/
theorem exec_pairJoinAccept_next (hj : mayJoin s = true) (hw : s.twn.waitingJoin = false) :
    exec (.pairJoinAccept m) s = .next (complete m [] (s.onTwn fun x => { x with accept := true })) := by
  change execPairJoinAccept m s = _
  rw [execPairJoinAccept, onCmd_of_runsCmd h, if_neg (by simp [hj])]
  exact congrArg _ (if_neg (by simp [hw]))

theorem exec_pairJoinAccept_refused (hj : mayJoin s = false) : exec (.pairJoinAccept m) s = .next (refuse m .wrongMode noDetail s) := by
  change execPairJoinAccept m s = _
  rw [execPairJoinAccept, onCmd_of_runsCmd h, if_pos (by simp [hj])]

end

/-! ### The planned split (R150) -/

section
variable (h : s.runsCmd m 0x0606) (hb : reqNat s m 0 1 ≤ 1)
include h hb

/-- A split of a PAIRED module: it departs if its own position is named, and asks the twin to depart otherwise. -/
theorem exec_pairSplit_paired (hp : s.pair = .paired) (hm : s.mode = .paired) (hg : s.twn.margin = false) (hs : s.twn.split = none) :
    exec (.pairSplit m) s = .next (if reqNat s m 0 1 = s.pos then splitSync (beginDepart (some m) s)
      else sendSplit 4 (s.onTwn fun x => { x with split := some (some m, false), owned := (provisioned s).filter (fun n => !(ownsReach s n)) })) := by
  change execPairSplit m s = _
  rw [execPairSplit, onCmd_of_runsCmd h]
  exact congrArg _ ((if_neg (Nat.not_lt.mpr hb)).trans ((if_neg (by simp [hp, hm, hg])).trans (if_neg (by simp [hs]))))

theorem exec_pairSplit_refused (hp : s.pair ≠ .paired) : exec (.pairSplit m) s = .next (refuse m .wrongMode noDetail s) := by
  change execPairSplit m s = _
  rw [execPairSplit, onCmd_of_runsCmd h]
  exact congrArg _ ((if_neg (Nat.not_lt.mpr hb)).trans (if_pos (by simp [hp])))

end

/-! ### A contested pair (R137) -/

/-- A CONTESTED pair is settled for the module that byte 0 names; any other pair state refuses. -/
theorem exec_pairResolve (h : s.runsCmd m 0x0607) (hb : reqNat s m 0 1 ≤ 1) : exec (.pairResolve m) s =
    .next (if s.pair ≠ .contested then refuse m .wrongMode noDetail s
      else resolveTo (reqNat s m 0 1) (complete m [] (linkSend "CATCHUP_MAP" 5 (reqNat s m 0 1) [BitVec.ofNat 8 (reqNat s m 0 1)] s))) := by
  change execPairResolve m s = _
  rw [execPairResolve, onCmd_of_runsCmd h]
  exact congrArg _ (if_neg (Nat.not_lt.mpr hb))

/-! ### Starting alone (R138) -/

/-- A QUIESCED module whose restore outcome is known, with no twin and nothing that blocks it, declares its twin lost with cause COMMAND (7); the
command itself completes after the takeover (log entry 40). -/
theorem exec_soloStart_takesOver (h : s.runsCmd m 0x0608) (hm : s.mode = .quiesced) (hr : s.get Reg.MOD_STATE_RESTORE ≠ 0)
    (ht : s.get Reg.TWN_STATE_TWIN_MODE = 0) (hb : s.get Reg.MOD_STATE_SERVE_BLOCK = 0) (hp : s.pair = .unpaired ∨ s.pair = .fenced ∨ s.pair = .contested) :
    exec (.soloStart m) s = .next (declareLost 7 true (s.onTwn fun x => { x with soloMbx := some m, margin := false })) := by
  have hstate : s.pair ≠ .catchingUp ∧ s.pair ≠ .solo := by
    rcases hp with e | e | e <;> rw [e] <;> decide
  obtain ⟨hcatch, hsolo⟩ := hstate
  change execSoloStart m s = _
  rw [execSoloStart, onCmd_of_runsCmd h, if_neg (not_not_intro hm), if_neg (by simp [hcatch, hr, ht]), if_neg (by rcases hp with e | e | e <;> simp [e]),
    if_neg (not_not_intro hb), if_neg hsolo]

/-! ### Links (R157) -/

section
variable (h : s.runsCmd m 0x0609)
include h

theorem exec_linkUnfence_cable (hk : reqNat s m 0 1 = 0) : exec (.linkUnfence m) s = .next (complete m [] (unfenceLink 0 s)) := by
  change execLinkUnfence m s = _
  rw [execLinkUnfence, onCmd_of_runsCmd h]
  exact congrArg _ (if_pos hk)

theorem exec_linkUnfence_port (hk : reqNat s m 0 1 = 4 ∨ reqNat s m 0 1 = 5) :
    exec (.linkUnfence m) s = .next (complete m [] (portSync (unfenceLink (reqNat s m 0 1 - 3) s))) := by
  change execLinkUnfence m s = _
  rw [execLinkUnfence, onCmd_of_runsCmd h]
  exact congrArg _ ((if_neg (by omega)).trans (if_pos (by simpa using hk)))

end

end

/-- Settles O41, a command at a time. -/
theorem pairCommandsComplete : Obligations.PairCommandsComplete := by
  unfold Obligations.PairCommandsComplete
  intro s m
  refine ⟨?status, fun h => ⟨exec_pairJoinAccept_next h, exec_pairJoinAccept_refused h⟩, ?split, ?resolve, exec_soloStart_takesOver,
    fun h => ⟨exec_linkUnfence_cable h, exec_linkUnfence_port h⟩⟩
  case status => exact fun h => onCmd_of_runsCmd h (completeFree m 64)
  case split =>
    refine fun h hb => ⟨fun hp hm hg hs => ?_, exec_pairSplit_refused h hb⟩
    have e := exec_pairSplit_paired h hb hp hm hg hs
    exact ⟨fun hself => by rwa [if_pos hself] at e, fun htwin => by rwa [if_neg htwin] at e⟩
  case resolve =>
    intro h p hb
    have e := exec_pairResolve h hb
    exact ⟨fun hc => e.trans (congrArg _ (if_neg (not_not_intro hc))), fun hc => e.trans (congrArg _ (if_pos hc))⟩

end Sys2Proof.Machine
end

section
/-!
SUPPORT. The loss of the twin and the takeover (O44), and the events of a join and of RESYNC (O46).
-/

namespace Sys2Proof.Machine

open Sys2Proof

section
variable {s : State} (hup : s.up = true)
include hup

/-! ### Declarations (R139, R144) -/

theorem exec_hbTimeout_silent (hs : silent s = true) (hc : s.flag Reg.TWN_STATE_CABLE_FAULT = false) : exec .hbTimeout s = .next (declareLost 1 true s) := by
  change execHbTimeout s = _
  rw [execHbTimeout, onUp_next hup, if_pos (by simp [hs, hc])]

theorem exec_stall_due (hh : s.epoch ≥ s.twn.heldAt + 8) (hr : ∃ r ∈ unackedRecs s, s.epoch ≥ r.epoch + 8) : exec .stall s = .next (declareLost 4 true s) := by
  have hold : (unackedRecs s).any (fun r => decide (s.epoch ≥ r.epoch + 8)) = true := by simpa using hr
  change execStall s = _
  rw [execStall, onUp_next hup, hold, if_pos (by simp [hh])]

theorem exec_fenceMarginEnd_due (hm : s.twn.margin = true) (he : s.epoch ≥ s.get Reg.TWN_TKO_EPOCH_EPOCH + 1) :
    exec .fenceMarginEnd s = .next (takeoverEnd s) := by
  change execFenceMarginEnd s = _
  rw [execFenceMarginEnd, onUp_next hup, if_pos (by simp [hm, he])]

/-! ### Arbitration and the cable fault (R141, R142) -/

/-- With both ports down and words going on, this module loses if it alone is DEGRADED, or at position 1 if both are or neither is. -/
theorem exec_mirrorPathArbitration_due {t : Nat} (hd : s.twn.downAt = some t) (hm : s.mirrors = true) (ht : s.epoch ≥ t + 4)
    (hw : s.epoch < s.twn.wordAt + 4) (hc : s.flag Reg.TWN_STATE_CABLE_FAULT = false) (hf : s.twn.twinCf = false) (hg : s.twn.margin = false) :
    exec .mirrorPathArbitration s =
      .next (if (s.flag Reg.TWN_STATE_DEGRADED && !(s.flag Reg.TWN_STATE_TWIN_DEGRADED)) ||
          (s.flag Reg.TWN_STATE_DEGRADED == s.flag Reg.TWN_STATE_TWIN_DEGRADED && s.pos == 1)
        then fenceNow s else s.onTwn fun x => { x with arbWon := true }) := by
  change execMirrorPathArbitration s = _
  simp only [execMirrorPathArbitration, onUp_next hup, hd]
  exact congrArg _ (if_pos (by simp [hm, ht, hw, hc, hf, hg]))

/-- Under a cable fault and without frames, position 1 fences itself and position 0 declares LINK_AND_CABLE (6), each after its own time. -/
theorem exec_linkAndCable_faulty (hc : s.flag Reg.TWN_STATE_CABLE_FAULT = true) (hm : s.mirrors = true) (hg : s.twn.margin = false) : exec .linkAndCable s =
    .next (if s.pos = 1 then (if s.epoch ≥ s.twn.frameAt + 4 then fenceNow s else s)
      else if s.epoch ≥ s.twn.frameAt + 6 then declareLost 6 true s else s) := by
  change execLinkAndCable s = _
  rw [execLinkAndCable, onUp_next hup, if_neg (by simp [hc, hm, hg])]

/-! ### Joining (R133, R134, R615) -/

/-- Where a join can run it starts if it may, and is asked for otherwise. -/
theorem exec_joinStart_able {identity : Nat} (hj : mayJoin s = true) (ht : s.get Reg.TWN_STATE_TWIN_MODE ≠ 0)
    (hp : portSends s 0 = true ∨ portSends s 1 = true) (hc : s.flag Reg.TWN_STATE_CABLE_FAULT = false) : exec (.joinStart identity) s =
    .next (if s.twn.accept || (s.flag Reg.TWN_CFG_AUTO_REJOIN && s.get Reg.TWN_TWIN_ID_ID == identity) then startJoin s
      else if s.twn.waitingJoin then s else raise 0x050B 0 identity (s.onTwn fun x => { x with waitingJoin := true })) := by
  change execJoinStart identity s = _
  rw [execJoinStart, onUp_next hup, if_neg (by rcases hp with e | e <;> simp [hj, ht, hc, e])]

/-- A JOINING module that hears nothing is back in the pair state it held. -/
theorem exec_joinAbandon_silent (hj : s.twn.joining = true) (hp : s.pair = .joining) (hs : silent s = true) : exec .joinAbandon s =
    .next (setPair (PairState.ofCode s.twn.before) (s.onTwn fun x => { x with joining := false, reconciling := false, entry := none, hist := none })) := by
  change execJoinAbandon s = _
  rw [execJoinAbandon, onUp_next hup, if_pos (by simp [hj, hp, hs])]
  exact congrArg _ (if_pos hp)

section
variable {h : TwinHist} (hh : s.twn.hist = some h) (hj : s.twn.joining = true) (hr : s.twn.reconciling = false) (he : s.twn.entry = none)
  (ht : s.twn.twinSettled = false) (lacks retired : List (Nat × Nat)) (grans : List Nat)
include hh hj hr he ht

theorem exec_joinSettle_catching (hv : joinVerdict h s = 1) : exec (.joinSettle lacks retired grans) s = .next (settleCatching false false s) := by
  change execJoinSettle lacks retired grans s = _
  simp only [execJoinSettle, onUp_next hup, hh, hv]
  rw [if_neg (by simp [hj, hr, he, ht])]

theorem exec_joinSettle_authority (hv : joinVerdict h s = 3) : exec (.joinSettle lacks retired grans) s = .next (settleAuthority false s) := by
  change execJoinSettle lacks retired grans s = _
  simp only [execJoinSettle, onUp_next hup, hh, hv]
  rw [if_neg (by simp [hj, hr, he, ht])]

end

/-! ### RESYNC (R151, R153, R154, R155) -/

/-- The next granule is sent, unless its move lock is held or awaited. -/
theorem exec_resyncStream_free {g : Nat} (hp : s.pair = .resyncing) (hg : s.twn.margin = false) (hm : mayStream s = true) (hn : nextStream s = some g)
    (hl : (s.gran g).lock = none) (hw : (s.gran g).waiters = []) : exec .resyncStream s =
    .next ((sendGranule g (s.onTwn fun x =>
      { x with streamed := x.streamed ++ [g], rsyCount := x.rsyCount + 1,
               streamBytes := (s.epoch, 16384) :: x.streamBytes.filter (fun b => decide (s.epoch < b.1 + 100)) })).inc (Reg.TWN_RSY_STAT_COUNT 0)) := by
  change execResyncStream s = _
  simp only [execResyncStream, onUp_next hup, hn]
  exact congrArg _ ((if_neg (by simp [hp, hg, hm])).trans (if_neg (by simp [hl, hw])))

section
variable (hg : s.twn.margin = false) (hm : s.twn.cub = []) (hr : s.twn.coarse = [])
include hg hm hr

theorem exec_resyncEnd_authority (hp : s.pair = .resyncing) (hs : s.twn.streamed = []) : exec .resyncEnd s = .next (arrive .paired s) := by
  change execResyncEnd s = _
  rw [execResyncEnd, onUp_next hup]
  exact congrArg _ ((if_neg (ne_true_of_eq_false hg)).trans (if_pos (by simp [hp, hm, hr, hs])))

theorem exec_resyncEnd_catching (hp : s.pair = .catchingUp) (hq : s.twn.partialG = []) (hc : s.twn.merged = []) (hh : s.twn.hist ≠ none)
    (hd : s.twn.deaf = false) : exec .resyncEnd s = .next (enterServing .paired s) := by
  have hsome : s.twn.hist.isSome = true := Option.isSome_iff_ne_none.mpr hh
  change execResyncEnd s = _
  rw [execResyncEnd, onUp_next hup]
  exact congrArg _ ((if_neg (ne_true_of_eq_false hg)).trans ((if_neg (by simp [hp])).trans (if_pos (by simp [hp, hm, hr, hq, hc, hsome, hd]))))

end

end

/-! ### The comparison of histories (R133, R134) -/

/-- Two modules that know each other and whose restores have not failed are told apart by their generations. -/
theorem joinVerdict_of_gen {s : State} {h : TwinHist} (hi : s.get Reg.TWN_TWIN_ID_ID = h.identity) (ht : h.twinOf = s.store.identity)
    (hr : restoreFailed s = false) (hf : h.restore ≠ 3) (hg : s.get Reg.TWN_GEN_GEN ≠ h.gen) :
    joinVerdict h s = if s.get Reg.TWN_GEN_GEN < h.gen then 1 else 3 := by
  have hlt : ¬ s.get Reg.TWN_GEN_GEN < h.gen → h.gen < s.get Reg.TWN_GEN_GEN := by omega
  by_cases hc : s.get Reg.TWN_GEN_GEN < h.gen
  · simp [joinVerdict, hi, ht, hr, hf, hc]
  · simp [joinVerdict, hi, ht, hr, hf, hc, hlt hc]

/-- Settles O44, an event at a time. -/
theorem lossOfTheTwinActsAsStated : Obligations.LossOfTheTwinActsAsStated := by
  unfold Obligations.LossOfTheTwinActsAsStated
  intro s hup
  refine ⟨exec_hbTimeout_silent hup, exec_stall_due hup, ?equal, ?degraded, ?cable, exec_fenceMarginEnd_due hup⟩
  case equal =>
    intro t hd hm ht hw hc hf hg he
    have e := exec_mirrorPathArbitration_due hup hd hm ht hw hc hf hg
    exact ⟨fun hp => e.trans (congrArg _ (if_pos (by simp [he, hp]))), fun hp => e.trans (congrArg _ (if_neg (by simp [he, hp])))⟩
  case degraded =>
    intro t hd hm ht hw hc hf hg hmine hits
    exact (exec_mirrorPathArbitration_due hup hd hm ht hw hc hf hg).trans (congrArg _ (if_pos (by simp [hmine, hits])))
  case cable =>
    intro hc hm hg
    have e := exec_linkAndCable_faulty hup hc hm hg
    exact ⟨fun hp hs => e.trans (congrArg _ ((if_pos hp).trans (if_pos hs))), fun hp hs => e.trans (congrArg _ ((if_neg hp).trans (if_pos hs)))⟩

/-- Settles O46, an event at a time. -/
theorem joinAndResyncEventsComplete : Obligations.JoinAndResyncEventsComplete := by
  unfold Obligations.JoinAndResyncEventsComplete
  intro s hup
  refine ⟨?start, exec_joinAbandon_silent hup, ?settle, fun g => exec_resyncStream_free hup, fun hg hm hr => ⟨exec_resyncEnd_authority hup hg hm hr,
    exec_resyncEnd_catching hup hg hm hr⟩⟩
  case start =>
    intro identity hj ht hp hc
    have e := exec_joinStart_able hup hj ht hp hc (identity := identity)
    refine ⟨fun ha => e.trans (congrArg _ (if_pos (by simpa using ha))), fun ha hr hw => ?_⟩
    exact e.trans (congrArg _ ((if_neg (by simp [ha, hr])).trans (if_neg (ne_true_of_eq_false hw))))
  case settle =>
    intro h lacks retired grans hh hj hr he ht hi hk hrest hf
    refine ⟨fun hg => exec_joinSettle_catching hup hh hj hr he ht lacks retired grans ?_,
      fun hg => exec_joinSettle_authority hup hh hj hr he ht lacks retired grans ?_⟩
    · exact (joinVerdict_of_gen hi hk hrest hf (Nat.ne_of_lt hg)).trans (if_pos hg)
    · exact (joinVerdict_of_gen hi hk hrest hf (Nat.ne_of_gt hg)).trans (if_neg (Nat.not_lt.mpr (Nat.le_of_lt hg)))

end Sys2Proof.Machine
end

section
/-!
SUPPORT. The bench's bank and maintenance commands, whose answers and discards are the model's (log entry 102), its fills and its write-backs (O48).
-/

namespace Sys2Proof.Machine

open Sys2Proof

/-! ### A write with a row of its own (R585, R586, R588) -/

section
variable {s : State} {acc off level : Nat} (f : State → State) (hw : writeCarried acc s = true)
include hw

theorem pulseWrite_below (hl : accessorLevel acc s < level) : pulseWrite acc off level f s = mgmtReply acc .notPermitted (discardBelow acc off s) := by
  rw [pulseWrite, if_neg (by simp [hw]), if_pos hl]

theorem pulseWrite_permitted (hl : level ≤ accessorLevel acc s) : pulseWrite acc off level f s = mgmtReply acc .done (f s) := by
  rw [pulseWrite, if_neg (by simp [hw]), if_neg (Nat.not_lt.mpr hl)]

end

/-! ### A maintenance request (R210) -/

section
variable {s : State} (acc op : Nat)

theorem maintGo_busy (h : s.get Reg.BCH_MAINT_OP_BUSY = 1) : maintGo acc op s = s.put Reg.BCH_MAINT_OP_STATUS St.busy.code := if_pos h

variable {acc op} (h : s.get Reg.BCH_MAINT_OP_BUSY ≠ 1)
include h

theorem maintGo_passes (hc : maintCheck acc (s.put Reg.BCH_MAINT_OP_OP op) = none) : maintGo acc op s = maintCut op (s.put Reg.BCH_MAINT_OP_OP op) := by
  simp only [maintGo, if_neg h, hc]

theorem maintGo_refused {st : St} (hc : maintCheck acc (s.put Reg.BCH_MAINT_OP_OP op) = some st) :
    maintGo acc op s = (s.put Reg.BCH_MAINT_OP_OP op).put Reg.BCH_MAINT_OP_STATUS st.code := by
  simp only [maintGo, if_neg h, hc]

end

/-- The row of a maintenance operation: 0 INVALIDATE, 1 CLEAN, 2 FLUSH. -/
def IsMaintRow (acc op : Nat) (c : Instr) : Prop :=
  (op = 0 ∧ c = Instr.benchInvalidate acc) ∨ (op = 1 ∧ c = Instr.benchClean acc) ∨ (op = 2 ∧ c = Instr.benchFlush acc)

section
variable {s : State} (hup : s.up = true)
include hup

/-- The three maintenance rows are one write of GO, each with its operation (R207). -/
theorem exec_maintRow {acc op : Nat} {c : Instr} (hc : IsMaintRow acc op c) : exec c s = .next (pulseWrite acc 0x182000 1 (maintGo acc op) s) := by
  rcases hc with ⟨rfl, rfl⟩ | ⟨rfl, rfl⟩ | ⟨rfl, rfl⟩
  · exact show execBenchInvalidate acc s = _ from onUp_next hup
  · exact show execBenchClean acc s = _ from onUp_next hup
  · exact show execBenchFlush acc s = _ from onUp_next hup

/-! ### Banks (R213 to R217) -/

section
variable {b : Nat} (hb : b < 16)
include hb

/-- INVALIDATE moves a DISABLED bank on, and is an event on any other (R214, R216). -/
theorem exec_bchBankInvalidate (acc : Nat) : exec (.bchBankInvalidate acc b) s =
    .next (pulseWrite acc (0x181000 + 0x40 * b) 1 (fun s =>
      if s.get (Reg.BCH_BANK_STATE_STATE b) = 0 then s.put (Reg.BCH_BANK_STATE_STATE b) 3
      else raise 0x0344 b (s.get (Reg.BCH_BANK_STATE_STATE b)) s) s) := by
  change execBchBankInvalidate acc b s = _
  simp only [execBchBankInvalidate, onUp_next hup, Nat.mod_eq_of_lt hb]

theorem exec_bankInvalidateDone_invalidating (h : s.get (Reg.BCH_BANK_STATE_STATE b) = 3) : exec (.bankInvalidateDone b) s =
    .next (dirtySync b (((s.onTir fun x => { x with bench := x.bench.filter (fun e => e.1 / 12288 != b) }).put
      (Reg.BCH_BANK_STATE_STATE b) 0).put (Reg.BCH_BANK_STATE_INVALIDATED b) 1)) := by
  change execBankInvalidateDone b s = _
  simp only [execBankInvalidateDone, onUp_next hup, Nat.mod_eq_of_lt hb]
  exact congrArg _ (if_neg (not_not_intro h))

theorem exec_bankWritebackDone_disabling (h : s.get (Reg.BCH_BANK_STATE_STATE b) = 2) : exec (.bankWritebackDone b) s =
    .next (dirtySync b (((s.onTir fun x =>
      { x with bench := x.bench.map (fun (e : Nat × BWay) => if e.1 / 12288 = b then (e.1, { e.2 with dirty := 0 }) else e) }).add
        (Reg.BCH_STAT_COUNT b 5) (s.tir.bench.filter (fun e => e.1 / 12288 == b && e.2.dirty != 0)).length).put (Reg.BCH_BANK_STATE_STATE b) 0)) := by
  change execBankWritebackDone b s = _
  simp only [execBankWritebackDone, onUp_next hup, Nat.mod_eq_of_lt hb]
  exact congrArg _ (if_neg (not_not_intro h))

/-- An ENABLED bank that counted PARITY_LIMIT errors in 24 h is disabled by itself (R217). -/
theorem exec_parityLimitReached_due {n : Nat} (hn : (s.tir.parity.filter (fun e => e.1 == b && decide (s.epoch < e.2 + 86400000000))).length = n)
    (h0 : s.get Reg.BCH_CFG_PARITY_LIMIT ≠ 0) (hl : s.get Reg.BCH_CFG_PARITY_LIMIT ≤ n) (ho : bankOn s b = true) : exec (.parityLimitReached b) s =
    .next (raise 0x0342 b n (((s.put (Reg.BCH_BANK_STATE_STATE b) 2).put (Reg.BCH_BANK_STATE_INVALIDATED b) 0).put
      (Reg.BCH_BANK_STATE_AUTO_DISABLED b) 1)) := by
  change execParityLimitReached b s = _
  simp only [execParityLimitReached, onUp_next hup, Nat.mod_eq_of_lt hb, hn]
  exact congrArg _ (if_neg (by simp [h0, hl, ho]))

end

/-! ### Fills and write-backs (R198, R204) -/

theorem exec_benchFillLanded_uncut {isMeta : Bool} {ba : Nat} {f : BFill} (hf : s.tir.bfills.find? (fun f => f.isMeta == isMeta && f.ba == ba) = some f)
    (ho : bankOn s (benchBank ba) = true) (hc : f.cut = false) : exec (.benchFillLanded isMeta ba) s = .next (installFill f s) := by
  change execBenchFillLanded isMeta ba s = _
  simp only [execBenchFillLanded, onUp_next hup, hf]
  exact congrArg _ ((if_neg (by simp [ho])).trans (if_neg (ne_true_of_eq_false hc)))

theorem exec_victimWritebackAck_unwaited {ba : Nat} {v : VictimEnt} (hv : s.tir.victims.find? (fun v => v.ba == ba) = some v) (hw : v.waits = []) :
    exec (.victimWritebackAck ba) s = .next (victimSync (s.onTir fun x => { x with victims := x.victims.erase v })) := by
  change execVictimWritebackAck ba s = _
  simp only [execVictimWritebackAck, onUp_next hup, hv]
  exact congrArg _ (if_pos (by simp [hw]))

end

/-- Settles O48: INVALIDATE and the maintenance rows by the write's level and then the bench's state, each event by its own lemma. -/
theorem benchCommandsAndEventsComplete : Obligations.BenchCommandsAndEventsComplete := by
  unfold Obligations.BenchCommandsAndEventsComplete
  intro s hup
  refine ⟨?invalidate, fun b hb => ⟨exec_bankInvalidateDone_invalidating hup hb, exec_bankWritebackDone_disabling hup hb,
    exec_parityLimitReached_due hup hb rfl⟩, ?maintenance, fun isMeta ba f => exec_benchFillLanded_uncut hup, fun ba v => exec_victimWritebackAck_unwaited hup⟩
  case invalidate =>
    intro acc b hb hw
    rw [exec_bchBankInvalidate hup hb]
    refine ⟨fun hl => congrArg _ (pulseWrite_below _ hw hl), fun hl hd => ?disabled, fun hl hd => ?other⟩
    case disabled => rw [pulseWrite_permitted _ hw hl, if_pos hd]
    case other => rw [pulseWrite_permitted _ hw hl, if_neg hd]
  case maintenance =>
    intro acc op c hc hw
    rw [exec_maintRow hup hc]
    refine ⟨fun hl => congrArg _ (pulseWrite_below _ hw hl), fun hl => ?_⟩
    rw [pulseWrite_permitted _ hw hl]
    refine ⟨fun hy => ?busy, fun hn => ⟨fun hm => ?passes, fun st hm => ?refused⟩⟩
    case busy => rw [maintGo_busy acc op hy]
    case passes => rw [maintGo_passes hn hm]
    case refused => rw [maintGo_refused hn hm]

end Sys2Proof.Machine
end

section
/-!
SUPPORT. The footing's boards, dies and format, the ladder, the scrub and the error thresholds (O50). That a release takes one step and a rebuild is counted
at its end (log entry 79), that a scrub's progress is an operand (74), what counts against a threshold (80) and the reply to an injection (102) are the
model's.
-/

namespace Sys2Proof.Machine

open Sys2Proof

/-! ### Board commands (R256, R259) -/

section
variable {s : State} {m : Nat}

/-- With every other board ONLINE the board's channels go to state 0 and it is ABSENT, after open stripes are padded and closed and erases abandoned. -/
theorem exec_boardRelease_othersOnline (h : s.runsCmd m 0x0801) {b : Nat} (hb : reqNat s m 0 1 % 8 = b)
    (ho : ∀ o, o < 8 → o ≠ b → s.get (Reg.SLC_BOARD_STATE_STATE o) = 0) (hs : s.get (Reg.SLC_BOARD_STATE_STATE b) ≠ 2) : exec (.boardRelease m) s =
    .next (complete m [] (boardAbsent b false
      ((List.range 4).foldl (fun s k => s.put (Reg.SLC_CH_STATE_STATE (4 * b + k)) 0) (abandonErases (padAndClose s))))) := by
  have hothers : ¬ (List.range 8).any (fun o => o != b && s.get (Reg.SLC_BOARD_STATE_STATE o) != 0) = true := by simpa using ho
  change execBoardRelease m s = _
  simp only [execBoardRelease, onCmd_of_runsCmd h, hb]
  exact congrArg _ ((if_neg hothers).trans (if_neg hs))

/-- An ABSENT board of a module that may take it in: what training and identification give decides. -/
theorem exec_boardAdmit_absent (h : s.runsCmd m 0x0802) (hq : s.serving = true ∨ s.mode = .quiesced)
    (hk : bitOf 3 (s.get Reg.MOD_STATE_SERVE_BLOCK) = false) (hs : s.get (Reg.SLC_BOARD_STATE_STATE (reqNat s m 0 1 % 8)) = 2)
    (fault place : Nat) (dies bad : List Nat) : exec (.boardAdmit m fault place dies bad) s =
    let b := reqNat s m 0 1 % 8
    let c := 4 * b + place / 16 % 4
    .next (if fault = 1 then refuse m .mediaFailed (atPayload 0) (raise 0x040F c 0 (sluiceFailed c s))
      else if fault = 2 then refuse m .mediaFailed (atPayload 0) (raise 0x040B c (place % 16) (s.put (Reg.SLC_CH_STATE_MISMATCH c) 1))
      else if fault = 3 then refuse m .mediaFailed (atPayload 0) (raise 0x040B c (place % 16) s)
      else complete m [] (admitBoard b dies bad s)) := by
  change execBoardAdmit m fault place dies bad s = _
  rw [execBoardAdmit, onCmd_of_runsCmd h]
  exact congrArg _ ((if_neg (by rcases hq with e | e <;> simp [e])).trans ((if_neg (ne_true_of_eq_false hk)).trans (if_neg (not_not_intro hs))))

/-! ### The format (R261) -/

section
variable (h : s.runsCmd m 0x0803) (bad : List Nat)
include h

theorem exec_footingFormat_wrongMode (hq : s.mode ≠ .quiesced) : exec (.footingFormat m bad) s = .next (refuse m .wrongMode noDetail s) := by
  change execFootingFormat m bad s = _
  rw [execFootingFormat, onCmd_of_runsCmd h, if_pos (by simpa using hq)]

/-- In QUIESCED a persistent reach forbids the format. -/
theorem exec_footingFormat_quiesced (hq : s.mode = .quiesced) : exec (.footingFormat m bad) s =
    .next (if 0 < reachesOf 0 s then refuse m .notPermitted noDetail s else completeFree m 16 (formatFooting bad s)) := by
  change execFootingFormat m bad s = _
  rw [execFootingFormat, onCmd_of_runsCmd h, if_neg (by simpa using hq)]

end

end

section
variable {s : State} (hup : s.up = true)
include hup

/-! ### Quarter reads and the ladder (R278, R282) -/

section
variable {g q : Nat} (hq : q < 4)
include hq

/-- A read of a quarter that no ladder is on is counted; a bad one that a fill waits for starts the ladder. -/
theorem exec_quarterReadDone_first (hl : ladderOn g q s = none) (ok : Bool) : exec (.quarterReadDone g q ok) s =
    let t := s.inc (Reg.SLC_CH_STAT_COUNT (quarterSluice g q s) 0)
    .next (if ok || !(bitOf q (s.gran g).fillQ) then t else startLadder g q t) := by
  change execQuarterReadDone g q ok s = _
  simp only [execQuarterReadDone, onUp_next hup, Nat.mod_eq_of_lt hq, hl]

theorem exec_ladderDeadline_due {l : Ladder} (hl : ladderOn g q s = some l) (hd : l.deadline ≤ s.epoch) :
    exec (.ladderDeadline g q) s = .next (ladderPoison g q true s) := by
  change execLadderDeadline g q s = _
  simp only [execLadderDeadline, onUp_next hup, Nat.mod_eq_of_lt hq, hl]
  exact congrArg _ (if_neg (Nat.not_lt.mpr hd))

end

/-! ### Dies, channels and boards (R255, R256, R260) -/

theorem exec_dieTimeout_unfailed {c d : Nat} (hc : c < 32) (hd : d < 16) (hf : bitOf d (s.get (Reg.SLC_CH_STATE_DIES_FAILED c)) = false) :
    exec (.dieTimeout c d) s = .next (retireLane (16 * (c % 4) + d) (raise 0x0407 c d
      (s.put (Reg.SLC_CH_STATE_DIES_FAILED c) (setBit (s.get (Reg.SLC_CH_STATE_DIES_FAILED c)) d true)))) := by
  change execDieTimeout c d s = _
  simp only [execDieTimeout, onUp_next hup, Nat.mod_eq_of_lt hc, Nat.mod_eq_of_lt hd]
  exact congrArg _ (if_neg (ne_true_of_eq_false hf))

theorem exec_channelTrainingFail_present {c : Nat} (hc : c < 32) (hs : s.get (Reg.SLC_BOARD_STATE_STATE (c / 4)) ≠ 2) :
    exec (.channelTrainingFail c) s = .next (boardAbsent (c / 4) true (raise 0x040F c 0 (sluiceFailed c s))) := by
  change execChannelTrainingFail c s = _
  simp only [execChannelTrainingFail, onUp_next hup, Nat.mod_eq_of_lt hc]
  exact congrArg _ (if_neg hs)

section
variable {b : Nat} (hb : b < 8)
include hb

theorem exec_boardSurpriseAbsent_present (hs : s.get (Reg.SLC_BOARD_STATE_STATE b) ≠ 2) : exec (.boardSurpriseAbsent b) s =
    .next (boardAbsent b true ((List.range 4).foldl (fun s k => sluiceFailed (4 * b + k) s) s)) := by
  change execBoardSurpriseAbsent b s = _
  simp only [execBoardSurpriseAbsent, onUp_next hup, Nat.mod_eq_of_lt hb]
  exact congrArg _ (if_neg hs)

/-- A REBUILDING board is ONLINE; the stripes still CLOSED are counted as rebuilt. -/
theorem exec_boardRebuildDone_rebuilding (hs : s.get (Reg.SLC_BOARD_STATE_STATE b) = 4) : exec (.boardRebuildDone b) s =
    let n := (s.med.rebuildQ.filter (fun k => (s.stripe k).state == 3)).length
    let t := (s.onMed fun x => { x with rebuildQ := [] }).add (Reg.SLC_FTG_STAT_COUNT 5) n
    .next (raise 0x0409 b n ((t.put (Reg.SLC_BOARD_STATE_STATE b) 0).put (Reg.SLC_BOARD_STATE_REBUILD_LEFT b) 0)) := by
  change execBoardRebuildDone b s = _
  simp only [execBoardRebuildDone, onUp_next hup, Nat.mod_eq_of_lt hb]
  exact congrArg _ (if_neg (not_not_intro hs))

end

/-! ### The scrub (R290, R293) -/

/-- A running scrub reads a quarter of the footing (domain 2) or a line of the loft or the floor, once its progress is noted. -/
theorem exec_scrubRead_on {d : Nat} (hd : d < 3) (hon : scrubOn d s = true) (unit target region result amount progress : Nat) :
    exec (.scrubRead d unit target region result amount progress) s =
    .next (if d = 2 then scrubQuarter target region result amount (scrubProgress d progress s)
      else scrubLine (d == 0) unit target region result amount (scrubProgress d progress s)) := by
  change execScrubRead d unit target region result amount progress s = _
  simp only [execScrubRead, onUp_next hup, Nat.mod_eq_of_lt hd]
  exact congrArg _ (if_neg (by simp [hon]))

theorem exec_scrubPassLate_due {d t : Nat} (hd : d < 3) (ht : tfind d s.tir.scrubAt = some t) (he : t + scrubPeriod d s < s.epoch)
    (hf : s.flag (Reg.ECC_SCRUB_STATE_LATE d) = false) :
    exec (.scrubPassLate d) s = .next (raise 0x0312 d 0 (s.put (Reg.ECC_SCRUB_STATE_LATE d) 1)) := by
  change execScrubPassLate d s = _
  simp only [execScrubPassLate, onUp_next hup, Nat.mod_eq_of_lt hd, ht]
  exact congrArg _ (if_neg (by simp [hf, he]))

/-! ### Error thresholds (R294) -/

theorem exec_eccThresholdReached_device {c d : Nat} (hc : c < 16) (hd : d < 40) (h0 : s.get Reg.ECC_THRESH_DEV_CE ≠ 0)
    (hn : s.get Reg.ECC_THRESH_DEV_CE ≤ errsOf s (40 * c + d)) : exec (.eccThresholdReached 0 c d) s = .next (raise 0x030B c d s) := by
  change execEccThresholdReached 0 c d s = _
  simp only [execEccThresholdReached, onUp_next hup, Nat.mod_eq_of_lt hc, Nat.mod_eq_of_lt hd, reduceIte]
  exact congrArg _ (if_neg (by simp [h0, hn]))

theorem exec_eccThresholdReached_channel {c : Nat} (d : Nat) (hc : c < 16) (h0 : s.get Reg.ECC_THRESH_CH_UE ≠ 0)
    (hn : s.get Reg.ECC_THRESH_CH_UE ≤ errsOf s (640 + c)) (h3 : unitState s (14 + c) ≠ 3) (h5 : unitState s (14 + c) ≠ 5) :
    exec (.eccThresholdReached 1 c d) s = .next (settle (loseChannel c (raise 0x030C c (errsOf s (640 + c)) s))) := by
  change execEccThresholdReached 1 c d s = _
  simp only [execEccThresholdReached, onUp_next hup, Nat.mod_eq_of_lt hc, Nat.one_ne_zero, reduceIte]
  exact congrArg _ (if_neg (by simp [h0, hn, h3, h5]))

theorem exec_eccThresholdReached_stack {k : Nat} (d : Nat) (hk : k < 4) (h0 : s.get Reg.ECC_THRESH_STACK_UE ≠ 0)
    (hn : s.get Reg.ECC_THRESH_STACK_UE ≤ errsOf s (656 + k)) (h3 : unitState s (30 + k) ≠ 3) (h5 : unitState s (30 + k) ≠ 5) :
    exec (.eccThresholdReached 2 k d) s = .next (fenceStack k (raise 0x030C (16 + k) (errsOf s (656 + k)) s)) := by
  change execEccThresholdReached 2 k d s = _
  simp only [execEccThresholdReached, onUp_next hup, Nat.mod_eq_of_lt hk, Nat.reduceEqDiff, reduceIte]
  exact congrArg _ (if_neg (by simp [h0, hn, h3, h5]))

/-! ### The injection (R586) -/

/-- ECC_INJECT is a write with a row of its own, which FACTORY level (3) permits. -/
theorem exec_eccInjectArm (acc domain unit kind : Nat) : exec (.eccInjectArm acc domain unit kind) s =
    .next (pulseWrite acc 0x206000 3 (fun s =>
      ((((s.put Reg.ECC_INJECT_DOMAIN domain).put Reg.ECC_INJECT_UNIT unit).put Reg.ECC_INJECT_KIND kind).put Reg.ECC_INJECT_ARM 1).onTir
        fun x => { x with inject := some (domain % 4, unit % 32, kind % 4) }) s) :=
  show execEccInjectArm acc domain unit kind s = _ from onUp_next hup

end

/-- Settles O50: the board commands and the format by what they find, the events each by its own lemma, the injection by the write's level. -/
theorem footingAndIntegrityComplete : Obligations.FootingAndIntegrityComplete := by
  unfold Obligations.FootingAndIntegrityComplete
  refine ⟨fun s m => ⟨fun h => exec_boardRelease_othersOnline h rfl, ?boardAdmit, ?footingFormat, fun h => onCmd_of_runsCmd h (completeFree m 256)⟩,
    fun s hup => ⟨?quarter, fun g q l hq => exec_ladderDeadline_due hup hq, fun c d => exec_dieTimeout_unfailed hup,
      fun c => exec_channelTrainingFail_present hup,
      fun b hb => ⟨exec_boardSurpriseAbsent_present hup hb, exec_boardRebuildDone_rebuilding hup hb⟩, ?scrub,
      fun d t => exec_scrubPassLate_due hup, fun c d => exec_eccThresholdReached_device hup, fun c d => exec_eccThresholdReached_channel hup d,
      fun k d => exec_eccThresholdReached_stack hup d, ?inject⟩⟩
  case boardAdmit =>
    intro place dies bad h hq hk b c hs
    have e := fun fault => exec_boardAdmit_absent h hq hk hs fault place dies bad
    refine ⟨(e 0).trans (congrArg _ ?trained), (e 1).trans (congrArg _ (if_pos rfl)), (e 2).trans (congrArg _ ?mismatched),
      (e 3).trans (congrArg _ ?unpopulated)⟩
    case trained => simp only [Nat.zero_ne_one, Nat.reduceEqDiff, reduceIte, b]
    case mismatched => simp only [Nat.reduceEqDiff, reduceIte, b, c]
    case unpopulated => simp only [Nat.reduceEqDiff, reduceIte, b, c]
  case footingFormat =>
    intro bad h
    refine ⟨fun hq hn => ?unprovisioned, exec_footingFormat_wrongMode h bad, fun hq hn => ?provisioned⟩
    case unprovisioned => rw [exec_footingFormat_quiesced h bad hq, if_neg (Nat.not_lt.mpr (Nat.le_of_eq hn))]
    case provisioned => rw [exec_footingFormat_quiesced h bad hq, if_pos hn]
  case quarter =>
    intro g q ok hq hl t
    have e := exec_quarterReadDone_first hup hq hl ok
    exact ⟨fun hok => e.trans (congrArg _ (if_pos (by simp [hok]))), fun hok hw => e.trans (congrArg _ (if_neg (by simp [hok, hw])))⟩
  case scrub =>
    intro d unit target region result amount progress hd hon
    have e := exec_scrubRead_on hup hd hon unit target region result amount progress
    exact ⟨fun hf => e.trans (congrArg _ (if_pos hf)), fun hl => e.trans (congrArg _ (if_neg hl))⟩
  case inject =>
    intro acc domain unit kind hw
    rw [exec_eccInjectArm hup acc domain unit kind]
    exact ⟨fun hl => congrArg _ (pulseWrite_below _ hw hl), fun hl => congrArg _ (pulseWrite_permitted _ hw hl)⟩

end Sys2Proof.Machine
end

section
/-!
SUPPORT. The CXL device commands of a logical device, the FM API commands and the time limits of dynamic capacity (O54). The payload layouts are the
model's (log entry 32).
-/

namespace Sys2Proof.Machine

open Sys2Proof

/-- Each opcode of the CEL takes four bytes, two of them its effect word. -/
theorem celBytes_length : celBytes.length = 4 * celOpcodes.length := rfl

section
variable {s : State} {p : Nat} (hp : portCarries p s = true)
include hp

/-! ### Device commands (R300) -/

section
variable {ld : Nat} (hl : ld < s.get (Reg.HPT_PORT_CFG_LD_COUNT p))
include hl

/-- A command for an existing logical device of a port that carries messages takes place. -/
theorem onLd_next (f : State → State) : onLd p ld s f = .next (f s) := by
  rw [onLd, if_pos (by simp [hp, hl])]

theorem exec_getSupportedLogs : exec (.getSupportedLogs p ld) s = .next (respond p ld 0 "Success" (leBytes 2 1 ++ leBytes 4 celBytes.length) s) := by
  rw [celBytes_length]
  exact onLd_next hp hl _

/-- CLEAR_POISON of a line in a window that admits its write, with a ticket, is a write whose answer goes to the DOE mailbox (R271). -/
theorem exec_clearPoison_admitted {dpa id t : Nat} {data : List Nat} {w : Window} {u : State} (hr : portRefusal (clearMsg p ld dpa data) s = .inr (id, w))
    (hd : s.departing = false) (ha : w.cls = 2 ∨ mayAdmit (writeOf (clearMsg p ld dpa data) 0 id w false) s = true) (ht : takeTicket p s = some (t, u)) :
    exec (.clearPoison p ld dpa data) s =
      .next (settle (admitOp { (writeOf (clearMsg p ld dpa data) t id w false) with src := .doe p ld } (beginAccess id u))) := by
  have hfree : ¬ (s.departing || (decide (w.cls ≠ 2) && !(mayAdmit (writeOf (clearMsg p ld dpa data) 0 id w false) s))) = true := by
    rcases ha with h | h <;> simp [hd, h]
  change execClearPoison p ld dpa data s = _
  simp only [execClearPoison, onLd_next hp hl, hr, if_neg hfree, ht]

theorem exec_clearEventRecords (all : Bool) (handles : List Nat) : exec (.clearEventRecords p ld all handles) s = .next (respond p ld 0 "Success" []
    (s.onHpt fun x => { x with events := x.events.filter (fun e => !(e.1 == ldNum p ld && (all || handles.contains e.2.handle))) })) := by
  change execClearEventRecords p ld all handles s = _
  rw [execClearEventRecords, onLd_next hp hl]

theorem exec_setEventInterruptPolicy (v : Nat) : exec (.setEventInterruptPolicy p ld v) s =
    .next (respond p ld 0 "Success" [] (s.onHpt fun x => { x with policy := tset 0 (ldNum p ld) (v % 2 ^ 32) x.policy })) := by
  change execSetEventInterruptPolicy p ld v s = _
  rw [execSetEventInterruptPolicy, onLd_next hp hl]

theorem exec_setTimestamp (v : Nat) : exec (.setTimestamp p ld v) s =
    .next (respond p ld 0 "Success" [] (s.onHpt fun x => { x with stamps := tins (ldNum p ld) (v % 2 ^ 64, s.epoch) x.stamps })) := by
  change execSetTimestamp p ld v s = _
  rw [execSetTimestamp, onLd_next hp hl]

end

/-! ### Dynamic capacity (R309, R310) -/

section
variable {ld : Nat} {extents : List (Nat × Nat)}

omit hp in
/-- No extent of a list is unknown when each is found. -/
theorem not_any_extentNamed_isNone {offered : Bool} (hn : ∀ e ∈ extents, extentNamed p ld e.1 e.2 offered s ≠ none) :
    ¬ extents.any (fun e => (extentNamed p ld e.1 e.2 offered s).isNone) = true := by
  simpa using hn

/-- Extents that were all offered are all accepted. -/
theorem exec_addDcResponse_named (he : extents ≠ []) (hn : ∀ e ∈ extents, extentNamed p ld e.1 e.2 true s ≠ none) :
    exec (.addDcResponse p ld extents) s = .next (respond p ld 0 "Success" [] (extents.foldl (fun s x => acceptExtent p ld x.1 x.2 s) s)) := by
  change execAddDcResponse p ld extents s = _
  rw [execAddDcResponse, if_neg (by simp [hp]), if_neg (not_any_extentNamed_isNone hn), if_neg (by simp [he])]

/-- A response without extents rejects the oldest offer. -/
theorem exec_addDcResponse_empty {e : Nat × Window} (ho : oldestOffer p ld s = some e) : exec (.addDcResponse p ld []) s =
    .next (respond p ld 0 "Success" [] (endOffer e.1 e.2 .revoked s)) := by
  change execAddDcResponse p ld [] s = _
  simp [execAddDcResponse, hp, ho]

/-- Extents that are all held begin their close. -/
theorem exec_releaseDynamicCapacity_named (he : extents ≠ []) (hn : ∀ e ∈ extents, extentNamed p ld e.1 e.2 false s ≠ none) :
    exec (.releaseDynamicCapacity p ld extents) s = .next (respond p ld 0 "Success" []
      (extents.foldl (fun s x => match extentNamed p ld x.1 x.2 false s with | some (id, _) => startClose id none s | none => s) s)) := by
  have hall : ¬ (extents.isEmpty || extents.any (fun e => (extentNamed p ld e.1 e.2 false s).isNone)) = true := by
    simpa [he] using not_any_extentNamed_isNone hn
  change execReleaseDynamicCapacity p ld extents s = _
  exact congrArg _ ((if_neg (by simp [hp])).trans (if_neg hall))

end

/-! ### FM API commands (R301) -/

/-- An FM API command of a port that carries messages takes place. -/
theorem onFm_next (f : State → State) : onFm p s f = .next (f s) := by
  rw [onFm, if_pos hp]

theorem exec_setQosControl (v : Nat) : exec (.setQosControl p v) s =
    .next (respond p 16 0 "Success" [] (s.onHpt fun x => { x with qos := tset 0 p (v % 2 ^ 64) x.qos })) := by
  change execSetQosControl p v s = _
  rw [execSetQosControl, onFm_next hp]

section
variable {count : Nat}

omit hp in
/-- Some logical device that a count would remove has a window. -/
theorem any_ldWindows_iff : (List.range 16).any (fun l => decide (l ≥ count) && !(ldWindows p l s).isEmpty) = true ↔
    ∃ l, count ≤ l ∧ l < 16 ∧ ldWindows p l s ≠ [] := by
  simp [and_left_comm]

variable (h1 : 1 ≤ count) (h16 : count ≤ 16)
include h1 h16

theorem exec_setLdAllocations_free (hf : ∀ l, count ≤ l → l < 16 → ldWindows p l s = []) : exec (.setLdAllocations p count) s =
    .next (respond p 16 0 "Success" (leBytes 1 count) (s.put (Reg.HPT_PORT_CFG_LD_COUNT p) count)) := by
  have hnone : ¬ ∃ l, count ≤ l ∧ l < 16 ∧ ldWindows p l s ≠ [] := fun ⟨l, hc, hl, hw⟩ => hw (hf l hc hl)
  change execSetLdAllocations p count s = _
  rw [execSetLdAllocations, onFm_next hp, if_neg (by omega), if_neg (mt any_ldWindows_iff.mp hnone)]

theorem exec_setLdAllocations_bound (hb : ∃ l, count ≤ l ∧ l < 16 ∧ ldWindows p l s ≠ []) : exec (.setLdAllocations p count) s =
    .next (respond p 16 0 "Busy" [] s) := by
  change execSetLdAllocations p count s = _
  rw [execSetLdAllocations, onFm_next hp, if_neg (by omega), if_pos (any_ldWindows_iff.mpr hb)]

end

end

/-! ### Time limits of dynamic capacity (R309, R310) -/

section
variable {s : State} {id : Nat} {w : Window} (hup : s.up = true) (hw : tfind id s.win = some w)
include hup hw

theorem exec_offerTimeout_due (ho : w.offered = true) (ht : w.since + 1000 * s.get (Reg.HPT_DCD_CFG_OFFER_MS (w.binding % 8)) ≤ s.epoch) :
    exec (.offerTimeout id) s = .next (endOffer id w .timeout s) := by
  change execOfferTimeout id s = _
  simp [execOfferTimeout, onUp_next hup, hw, ho, ht]

theorem exec_releaseTimeout_due (ha : w.asked = true) (h1 : w.state = 1)
    (ht : w.since + 1000 * s.get (Reg.HPT_DCD_CFG_RELEASE_MS (w.binding % 8)) ≤ s.epoch) :
    exec (.releaseTimeout id) s = .next (forceRelease id w none s) := by
  change execReleaseTimeout id s = _
  simp [execReleaseTimeout, onUp_next hup, hw, ha, h1, ht]

end

/-- Settles O54, a command or a time limit at a time. A command that only reads answers what its definition names, once its port carries messages and
its logical device exists. -/
theorem deviceCommandsComplete : Obligations.DeviceCommandsComplete := by
  unfold Obligations.DeviceCommandsComplete
  intro s
  refine ⟨?device, ?dynamicCapacity, ?fmApi, ?timeLimits⟩
  case device =>
    intro p ld hp hl
    have answered : ∀ f, onLd p ld s f = .next (f s) := onLd_next hp hl
    exact ⟨answered _, exec_getSupportedLogs hp hl, answered _, answered _, exec_clearEventRecords hp hl, answered _, exec_setEventInterruptPolicy hp hl,
      answered _, exec_setTimestamp hp hl, fun life => answered _, answered _, fun dpa data id w t u => exec_clearPoison_admitted hp hl, answered _,
      answered _, answered _⟩
  case dynamicCapacity =>
    exact fun p ld extents hp => ⟨exec_addDcResponse_named hp, fun e => exec_addDcResponse_empty hp, exec_releaseDynamicCapacity_named hp⟩
  case fmApi =>
    intro p hp
    have answered : ∀ f, onFm p s f = .next (f s) := onFm_next hp
    exact ⟨answered _, answered _,
      fun count h1 h16 => ⟨exec_setLdAllocations_free hp h1 h16, exec_setLdAllocations_bound hp h1 h16⟩, answered _, exec_setQosControl hp, answered _⟩
  case timeLimits => exact fun id w hup hw => ⟨exec_offerTimeout_due hup hw, exec_releaseTimeout_due hup hw⟩

end Sys2Proof.Machine
end

section
/-!
SUPPORT. Direct register writes, one of a bad size and those to a register, to none and beyond the control space (O29). The numbers of the accessors and the
answers to their writes are the model's (log entry 102), as is a pulse bit's having a command of its own (log entry 73).
-/

namespace Sys2Proof.Machine

open Sys2Proof

/-- Every island runs only while island 0 does. -/
theorem live_of_up {s : State} (h : s.up = true) : s.live = true :=
  Bool.of_not_eq_false fun hd => Bool.false_ne_true ((up_dead hd).symm.trans h)

/-! ### The accessors and their answers (R586, R588) -/

theorem le_of_isMgmt {acc : Nat} (h : isMgmt acc = true) : 8 ≤ acc := by
  simp only [isMgmt, Bool.and_eq_true, decide_eq_true_eq] at h
  exact h.1

section
variable {acc : Nat} (hp : acc < 8)
include hp

theorem isMgmt_hostPort : isMgmt acc = false :=
  Bool.eq_false_iff.mpr fun h => Nat.not_le.mpr hp (le_of_isMgmt h)

theorem accessorNo_hostPort : accessorNo acc = acc := if_pos (by omega)

end

section
variable {s : State} {acc : Nat}

theorem mgmtReply_mgmt (st : St) (hm : isMgmt acc = true) : mgmtReply acc st s = s.send (.reply acc st.code []) := if_pos hm

theorem mgmtReply_hostPort (st : St) (hp : acc < 8) : mgmtReply acc st s = s := if_neg (by simp [isMgmt_hostPort hp])

theorem discardBelow_mgmt (off : Nat) (hm : isMgmt acc = true) : discardBelow acc off s = discardWrite acc off s := if_pos hm

theorem discardBelow_hostPort (off : Nat) (hp : acc < 8) : discardBelow acc off s = hostViolation acc (discardWrite acc off s) := by
  rw [discardBelow, if_neg (by simp [isMgmt_hostPort hp]), accessorNo_hostPort hp]

theorem badAccess_mgmt (hm : isMgmt acc = true) : badAccess acc s = s.send (.reply acc St.badField.code []) := by
  rw [badAccess, if_pos hm, mgmtReply_mgmt _ hm]

theorem badAccess_hostPort (hp : acc < 8) : badAccess acc s =
    respond acc (s.get (Reg.HPT_PORT_CFG_MGMT_LD acc)) 0 "Unsupported Request" [] (hostViolation acc s) := by
  rw [badAccess, if_neg (by simp [isMgmt_hostPort hp]), if_pos (by omega), accessorNo_hostPort hp]

end

/-! ### A write that reaches the control space (R585, R586) -/

section
variable {s : State} {acc off width v : Nat}

theorem directWrite_unregistered (hr : regAt off = none) : directWrite acc off width v s = mgmtReply acc .done s := by
  rw [directWrite, hr]

section
variable {r : RegDef} {base : Nat} (hr : regAt off = some (r, base))
include hr

theorem directWrite_notDirect (hl : directLevel acc off = none) :
    directWrite acc off width v s = mgmtReply acc .notPermitted (discardWrite acc off s) := by
  rw [directWrite, hr, hl]

theorem directWrite_below {l : Nat} (hl : directLevel acc off = some l) (hb : accessorLevel acc s < l) :
    directWrite acc off width v s = mgmtReply acc .notPermitted (discardBelow acc off s) := by
  simp only [directWrite, hr, hl, if_pos hb]

end

end

/-! ### REGISTER_WRITE on a module that serves its control space (R582, R588) -/

section
variable {s : State} {acc : Nat} (hup : s.up = true) (hm : s.mode ≠ .spill) (he : 8 ≤ acc → s.get Reg.GLB_MGT_CFG_ENABLE ≠ 0) (off width v : Nat)
include hup hm he

/-- The checks are made in this order: size and alignment, then the offset. -/
theorem exec_registerWrite : exec (.registerWrite acc off width v) s =
    .next (if (width ≠ 4 ∧ width ≠ 8) ∨ off % width ≠ 0 then badAccess acc s
      else if 0x4000000 ≤ off then mgmtReply acc .bounds s else directWrite acc off width v s) := by
  have enabled : ¬ (isMgmt acc = true ∧ s.get Reg.GLB_MGT_CFG_ENABLE = 0) := fun h => he (le_of_isMgmt h.1) h.2
  change execRegisterWrite acc off width v s = _
  rw [execRegisterWrite, onLive_next (live_of_up hup), if_neg (by simp [hm]), if_neg enabled, if_neg hm]
  simp [hup]

theorem exec_registerWrite_malformed (hw : (width ≠ 4 ∧ width ≠ 8) ∨ off % width ≠ 0) :
    exec (.registerWrite acc off width v) s = .next (badAccess acc s) := by
  rw [exec_registerWrite hup hm he, if_pos hw]

section
variable {off width} (hw : width = 4 ∨ width = 8) (ha : off % width = 0)
include hw ha

theorem exec_registerWrite_beyond (ho : 0x4000000 ≤ off) : exec (.registerWrite acc off width v) s = .next (mgmtReply acc .bounds s) := by
  rw [exec_registerWrite hup hm he, if_neg (by omega), if_pos ho]

theorem exec_registerWrite_within (ho : off < 0x4000000) : exec (.registerWrite acc off width v) s = .next (directWrite acc off width v s) := by
  rw [exec_registerWrite hup hm he, if_neg (by omega), if_neg (Nat.not_le.mpr ho)]

end

end

/-- Settles O29: a write fails on its size or alignment, then on its offset, and within the control space goes by the register it names and the level that
register needs. -/
theorem registerWritesReachOrAreDiscarded : Obligations.RegisterWritesReachOrAreDiscarded := by
  unfold Obligations.RegisterWritesReachOrAreDiscarded
  intro s acc off width v hup hm he
  refine ⟨?malformed, fun hw ha => ?wellFormed⟩
  case malformed =>
    intro hw
    rw [exec_registerWrite_malformed hup hm he off width v hw]
    exact ⟨fun hg => congrArg _ (badAccess_mgmt hg), fun hp => congrArg _ (badAccess_hostPort hp)⟩
  case wellFormed =>
    have within := exec_registerWrite_within hup hm he v hw ha
    refine ⟨exec_registerWrite_beyond hup hm he v hw ha, within, ?unregistered, ?notDirect, ?below⟩
    case unregistered => exact fun ho hr => (within ho).trans (congrArg _ (directWrite_unregistered hr))
    case notDirect => exact fun r base ho hr hl => (within ho).trans (congrArg _ (directWrite_notDirect hr hl))
    case below =>
      intro r base l ho hr hl hb
      rw [within ho, directWrite_below hr hl hb]
      refine ⟨fun hg => ?_, fun hp => ?_⟩
      · rw [mgmtReply_mgmt _ hg, discardBelow_mgmt off hg]
      · rw [mgmtReply_hostPort _ hp, discardBelow_hostPort off hp]

end Sys2Proof.Machine
end

section
/-!
SUPPORT. The RDMA ports: how a packet arrives and is taken, the timers of requests, fetched contexts, congestion, pauses, violations and links (O57).
What no rule says of a packet is the model's choice (log entry 34).
-/

namespace Sys2Proof.Machine

open Sys2Proof

/-! ### Packets (R331, R352, R357) -/

/-- A packet that carries no CE mark asks for no CNP. -/
theorem congestion_unmarked {p : RPkt} {x : Qp} {s : State} (hc : p.ce = false) : congestion p x s = s :=
  if_neg (by simp [hc])

theorem psnDiff_self (n : Nat) : psnDiff n n = 0 := by
  unfold psnDiff
  omega

section
variable {p : RPkt} {s : State} {x : Qp} (hq : tfind p.qp s.rdm.qps = some x) (hx : x.port = p.port)
include hq hx

/-- A packet on its QP's port that finds ingress room is taken where its context is cached and no earlier packet of the QP is parked; otherwise it is
parked, or discarded when the parking place is full. -/
theorem arrivePacket_admitted (hp : ethCarries p.port s = true)
    (hr : ingressBytes p.port (s.inc (Reg.ETH_PORT_STAT_COUNT p.port 0)) + p.data.length ≤ 4194304) : arrivePacket p s =
    let t := s.inc (Reg.ETH_PORT_STAT_COUNT p.port 0)
    if (s.rdm.cache.contains p.qp && !(s.rdm.parked.any (fun k => k.qp == p.qp))) = true then
      settle (takePacket p (t.onRdm fun y => { y with cache := p.qp :: y.cache.filter (· != p.qp) }))
    else if s.rdm.parked.length ≥ 8192 then raiseRl 0x0705 p.port 0 (t.inc (Reg.RDM_STAT_COUNT 8))
    else rdmSync (startFetches ((t.onRdm fun y => { y with parked := y.parked ++ [p] }).inc (Reg.RDM_STAT_COUNT 7))) := by
  simp only [arrivePacket, State.inc_rdm, hq]
  exact (if_neg (by simp [hp])).trans ((if_neg (Nat.not_lt.mpr hr)).trans (if_neg (not_not_intro hx)))

/-- The expected packet of a QP in RTR, without a CE mark, is in order. -/
theorem takePacket_expected (h1 : x.state = 1) (hc : p.ce = false) (he : p.psn = x.epsn) : takePacket p s = inOrder p x s := by
  have hd : psnDiff p.psn x.epsn = 0 := by rw [he, psnDiff_self]
  simp only [takePacket, hq, congestion_unmarked hc]
  exact (if_neg (not_not_intro hx)).trans ((if_neg (not_not_intro h1)).trans (if_pos hd))

end

section
variable {p : RPkt} {s : State} {x : Qp} (hf : p.place < 2)
include hf

/-- An Only or First packet (places 0 and 1) that passes the checks begins its message. -/
theorem inOrder_pass {w : Option Nat} (hw : checkFirst x p s = .pass w) : inOrder p x s = beginMsg p x w false s := by
  simp only [inOrder, hw]
  exact if_neg (Nat.not_le.mpr hf)

theorem inOrder_rnr {k : Nat} (hk : checkFirst x p s = .rnr k) : inOrder p x s = rnrPacket p x k s := by
  simp only [inOrder, hk]
  exact if_neg (Nat.not_le.mpr hf)

end

section
variable {s : State} (hup : s.up = true)
include hup

/-! ### Timers (R340, R348, R350, R355) -/

section
variable (hm : s.mode ≠ .spill)
include hm

theorem exec_waitTimeout_due {qp psn : Nat} {m : RMsg}
    (hf : (tfind qp s.rdm.qps).bind (fun x => x.msgs.find? (fun m => m.psn == psn && m.kind == 8 && decide (m.stage < 3))) = some m)
    (ht : m.since + s.get Reg.RDM_CFG_WAIT_TIMEOUT_US ≤ s.epoch) :
    exec (.waitTimeout qp psn) s = .next (settle (raise 0x070A qp m.a (failReq qp psn St.timeout.code 8 none 0 s))) := by
  change execWaitTimeout qp psn s = _
  simp only [execWaitTimeout, onUp_next hup, hf]
  exact congrArg _ (if_neg (not_or_intro hm (Nat.not_lt.mpr ht)))

theorem exec_admissionWaitExpiry_due {qp : Nat} {x : Qp} {m : RMsg} (hq : tfind qp s.rdm.qps = some x)
    (hf : x.msgs.find? (fun m => m.stage == 0) = some m) (ha : msgAdmission x m s ≠ 0)
    (hs : mayStartMsg qp m (x.msgs.takeWhile (fun m => m.stage != 0)) s = true) (ht : m.begun + s.get Reg.RDM_ADMIT_CFG_WAIT_US ≤ s.epoch) :
    exec (.admissionWaitExpiry qp) s = .next (settle (rnrNak qp m 10 s)) := by
  change execAdmissionWaitExpiry qp s = _
  simp only [execAdmissionWaitExpiry, onUp_next hup, hq, hf]
  exact congrArg _ (if_neg (by simp [hm, ha, hs, ht]))

theorem exec_ackCoalesceExpiry_unspilled (qp : Nat) : exec (.ackCoalesceExpiry qp) s = .next (settle (sendAck qp true s)) := by
  change execAckCoalesceExpiry qp s = _
  rw [execAckCoalesceExpiry, onUp_next hup, if_neg hm]

/-- The first message of a QP whose packets have not all come, silent for 10 ms in a CLOSING window (state 2), is abandoned. -/
theorem exec_messageAbandon_due {qp i : Nat} {m : RMsg} {w : Window}
    (hf : (tfind qp s.rdm.qps).bind (fun x => x.msgs.find? (fun m => !m.whole)) = some m) (hi : m.window = some i) (hw : tfind i s.win = some w)
    (h2 : w.state = 2) (ht : m.since + 10000 ≤ s.epoch) : exec (.messageAbandon qp) s =
    .next (settle (raise 0x070B qp m.psn (failReq qp (psnAdd m.last 1) St.revoked.code m.kind m.window m.off
      (dropMsgs qp (fun (y : RMsg) => y.psn == m.psn) s)))) := by
  have hclosing : m.window.bind (fun i => tfind i s.win) = some w := by rw [hi]; exact hw
  change execMessageAbandon qp s = _
  simp only [execMessageAbandon, onUp_next hup, hf, hclosing]
  exact congrArg _ (if_neg (by simp [hm, h2, ht]))

end

/-! ### Contexts and rates (R352, R353, R359) -/

section
variable {qp verdict : Nat} (hf : s.rdm.fetching.contains qp = true)
include hf

theorem exec_contextFetched_lost (hl : 2 ≤ verdict) : exec (.contextFetched qp verdict) s = .next (settle (contextLost qp s)) := by
  change execContextFetched qp verdict s = _
  simp only [execContextFetched, onUp_next hup]
  exact congrArg _ ((if_neg (by rw [hf]; decide)).trans (if_pos hl))

/-- A context with a good copy left (verdict 0 or 1) that finds a place in the cache lets the QP's parked packets run. -/
theorem exec_contextFetched_cached (hl : verdict < 2) {t : State} (ht : cacheIn qp (unpark qp s) = some t) : exec (.contextFetched qp verdict) s =
    .next (settle (rdmSync (startFetches ((s.rdm.parked.filter (fun p => p.qp == qp)).foldl (fun s p => takePacket p s) t)))) := by
  change execContextFetched qp verdict s = _
  simp only [execContextFetched, onUp_next hup, ht]
  exact congrArg _ ((if_neg (by rw [hf]; decide)).trans (if_neg (Nat.not_le.mpr hl)))

end

theorem exec_rateRecover_due {qp : Nat} {x : Qp} (hq : tfind qp s.rdm.qps = some x) (ht : x.cnpGot + s.get Reg.RDM_CC_CFG_RECOVER_US ≤ s.epoch) :
    exec (.rateRecover qp) s = .next (modQp qp (fun (x : Qp) =>
      { x with rate := Nat.min (x.rate + s.get Reg.RDM_CC_CFG_RATE_STEP) (portGbps x.port s), cnpGot := s.epoch }) s) := by
  change execRateRecover qp s = _
  simp only [execRateRecover, onUp_next hup, hq]
  exact congrArg _ (if_neg (Nat.not_lt.mpr ht))

/-- A link that is down (rate code 3) trains on a module out of SPILL and RECOVERY, unless its port is fenced or out of service (unit state 3). -/
theorem exec_rdmaPortLinkUp_down {p : Nat} (hp : p < 4) (hm : s.mode ≠ .spill) (hr : s.mode ≠ .recovery) (hd : s.get (Reg.ETH_PORT_STATE_RATE p) = 3)
    (hf : s.flag (Reg.ETH_PORT_STATE_FENCED p) = false) (hu : s.get (Reg.FRM_UNIT_STATE_STATE (8 + p)) ≠ 3) (rate : Nat) :
    exec (.rdmaPortLinkUp p rate) s =
      .next (raise 0x0702 p 0 (s.put (Reg.ETH_PORT_STATE_RATE p) (Nat.min 2 (Nat.max rate (s.get (Reg.ETH_PORT_CFG_SPEED p)))))) := by
  change execRdmaPortLinkUp p rate s = _
  rw [execRdmaPortLinkUp, onUp_next hup, if_neg (by simp [hp, hm, hr, hd, hf, hu])]

end

section
variable {s : State} {p : Nat} (hp : ethCarries p s = true)
include hp

/-! ### Congestion (R359) -/

theorem exec_cnpReceived_reading {qp : Nat} {x : Qp} (hq : tfind qp s.rdm.qps = some x) (hx : x.port = p)
    (hr : x.msgs.any (fun m => m.kind == 3) = true) (he : s.flag (Reg.ETH_PORT_CFG_ECN_EN p) = true) : exec (.cnpReceived p qp) s =
    .next (modQp qp (fun (x : Qp) => { x with rate := Nat.max (x.rate / 2) (s.get Reg.RDM_CC_CFG_RATE_MIN), cnpGot := s.epoch })
      (s.inc (Reg.ETH_PORT_STAT_COUNT p 0))) := by
  have hreads : ¬ (decide (x.port ≠ p) || !(x.msgs.any (fun m => m.kind == 3))) = true := by
    rw [hr]
    simp [hx]
  change execCnpReceived p qp s = _
  simp only [execCnpReceived, hq]
  exact congrArg _ ((if_neg (by simp [hp])).trans ((if_neg hreads).trans (if_neg (by simp [he]))))

theorem exec_cnpReceived_unknown {qp : Nat} (hq : tfind qp s.rdm.qps = none) :
    exec (.cnpReceived p qp) s = .next (ethViolation p (s.inc (Reg.ETH_PORT_STAT_COUNT p 0))) := by
  change execCnpReceived p qp s = _
  simp only [execCnpReceived, hq]
  exact congrArg _ (if_neg (by simp [hp]))

/-! ### Pauses (R357, R363) -/

section
variable {prio : Nat} (hb : prio < 8)
include hb

section
variable (he : s.flag (Reg.ETH_PORT_CFG_PFC_EN p) = true)
include he

theorem exec_pfcPauseReceived_off : exec (.pfcPauseReceived p prio false) s = .next (releasePaused p prio s) := by
  change execPfcPauseReceived p prio false s = _
  rw [execPfcPauseReceived, Nat.mod_eq_of_lt hb, if_neg (by simp [hp, he]), if_pos (by decide)]

theorem exec_pfcPauseReceived_on (hi : s.rdm.ignored = []) (hn : pausedNow p prio s = false) : exec (.pfcPauseReceived p prio true) s =
    .next ((s.onRdm fun x => { x with paused := x.paused ++ [(p, prio, s.epoch)] }).put (Reg.ETH_PORT_STATE_PAUSED p) 1) := by
  change execPfcPauseReceived p prio true s = _
  rw [execPfcPauseReceived, Nat.mod_eq_of_lt hb, if_neg (by simp [hp, he]), if_neg (by decide), if_neg (by simp [hi, hn])]

end

/-- A pause held over 100 ms is a storm. -/
theorem exec_pfcStorm_held {e : Nat} (hm : (p, prio, e) ∈ s.rdm.paused) (ht : e + 100000 < s.epoch) : exec (.pfcStorm p prio) s =
    .next (releasePaused p prio (raise 0x0708 p prio (ethViolation p (ignorePause p prio s)))) := by
  have hheld : s.rdm.paused.any (fun e => e.1 == p && e.2.1 == prio && decide (s.epoch > e.2.2 + 100000)) = true :=
    List.any_eq_true.mpr ⟨_, hm, by simp [ht]⟩
  change execPfcStorm p prio s = _
  rw [execPfcStorm, Nat.mod_eq_of_lt hb, if_pos (by simp only [hp, hheld, Bool.and_self])]

end

/-! ### Neighbours (R323) -/

/-- A request for an address is counted, and answered when the address is the port's own. -/
theorem exec_arpRequest_counted {addr : Nat} (ha : addr ≠ 0) (v6 : Bool) : exec (.arpRequest p v6 addr) s =
    let t := s.inc (Reg.ETH_PORT_STAT_COUNT p 0)
    .next (if ownAddress p v6 addr s then
      (t.send (.eth p (if v6 then "Neighbour Advertisement" else "ARP reply") addr)).inc (Reg.ETH_PORT_STAT_COUNT p 1) else t) := by
  change execArpRequest p v6 addr s = _
  rw [execArpRequest, if_neg (by simp [hp, ha])]

/-! ### Violations and links (R362, R363) -/

section
variable (qp psn : Nat)

theorem exec_rdmaViolation_discarded : exec (.rdmaViolation p qp psn false) s = .next (ethViolation p (s.inc (Reg.ETH_PORT_STAT_COUNT p 0))) := by
  change execRdmaViolation p qp psn false s = _
  rw [execRdmaViolation, if_neg (by simp [hp])]
  cases tfind qp s.rdm.qps <;> rfl

/-- A violation that asks for a NAK, on a QP in RTR of the port, fails the request that is expected. -/
theorem exec_rdmaViolation_answered {x : Qp} (hq : tfind qp s.rdm.qps = some x) (h1 : x.state = 1) (hx : x.port = p) :
    exec (.rdmaViolation p qp psn true) s = .next (settle (failReq qp x.epsn St.protocolViolation.code 9 none 0
      (dropMsgs qp (fun (m : RMsg) => !m.whole) (ethViolation p (s.inc (Reg.ETH_PORT_STAT_COUNT p 0)))))) := by
  change execRdmaViolation p qp psn true s = _
  simp only [execRdmaViolation, hq]
  exact congrArg _ ((if_neg (by simp [hp])).trans (if_pos (by simp [h1, hx])))

end

theorem exec_rdmaViolationLimit_reached
    (hv : 16 ≤ (s.rdm.viol.filter (fun e => e.1 == p && decide (s.epoch < e.2 + 1000000))).length) : exec (.rdmaViolationLimit p) s =
    .next (ethLinkLost p (raise 0x0707 p 0 (unitFault (8 + p) (s.put (Reg.ETH_PORT_STATE_FENCED p) 1)))) := by
  change execRdmaViolationLimit p s = _
  rw [execRdmaViolationLimit, if_pos (by rw [hp, Bool.true_and]; exact decide_eq_true hv)]

theorem exec_rdmaPortLinkDown_up : exec (.rdmaPortLinkDown p) s = .next (ethLinkLost p s) := by
  change execRdmaPortLinkDown p s = _
  rw [execRdmaPortLinkDown, if_pos hp]

end

/-- Settles O57: the row of each operation is its packet's arrival by definition; arrival and first checks, the timers, contexts and port events each by
a lemma. -/
theorem rdmaPacketsAndEventsComplete : Obligations.RdmaPacketsAndEventsComplete := by
  unfold Obligations.RdmaPacketsAndEventsComplete
  intro s
  refine ⟨?operations, ?arrival, ?first, fun hup hm => ?timers, fun hup => ?contexts, ?ports⟩
  case operations => and_intros <;> intros <;> rfl
  case arrival =>
    intro p x hp hq hx t hr
    have e := arrivePacket_admitted hq hx hp hr
    refine ⟨fun hc hn => e.trans (if_pos ?cached), fun hc hl => e.trans ((if_neg ?uncached).trans (if_neg (Nat.not_le.mpr hl)))⟩
    case cached => rw [hc, hn]; rfl
    case uncached => rw [hc, Bool.false_and]; decide
  case first =>
    intro p x hq hx h1 hc he _ hf
    have e := takePacket_expected hq hx h1 hc he
    exact ⟨fun w hw => e.trans (inOrder_pass hf hw), fun k hk => e.trans (inOrder_rnr hf hk)⟩
  case timers =>
    exact ⟨fun qp psn m => exec_waitTimeout_due hup hm, fun qp x m => exec_admissionWaitExpiry_due hup hm, exec_ackCoalesceExpiry_unspilled hup hm,
      fun qp m i w => exec_messageAbandon_due hup hm⟩
  case contexts =>
    exact ⟨fun qp verdict hf => ⟨exec_contextFetched_lost hup hf, fun hl t => exec_contextFetched_cached hup hf hl⟩,
      fun qp x => exec_rateRecover_due hup, fun p rate hp hm hr hd hf hu => exec_rdmaPortLinkUp_down hup hp hm hr hd hf hu rate⟩
  case ports =>
    intro p hp t
    refine ⟨fun qp x => exec_cnpReceived_reading hp, fun qp => exec_cnpReceived_unknown hp,
      fun prio hb he => ⟨exec_pfcPauseReceived_off hp hb he, exec_pfcPauseReceived_on hp hb he⟩, fun prio e hb => exec_pfcStorm_held hp hb, ?neighbours,
      exec_rdmaViolation_discarded hp, fun qp psn x => exec_rdmaViolation_answered hp qp psn, exec_rdmaViolationLimit_reached hp,
      exec_rdmaPortLinkDown_up hp⟩
    case neighbours =>
      intro v6 addr ha
      have e := exec_arpRequest_counted hp ha v6
      exact ⟨fun ho => e.trans (congrArg _ (if_pos ho)), fun ho => e.trans (congrArg _ (if_neg (ne_true_of_eq_false ho)))⟩

end Sys2Proof.Machine
end

section
/-!
SUPPORT. Doorbells (O25): what a RING does on an idle mailbox, and where a command goes whose header passes the checks. That the checks come before the
auto-responder is the model's reading of R434 (log entry 22).
-/

namespace Sys2Proof.Machine

open Sys2Proof

/-- A mailbox neither QUEUED nor RUNNING, of a module that answers doorbells, accepts a RING (R443). -/
theorem exec_mbxRing_accepted {s : State} {m : Nat} (ha : s.answers = true) (hm : m < 36) (h1 : s.get (Reg.MBX_STATE_STATE m) ≠ 1)
    (h2 : s.get (Reg.MBX_STATE_STATE m) ≠ 2) (sess mean : Nat) : exec (.mbxRing m sess mean) s = .next (ringAccepted m sess mean s) := by
  change execMbxRing m sess mean s = _
  exact congrArg _ ((if_neg (by simp [ha, hm])).trans (if_neg (by simp [h1, h2])))

section
variable {s : State} {m sess : Nat} (hc : ringCheck m sess s = none)
include hc

/-- A fast-lane command never meets the auto-responder; it is counted, and queued where joiners may serve it (R451, R454). -/
theorem ringAccepted_fastLane (hf : 0x80 ≤ s.get (Mb.opcode m) % 256) (hr : s.mode ≠ .recovery) (hb : s.mode ≠ .bringup) (mean : Nat) :
    ringAccepted m sess mean s = enqueue m ((ringEntered m s).inc (Reg.MBX_STAT_COUNT 5)) := by
  simp only [ringAccepted, hc]
  exact (if_pos hf).trans (if_neg (by simp [hr, hb]))

section
variable {mean : Nat} (hf : s.get (Mb.opcode m) % 256 < 0x80)
include hf

/-- The auto-responder answers a foreman command for which it has a hint (R434). -/
theorem ringAccepted_responder {h : Nat} (hh : responderHint (s.get (Mb.opcode m)) (s.get (Mb.priority m)) mean s = some h) :
    ringAccepted m sess mean s =
      completeW m .busy h noDetail true [] (((ringEntered m s).inc (Reg.FMN_STAT_COUNT 1)).put Reg.FMN_STATE_RESPONDER 1) := by
  simp only [ringAccepted, hc, hh]
  exact if_neg (Nat.not_le.mpr hf)

/-- A foreman command that the auto-responder leaves alone joins the foreman's queue. -/
theorem ringAccepted_foreman (hh : responderHint (s.get (Mb.opcode m)) (s.get (Mb.priority m)) mean s = none) :
    ringAccepted m sess mean s = enqueue m (ringEntered m s) := by
  simp only [ringAccepted, hc, hh]
  exact if_neg (Nat.not_le.mpr hf)

end

end

/-- Settles O25: the RING is accepted, and the command goes by its lane and, in the foreman's, by the auto-responder's hint. -/
theorem doorbellOfAGoodHeaderIsQueued : Obligations.DoorbellOfAGoodHeaderIsQueued := by
  unfold Obligations.DoorbellOfAGoodHeaderIsQueued
  intro s m sess mean ha hm h1 h2 hc
  rw [exec_mbxRing_accepted ha hm h1 h2 sess mean]
  exact ⟨fun hf hr hb => congrArg _ (ringAccepted_fastLane hc hf hr hb mean), fun hf h hh => congrArg _ (ringAccepted_responder hc hf hh),
    fun hf hh => congrArg _ (ringAccepted_foreman hc hf hh)⟩

end Sys2Proof.Machine
end

section
/-!
SUPPORT. The foreman's watchdog, lockstep comparison and exception queue (O30). That an expiry has one course in every mode in which the watchdog runs is
the model's reading of R431 (log entry 28).
-/

namespace Sys2Proof.Machine

open Sys2Proof

/-- Out of SPILL, a module whose islands run answers doorbells (R453, R455). -/
theorem answers_of_up {s : State} (hup : s.up = true) (hm : s.mode ≠ .spill) : s.answers = true := by
  simp [State.answers, hup, hm]

section
variable {s : State} (ha : s.answers = true) (hr : s.mode ≠ .recovery)
include ha hr

/-! ### The watchdog and the lockstep comparison (R427, R431) -/

/-- Out of RECOVERY the watchdog runs unless a store operation holds the foreman (state 1). -/
theorem watchdogRuns_unheld (h1 : s.get Reg.FMN_STATE_STATE ≠ 1) : watchdogRuns s = true := by
  simp [watchdogRuns, ha, hr, h1]

theorem exec_watchdogExpiry_unheld (h1 : s.get Reg.FMN_STATE_STATE ≠ 1) : exec .watchdogExpiry s = .next (expiry 1 s) := by
  change execWatchdogExpiry s = _
  rw [execWatchdogExpiry, if_pos (watchdogRuns_unheld ha hr h1)]

/-- A grace that runs out during a hot restart (state 2) ends the foreman's service. -/
theorem exec_graceEnd_restarting (h2 : s.get Reg.FMN_STATE_STATE = 2) : exec .graceEnd s = .next (foremanLost s) := by
  have hw : watchdogRuns s = true := watchdogRuns_unheld ha hr (by rw [h2]; decide)
  change execGraceEnd s = _
  rw [execGraceEnd, if_pos (by simp [hw, h2])]

theorem exec_lockstepMismatch_outsideRecovery : exec .lockstepMismatch s = .next (expiry 2 (raise 0x0A0B 0 0 s)) := by
  change execLockstepMismatch s = _
  rw [execLockstepMismatch, if_pos (by simp [ha, hr])]

end

section
variable {s : State} (hup : s.up = true)
include hup

/-- The kick of a restarting foreman (state 2) ends the hot restart; any other only restarts the watchdog. -/
theorem exec_fmnWdtKick_up : exec .fmnWdtKick s = .next (if s.get Reg.FMN_STATE_STATE = 2 then endRestart s else s) :=
  show execFmnWdtKick s = _ from onUp_next hup

/-! ### The exception queue (R430) -/

theorem exec_exceptionPost_room (hl : s.fmn.exc.length < 4096) (bay subject : Nat) : exec (.exceptionPost bay subject) s =
    .next (excSync ((s.inc (Reg.JNB_STAT_COUNT bay 4)).onFmn fun x => { x with exc := s.fmn.exc ++ [subject] })) := by
  change execExceptionPost bay subject s = _
  rw [execExceptionPost, onUp_next hup]
  exact congrArg _ (if_pos hl)

theorem exec_exceptionHandle_oldest {first : Nat} {rest : List Nat} (hx : s.fmn.exc = first :: rest) (h0 : s.get Reg.FMN_STATE_STATE = 0) :
    exec .exceptionHandle s = .next (excSync ((s.onFmn fun x => { x with exc := rest }).inc (Reg.FMN_STAT_COUNT 6))) := by
  change execExceptionHandle s = _
  simp only [execExceptionHandle, onUp_next hup, hx]
  exact congrArg _ (if_pos h0)

end

/-- Settles O30, an event at a time. -/
theorem foremanCommandsComplete : Obligations.ForemanCommandsComplete := by
  unfold Obligations.ForemanCommandsComplete
  intro s hup hm
  have ha := answers_of_up hup hm
  have kick := exec_fmnWdtKick_up hup
  exact ⟨fun h2 => kick.trans (congrArg _ (if_pos h2)), fun h2 => kick.trans (congrArg _ (if_neg h2)), exec_watchdogExpiry_unheld ha,
    exec_graceEnd_restarting ha, exec_lockstepMismatch_outsideRecovery ha, exec_exceptionPost_room hup,
    fun first rest => exec_exceptionHandle_oldest hup⟩

end Sys2Proof.Machine
end

section
/-!
SUPPORT. What every command answers, and when it can act (O4, O8, O9): each meaning answers a next state, and that state is the one it was given unless
island 0 runs, or, for the rows that a freeze leaves to the module, unless it is powered. That the other rows change nothing is the model's choice (log
entries 3 and 90). With it the front of the queue and the idle step (O1, O2; log entry 7).
-/

namespace Sys2Proof.Machine

open Sys2Proof

/-! ### Answers that leave the state alone unless a condition holds -/

/-- The answer is a next state, and it is the state given unless `awake`. -/
def ActsIf (awake : Bool) (s : State) (o : Out) : Prop := ∃ t, o = .next t ∧ (awake = false → t = s)

section
variable {s : State}

theorem answers_dead (h : s.live = false) : s.answers = false := by
  rw [State.answers, up_dead h, Bool.false_and]

theorem portCarries_dead {p : Nat} (h : s.live = false) : portCarries p s = false := by
  simp [portCarries, up_dead h]

theorem ethCarries_dead {p : Nat} (h : s.live = false) : ethCarries p s = false := by
  simp [ethCarries, up_dead h]

theorem watchdogRuns_dead (h : s.live = false) : watchdogRuns s = false := by
  simp [watchdogRuns, answers_dead h]

theorem mayWritePage_dead (h : s.live = false) : mayWritePage s = false := by
  simp [mayWritePage, up_dead h]

theorem pathAnswers_dead {path : Nat} (h : s.live = false) : pathAnswers path s = false := by
  rw [pathAnswers, h, Bool.false_and]

theorem arriveMsg_dead {m : HMsg} (h : s.live = false) : arriveMsg m s = s := by
  rw [arriveMsg, portCarries_dead h]
  rfl

theorem arrivePacket_dead {p : RPkt} (h : s.live = false) : arrivePacket p s = s := by
  rw [arrivePacket, ethCarries_dead h]
  rfl

namespace ActsIf

variable (awake : Bool) {b : Bool} {t : State}

theorem of_eq (h : awake = false → t = s) : ActsIf awake s (.next t) := ⟨t, rfl, h⟩

theorem of_next : ActsIf true s (.next t) := .of_eq true (nomatch ·)

theorem same {awake : Bool} (s : State) : ActsIf awake s (.next s) := .of_eq awake fun _ => rfl

/-- An effect behind a condition that fails unless awake. -/
theorem opened (h : awake = false → b = false) : ActsIf awake s (.next (if b then t else s)) :=
  .of_eq awake fun g => if_neg (by simp [h g])

/-- An effect past a condition that holds unless awake. -/
theorem closed (h : awake = false → b = true) : ActsIf awake s (.next (if b then s else t)) :=
  .of_eq awake fun g => if_pos (h g)

theorem ite {awake : Bool} {c : Prop} [Decidable c] {o p : Out} (h : ActsIf awake s o) (k : ActsIf awake s p) : ActsIf awake s (if c then o else p) := by
  split
  · exact h
  · exact k

end ActsIf

theorem execCatchupMapFrame_acts {h : FrameHdr} {body : FrameBody} : ActsIf s.live s (execCatchupMapFrame h body s) := by
  unfold execCatchupMapFrame
  split
  all_goals exact .opened s.live up_dead

end

/-- What a command needs in order to act: POWER_ON nothing, the rows left to a frozen module power, every other row that island 0 runs. -/
def mayAct (c : Instr) (s : State) : Bool :=
  match c with
  | .powerOn => true
  | c => bif actsFrozen c then s.pwr.powered else s.live

theorem mayAct_of_ne_powerOn {c : Instr} (h : c ≠ .powerOn) (s : State) : mayAct c s = bif actsFrozen c then s.pwr.powered else s.live := by
  unfold mayAct
  split
  · exact absurd rfl h
  · rfl

/-- The guard of every command: each row answers a next state, and acts only where `mayAct` holds. -/
theorem exec_acts (c : Instr) (s : State) : ActsIf (mayAct c s) s (exec c s) :=
  match c with
  | .powerOn => .of_next
  | .inputFallsBelow34v | .powerFailDeclared | .inputDipCarried | .inputGoodAfterOv | .extest | .samplePreload | .idcode | .jtagBypass .. =>
    .opened s.pwr.powered fun h => by simp [h]
  | .overvoltageDetected | .railTrip .. | .uvloShutdown | .bankAt30v .. | .modResetNAssert | .svyAddr .. | .svyData .. | .svyStatus .. | .unlock ..
  | .thaw .. => .closed s.pwr.powered fun h => by simp [h]
  | .spillStreamStart | .spillCommitMarker .. | .bankCharged | .bankRechargeStart | .bankFault .. | .bankFaultEnd | .dischargeTestDue
  | .dischargeTestEnd .. | .inputPowerOverLimit .. | .temperatureSample .. | .thermalShutdown | .thermalShutdownExit | .epochTick
  | .moduleResetRelease | .resetApply | .preResetSpillLimit | .modCtlStart .. | .mgmtRaiseLevel .. | .registerWrite .. | .hpnPerstAssert ..
  | .hpnPerstRelease .. | .freezeNFall | .islandsStop | .recordPeriodClose .. | .opTimeBaseUpdate | .inputPowerBelowLimit .. | .freezeCommandTrigger =>
    .opened s.live id
  | .headgateReq .. | .headgateReturn .. | .headgateGrant | .bringupStepEnd .. | .floorChannelSwept .. | .loftStackSwept .. | .serveEntryUnblocked
  | .pegRecheck .. | .pegTakesEffect .. | .unitRecal .. | .unitOut .. | .unitServe .. | .unitActionDone .. | .eccInjectArm .. | .bchBankInvalidate ..
  | .bankInvalidateDone .. | .bankWritebackDone .. | .benchInvalidate .. | .benchClean .. | .benchFlush .. | .benchFillLanded ..
  | .victimWritebackAck .. | .parityLimitReached .. | .fmnWdtKick | .storeOpTimeout | .exceptionPost .. | .exceptionHandle | .stepRun ..
  | .stepBudgetExceeded .. | .joinerFault .. | .joinerTestDue .. | .bayLoadDone .. | .bayEmpty .. | .ticketGet .. | .ticketPut .. | .slotGet ..
  | .slotPut .. | .windowCheck .. | .hdmDecode .. | .dirLookup .. | .dirLock .. | .dirUnlock .. | .moveLockGranted .. | .xltLookup ..
  | .cisternAppend .. | .recordHeld .. | .writeAdmitted | .appendResume | .twinSend .. | .cipherSubmission .. | .cipherJobDone .. | .katDue ..
  | .entropyHealthFail | .counterBlockRecorded .. | .tierRead .. | .tierWrite .. | .quarterArrived .. | .moveDone .. | .sweepPassStart
  | .sweepPassEnd | .ageEviction | .pressureEviction .. | .frameWaitResume .. | .copyRebuildDone .. | .floorChannelLost .. | .loftStackFenced ..
  | .cisternRoomMade | .cisternCopyDone | .drainPackStart .. | .packConfirmed .. | .checkpointConfirmed .. | .packProgramFailed .. | .resawStart
  | .resawRelocate .. | .resawErase .. | .wearRelocation | .rowGroupPadTimeout .. | .programStatus .. | .eraseStatus .. | .suspendDone ..
  | .quarterReadDone .. | .ladderDeadline .. | .dieTimeout .. | .channelTrainingFail .. | .boardSurpriseAbsent .. | .boardRebuildDone ..
  | .lockPairFillDone .. | .lockPairDrainDone .. | .scrubRead .. | .scrubPassLate .. | .eccThresholdReached .. | .hostLinkUp .. | .offerTimeout ..
  | .releaseTimeout .. | .waitTimeout .. | .admissionWaitExpiry .. | .ackCoalesceExpiry .. | .messageAbandon .. | .contextFetched ..
  | .rateRecover .. | .rdmaPortLinkUp .. | .yardAlloc .. | .yardFree .. | .yardHandover .. | .ditchEnq .. | .ditchDeq .. | .dropRemainder ..
  | .qopen .. | .qclose .. | .heartbeatWordReceived .. | .pairFenceInAssert | .pairFenceInDeassert | .pairPfInAssert | .pairInputPulse ..
  | .hbTimeout | .stall | .cableFaultSet | .cableFaultClear | .mirrorPathArbitration | .linkAndCable | .fenceMarginEnd | .joinStart .. | .joinAbandon
  | .joinSettle .. | .resyncStream | .resyncEnd | .keepaliveSend .. | .parityFrameSend .. | .ackFrameSend | .setupFrame .. | .parityFrame ..
  | .rekeyDue .. | .rekeyRetry .. | .oldKeyDrop .. | .keyUseLimit .. | .rilramPortDown .. | .rilramPortUp .. | .rilramViolationLimit ..
  | .logPageConfirmed | .storeEraseDone .. | .entropyHealthPass | .keepaliveFrame .. | .recordsFrame .. | .forwardFrame .. | .returnFrame ..
  | .ackFrame .. | .resendFrame .. | .stateFrame .. | .handoverFrame .. | .reachCtlFrame .. | .granuleFrame .. | .granuleAckFrame .. | .rekeyFrame .. =>
    .opened s.live up_dead
  | .catchupMapFrame .. => execCatchupMapFrame_acts
  | .identify .. | .health .. | .statsRead .. | .modeRequest .. | .reset .. | .frameOpen .. | .frameStage .. | .frameDryfit .. | .framePeg ..
  | .frameDiscard .. | .frameStatus .. | .cxlWindowOpen .. | .cxlWindowClose .. | .dcdExtentAdd .. | .dcdExtentRelease .. | .cxlGapAck ..
  | .dcRegionSet .. | .staticCapacitySet .. | .hostLinkUnfence .. | .windowList .. | .windowStatus .. | .pdCreate .. | .pdDestroy .. | .qpCreate ..
  | .qpModify .. | .qpError .. | .qpDestroy .. | .rdmaGapAck .. | .counterSet .. | .rdmaPortUnfence .. | .rdmaWindowOpen .. | .rdmaWindowClose ..
  | .qpStatus .. | .counterRead .. | .reachProvision .. | .reachRelease .. | .reachHandover .. | .pairStatus .. | .pairJoinAccept .. | .pairSplit ..
  | .pairResolve .. | .soloStart .. | .linkUnfence .. | .dirRead .. | .cisternStatus .. | .reachRead .. | .boardRelease .. | .boardAdmit ..
  | .footingFormat .. | .footingStatus .. | .keyLoad .. | .keyClear .. | .keyForget .. | .cipherSubmit .. | .slotStatus .. | .storeStatus ..
  | .imageWrite .. | .imageCommit .. | .hotRestart .. | .regionUnlock .. | .logRead .. | .logStatus .. | .logNote .. | .powerStatus ..
  | .dischargeTest .. | .headgateStatus .. | .freeze .. | .selftestReport .. | .surveyInfo .. | .joineryLoad .. | .bayDrain .. | .bayStatus ..
  | .reclaim .. | .yardInspect .. | .ditchInspect .. => .opened s.live fun h => by simp [up_dead h]
  | .mbxCancel .. | .mbxAck .. | .mbxCommandStart .. | .pairMailboxCommand .. | .lockstepMismatch => .opened s.live fun h => by simp [answers_dead h]
  | .mbxRing .. => .closed s.live fun h => by simp [answers_dead h]
  | .watchdogExpiry | .graceEnd => .opened s.live fun h => by simp [watchdogRuns_dead h]
  | .logPageWrite => .opened s.live fun h => by simp [mayWritePage_dead h]
  | .cdatRead .. | .identifyMemoryDevice .. | .getSupportedLogs .. | .getLog .. | .getEventRecords .. | .clearEventRecords ..
  | .getEventInterruptPolicy .. | .setEventInterruptPolicy .. | .getTimestamp .. | .setTimestamp .. | .getHealthInfo .. | .getPoisonList ..
  | .clearPoison .. | .getDcConfiguration .. | .getDcExtentList .. | .cxlUnsupportedOpcode .. | .cxlViolationLimit .. | .hdmDecoderCommit .. =>
    .opened s.live fun h => by simp [portCarries_dead h]
  | .getLdInfo .. | .getLdAllocations .. | .setLdAllocations .. | .getQosControl .. | .setQosControl .. | .getQosStatus .. | .memInv ..
  | .cxlViolation .. | .gpfPhase1 .. | .gpfPhase2 .. | .hostLinkDown .. => .opened s.live portCarries_dead
  | .memSpecRd .. | .addDcResponse .. | .releaseDynamicCapacity .. => .closed s.live fun h => by simp [portCarries_dead h]
  | .memRd .. | .memWr .. | .memWrPtl .. => .of_eq s.live arriveMsg_dead
  | .pfcStorm .. | .rdmaViolationLimit .. => .opened s.live fun h => by simp [ethCarries_dead h]
  | .rdmaPortLinkDown .. => .opened s.live ethCarries_dead
  | .cnpReceived .. | .pfcPauseReceived .. | .arpRequest .. | .rdmaViolation .. => .closed s.live fun h => by simp [ethCarries_dead h]
  | .rdmaSend .. | .rdmaWrite .. | .rdmaWriteWithImmediate .. | .rdmaRead .. | .compareSwap .. | .fetchAdd .. | .atomicWrite .. | .rdmaFlush ..
  | .rdmaWait .. => .of_eq s.live arrivePacket_dead
  | .spdmGetVersion .. | .spdmGetCapabilities .. | .spdmNegotiateAlgorithms .. | .spdmGetDigests .. | .spdmChallenge .. | .spdmUnsupportedRequest .. =>
    .opened s.live pathAnswers_dead
  | .spdmEndSession .. => .opened s.live fun h => by simp [pathAnswers_dead h]
  | .spdmGetMeasurements .. | .spdmKeyExchange .. | .spdmFinish .. => .closed s.live fun h => by simp [pathAnswers_dead h]
  | .spdmGetCertificate .. => .ite (.opened s.live pathAnswers_dead) (.opened s.live pathAnswers_dead)
  | .spdmKeyUpdate .. | .spdmHeartbeat .. => .ite (.opened s.live pathAnswers_dead) (.same s)

/-- A command that may not act leaves the state as it was. -/
theorem exec_idle {c : Instr} {s : State} (h : mayAct c s = false) : exec c s = .next s := by
  obtain ⟨t, e, k⟩ := exec_acts c s
  rw [e, k h]

theorem live_of_frozen {s : State} (h : s.evr.frozen = true) : s.live = false := by
  rw [State.live, h, Bool.not_true, Bool.and_false]

theorem live_of_unpowered {s : State} (h : s.pwr.powered = false) : s.live = false := by
  rw [State.live, h, Bool.false_and]

/-- Settles O4: the guard of each row answers a next state, whatever it finds. -/
theorem noCommandStopsTheModule : Obligations.NoCommandStopsTheModule := by
  unfold Obligations.NoCommandStopsTheModule
  intro c s
  obtain ⟨t, e, -⟩ := exec_acts c s
  exact ⟨t, e⟩

/-- Settles O8: without power neither the rows left to a frozen module nor those of island 0 may act. -/
theorem unpoweredModuleActsOnPowerOnAlone : Obligations.UnpoweredModuleActsOnPowerOnAlone := by
  unfold Obligations.UnpoweredModuleActsOnPowerOnAlone
  intro c s hp hc
  refine exec_idle ?_
  rw [mayAct_of_ne_powerOn hc, hp, live_of_unpowered hp, Bool.cond_self]

/-- Settles O9: a freeze stops island 0, which every row needs that is not left to a frozen module. -/
theorem frozenModuleActsOnPowerResetAndJtagAlone : Obligations.FrozenModuleActsOnPowerResetAndJtagAlone := by
  unfold Obligations.FrozenModuleActsOnPowerResetAndJtagAlone
  intro c s hf ha
  have hc : c ≠ .powerOn := fun e => absurd ha (by simp [e, actsFrozen])
  refine exec_idle ?_
  rw [mayAct_of_ne_powerOn hc, ha, live_of_frozen hf, cond_false]

/-- Settles O1, by the step's case of a queue with a front. -/
theorem stepRunsFrontCommand : Obligations.StepRunsFrontCommand := by
  unfold Obligations.StepRunsFrontCommand
  intro s c rest
  exact step_of_pending_cons

/-- Settles O2, by the step's case of an empty queue. -/
theorem emptyQueueIdles : Obligations.EmptyQueueIdles := by
  unfold Obligations.EmptyQueueIdles
  intro s
  exact step_of_pending_nil

end Sys2Proof.Machine
end

section
/-!
SUPPORT. The mailbox life cycle (O23, O24, O26): the doorbells that are ignored, refused by a check of R445, cancelled and acknowledged, the start of a
queued command, and the mailboxes of a module in STANDBY. That the checks of R445 come before the auto-responder is the model's reading of R434 (log
entry 22).
-/

namespace Sys2Proof.Machine

open Sys2Proof

/-! ### The MBX_STATE registers -/

/-- A field that `K` names reads as before. -/
theorem Keeps.read {K : Nat → Bool} {s t : State} (h : Keeps K s t) (r : s.regsOk) {f : Fld} (hf : K f.key = true) : t.get f = s.get f := (h r).2 f hf

/-- The keys of MBX_STATE of the 40 mailboxes. -/
def mbxStateKey (k : Nat) : Bool := decide (0x20000 * 512 ≤ k ∧ k < 0x20140 * 512)

theorem mbxStateKey_state {m : Nat} (hm : m < 40) : mbxStateKey (Reg.MBX_STATE_STATE m).key = true :=
  decide_eq_true (by simp only [Reg.MBX_STATE_STATE]; omega)

theorem mbxStateKey_notifyPending {m : Nat} (hm : m < 40) : mbxStateKey (Reg.MBX_STATE_NOTIFY_PENDING m).key = true :=
  decide_eq_true (by simp only [Reg.MBX_STATE_NOTIFY_PENDING]; omega)

/-- Counting the queue anew leaves MBX_STATE. -/
theorem queueSync_keepsState (s : State) : Keeps mbxStateKey s (queueSync s) :=
  ((Keeps.put (by decide)).trans (.put (by decide))).trans ((Keeps.put (by decide)).trans (.put (by decide)))

theorem queueSync_mbx (s : State) : (queueSync s).mbx = s.mbx := rfl

theorem ringEntered_regsOk {m : Nat} {s : State} (h : s.regsOk) : (ringEntered m s).regsOk :=
  have entered : ((s.onMbx fun x => { x with rings := x.rings + 1 }).inc (Reg.MBX_STAT_COUNT 0)).regsOk := inc_regsOk h
  put_regsOk (put_regsOk (put_regsOk (put_regsOk (put_regsOk (put_regsOk entered)))))

/-! ### Doorbells refused (R445, R446) -/

/-- A header that fails a check is refused with its status once the RING is entered. -/
theorem ringAccepted_refused {m sess : Nat} {s : State} {st : St} {d : Nat} (hc : ringCheck m sess s = some (st, d)) (mean : Nat) :
    ringAccepted m sess mean s = refuse m st d (ringEntered m s) := by
  simp only [ringAccepted, hc]

/-- Check 1: a mailbox that MBX_ENABLE disables. -/
theorem ringCheck_disabled {m : Nat} {s : State} (hm : m < 36) (he : bitOf m (s.get Reg.MBX_ENABLE_ENABLE) = false) (sess : Nat) :
    ringCheck m sess s = some (.notPermitted, noDetail) :=
  if_pos (by simp [hm, he])

/-- Settles O24: the RING is entered and refused, and a refused command stands COMPLETE, neither queued nor running. -/
theorem doorbellRefusedByTheFirstFailingCheck : Obligations.DoorbellRefusedByTheFirstFailingCheck := by
  unfold Obligations.DoorbellRefusedByTheFirstFailingCheck
  intro s m sess mean st d ha r hm h1 h2 hc
  obtain ⟨hstate, hstatus⟩ := refuse_state (st := st) (detail := d) (ringEntered_regsOk (m := m) r) (Nat.lt_trans hm (by decide))
  refine ⟨refuse m st d (ringEntered m s), ?_, hstate, hstatus, completeW_queue m st 0 d false [] _, completeW_running m st 0 d false [] _, fun he => ?_⟩
  · rw [exec_mbxRing_accepted ha hm h1 h2, ringAccepted_refused hc]
  · rw [ringCheck_disabled hm he] at hc
    cases hc
    rfl

/-! ### Where the module answers doorbells (R437, R440, R443, R444, R451) -/

section
variable {s : State} {m : Nat} (ha : s.answers = true)
include ha

theorem exec_mbxRing_ignored (hm : m < 36) (hb : s.get (Reg.MBX_STATE_STATE m) = 1 ∨ s.get (Reg.MBX_STATE_STATE m) = 2) (sess mean : Nat) :
    exec (.mbxRing m sess mean) s = .next (s.inc (Reg.MBX_STAT_COUNT 7)) := by
  change execMbxRing m sess mean s = _
  exact congrArg _ ((if_neg (by simp [ha, hm])).trans (if_pos (by simpa using hb)))

theorem exec_mbxCancel_queued (h1 : s.get (Reg.MBX_STATE_STATE m) = 1) : exec (.mbxCancel m) s =
    .next (queueSync (completeW m .aborted 0 noDetail false [] s)) := by
  change execMbxCancel m s = _
  rw [execMbxCancel, if_pos (by simp [ha, h1])]

/-- An ACK leaves a COMPLETE mailbox IDLE with no signal pending; ALERT_N is another register. -/
theorem exec_mbxAck_complete (r : s.regsOk) (hm : m < 40) (h3 : s.get (Reg.MBX_STATE_STATE m) = 3) : ∃ t, exec (.mbxAck m) s = .next t ∧
    t.get (Reg.MBX_STATE_STATE m) = 0 ∧ t.get (Reg.MBX_STATE_NOTIFY_PENDING m) = 0 ∧ t.mbx = s.mbx := by
  change ∃ t, execMbxAck m s = .next t ∧ _
  rw [execMbxAck, if_pos (by simp [ha, h3])]
  refine ⟨_, rfl, ?_⟩
  extract_lets -merge -underBinder u
  have ru : (s.put (Reg.MBX_STATE_STATE m) 0).regsOk := put_regsOk r
  have idle : u.get (Reg.MBX_STATE_STATE m) = 0 :=
    (get_put_other ru (by simp only [Reg.MBX_STATE_STATE, Reg.MBX_STATE_NOTIFY_PENDING]; omega)).trans (get_put_same r)
  have silent : u.get (Reg.MBX_STATE_NOTIFY_PENDING m) = 0 := get_put_same ru
  split
  · exact ⟨idle, silent, rfl⟩
  · have released : Keeps mbxStateKey u (u.put Reg.GLB_DISCRETES_ALERT_N 0) := .put (by decide)
    exact ⟨(released.read (put_regsOk ru) (mbxStateKey_state hm)).trans idle,
      (released.read (put_regsOk ru) (mbxStateKey_notifyPending hm)).trans silent, rfl⟩

/-- A queued fast-lane command leaves the queue and is RUNNING, whatever the foreman does. -/
theorem exec_mbxCommandStart_fast (r : s.regsOk) (hm : m < 40) (h1 : s.get (Reg.MBX_STATE_STATE m) = 1) (hq : s.mbx.queue.contains m = true)
    (hf : s.get (Reg.MBX_STATE_FAST m) = 1) : ∃ t, exec (.mbxCommandStart m) s = .next t ∧ t.get (Reg.MBX_STATE_STATE m) = 2 ∧
      t.mbx.running = s.mbx.running ++ [m] ∧ t.mbx.queue = s.mbx.queue.filter (· != m) := by
  have fast : (s.get (Reg.MBX_STATE_FAST m) == 1) = true := beq_iff_eq.mpr hf
  have started : execMbxCommandStart m s = .next (queueSync ((s.onMbx fun x =>
      { x with queue := x.queue.filter (· != m), running := x.running ++ [m] }).put (Reg.MBX_STATE_STATE m) 2)) := by
    simp only [execMbxCommandStart, fast, Bool.true_or, if_true]
    exact congrArg _ (if_pos (by simp only [ha, h1, hq, decide_true, Bool.and_self]))
  refine ⟨_, started, ?_, rfl, rfl⟩
  exact ((queueSync_keepsState _).read (put_regsOk (s := s.onMbx _) r) (mbxStateKey_state hm)).trans (get_put_same (s := s.onMbx _) r)

/-- A command of the twin's foreman is written into its pair mailbox at priority 0 and rung (R437, R440). -/
theorem exec_pairMailboxCommand_idle (h36 : 36 ≤ m) (hm : m < 40) (h1 : s.get (Reg.MBX_STATE_STATE m) ≠ 1) (h2 : s.get (Reg.MBX_STATE_STATE m) ≠ 2)
    (op : Nat) (payload : List Nat) : exec (.pairMailboxCommand m op payload) s = .next (ringAccepted m 0 0 ((((s.onMbx fun x =>
      { x with payload := writeBytes (m * 4096) ((payload.map (BitVec.ofNat 8)).take 4096) x.payload }).put (Mb.opcode m) op).put (Mb.priority m) 0).put
        (Mb.length m) ((payload.map (BitVec.ofNat 8)).take 4096).length)) := by
  change execPairMailboxCommand m op payload s = _
  exact congrArg _ (if_pos (by simp [ha, h36, hm, h1, h2]))

end

/-- Settles O23, a doorbell and a start at a time. -/
theorem mailboxLifeCycleCommandsComplete : Obligations.MailboxLifeCycleCommandsComplete := by
  unfold Obligations.MailboxLifeCycleCommandsComplete
  intro s m ha r
  exact ⟨exec_mbxRing_accepted ha, exec_mbxRing_ignored ha, exec_mbxCancel_queued ha, exec_mbxAck_complete ha r, exec_mbxCommandStart_fast ha r,
    exec_pairMailboxCommand_idle ha⟩

/-! ### STANDBY (R453) -/

theorem answers_standby {s : State} (hm : s.mode = .standby) : s.answers = false := by
  simp [State.answers, State.up, hm]

/-- Settles O26: in STANDBY the islands do not run, so the module answers no doorbell. -/
theorem noMailboxIsServedInStandby : Obligations.NoMailboxIsServedInStandby := by
  unfold Obligations.NoMailboxIsServedInStandby
  intro s m sess mean op payload hm
  have ha := answers_standby hm
  have ring : execMbxRing m sess mean s = .next s := congrArg _ (if_pos (by simp [ha]))
  have cancel : execMbxCancel m s = .next s := congrArg _ (if_neg (by simp [ha]))
  have ack : execMbxAck m s = .next s := congrArg _ (if_neg (by simp [ha]))
  have start : execMbxCommandStart m s = .next s := congrArg _ (if_neg (by simp [ha]))
  have pair : execPairMailboxCommand m op payload s = .next s := congrArg _ (if_neg (by simp [ha]))
  exact ⟨ring, cancel, ack, start, pair⟩

end Sys2Proof.Machine
end

section
/-!
SUPPORT. Identity, health and statistics (O27).
-/

namespace Sys2Proof.Machine

open Sys2Proof

/-! ### The responses of R458 -/

theorem identifyBytes_length (s : State) : (identifyBytes s).length = 128 := padTo_length _ _

/-- The variant stands behind the 41 bytes of part number, serial number, release, image version, identity and position. -/
theorem identifyBytes_variant (s : State) : (identifyBytes s)[41]? = some (BitVec.ofNat 8 (b2n s.store.variantB)) := by
  rw [identifyBytes, padTo_getElem? (by decide) (by simp)]
  simp [leBytes]

theorem healthBytes_length (s : State) : (healthBytes s).length = 64 := padTo_length _ _

theorem healthBytes_modes (s : State) :
    (healthBytes s).take 2 = [BitVec.ofNat 8 (s.get Reg.MOD_STATE_MODE), BitVec.ofNat 8 (s.get Reg.TWN_STATE_PAIR_STATE)] := rfl

/-! ### The commands (R458, R459) -/

section
variable {s : State} {m : Nat}

theorem exec_identify (h : s.runsCmd m 0x0101) : exec (.identify m) s = .next (complete m (identifyBytes s) s) :=
  show execIdentify m s = _ from onCmd_of_runsCmd h _

theorem exec_health (h : s.runsCmd m 0x0102) : exec (.health m) s = .next (complete m (healthBytes s) s) :=
  show execHealth m s = _ from onCmd_of_runsCmd h _

section
variable (h : s.runsCmd m 0x0181)
include h

theorem exec_statsRead_badCount (hn : reqNat s m 0 2 = 0 ∨ 512 < reqNat s m 0 2) : exec (.statsRead m) s = .next (refuse m .badField (atPayload 0) s) := by
  change execStatsRead m s = _
  rw [execStatsRead, onCmd_of_runsCmd h]
  exact congrArg _ (if_pos hn)

section
variable (h1 : 1 ≤ reqNat s m 0 2) (h512 : reqNat s m 0 2 ≤ 512)
include h1 h512

theorem exec_statsRead_badLength (hl : s.get (Mb.length m) ≠ 8 + 4 * reqNat s m 0 2) : exec (.statsRead m) s = .next (refuse m .badLength 8 s) := by
  change execStatsRead m s = _
  rw [execStatsRead, onCmd_of_runsCmd h]
  exact congrArg _ ((if_neg (by omega)).trans (if_pos hl))

section
variable (hl : s.get (Mb.length m) = 8 + 4 * reqNat s m 0 2) {offs : List Nat}
  (ho : (List.range (reqNat s m 0 2)).map (fun i => reqNat s m (8 + 4 * i) 4) = offs)
include hl ho

theorem exec_statsRead_values (hc : statsCheck 0 offs = none) : exec (.statsRead m) s =
    .next (complete m (offs.flatMap (fun x => leBytes 8 (readAt s x))) s) := by
  change execStatsRead m s = _
  simp only [execStatsRead, onCmd_of_runsCmd h, ho, hc]
  exact congrArg _ ((if_neg (by omega)).trans (if_neg (not_not_intro hl)))

theorem exec_statsRead_badEntry {st : St} {i : Nat} (hc : statsCheck 0 offs = some (st, i)) : exec (.statsRead m) s =
    .next (refuse m st (atPayload (8 + 4 * i)) s) := by
  change execStatsRead m s = _
  simp only [execStatsRead, onCmd_of_runsCmd h, ho, hc]
  exact congrArg _ ((if_neg (by omega)).trans (if_neg (not_not_intro hl)))

end

end

end

end

/-- Settles O27: the bytes are laid out in order, and a statistics list is judged by count, length and entries in turn. -/
theorem identityCommandsComplete : Obligations.IdentityCommandsComplete := by
  unfold Obligations.IdentityCommandsComplete
  intro s m
  exact ⟨fun h => ⟨exec_identify h, identifyBytes_length s, identifyBytes_variant s⟩,
    fun h => ⟨exec_health h, healthBytes_length s, healthBytes_modes s⟩,
    fun h => ⟨exec_statsRead_badCount h, exec_statsRead_badLength h,
      fun h1 h512 hl => ⟨exec_statsRead_values h h1 h512 hl rfl, fun st i => exec_statsRead_badEntry h h1 h512 hl rfl⟩⟩⟩

end Sys2Proof.Machine
end

section
/-!
SUPPORT. The firmware store: the hot restart (O33) and the programming of a word (O34). The verdict of the verification and whether a read-back differs
are operands (log entry 2).
-/

namespace Sys2Proof.Machine

open Sys2Proof

/-! ### What a hot restart leaves of the foreman's state (R432) -/

/-- A fold whose steps leave a part of the state leaves it. -/
theorem foldl_leaves {α β : Type} {part : State → β} {f : State → α → State} (h : ∀ s a, part (f s a) = part s) :
    ∀ (l : List α) (s : State), part (l.foldl f s) = part s
  | [], _ => rfl
  | a :: l, s => (foldl_leaves h l (f s a)).trans (h s a)

theorem frameSync_fmn (f : Nat) (s : State) : (frameSync f s).fmn = s.fmn := by
  simp only [frameSync, State.put_fmn]

theorem discardFrames_fmn (s : State) : (discardFrames s).fmn = s.fmn := by
  unfold discardFrames
  extract_lets gone t
  split
  · rfl
  · rw [raise_fmn, State.add_fmn]
    exact foldl_leaves (part := State.fmn) (fun _ _ => frameSync_fmn _ _) gone t

theorem dropLoads_fmn (s : State) : (dropLoads s).fmn = s.fmn :=
  foldl_leaves (part := State.fmn) (fun _ _ => by split <;> rfl) _ _

/-- A hot restart counts no expiry of the watchdog. -/
theorem hotRestart_expiries (s : State) : (hotRestart s).fmn.expiries = s.fmn.expiries := by
  rw [hotRestart, dropLoads_fmn, discardFrames_fmn]
  rfl

/-! ### HOT_RESTART (R557) -/

section
variable {s : State} {m : Nat} (h : s.runsCmd m 0x0A04)
include h

theorem exec_hotRestart_wrongMode (hs : s.serving = false) (hq : s.mode ≠ .quiesced) (v : Bool) : exec (.hotRestart m v) s =
    .next (refuse m .wrongMode noDetail s) := by
  change execHotRestart m v s = _
  rw [execHotRestart, onCmd_of_runsCmd h]
  exact congrArg _ (if_pos (by simp [hs, hq]))

/-- In a serving mode and in QUIESCED the verification decides. -/
theorem exec_hotRestart_verified (hm : s.serving = true ∨ s.mode = .quiesced) (v : Bool) : exec (.hotRestart m v) s =
    .next (if v then hotRestart (complete m [] s) else refuse m .authFailed noDetail s) := by
  change execHotRestart m v s = _
  rw [execHotRestart, onCmd_of_runsCmd h]
  refine congrArg _ ((if_neg (by rcases hm with hm | hm <;> simp [hm])).trans ?_)
  cases v <;> rfl

end

/-- Settles O33: the mode admits the command, the verification decides it, and a restart is no expiry. -/
theorem hotRestartVerifiesTheActiveSlotFirst : Obligations.HotRestartVerifiesTheActiveSlotFirst := by
  unfold Obligations.HotRestartVerifiesTheActiveSlotFirst
  intro s m h
  refine ⟨exec_hotRestart_wrongMode h, fun hm => ⟨?_, ?_, ?_⟩⟩
  · rw [exec_hotRestart_verified h hm, if_neg Bool.false_ne_true]
  · rw [exec_hotRestart_verified h hm, if_pos rfl]
  · rw [hotRestart_expiries, complete_fmn]

/-! ### Programming a word (R544 to R546) -/

theorem storeSync_store (s : State) : (storeSync s).store = s.store :=
  foldl_leaves (part := State.store) (fun _ _ => by rfl) _ _

/-- Marking a sector changes no byte and no count of the store. -/
theorem markSuspect_words (sector : Nat) (s : State) :
    (markSuspect sector s).store.bytes = s.store.bytes ∧ (markSuspect sector s).store.programs = s.store.programs := by
  unfold markSuspect
  split
  · exact ⟨rfl, rfl⟩
  · rw [storeSync_store, raise_store]
    exact ⟨rfl, rfl⟩

theorem markSuspect_marks (sector : Nat) (s : State) : sector ∈ (markSuspect sector s).store.suspect := by
  unfold markSuspect
  split
  · exact List.contains_iff_mem.mp ‹_›
  · rw [storeSync_store, raise_store]
    exact List.mem_cons_self

section
variable {s : State} {addr data : Nat} {fails : Bool}

/-- A sector that was not verified, and one with no spare, takes no program. -/
theorem programWord_unverified (hs : s.store.unverified.contains (addr / 65536) = true ∨ s.store.dead.contains (addr / 65536) = true) :
    programWord addr data fails s = (.notErased, raise 0x0B01 (addr / 65536) addr (s.inc (Reg.FST_STAT_COUNT 2))) :=
  if_pos (by simpa using hs)

section
variable (hu : s.store.unverified.contains (addr / 65536) = false) (hd : s.store.dead.contains (addr / 65536) = false)
include hu hd

theorem programWord_setsBit (hz : data &&& wordZeros s addr ≠ 0) :
    programWord addr data fails s = (.notErased, raise 0x0B01 (addr / 65536) addr (s.inc (Reg.FST_STAT_COUNT 2))) :=
  (if_neg (by rw [hu, hd]; decide)).trans (if_pos hz)

section
variable (hz : data &&& wordZeros s addr = 0)
include hz

theorem programWord_held (hh : data + wordZeros s addr = 2 ^ 256 - 1) : programWord addr data fails s = (.done, s) :=
  (if_neg (by rw [hu, hd]; decide)).trans ((if_neg (not_not_intro hz)).trans (if_pos hh))

section
variable (hh : data + wordZeros s addr ≠ 2 ^ 256 - 1)
include hh

theorem programWord_limit (hp : 2 ≤ tget 0 addr s.store.programs) :
    programWord addr data fails s = (.programLimit, raise 0x0B02 (addr / 65536) addr (s.inc (Reg.FST_STAT_COUNT 3))) :=
  (if_neg (by rw [hu, hd]; decide)).trans ((if_neg (not_not_intro hz)).trans ((if_neg hh).trans (if_pos hp)))

/-- The state after the word has taken the data. -/
def wordTaken (addr data : Nat) (s : State) : State :=
  (s.onStore fun x => { x with bytes := writeBytes addr (leBytes 32 (2 ^ 256 - 1 - data)) x.bytes,
                               programs := tset 0 addr (tget 0 addr x.programs + 1) x.programs }).inc (Reg.FST_STAT_COUNT 1)

theorem programWord_taken (hp : tget 0 addr s.store.programs < 2) : programWord addr data fails s =
    if fails then (.mediaFailed, markSuspect (addr / 65536) (wordTaken addr data s)) else (.done, wordTaken addr data s) :=
  (if_neg (by rw [hu, hd]; decide)).trans ((if_neg (not_not_intro hz)).trans ((if_neg hh).trans (if_neg (Nat.not_le.mpr hp))))

end

end

end

end

/-- Settles O34: the checks in their order; only the last case reaches the store's bytes and counts. -/
theorem wordProgramsNeverSetAClearedBit : Obligations.WordProgramsNeverSetAClearedBit := by
  unfold Obligations.WordProgramsNeverSetAClearedBit
  intro s addr data fails
  refine ⟨fun hs => ?_, fun hu hd => ⟨fun hz => ?_, programWord_held hu hd, fun hz hh hp => ?_, fun hz hh hp => ?_⟩⟩
  · rw [programWord_unverified hs]
    exact ⟨rfl, raise_store ..⟩
  · rw [programWord_setsBit hu hd hz]
    exact ⟨rfl, raise_store ..⟩
  · rw [programWord_limit hu hd hz hh hp]
    exact ⟨rfl, raise_store ..⟩
  · rw [programWord_taken hu hd hz hh hp]
    cases fails with
    | false => exact ⟨rfl, rfl, rfl, nofun⟩
    | true =>
      obtain ⟨hbytes, hprograms⟩ := markSuspect_words (addr / 65536) (wordTaken addr data s)
      exact ⟨rfl, hbytes, hprograms, fun _ => markSuspect_marks _ _⟩

end Sys2Proof.Machine
end

section
/-!
SUPPORT. The power stage, the bank, the headgate, the thermal protection and the mailbox group 0x0C (O13 to O16, O18).
-/

namespace Sys2Proof.Machine

open Sys2Proof

/-! ### The power stage (R495, R508) -/

theorem exec_powerOn_unpowered {s : State} (hp : s.pwr.powered = false) : exec .powerOn s = .next (enterBringup (storeSync (coldStart s))) := by
  change execPowerOn s = _
  rw [execPowerOn, if_neg (by simp [hp])]

theorem exec_uvloShutdown_spillless {s : State} (hp : s.pwr.powered = true) (hm : s.mode ≠ .spill) (hs : s.spills = false) :
    exec .uvloShutdown s = .next (powerOff s) := by
  change execUvloShutdown s = _
  rw [execUvloShutdown, if_neg (by simp [hp, hm, hs])]

/-! ### The stream of a spill (R253, R509, R511, R512) -/

section
variable (j : Nat) (im : SpillImage) (s : State)

/-- A slot written leaves the power state, and the media name the image's number and the slot it goes into. -/
theorem writeSlot_parts : (writeSlot j im s).pwr = s.pwr ∧ (writeSlot j im s).med.spillNo = im.number ∧ (writeSlot j im s).med.spillInto = some j := by
  unfold writeSlot
  extract_lets -merge -underBinder med s1 narrow s2
  split
  · exact ⟨raise_pwr .., congrArg MedSt.spillNo (raise_med ..), congrArg MedSt.spillInto (raise_med ..)⟩
  · exact ⟨rfl, rfl, rfl⟩

/-- A committed image raises no event, so the logbook stays. -/
theorem writeSlot_evr (hc : im.committed = true) : (writeSlot j im s).evr = s.evr := by
  unfold writeSlot
  extract_lets -merge -underBinder med s1 narrow s2
  rw [if_neg (by simp [hc])]
  rfl

end

section
variable {s : State} {r : SpillRun} (hl : s.live = true) (hr : s.pwr.spill = some r)
include hl hr

theorem exec_spillStreamStart_pending (hm : s.mode = .spill) (hn : r.streaming = false) : ∃ t, exec .spillStreamStart s = .next t ∧
    t.pwr.spill = some { r with streaming := true } ∧ t.med.spillNo = s.med.spillNo + 1 ∧ t.med.spillInto = some (if s.med.slot0.isNone then 0 else 1) := by
  have hm' : (s.onPwr fun x => { x with spill := some { r with streaming := true } }).mode = .spill := hm
  change ∃ t, execSpillStreamStart s = .next t ∧ _
  simp only [execSpillStreamStart, onLive_next hl, hr, hn, Bool.false_eq_true, if_false, if_pos hm']
  obtain ⟨hpwr, hno, hinto⟩ := writeSlot_parts (if s.med.slot0.isNone then 0 else 1)
    (spillImage (s.med.spillNo + 1) false 0 0 0 (s.onPwr fun x => { x with spill := some { r with streaming := true } }))
    (s.onPwr fun x => { x with spill := some { r with streaming := true } })
  exact ⟨_, rfl, congrArg PwrSt.spill hpwr, hno, hinto⟩

/-- With no freeze held back, the commit marker leads on to what follows the spill. -/
theorem exec_spillCommitMarker_streaming {j : Nat} (hi : s.med.spillInto = some j) (hs : r.streaming = true) (hf : s.evr.freezeHeld = none)
    (d e v : Nat) (good : Bool) : exec (.spillCommitMarker d e v good) s =
      .next (applyAfter r.after r.mode true good ((((writeSlot j (spillImage s.med.spillNo true d e v s) s).onMed fun x =>
        { x with spillInto := none }).inc (Reg.PWR_STAT_COUNT 3)).inc (Reg.SLC_FTG_STAT_COUNT 7))) := by
  have held : (writeSlot j (spillImage s.med.spillNo true d e v s) s).evr.freezeHeld = none :=
    (congrArg LogSt.freezeHeld (writeSlot_evr j (spillImage s.med.spillNo true d e v s) s rfl)).trans hf
  change execSpillCommitMarker d e v good s = _
  simp only [execSpillCommitMarker, onLive_next hl, hr, hi, hs, Bool.not_true, Bool.false_eq_true, if_false, State.inc_evr, State.onMed_evr, held]

end

theorem exec_bankAt30v_fromBank {s : State} {r : SpillRun} (hp : s.pwr.powered = true) (hf : s.evr.frozen = false) (hr : s.pwr.spill = some r)
    (hb : r.fromBank = true) (good : Bool) :
    exec (.bankAt30v good) s = .next (applyAfter .powerOff 7 false good (s.onEvr fun x => { x with freezeHeld := none })) := by
  change execBankAt30v good s = _
  simp [execBankAt30v, hp, hf, hr, hb]

/-- Settles O13, an event at a time. -/
theorem powerStageCommandsComplete : Obligations.PowerStageCommandsComplete := by
  unfold Obligations.PowerStageCommandsComplete
  exact ⟨fun s => exec_powerOn_unpowered, fun s => exec_uvloShutdown_spillless, fun s r hl hm hr => exec_spillStreamStart_pending hl hr hm,
    fun s r j d e v good hl hr hi hs hf => exec_spillCommitMarker_streaming hl hr hi hs hf d e v good,
    fun s r good hp hf hr hb => exec_bankAt30v_fromBank hp hf hr hb good⟩

/-! ### The bank (R495, R505 to R507) -/

section
variable {s : State} (hl : s.live = true)
include hl

/-- Every write of BANK_CHARGED after VBANK's is to another register. -/
theorem exec_bankCharged_vbank (r : s.regsOk) : ∃ t, exec .bankCharged s = .next t ∧ t.get Reg.PWR_BANK_STATE_VBANK = 9200 := by
  change ∃ t, execBankCharged s = .next t ∧ _
  rw [execBankCharged, onLive_next hl]
  refine ⟨_, rfl, ?_⟩
  extract_lets -merge -underBinder s1 s2 below s3
  have charged : s1.get Reg.PWR_BANK_STATE_VBANK = 9200 := get_put_same r
  have full : Keeps (· == Reg.PWR_BANK_STATE_VBANK.key) s1 s2 := .ite (.put (by decide)) (.refl s1)
  have judged : Keeps (· == Reg.PWR_BANK_STATE_VBANK.key) s2 s3 := .put (by decide)
  have blocked : Keeps (· == Reg.PWR_BANK_STATE_VBANK.key) s3 (if s3.get Reg.PWR_BANK_STATE_STATE = 3 then s3 else setBlock 2 below s3) :=
    .ite (.refl s3) (.put (by decide))
  exact (((full.trans judged).trans blocked).read (put_regsOk r) (by decide)).trans charged

theorem exec_bankRechargeStart_charged (hm : s.mode ≠ .spill) (h1 : s.get Reg.PWR_BANK_STATE_STATE = 1) :
    exec .bankRechargeStart s = .next (s.put Reg.PWR_BANK_STATE_STATE 0) := by
  change execBankRechargeStart s = _
  rw [execBankRechargeStart, onLive_next hl, if_neg (by simp [hm, h1])]

theorem exec_bankFault_new (hm : s.mode ≠ .spill) (h3 : s.get Reg.PWR_BANK_STATE_STATE ≠ 3) (ch : Bool) : exec (.bankFault ch) s =
    .next (failStop (raise 0x0109 (b2n ch) 0 (setBlock 2 true (s.put Reg.PWR_BANK_STATE_STATE 3)))) := by
  change execBankFault ch s = _
  rw [execBankFault, onLive_next hl, if_neg (by simp [hm, h3])]

theorem exec_bankFaultEnd_faulty (h3 : s.get Reg.PWR_BANK_STATE_STATE = 3) : exec .bankFaultEnd s =
    .next (setBlock 2 false ((s.put Reg.PWR_BANK_STATE_STATE 1).put Reg.PWR_BANK_STATE_BELOW_VREQ 0)) := by
  change execBankFaultEnd s = _
  rw [execBankFaultEnd, onLive_next hl, if_neg (not_not_intro h3)]

theorem exec_dischargeTestDue_allowed (ht : testAllowed s = true) (hf : testFloorOf s ≤ 9000) : exec .dischargeTestDue s = .next (startTest s) := by
  change execDischargeTestDue s = _
  rw [execDischargeTestDue, onLive_next hl, if_neg (Nat.not_lt.mpr hf), if_pos ht]

/-- A test that no mailbox waits for and that leaves 1 GiB or more stops no service. -/
theorem exec_dischargeTestEnd_unasked (h2 : s.get Reg.PWR_BANK_STATE_STATE = 2) (hw : s.pwr.testMbx = none) (c esr : Nat)
    (hc : 1 ≤ cisternLimit (eMeasured c esr)) :
    exec (.dischargeTestEnd c esr) s = .next (raise 0x0106 0 (eMeasured c esr) (retryCistern (resizeCistern (recordTest c esr s)))) := by
  have large : ¬ cisternLimit (eMeasured c esr) < 1 := Nat.not_lt.mpr hc
  change execDischargeTestEnd c esr s = _
  simp only [execDischargeTestEnd, onLive_next hl, hw, h2, large, ne_eq, not_true_eq_false, if_false, decide_false, Bool.false_and, Bool.false_eq_true]

end

/-- Settles O14, an event at a time. -/
theorem bankCommandsComplete : Obligations.BankCommandsComplete := by
  unfold Obligations.BankCommandsComplete
  intro s hl r
  exact ⟨exec_bankCharged_vbank hl r, exec_bankRechargeStart_charged hl, exec_bankFault_new hl, exec_bankFaultEnd_faulty hl,
    exec_dischargeTestDue_allowed hl, exec_dischargeTestEnd_unasked hl⟩

/-! ### The headgate (R500, R502, R503) -/

section
variable {s : State} (hup : s.up = true)
include hup

theorem exec_headgateReq (kind arg : Nat) (h0 : Bool) (tokens : Nat) : exec (.headgateReq kind arg h0 tokens) s =
    .next ((hgRequest { owner := hgOwnerOf kind arg, h0 := h0, tokens := tokens } s).2.send
      (.prim "HEADGATE_REQ" (if (hgRequest { owner := hgOwnerOf kind arg, h0 := h0, tokens := tokens } s).1 = 2 then St.headgateDenied.code else 0)
        (hgRequest { owner := hgOwnerOf kind arg, h0 := h0, tokens := tokens } s).1)) :=
  show execHeadgateReq kind arg h0 tokens s = _ from onUp_next hup

theorem exec_headgateReturn (kind arg : Nat) : exec (.headgateReturn kind arg) s = .next (hgReturn (hgOwnerOf kind arg) s) :=
  show execHeadgateReturn kind arg s = _ from onUp_next hup

theorem exec_headgateGrant_next {r : HgReq} (hn : hgNext s = some r) : exec .headgateGrant s =
    .next (hgGive r (s.onPwr fun x => { x with hgWait := s.pwr.hgWait.erase r })) := by
  change execHeadgateGrant s = _
  simp only [execHeadgateGrant, onUp_next hup, hn]

end

section
variable {s : State} {pin : Nat} (hl : s.live = true) (r : s.regsOk)
include hl r

/-- Recording the input power leaves the limit. -/
theorem exec_inputPowerOverLimit_over (hp : pin > s.get Reg.PWR_HG_CFG_LIMIT_W * 10) : exec (.inputPowerOverLimit pin) s =
    .next (raiseRl 0x010C 0 pin ((s.put Reg.PWR_IN_STATE_PIN pin).put Reg.PWR_HG_STATE_STOPPED 1)) := by
  have limit : (s.put Reg.PWR_IN_STATE_PIN pin).get Reg.PWR_HG_CFG_LIMIT_W = s.get Reg.PWR_HG_CFG_LIMIT_W := get_put_other r (by decide)
  change execInputPowerOverLimit pin s = _
  rw [execInputPowerOverLimit, onLive_next hl]
  exact congrArg _ (if_pos (by rwa [limit]))

theorem exec_inputPowerBelowLimit_below (hp : pin + 100 < s.get Reg.PWR_HG_CFG_LIMIT_W * 10) : exec (.inputPowerBelowLimit pin) s =
    .next (hgServe ((s.put Reg.PWR_IN_STATE_PIN pin).put Reg.PWR_HG_STATE_STOPPED 0)) := by
  have limit : (s.put Reg.PWR_IN_STATE_PIN pin).get Reg.PWR_HG_CFG_LIMIT_W = s.get Reg.PWR_HG_CFG_LIMIT_W := get_put_other r (by decide)
  change execInputPowerBelowLimit pin s = _
  rw [execInputPowerBelowLimit, onLive_next hl]
  exact congrArg _ (if_pos (by rwa [limit]))

end

/-- A request that fits, with none of its class before it, is given its tokens at once. -/
theorem hgRequest_granted {s : State} {r : HgReq} (hw : s.flag Reg.PWR_HG_STATE_WITHDRAWN = false) (hf : hgFits s r = true)
    (hn : waitingOf r.h0 s.pwr.hgWait = []) : hgRequest r s = (0, hgGive r s) := by
  rw [hgRequest, if_neg (by simp [hw]), if_pos (by simp [hf, hn])]

/-- Settles O15, a primitive at a time. -/
theorem headgateCommandsComplete : Obligations.HeadgateCommandsComplete := by
  unfold Obligations.HeadgateCommandsComplete
  refine ⟨fun s hup => ⟨exec_headgateReq hup, exec_headgateReturn hup, fun r => exec_headgateGrant_next hup⟩,
    fun s pin hl r => ⟨exec_inputPowerOverLimit_over hl r, exec_inputPowerBelowLimit_below hl r⟩, fun s r hw hf hn => ?_⟩
  rw [hgRequest_granted hw hf hn]
  exact ⟨rfl, rfl⟩

/-! ### Thermal protection (R513 to R515, R528) -/

section
variable {s : State} (hl : s.live = true)
include hl

theorem exec_temperatureSample_whole (temps bad : List Nat) (ht : temps.length ≤ 35) : exec (.temperatureSample temps bad) s =
    .next (let t := setThrottle (sampleLevel temps bad (s.get Reg.PWR_THERM_STATE_LEVEL) (s.get Reg.PWR_THERM_CFG_LEVEL1_C)) (readTemps temps bad s)
           if lidHot temps bad then raiseW 0x0206 0 (temps.getD 34 0) (eventSource 0x0206 0) 60000000 t else t) := by
  change execTemperatureSample temps bad s = _
  rw [execTemperatureSample, onLive_next hl, List.take_of_length_le ht]

/-- A serving mode is neither SPILL nor STANDBY, and a spill is due in it. -/
theorem exec_thermalShutdown_serving (hs : s.serving = true) : exec .thermalShutdown s = .next (spillOnInput .standby s.mode.code
    (if s.alone then stopService (hgWithdraw (setThrottle 3 s)) else fenceSelf (hgWithdraw (setThrottle 3 s)))) := by
  have due : s.spills = true := by rw [State.spills, hs, Bool.true_or]
  have served : (s.mode = .spill || s.mode = .standby) = false := by
    rw [State.serving] at hs
    cases hm : s.mode <;> simp [hm] at hs ⊢
  change execThermalShutdown s = _
  simp only [execThermalShutdown, onLive_next hl, served, hs, due, Bool.false_eq_true, if_false, if_true]

theorem exec_thermalShutdownExit_started (hm : s.mode = .standby) (ht : s.pwr.thermHold = true) (hr : s.pwr.inReset = some 1)
    (ha : (setThrottle 0 (s.onPwr fun x => { x with thermHold := false, inReset := none })).get Reg.MOD_CFG_AUTO_START = 1) :
    exec .thermalShutdownExit s = .next (enterBringup (setThrottle 0 (s.onPwr fun x => { x with thermHold := false, inReset := none }))) := by
  change execThermalShutdownExit s = _
  rw [execThermalShutdownExit, onLive_next hl, if_pos (by simp [hm, ht, hr]), if_pos ha]

end

/-- Settles O16, an event at a time. -/
theorem thermalCommandsComplete : Obligations.ThermalCommandsComplete := by
  unfold Obligations.ThermalCommandsComplete
  intro s hl
  exact ⟨exec_temperatureSample_whole hl, exec_thermalShutdown_serving hl, exec_thermalShutdownExit_started hl⟩

/-! ### Mailbox group 0x0C (R506, R518) -/

theorem powerStatusBytes_length (s : State) : (powerStatusBytes s).length = 64 := by
  simp [powerStatusBytes]

theorem headgateBytes_length (s : State) : (headgateBytes s).length = 64 := by
  simp [headgateBytes, List.range_succ]

section
variable {s : State} {m : Nat}

theorem exec_powerStatus (h : s.runsCmd m 0x0C01) : exec (.powerStatus m) s = .next (complete m (powerStatusBytes s) s) :=
  show execPowerStatus m s = _ from onCmd_of_runsCmd h _

theorem exec_headgateStatus (h : s.runsCmd m 0x0C03) : exec (.headgateStatus m) s = .next (complete m (headgateBytes s) s) :=
  show execHeadgateStatus m s = _ from onCmd_of_runsCmd h _

section
variable (h : s.runsCmd m 0x0C02)
include h

theorem exec_dischargeTest_wrongMode (hs : s.serving = false) (hq : s.mode ≠ .quiesced) : exec (.dischargeTest m) s =
    .next (refuse m .wrongMode noDetail s) := by
  change execDischargeTest m s = _
  rw [execDischargeTest, onCmd_of_runsCmd h, if_pos (by simp [hs, hq])]

/-- The conditions of R506 hold in the modes that the command is accepted in. -/
theorem exec_dischargeTest_allowed (ht : testAllowed s = true) (hf : testFloorOf s ≤ 9000) : exec (.dischargeTest m) s =
    .next (startTest (s.onPwr fun x => { x with testMbx := some m })) := by
  have hm : (s.serving || s.mode = .quiesced) = true := by
    simp only [testAllowed, Bool.and_eq_true] at ht
    obtain ⟨⟨hm, -⟩, -⟩ := ht
    exact hm
  change execDischargeTest m s = _
  rw [execDischargeTest, onCmd_of_runsCmd h, hm, ht, if_neg (by decide), if_neg (by simpa using hf)]

end

end

/-- Settles O18, a command at a time. -/
theorem powerMailboxCommandsComplete : Obligations.PowerMailboxCommandsComplete := by
  unfold Obligations.PowerMailboxCommandsComplete
  intro s m
  exact ⟨fun h => ⟨exec_powerStatus h, powerStatusBytes_length s⟩, fun h => ⟨exec_headgateStatus h, headgateBytes_length s⟩,
    exec_dischargeTest_allowed, exec_dischargeTest_wrongMode⟩

end Sys2Proof.Machine
end

section
/-!
SUPPORT. Resets, the way out of STANDBY, MODE_REQUEST and the held entry to a serving mode (O19, O21). That a reset during a spill follows it, and within
1 s, is the model's reading (log entry 69), as are the level of MOD_RESET_N (log entry 72), MOD_CTL.START on held islands and the response of
MODE_REQUEST (log entry 70), its answer to a management session (log entry 102), and what MODE_REQUEST does at once (log entries 95 and 100).
-/

namespace Sys2Proof.Machine

open Sys2Proof

/-! ### Module resets (R524 to R527, R577) -/

section
variable {s : State} (hp : s.pwr.powered = true)
include hp

theorem exec_modResetNAssert_frozen (hf : s.evr.frozen = true) : exec .modResetNAssert s =
    .next (moduleReset 0 2 (s.put Reg.GLB_DISCRETES_MOD_RESET_N 0).mode.code false (s.put Reg.GLB_DISCRETES_MOD_RESET_N 0)) := by
  change execModResetNAssert s = _
  rw [execModResetNAssert, if_neg (by simp [hp])]
  exact congrArg _ (if_pos hf)

/-- The line's own register leaves the mode, so out of SPILL the reset is called at once. -/
theorem exec_modResetNAssert_called (r : s.regsOk) (hf : s.evr.frozen = false) (hs : s.pwr.spill = none) (hm : s.mode ≠ .spill) :
    exec .modResetNAssert s = .next (callReset 0 2 (s.put Reg.GLB_DISCRETES_MOD_RESET_N 0)) := by
  have hm' : (s.put Reg.GLB_DISCRETES_MOD_RESET_N 0).mode ≠ .spill := by
    rwa [Keeps.mode (.put (by decide)) r]
  change execModResetNAssert s = _
  simp only [execModResetNAssert, hp, State.put_evr, State.put_pwr, hf, hs, if_neg hm', Bool.not_true, Bool.false_eq_true, if_false]

end

section
variable {s : State} (hl : s.live = true)
include hl

/-- Held for 100 µs, the islands leave reset by the scope. -/
theorem exec_moduleResetRelease_due {scope : Nat} (hr : s.pwr.inReset = some scope) (he : s.get Reg.MOD_RESET_LOG_EPOCH + 100 ≤ s.epoch % 2 ^ 48) :
    exec .moduleResetRelease s = .next (if scope = 0 then enterBringup (s.put Reg.GLB_DISCRETES_MOD_RESET_N 1)
      else if scope = 2 then enterRecovery (s.put Reg.GLB_DISCRETES_MOD_RESET_N 1)
      else (s.put Reg.GLB_DISCRETES_MOD_RESET_N 1).onPwr fun x => { x with inReset := none }) := by
  change execModuleResetRelease s = _
  simp only [execModuleResetRelease, onLive_next hl, hr]
  exact congrArg _ (if_neg (Nat.not_lt.mpr he))

theorem exec_resetApply_spillless {scope : Nat} (hr : s.pwr.resetPend = some scope) (hs : s.pwr.spill = none) : exec .resetApply s =
    .next (callReset scope 3 (s.onPwr fun x => { x with resetPend := none })) := by
  change execResetApply s = _
  simp only [execResetApply, onLive_next hl, hr, State.onPwr_pwr, hs]

theorem exec_preResetSpillLimit_due {r : SpillRun} (hs : s.pwr.spill = some r) (hb : r.fromBank = false) (he : r.started + 1000000 ≤ s.epoch) :
    exec .preResetSpillLimit s = .next (applyAfter r.after r.mode false true (s.onMed fun x => { x with spillInto := none })) := by
  change execPreResetSpillLimit s = _
  simp only [execPreResetSpillLimit, onLive_next hl, hs]
  exact congrArg _ (if_neg (by simpa [hb] using he))

/-- MOD_CTL.START of a management session at OPERATE, on a module that no reset holds in STANDBY (R528). -/
theorem exec_modCtlStart_standby {acc : Nat} (ha : isMgmt acc = true) (he : s.get Reg.GLB_MGT_CFG_ENABLE ≠ 0) (h1 : 1 ≤ accessorLevel acc s)
    (hm : s.mode = .standby) (hr : s.pwr.inReset = none) : exec (.modCtlStart acc) s = .next ((enterBringup s).send (.reply acc St.done.code [])) := by
  have carried : writeCarried acc s = true := by simp [writeCarried, hm, he]
  change execModCtlStart acc s = _
  rw [execModCtlStart, onLive_next hl, if_pos ha, pulseWrite_permitted _ carried h1, if_pos (by simp [hm, hr]), mgmtReply_mgmt _ ha]

end

section
variable {s : State} {m : Nat} (h : s.runsCmd m 0x0202)
include h

theorem exec_reset_pending (hc : reqNat s m 0 1 % 4 ≠ 3) (hs : s.pwr.spill = none) : exec (.reset m) s =
    .next (complete m [] (s.onPwr fun x => { x with resetPend := some (reqNat s m 0 1 % 4) })) := by
  change execReset m s = _
  rw [execReset, onCmd_of_runsCmd h]
  exact congrArg _ ((if_neg hc).trans (if_neg (by simp [hs])))

theorem exec_reset_badScope (hc : reqNat s m 0 1 % 4 = 3) : exec (.reset m) s = .next (refuse m .badField (atPayload 0) s) := by
  change execReset m s = _
  rw [execReset, onCmd_of_runsCmd h]
  exact congrArg _ (if_pos hc)

end

/-- Settles O19, a source of a reset and a way out of STANDBY at a time. -/
theorem resetCommandsComplete : Obligations.ResetCommandsComplete := by
  unfold Obligations.ResetCommandsComplete
  exact ⟨fun s hp => ⟨exec_modResetNAssert_frozen hp, exec_modResetNAssert_called hp⟩, fun s scope hl => exec_moduleResetRelease_due hl,
    fun s m h => ⟨exec_reset_pending h, exec_reset_badScope h⟩, fun s scope hl => exec_resetApply_spillless hl,
    fun s r hl => exec_preResetSpillLimit_due hl, fun s acc hl => exec_modCtlStart_standby hl⟩

/-! ### MODE_REQUEST (R460, R523) -/

section
variable {s : State} {m : Nat} (h : s.runsCmd m 0x0201)
include h

theorem exec_modeRequest_badTarget (ht : reqNat s m 0 1 % 16 = 0 ∨ 9 ≤ reqNat s m 0 1 % 16) : exec (.modeRequest m) s =
    .next (refuse m .badField (atPayload 0) s) := by
  change execModeRequest m s = _
  rw [execModeRequest, onCmd_of_runsCmd h]
  exact congrArg _ (if_pos ht)

/-- QUIESCED, by the mode. -/
theorem exec_modeRequest_quiesced (ht : reqNat s m 0 1 % 16 = 3) : exec (.modeRequest m) s = .next (
    if s.mode = .quiesced then complete m (leBytes 8 s.mode.code) s
    else if s.mode = .solo then complete m (leBytes 8 (quiesce s).mode.code) (quiesce s)
    else if s.mode = .paired || s.mode = .resync then refuse m .notPermitted noDetail s
    else refuse m .wrongMode noDetail s) := by
  change execModeRequest m s = _
  rw [execModeRequest, onCmd_of_runsCmd h]
  exact congrArg _ ((if_neg (by rw [ht]; decide)).trans (if_pos ht))

/-- RECOVERY, by the mode and the spill. -/
theorem exec_modeRequest_recovery (ht : reqNat s m 0 1 % 16 = 8) : exec (.modeRequest m) s = .next (
    if s.mode ≠ .quiesced ∨ s.pwr.spill.isSome then refuse m .wrongMode noDetail s
    else if s.spills then preReset .recovery (s.onPwr fun x => { x with modeMbx := some m })
    else enterRecovery (s.onPwr fun x => { x with modeMbx := some m })) := by
  change execModeRequest m s = _
  rw [execModeRequest, onCmd_of_runsCmd h]
  exact congrArg _ ((if_neg (by rw [ht]; decide)).trans ((if_neg (by rw [ht]; decide)).trans (if_pos ht)))

theorem exec_modeRequest_otherTarget (ht : reqNat s m 0 1 % 16 ∈ [1, 2, 4, 5, 6, 7]) : exec (.modeRequest m) s =
    .next (refuse m .notPermitted noDetail s) := by
  have h0 : ¬(reqNat s m 0 1 % 16 = 0 ∨ reqNat s m 0 1 % 16 ≥ 9) := by
    simp only [List.mem_cons, List.not_mem_nil, or_false] at ht
    omega
  have h3 : reqNat s m 0 1 % 16 ≠ Mode.quiesced.code := fun e => by
    rw [e] at ht
    exact absurd ht (by decide)
  have h8 : reqNat s m 0 1 % 16 ≠ Mode.recovery.code := fun e => by
    rw [e] at ht
    exact absurd ht (by decide)
  change execModeRequest m s = _
  rw [execModeRequest, onCmd_of_runsCmd h]
  exact congrArg _ ((if_neg h0).trans ((if_neg h3).trans (if_neg h8)))

end

/-- The entry held by SERVE_BLOCK is made once every bit is clear (R521). -/
theorem exec_serveEntryUnblocked_clear {s : State} {p : Nat} (hup : s.up = true) (he : s.twn.entry = some p) (hm : s.mode = .quiesced)
    (hb : s.get Reg.MOD_STATE_SERVE_BLOCK = 0) : exec .serveEntryUnblocked s = .next (arrive (PairState.ofCode p) s) := by
  change execServeEntryUnblocked s = _
  simp only [execServeEntryUnblocked, onUp_next hup, he]
  exact congrArg _ (if_pos (by simp [hm, hb]))

/-- Settles O21: the target, then the mode and the spill decide. -/
theorem modeRequestCompletes : Obligations.ModeRequestCompletes := by
  unfold Obligations.ModeRequestCompletes
  refine ⟨fun s m h => ⟨fun ht hm => ?_, fun ht hm => ?_, fun ht hm => ?_, fun ht hm hs hd => ?_, fun ht hm hs hd => ?_, fun ht hm => ?_,
    exec_modeRequest_badTarget h, exec_modeRequest_otherTarget h⟩, fun s p => exec_serveEntryUnblocked_clear⟩
  · rw [exec_modeRequest_quiesced h ht, if_pos hm, hm]
    rfl
  · rw [exec_modeRequest_quiesced h ht, if_neg (by simp [hm]), if_pos hm]
  · rw [exec_modeRequest_quiesced h ht]
    rcases hm with hm | hm <;> simp [hm]
  · rw [exec_modeRequest_recovery h ht, if_neg (by simp [hm, hs]), hd, if_neg Bool.false_ne_true]
  · rw [exec_modeRequest_recovery h ht, if_neg (by simp [hm, hs]), if_pos hd]
  · rw [exec_modeRequest_recovery h ht, if_pos (by simpa [Option.isSome_iff_ne_none] using hm)]

end Sys2Proof.Machine
end

section
/-!
SUPPORT. The logbook (O35), the freeze (O36), the JTAG instructions (O37) and OP 0x03 of a management session (O28). The verdict of a digest's comparison is
an operand (log entry 2); the boundary scans and the responses without a layout are open (log entries 4 and 6).
-/

namespace Sys2Proof.Machine

open Sys2Proof

/-! ### The logbook's mailbox commands (R457, R569, R570) -/

@[simp] theorem orOnes_length (w : Nat) (v : Option Nat) : (orOnes w v).length = w := by
  cases v <;> simp [orOnes]

theorem logStatusBytes_length (s : State) : (logStatusBytes s).length = 32 := by
  simp [logStatusBytes]

section
variable {s : State} {m : Nat}

theorem exec_logRead_counted (h : s.runsCmd m 0x0B01) (h1 : 1 ≤ reqNat s m 8 2) (h63 : reqNat s m 8 2 ≤ 63) : exec (.logRead m) s =
    .next (complete m (logReadBytes (reqNat s m 0 8) (reqNat s m 8 2) s) s) := by
  change execLogRead m s = _
  rw [execLogRead, onCmd_of_runsCmd h]
  exact congrArg _ (if_neg (by omega))

theorem exec_logStatus (h : s.runsCmd m 0x0B02) : exec (.logStatus m) s = .next (complete m (logStatusBytes s) s) :=
  show execLogStatus m s = _ from onCmd_of_runsCmd h _

theorem exec_logNote_zeros (h : s.runsCmd m 0x0B03) (hz : reqNat s m 20 28 = 0) : exec (.logNote m) s =
    .next (complete m [] (raiseW 0x0D14 (reqNat s m 0 8) (reqNat s m 8 12) 0x42 0 s)) := by
  change execLogNote m s = _
  rw [execLogNote, onCmd_of_runsCmd h, if_neg (not_not_intro hz)]

theorem exec_selftestReport (h : s.runsCmd m 0x0D02) : exec (.selftestReport m) s = .next (completeFree m 64 s) :=
  show execSelftestReport m s = _ from onCmd_of_runsCmd h _

theorem exec_surveyInfo (h : s.runsCmd m 0x0D03) : exec (.surveyInfo m) s = .next (completeFree m 32 s) :=
  show execSurveyInfo m s = _ from onCmd_of_runsCmd h _

end

/-! ### Records, pages and the operating time (R563, R564, R566) -/

section
variable {s : State}

theorem exec_recordPeriodClose (hl : s.live = true) (event subject : Nat) : exec (.recordPeriodClose event subject) s = .next (evrSync (s.onEvr fun x =>
    { x with buf := x.buf.map (fun (r : LogRec) => if r.isFor event subject && r.event != 0x0D11 then { r with isOpen := false } else r) })) :=
  show execRecordPeriodClose event subject s = _ from onLive_next hl

theorem exec_logPageWrite_due (hw : mayWritePage s = true) (h0 : s.evr.pageOut = 0) (hd : pageDue s = true) :
    exec .logPageWrite s = .next (s.onEvr fun x => { x with pageOut := Nat.min 256 (closedRecs s).length }) := by
  change execLogPageWrite s = _
  rw [execLogPageWrite, if_pos (by simp [hw, h0, hd])]

theorem exec_logPageConfirmed_written (hup : s.up = true) (h0 : s.evr.pageOut ≠ 0) : exec .logPageConfirmed s = .next (pageOut s) := by
  change execLogPageConfirmed s = _
  rw [execLogPageConfirmed, onUp_next hup, if_neg h0]

theorem exec_opTimeBaseUpdate_known (hl : s.live = true) {t : Nat} (ht : s.opTime = some t) : exec .opTimeBaseUpdate s =
    .next ((s.onStore fun x => { x with opBase := t, opAt := s.epoch }).onEvr fun x => { x with opBase := t, opEpoch := s.epoch }) := by
  change execOpTimeBaseUpdate s = _
  simp only [execOpTimeBaseUpdate, onLive_next hl, ht]

end

/-- Settles O35, a command and an event at a time. -/
theorem logbookCommandsComplete : Obligations.LogbookCommandsComplete := by
  unfold Obligations.LogbookCommandsComplete
  exact ⟨fun s m => ⟨exec_logRead_counted, fun h => ⟨exec_logStatus h, logStatusBytes_length s⟩, exec_logNote_zeros, exec_selftestReport,
      exec_surveyInfo⟩, fun s event subject hl => exec_recordPeriodClose hl event subject, fun s => exec_logPageWrite_due, fun s => exec_logPageConfirmed_written,
    fun s t hl => exec_opTimeBaseUpdate_known hl⟩

/-! ### The freeze (R573 to R575) -/

section
variable {s : State} {m : Nat} (h : s.runsCmd m 0x0D01)
include h

theorem exec_freeze_accepted (ha : s.alone = false) : exec (.freeze m) s = .next (complete m [] (s.onEvr fun x => { x with freezeCmd := true })) := by
  change execFreeze m s = _
  rw [execFreeze, onCmd_of_runsCmd h, ha, if_neg Bool.false_ne_true]

theorem exec_freeze_alone (ha : s.alone = true) : exec (.freeze m) s = .next (refuse m .notPermitted noDetail s) := by
  change execFreeze m s = _
  rw [execFreeze, onCmd_of_runsCmd h, if_pos ha]

end

section
variable {s : State} (hl : s.live = true)
include hl

theorem exec_freezeCommandTrigger_commanded (hc : s.evr.freezeCmd = true) : exec .freezeCommandTrigger s =
    .next (freezeTrigger 2 0 (s.onEvr fun x => { x with freezeCmd := false })) := by
  change execFreezeCommandTrigger s = _
  rw [execFreezeCommandTrigger, onLive_next hl, if_pos hc]

theorem exec_freezeNFall : exec .freezeNFall s = .next (freezeTrigger 1 0 (s.put Reg.GLB_DISCRETES_FREEZE_N 0)) :=
  show execFreezeNFall s = _ from onLive_next hl

/-- A live module is not frozen: with no freeze due and no spill, a trigger takes effect at once. -/
theorem freezeTrigger_now (ha : s.evr.freezeAt = none) (hm : s.mode ≠ .spill) (hs : s.pwr.spill = none) (cause index : Nat) :
    freezeTrigger cause index s = freezeNow cause index s := by
  have thawed : s.evr.frozen = false := by
    rw [State.live, Bool.and_eq_true, Bool.not_eq_true'] at hl
    exact hl.2
  rw [freezeTrigger, if_neg (by simp [thawed, ha]), if_neg (by simp [hm, hs])]

theorem exec_islandsStop_due {f cause : Nat} (ha : s.evr.freezeAt = some (f, cause)) : exec .islandsStop s =
    .next (loseFrames (((s.onEvr fun x => { x with frozen := true }).put Reg.CLK_EPOCH_EPOCH f).put Reg.CLK_STATE_RUNNING 0)) := by
  change execIslandsStop s = _
  simp only [execIslandsStop, onLive_next hl, ha]

end

/-- Settles O36, a trigger at a time. -/
theorem freezeCommandsComplete : Obligations.FreezeCommandsComplete := by
  unfold Obligations.FreezeCommandsComplete
  exact ⟨fun s m h => ⟨exec_freeze_accepted h, exec_freeze_alone h⟩, fun s hl => ⟨exec_freezeCommandTrigger_commanded hl, exec_freezeNFall hl,
    freezeTrigger_now hl, fun f cause => exec_islandsStop_due hl⟩⟩

/-! ### JTAG (R578, R580) -/

section
variable {s : State} (hp : s.pwr.powered = true)
include hp

theorem exec_idcode : exec .idcode s = .next (s.send (.jtag 0x14896C6B)) :=
  show execIdcode s = _ from congrArg _ (if_pos hp)

theorem exec_jtagBypass (tdi : Nat) : exec (.jtagBypass tdi) s = .next (s.send (.jtag (tdi % 2))) :=
  show execJtagBypass tdi s = _ from congrArg _ (if_pos hp)

theorem exec_extest : exec .extest s = .next ((s.free 64).2.send (.jtag (s.free 64).1)) :=
  show execExtest s = _ from congrArg _ (if_pos hp)

theorem exec_samplePreload : exec .samplePreload s = .next ((s.free 64).2.send (.jtag (s.free 64).1)) :=
  show execSamplePreload s = _ from congrArg _ (if_pos hp)

theorem onPrivate_bypass (hv : s.store.variantB = true) (tdi : Nat) (f : State → State) : onPrivate tdi s f = .next (s.send (.jtag (tdi % 2))) := by
  rw [onPrivate, if_neg (by simp [hp]), if_pos hv]

section
variable (hv : s.store.variantB = false)
include hv

theorem onPrivate_next (tdi : Nat) (f : State → State) : onPrivate tdi s f = .next (f s) := by
  rw [onPrivate, if_neg (by simp [hp]), if_neg (by simp [hv])]

theorem exec_svyStatus (tdi : Nat) : exec (.svyStatus tdi) s =
    .next (s.send (.jtag (b2n s.evr.frozen + 2 * b2n s.evr.unlocked + 4 * surveyBytes + 2 ^ 34 * s.get Reg.SVY_LAST_CAUSE))) :=
  show execSvyStatus tdi s = _ from onPrivate_next hp hv tdi _

theorem exec_svyData_running (hf : s.evr.frozen = false) (tdi : Nat) : exec (.svyData tdi) s = .next (s.send (.jtag 0)) := by
  change execSvyData tdi s = _
  rw [execSvyData, onPrivate_next hp hv, hf, if_neg Bool.false_ne_true]

section
variable (hf : s.evr.frozen = true)
include hf

theorem exec_svyAddr_frozen (off : Nat) : exec (.svyAddr off) s = .next (s.onEvr fun x => { x with svyAddr := off / 128 * 128 }) := by
  change execSvyAddr off s = _
  rw [execSvyAddr, onPrivate_next hp hv, if_pos hf]

theorem exec_svyData_frozen (tdi : Nat) : exec (.svyData tdi) s = .next ((((surveyBlock s.evr.svyAddr s).2.onEvr fun x =>
    { x with svyAddr := x.svyAddr + 128, svyRead := x.svyRead + 128 }).put Reg.SVY_LAST_READ_OUT 1).send (.jtag (leNat (surveyBlock s.evr.svyAddr s).1))) := by
  change execSvyData tdi s = _
  rw [execSvyData, onPrivate_next hp hv, if_pos hf]

theorem exec_unlock_matching (hu : s.evr.unlockFail < 3) (tdi : Nat) : exec (.unlock tdi true) s = .next (s.onEvr fun x => { x with unlocked := true }) := by
  change execUnlock tdi true s = _
  rw [execUnlock, onPrivate_next hp hv, if_neg (by simp [hf]), if_neg (Nat.not_le.mpr hu), if_pos rfl]

end

end

end

/-- Starting the clocks again leaves the mode and the pair state. -/
theorem resumed_keepsMode (running : Nat) (s : State) : KeepsMode s (resumed running s) :=
  (Keeps.other (t := s.onEvr _) rfl).trans ((Keeps.put (by decide)).trans ((Keeps.put (by decide)).trans (.put (by decide))))

/-- A module that serves or is QUIESCED when it is thawed is fenced until a module reset. -/
theorem fenceThawed_fenced {s : State} (r : s.regsOk) (hm : s.serving = true ∨ s.mode = .quiesced) : (fenceThawed s).regsOk ∧
    (fenceThawed s).pair = .fenced ∧ (fenceThawed s).mode = .quiesced ∧ (fenceThawed s).twn.barred = true := by
  obtain ⟨hmode, hpair, hregs⟩ := fenceSelf_mode r
  have fenced : fenceThawed s = (fenceSelf s).onTwn fun x => { x with barred := true } := by
    rw [fenceThawed, if_pos (by rcases hm with h | h <;> simp [h])]
  have kept : KeepsMode (fenceSelf s) (fenceThawed s) := fenced ▸ .onTwn
  exact ⟨(kept hregs).1, (kept.pair hregs).trans hpair, (kept.mode hregs).trans hmode, fenced ▸ rfl⟩

/-- Out of STANDBY a thaw fences the module, and its events leave it so. -/
theorem thawed_fenced {s : State} (r : s.regsOk) (hm : s.serving = true ∨ s.mode = .quiesced) (epoch : Nat) (readOut : Bool) (read : Nat) :
    (thawed epoch false readOut read s).pair = .fenced ∧ (thawed epoch false readOut read s).mode = .quiesced ∧
      (thawed epoch false readOut read s).twn.barred = true := by
  have kept := resumed_keepsMode 28 s
  have mode : (resumed 28 s).mode = s.mode := kept.mode r
  obtain ⟨hregs, hpair, hmode, hbarred⟩ := fenceThawed_fenced (kept r).1 (by rwa [State.serving, mode])
  have event : KeepsMode (fenceThawed (resumed 28 s)) (raise 0x0E04 0 epoch (fenceThawed (resumed 28 s))) := (raise_keepsClock _ _ _ _).weaken
  have events : KeepsMode (fenceThawed (resumed 28 s)) (thawed epoch false readOut read s) :=
    event.trans (.ite (raise_keepsClock _ _ _ _).weaken (.refl _))
  refine ⟨(events.pair hregs).trans hpair, (events.mode hregs).trans hmode, ?_⟩
  simp only [thawed, Bool.false_eq_true, if_false]
  split <;> simpa only [raise_twn] using hbarred

theorem exec_thaw_unlocked {s : State} (hp : s.pwr.powered = true) (hv : s.store.variantB = false) (hf : s.evr.frozen = true)
    (hu : s.evr.unlocked = true) (r : s.regsOk) (hm : s.serving = true ∨ s.mode = .quiesced) (tdi : Nat) :
    ∃ t, exec (.thaw tdi) s = .next t ∧ t.pair = .fenced ∧ t.mode = .quiesced ∧ t.twn.barred = true := by
  have placed : decide (s.mode = .standby) = false := by
    rcases hm with h | h
    · rw [State.serving] at h
      cases e : s.mode <;> simp [e] at h ⊢
    · simp [h]
  change ∃ t, execThaw tdi s = .next t ∧ _
  rw [execThaw, onPrivate_next hp hv, if_neg (by simp [hf, hu]), placed]
  exact ⟨_, rfl, thawed_fenced r hm _ _ _⟩

/-- Settles O37, an instruction at a time; on a -1B module the guard that the survey's instructions share answers for each of them. -/
theorem jtagInstructionsComplete : Obligations.JtagInstructionsComplete := by
  unfold Obligations.JtagInstructionsComplete
  intro s hp
  refine ⟨exec_idcode hp, exec_jtagBypass hp, exec_extest hp, exec_samplePreload hp,
    fun hv => ⟨exec_svyStatus hp hv, exec_svyAddr_frozen hp hv, exec_svyData_frozen hp hv, exec_svyData_running hp hv, exec_unlock_matching hp hv,
      exec_thaw_unlocked hp hv⟩,
    fun hv tdi ok => ?_⟩
  have svyAddr : execSvyAddr tdi s = _ := onPrivate_bypass hp hv tdi _
  have svyData : execSvyData tdi s = _ := onPrivate_bypass hp hv tdi _
  have svyStatus : execSvyStatus tdi s = _ := onPrivate_bypass hp hv tdi _
  have unlock : execUnlock tdi ok s = _ := onPrivate_bypass hp hv tdi _
  have thaw : execThaw tdi s = _ := onPrivate_bypass hp hv tdi _
  exact ⟨svyAddr, svyData, svyStatus, unlock, thaw⟩

/-! ### OP 0x03 of a management session (R589) -/

section
variable {s : State} {sess : Nat} {e : Session} (hl : s.live = true) (hm : s.mode ≠ .spill) (he : tfind sess s.sess = some e) (hg : e.mgmt = true)
include hl hm he hg

/-- Two mismatches at most, on a -1A module: the digests decide. -/
theorem exec_mgmtRaiseLevel_compared (hv : s.store.variantB = false) (hf : s.store.raiseFail < 3) (ok : Bool) : exec (.mgmtRaiseLevel sess ok) s =
    .next (if ok then ({ s with sess := tmod sess (fun e => { e with level := 3 }) s.sess }.put (Reg.GLB_SESSION_LEVEL sess) 3).send
        (.reply (8 + sess) St.done.code [])
      else (s.onStore fun x => { x with raiseFail := x.raiseFail + 1 }).send (.reply (8 + sess) St.authFailed.code [])) := by
  change execMgmtRaiseLevel sess ok s = _
  simp only [execMgmtRaiseLevel, onLive_next hl, if_neg hm, he]
  exact congrArg _ ((if_neg (by simp [hg])).trans (if_neg (by simpa [hv] using hf)))

theorem exec_mgmtRaiseLevel_refused (hb : s.store.variantB = true ∨ 3 ≤ s.store.raiseFail) (ok : Bool) : exec (.mgmtRaiseLevel sess ok) s =
    .next (s.send (.reply (8 + sess) St.notPermitted.code [])) := by
  change execMgmtRaiseLevel sess ok s = _
  simp only [execMgmtRaiseLevel, onLive_next hl, if_neg hm, he]
  exact congrArg _ ((if_neg (by simp [hg])).trans (if_pos (by simpa using hb)))

end

/-- Settles O28, by the verdict of the comparison and by what forbids it. -/
theorem raiseLevelComparesThePassword : Obligations.RaiseLevelComparesThePassword := by
  unfold Obligations.RaiseLevelComparesThePassword
  intro s sess e hl hm he hg
  refine ⟨fun hv hf => ⟨?_, ?_⟩, exec_mgmtRaiseLevel_refused hl hm he hg⟩
  · rw [exec_mgmtRaiseLevel_compared hl hm he hg hv hf, if_pos rfl]
  · rw [exec_mgmtRaiseLevel_compared hl hm he hg hv hf, if_neg Bool.false_ne_true]

end Sys2Proof.Machine
end

section
/-!
SUPPORT. The frame commands, the peg and the serviceable units (O49). That FRAME_OPEN takes the lowest free frame is the model's choice (log entry 18), as
is the DETAIL of a refused entry (log entry 56); that a frame once FITTED stays so through a later dry-fit is its reading (log entry 57), and the
settings generations are as log entries 59 and 95 say.
-/

namespace Sys2Proof.Machine

open Sys2Proof

/-! ### The frame commands (R461, R471, R473 to R475, R477) -/

section
variable {s : State} {m f : Nat}

theorem exec_frameOpen_free (h : s.runsCmd m 0x0301) (hf : tfree s.frm.frames 0 8 = some f) : exec (.frameOpen m) s =
    .next (complete m (leBytes 8 f) ((putFrame f { Frame.free with state := 1, opener := m } s).inc (Reg.FRM_STAT_COUNT 0))) := by
  change execFrameOpen m s = _
  simp only [execFrameOpen, onCmd_of_runsCmd h, hf]

theorem exec_frameStatus_numbered (h : s.runsCmd m 0x0306) (h8 : reqNat s m 0 1 < 8) : exec (.frameStatus m) s =
    .next (complete m (frameBytes ((tfind (reqNat s m 0 1) s.frm.frames).getD Frame.free)) s) := by
  change execFrameStatus m s = _
  rw [execFrameStatus, onCmd_of_runsCmd h]
  exact congrArg _ (if_neg (Nat.not_le.mpr h8))

section
variable {x : Frame} (hf : reqNat s m 0 1 = f) (hx : tfind f s.frm.frames = some x) (h3 : x.state ≠ 3)
include hf hx h3

section
variable (h : s.runsCmd m 0x0302) {n : Nat} (hn : reqNat s m 2 2 = n) (hl : s.get (Mb.length m) = 8 + 16 * n)
include h hn hl

theorem exec_frameStage_taken (hr : stageRefusal f (stageEntries s m n) s = none) (hc : x.entries.length + n ≤ 1024) : exec (.frameStage m) s =
    .next (complete m (leBytes 8 (x.entries.length + n)) (putFrame f { x with state := 1, entries := x.entries ++ stageEntries s m n } s)) := by
  change execFrameStage m s = _
  simp only [execFrameStage, onCmd_of_runsCmd h, hf, hn, hx, hr]
  exact congrArg _ ((if_neg h3).trans ((if_neg (not_not_intro hl)).trans (if_neg (Nat.not_lt.mpr hc))))

theorem exec_frameStage_refused {i : Nat} {st : St} (hr : stageRefusal f (stageEntries s m n) s = some (i, st)) : exec (.frameStage m) s =
    .next (refuse m st (atPayload (8 + 16 * i)) s) := by
  change execFrameStage m s = _
  simp only [execFrameStage, onCmd_of_runsCmd h, hf, hn, hx, hr]
  exact congrArg _ ((if_neg h3).trans (if_neg (not_not_intro hl)))

end

section
variable (h : s.runsCmd m 0x0303)
include h

theorem exec_frameDryfit_passed (hc : fitChecks f x s = none) : exec (.frameDryfit m) s =
    .next (complete m (List.replicate 16 0) ((putFrame f { x with state := 2, status := 0 } s).inc (Reg.FRM_STAT_COUNT 1))) := by
  change execFrameDryfit m s = _
  simp only [execFrameDryfit, onCmd_of_runsCmd h, hf, hx, if_neg h3, hc]

theorem exec_frameDryfit_failed {st : St} {offs : List Nat} (hc : fitChecks f x s = some (st, offs)) : exec (.frameDryfit m) s =
    .next (completeW m .dryfitFailed 0 noDetail false (fitReport x st offs)
      (raiseRl 0x0C03 f st.code ((putFrame f { x with status := st.code } (benchEvent x f s)).inc (Reg.FRM_STAT_COUNT 2)))) := by
  change execFrameDryfit m s = _
  simp only [execFrameDryfit, onCmd_of_runsCmd h, hf, hx, if_neg h3, hc]

end

/-- A FITTED frame is scheduled for its target, at the earliest LEAD_US away, where every island has room for a settings generation. -/
theorem exec_framePeg_scheduled (h : s.runsCmd m 0x0304) (h2 : x.state = 2) {target : Nat}
    (ht : (if reqNat s m 8 8 = 0 then s.epoch + s.get Reg.FRM_CFG_LEAD_US else reqNat s m 8 8) = target)
    (he : s.epoch + s.get Reg.FRM_CFG_LEAD_US ≤ target) (hg : ∀ i ∈ frameIslands x, generations s i < 8) : exec (.framePeg m) s =
    .next (putFrame f { x with state := 3, target := target, waiter := some m, checked := false } s) := by
  have room : ¬(frameIslands x).any (fun i => decide (generations s i ≥ 8)) = true := by
    simpa [List.any_eq_true] using hg
  change execFramePeg m s = _
  simp only [execFramePeg, onCmd_of_runsCmd h, hf, hx, ht]
  exact congrArg _ ((if_neg h3).trans ((if_neg (not_not_intro h2)).trans ((if_neg (Nat.not_lt.mpr he)).trans (if_neg room))))

theorem exec_frameDiscard_unscheduled (h : s.runsCmd m 0x0305) : exec (.frameDiscard m) s =
    .next (complete m [] ((freeFrame f s).inc (Reg.FRM_STAT_COUNT 5))) := by
  change execFrameDiscard m s = _
  simp only [execFrameDiscard, onCmd_of_runsCmd h, hf, hx, if_neg h3]

end

end

/-! ### The peg (R476, R479, R480) -/

section
variable {s : State} {f : Nat} {x : Frame} (hup : s.up = true) (hx : tfind f s.frm.frames = some x) (h3 : x.state = 3)
include hup hx h3

theorem exec_pegRecheck_passed (hc : x.checked = false) (ht : x.target ≤ s.epoch + 1) (hs : stateChecks f x s = none) :
    exec (.pegRecheck f) s = .next (putFrame f { x with checked := true } s) := by
  change execPegRecheck f s = _
  simp only [execPegRecheck, onUp_next hup, hx, hs]
  exact congrArg _ (if_neg (by simp [h3, hc, ht]))

section
variable {m : Nat} (hw : x.waiter = some m)
include hw

theorem exec_pegRecheck_abandoned (hc : x.checked = false) (ht : x.target ≤ s.epoch + 1) {st : St} {offs : List Nat}
    (hs : stateChecks f x s = some (st, offs)) : exec (.pegRecheck f) s =
    .next (completeW m .dryfitFailed 0 noDetail false (fitReport x st offs) (raise 0x0C02 f st.code ((freeFrame f s).inc (Reg.FRM_STAT_COUNT 4)))) := by
  change execPegRecheck f s = _
  simp only [execPegRecheck, onUp_next hup, hx, hs, hw]
  exact congrArg _ (if_neg (by simp [h3, hc, ht]))

/-- A re-checked frame takes effect from its epoch on; whether its record could be written decides the answer. -/
theorem exec_pegTakesEffect_due (hc : x.checked = true) (ht : x.target ≤ s.epoch) (recordOk : Bool) : exec (.pegTakesEffect f recordOk) s =
    .next (if recordOk then complete m (padTo 16 (leBytes 8 s.epoch)) (recordFields x.entries (pegFrame f x s))
      else refuse m .mediaFailed noDetail (raise 0x0C05 f 0 (pegFrame f x s))) := by
  change execPegTakesEffect f recordOk s = _
  simp only [execPegTakesEffect, onUp_next hup, hx, hw]
  exact congrArg _ (if_neg (by simp [h3, hc, ht]))

end

end

/-! ### Units (R484, R486 to R490) -/

section
variable {s : State} {u : Nat} (hup : s.up = true)
include hup

section
variable (hu : u < 66) (h1 : unitState s u = 1) (ha : s.get (Reg.FRM_UNIT_CTL_ACTION u) = 1)
include hu h1 ha

/-- A unit with no link of its own only changes its state. -/
theorem exec_unitRecal_linkless (hk : u < 8 ∨ 14 ≤ u) : exec (.unitRecal u) s = .next (s.put (Reg.FRM_UNIT_STATE_STATE u) 2) := by
  change execUnitRecal u s = _
  rw [execUnitRecal, onUp_next hup, if_neg (by simp [hu, h1, ha])]
  exact congrArg _ ((if_neg (by omega)).trans (if_neg (by omega)))

/-- An RDMA port that is up loses its link. -/
theorem exec_unitRecal_rdmaPort (h8 : 8 ≤ u) (h12 : u < 12) (hr : s.get (Reg.ETH_PORT_STATE_RATE (u - 8)) ≠ 3) : exec (.unitRecal u) s =
    .next (ethLinkLost (u - 8) (s.put (Reg.FRM_UNIT_STATE_STATE u) 2)) := by
  change execUnitRecal u s = _
  rw [execUnitRecal, onUp_next hup, if_neg (by simp [hu, h1, ha])]
  exact congrArg _ ((if_pos ⟨h8, h12⟩).trans (if_neg hr))

end

section
variable (h1 : unitState s u = 1) (ha : s.get (Reg.FRM_UNIT_CTL_ACTION u) = 2)
include h1 ha

theorem exec_unitOut_stack (hk : unitClass u = 3) : exec (.unitOut u) s = .next (settle (evacStack (u - 30) s)) := by
  change execUnitOut u s = _
  rw [execUnitOut, onUp_next hup, if_neg (by simp [h1, ha]), if_neg (by rw [hk]; decide), if_pos hk]

theorem exec_unitOut_channel (hk : unitClass u = 2) (hh : hgHolds s (.evac (u - 14)) = false)
    (hw : s.pwr.hgWait.any (fun r => r.owner = HgOwner.evac (u - 14)) = false) : exec (.unitOut u) s =
    .next (hgRequest { owner := .evac (u - 14), h0 := false, tokens := 6 * s.get Reg.FRM_CFG_EVAC_GBPS } s).2 := by
  change execUnitOut u s = _
  rw [execUnitOut, onUp_next hup, if_neg (by simp [h1, ha]), if_pos hk]
  exact congrArg _ (if_neg (by rw [hh, hw]; decide))

end

section
variable (h4 : unitState s u = 4)
include h4

theorem exec_unitServe_failed : exec (.unitServe u false) s = .next (serveFailed u s) := by
  change execUnitServe u false s = _
  rw [execUnitServe, onUp_next hup, if_neg (not_not_intro h4), if_pos Bool.not_false]

theorem exec_unitServe_channel (hk : unitClass u = 2) : exec (.unitServe u true) s = .next (serveChannel (u - 14) s) := by
  change execUnitServe u true s = _
  rw [execUnitServe, onUp_next hup, if_neg (not_not_intro h4), if_neg (by decide), if_pos hk]

theorem exec_unitServe_stack (hk : unitClass u = 3) : exec (.unitServe u true) s = .next (serveStack (u - 30) s) := by
  change execUnitServe u true s = _
  rw [execUnitServe, onUp_next hup, if_neg (not_not_intro h4), if_neg (by decide), if_neg (by rw [hk]; decide), if_pos hk]

end

section
variable (hu : u < 66)
include hu

/-- A RECAL that has ended, of a unit that is no Rilram port. -/
theorem exec_unitActionDone_recalibrated (h2 : unitState s u = 2) (h12 : u ≠ 12) (h13 : u ≠ 13) : exec (.unitActionDone u true) s =
    .next (settle (unitBack u s)) := by
  change execUnitActionDone u true s = _
  rw [execUnitActionDone, onUp_next hup]
  exact congrArg _ ((if_neg (Nat.not_le.mpr hu)).trans ((if_pos h2).trans ((if_neg (by decide)).trans (if_neg (by simp [h12, h13])))))

/-- A returning channel whose sweep is done. -/
theorem exec_unitActionDone_swept (h4 : unitState s u = 4) (hk : unitClass u = 2)
    (hd : bitOf (u - 14) (s.get Reg.ECC_INIT_STATE_CHANNELS_DONE) = true) : exec (.unitActionDone u true) s = .next (settle (unitBack u s)) := by
  change execUnitActionDone u true s = _
  simp [execUnitActionDone, onUp_next hup, Nat.not_le.mpr hu, h4, hk, hd]

end

end

/-- Settles O49, a command and a unit's action at a time. -/
theorem frameCommandsAndUnitsComplete : Obligations.FrameCommandsAndUnitsComplete := by
  unfold Obligations.FrameCommandsAndUnitsComplete
  refine ⟨fun s m => ⟨fun f => exec_frameOpen_free, fun x h hx h3 hl => ?_, fun x hx h3 => ?_, exec_frameStatus_numbered⟩,
    fun s hup => ⟨fun f x m hx h3 hw => ?_, fun u hu => ?_⟩⟩
  · exact ⟨exec_frameStage_taken rfl hx h3 h rfl hl, fun i st => exec_frameStage_refused rfl hx h3 h rfl hl⟩
  · exact ⟨fun h => ⟨exec_frameDryfit_passed rfl hx h3 h, fun st offs => exec_frameDryfit_failed rfl hx h3 h⟩,
      fun h h2 => exec_framePeg_scheduled rfl hx h3 h h2 rfl, exec_frameDiscard_unscheduled rfl hx h3⟩
  · refine ⟨fun hc ht => ⟨exec_pegRecheck_passed hup hx h3 hc ht, fun st offs => exec_pegRecheck_abandoned hup hx h3 hw hc ht⟩, fun hc ht => ⟨?_, ?_⟩⟩
    · rw [exec_pegTakesEffect_due hup hx h3 hw hc ht, if_pos rfl]
    · rw [exec_pegTakesEffect_due hup hx h3 hw hc ht, if_neg Bool.false_ne_true]
  · exact ⟨exec_unitRecal_linkless hup hu, exec_unitRecal_rdmaPort hup hu, exec_unitOut_stack hup, exec_unitOut_channel hup,
      fun h4 => ⟨exec_unitServe_failed hup h4, exec_unitServe_channel hup h4, exec_unitServe_stack hup h4⟩,
      exec_unitActionDone_recalibrated hup hu, exec_unitActionDone_swept hup hu⟩

end Sys2Proof.Machine
end
